-- ==== Sys2Proof/Word.lean ====
section
/-! DEFINITION. The word types of the model: a 32-bit register word, a 64-bit value (R35) and a byte. -/

namespace Sys2Proof

/-- An aligned 32-bit word of the Control Aperture (R31). -/
abbrev Word := BitVec 32

/-- A 64-bit value (R35), and the model's cell for any register. -/
abbrev DWord := BitVec 64

/-- A byte of memory. -/
abbrev Byte := BitVec 8

end Sys2Proof
end

