-- ==== Sys2Proof/Operand.lean ====
section
/-! DEFINITION. The kinds of operand the commands carry: who accesses the aperture, the parts, and what the world
outside the block hands it (flits, measurements, outcomes of work that takes time). -/

namespace Sys2Proof

/-- The four accessors of the aperture (R35). -/
inductive Accessor where
  | pf1p0 | pf1p1 | cpx | mgp
  deriving DecidableEq, Repr

/-- A number for each accessor, for the tables keyed by it. -/
def Accessor.num : Accessor → Nat
  | .pf1p0 => 0
  | .pf1p1 => 1
  | .cpx => 2
  | .mgp => 3

/-- PF1 of either port. -/
def Accessor.isPf1 : Accessor → Bool
  | .pf1p0 => true
  | .pf1p1 => true
  | .cpx => false
  | .mgp => false

/-- The two parts (R1). -/
inductive Part where
  | h7128 | h7064
  deriving DecidableEq, Repr

/-- The temperature grades (R4). -/
inductive Grade where
  | sa | ea
  deriving DecidableEq, Repr

/-- The two upstream lanes of a link (R41). -/
inductive Lane where
  | up0 | up1
  deriving DecidableEq, Repr

/-- What an IDENT flit carries (R63). -/
structure Ident where
  maker : Nat
  product : Nat
  rev : Nat
  side : Nat
  heads : Nat
  assist : Nat
  wfifo : Nat
  maxrate : Nat
  adcRate : Nat
  serial : Nat
  deriving DecidableEq, Repr

/-- What a STATUS flit carries (R48). `events` holds the seven event bits in the order of EVT_CLEAR's mask (R56):
bit 6 WRITE_UNDERRUN, 5 WRITE_CRC, 4 WRITE_LATE, 3 WRITE_KILLED, 2 RETRACT_SEEN, 1 DOZE_REFUSED, 0 UNKNOWN_OP. -/
structure Status where
  ackSeq : Nat
  nakSeq : Nat
  nak : Bool
  curValid : Bool
  iu : Int
  iv : Int
  curIndex : Nat
  vcmI : Int
  events : Nat
  headsParked : Bool
  outCrcCnt : Nat
  sensorId : Nat
  sensorVal : Int
  lastTag : Nat
  bitsWritten : Nat
  deriving DecidableEq, Repr

/-- A detector's position record (R114), with the sample index of the SAM. `valid` is the wedge's own validity under
R83 but for the link's part of it. -/
structure WedgeRec where
  valid : Bool
  dibits : Bool
  samErrs : Nat
  track : Nat
  wedge : Nat
  delta : Nat
  rro : Int
  sam : Nat
  deriving DecidableEq, Repr

/-- A brick's trailer (R90). -/
structure Trailer where
  twTile : Nat
  twBrick : Nat
  twGen : Nat
  kdom : Nat
  extent : Nat
  extBrick : Nat
  seq : Nat
  nsid : Nat
  validLen : Nat
  tile : Nat
  brick : Nat
  slot : Nat
  kind : Nat
  pos : Nat
  flags : Nat
  gen : Nat
  course : Nat
  crc : Nat
  deriving DecidableEq, Repr

/-- A brick as decoded or as to be written: its 4,096 data bytes as one little-endian number, and its trailer. -/
structure Brick where
  data : Nat
  trailer : Trailer
  deriving DecidableEq, Repr

/-- A zone of a format descriptor (R106). -/
structure Zone where
  firstTrack : Nat
  rate : Nat
  spt : Nat
  tpt : Nat
  firstTile : Nat
  deriving DecidableEq, Repr

/-- A format descriptor (R106). -/
structure Format where
  version : Nat
  wedges : Nat
  rpm : Nat
  bitFs : Nat
  heads : Nat
  guard : Nat
  tiles : Nat
  zones : List Zone
  factory : Nat
  deriving DecidableEq, Repr

/-- A defect list entry (R107). -/
structure Defect where
  tile : Nat
  first : Nat
  count : Nat
  origin : Nat
  deriving DecidableEq, Repr

/-- What Mason finds on an actuator that could take a course's member (R245): the least-written head, its EMPTY tile
nearest the present track, and the tiles closed on that head in the last 24 operating hours. -/
structure Cand where
  act : Nat
  head : Nat
  tile : Nat
  closed : Nat
  deriving DecidableEq, Repr

/-- An NVMe command as it stands in its queue: controller, submission queue, command identifier. -/
structure Cmd where
  ctl : Nat
  sq : Nat
  cid : Nat
  deriving DecidableEq, Repr

/-- An NVMe-MI request (R312): its kind (0 Read Data Structure, 1 Subsystem Health Poll, 2 Controller Health Poll,
3 Configuration Get, 4 Configuration Set, 5 VPD Read, 6 a tunnelled admin command, others unsupported), for a tunnelled
command its opcode, the controller, two arguments, and the offset and length of a log page. -/
structure MiReq where
  kind : Nat
  op : Nat
  ctl : Nat
  a : Nat
  b : Nat
  ofs : Nat
  len : Nat
  deriving DecidableEq, Repr

/-- A slot met in a write-pointer scan (R104): the generation and brick index it decoded with; none: it did not decode. -/
structure Scanned where
  slot : Nat
  found : Option (Nat × Nat)
  deriving DecidableEq, Repr

/-- What the sync search sees in a read window: each position's offset from the expected one and its bits in error, in
position order, for the sync mark and, on a split brick, for the resume mark (R115, R118). -/
structure Marks where
  sync : List (Int × Nat)
  split : Bool
  resume : List (Int × Nat)
  ppm : Int
  clipped : Nat
  deriving DecidableEq, Repr

/-- A decode's end (R122): iterations run, unsatisfied checks, hard decisions that differed, and the brick where every
check is satisfied. -/
structure Decode where
  iters : Nat
  unsat : Nat
  flips : Nat
  brick : Option Brick
  deriving DecidableEq, Repr

end Sys2Proof
end

