-- ==== Sys2Proof/Syntax.lean ====
section
/-! DEFINITION. The commands of the block, one constructor for each row of the spec's table of operations and events,
with the row's operands: who writes or reads, which unit, and what the outside world hands the block. -/

namespace Sys2Proof

/-- The commands. -/
inductive Instr where
  /-- R34: A write to an aperture register that has no row of its own stores each field according to its access type, subject to LOCK and R33 filtering. -/
  | registerWrite (acc : Accessor) (addr : Nat) (value : Word) (fullBe : Bool)
  /-- R34: A read of an RC register returns its value and clears it, with any increment arriving in the same cycle kept for the next read. -/
  | rcRegisterRead (acc : Accessor) (addr : Nat)
  /-- R35: A read of the low word of a 64-bit value returns bits [31:0] and latches bits [63:32] for that accessor; on an RC register it also clears all 64 bits. -/
  | lowWordRead (acc : Accessor) (addr : Nat)
  /-- R35: A read of the high word of a 64-bit value returns the accessor's valid latch and invalidates it, or returns the live bits when no latch is valid. -/
  | highWordRead (acc : Accessor) (addr : Nat)
  /-- R35: A write of the low word of a 64-bit value is held in the accessor's write buffer and leaves the register unchanged. -/
  | lowWordWrite (acc : Accessor) (addr : Nat) (value : Word)
  /-- R35: A write of the high word of a 64-bit value stores both halves in one cycle, using the buffered low word if one is pending. -/
  | highWordWrite (acc : Accessor) (addr : Nat) (value : Word)
  /-- R37: Writing 1 to PG_CTL.LOCK makes every RWL field of the page read-only to PF1 and CPX. -/
  | pageLock (acc : Accessor) (pg : Nat)
  /-- R39: Writing 1 to PG_CTL.FREEZE holds the read view of the page's status and counters. -/
  | pageFreeze (acc : Accessor) (pg : Nat)
  /-- R39: Writing 0 to PG_CTL.FREEZE shows the live values of the page again. -/
  | pageThaw (acc : Accessor) (pg : Nat)
  /-- R38: A write of 1 to PG_CTL.SOFT_RESET starts a reset of the block and its page, or is refused. -/
  | softReset (acc : Accessor) (pg : Nat) (enable : Bool)
  /-- R38: A soft reset completes within 20 µs, with the block and its registers at reset values except the items that are kept. -/
  | softResetDone (pg : Nat)
  /-- R36: Writing 1 to PG_CTL.ENABLE lets the block operate. -/
  | blockEnable (acc : Accessor) (pg : Nat)
  /-- R36: Writing 0 to PG_CTL.ENABLE starts the block's disable behaviour, as defined in its chapter. -/
  | blockDisable (acc : Accessor) (pg : Nat)
  /-- R36: A W1C write to EV_PEND clears pending event bits and may re-signal MSI-X. -/
  | evPendClear (acc : Accessor) (pg : Nat) (mask : Word)
  /-- R36: A write of 1 to EV_SET sets the pending bit as if the source had fired. -/
  | evSet (acc : Accessor) (pg : Nat) (mask : Word)
  /-- R461: A write to EV_EN changes the set of routed events and may send an MSI-X message when the page signal stays at 1. -/
  | evEnWrite (acc : Accessor) (pg : Nat) (value : Word)
  /-- R461: A write to EV_ROUTE changes the page's destinations and may send an MSI-X message. -/
  | evRouteWrite (acc : Accessor) (pg : Nat) (value : Word)
  /-- R450: A WIN_CFG write with CFG_WE = 1 stores WINDOW, UNIT and THRESH for the selected source and clears its count. -/
  | winCfgStore (acc : Accessor) (pg : Nat) (value : Word)
  /-- R39: A WIN_CFG write with CFG_WE = 0 selects a source and changes nothing else. -/
  | winCfgSelect (acc : Accessor) (pg : Nat) (value : Word)
  /-- R39: Writing ERR_INJ.ONESHOT injects one error of the selected source at the next opportunity. -/
  | errInjOneshot (acc : Accessor) (pg : Nat) (src : Nat)
  /-- R39: Writing ERR_INJ.CONT injects an error at every opportunity until it is cleared. -/
  | errInjCont (acc : Accessor) (pg : Nat) (src : Nat)
  /-- R450: Every W ÷ T ms a non-zero window count loses 1. -/
  | windowLeak (pg : Nat) (src : Nat)
  /-- R451: MGP takes the default action for a source that has become lasting, such as a fence, a retrain, a drain or a speed step. -/
  | lastingAction (pg src dest : Nat) (again : Bool)
  /-- R61: The wake pattern is detected four times in a row on UP0 of a DOWN link, which sends the link to TRAIN. -/
  | wakePatternDetected (a : Nat)
  /-- R62: Training phase T1 passes on all lanes, and the link moves to T2. -/
  | trainT1Pass (a : Nat)
  /-- R64: During T2 the H7128 sends a CONFIG flit every 2 µs. -/
  | configSend (a : Nat)
  /-- R63: A good IDENT flit passes T2, with the bridge identity checked and stored in BR_ fields. -/
  | identReceived (a : Nat) (ident : Ident)
  /-- R62: Both receivers report adapted, which passes T3. -/
  | eqAdapted (a : Nat)
  /-- R62: Phase T4 passes and the link enters ACTIVE. -/
  | trainT4Pass (a : Nat)
  /-- R62: A training phase times out, which ends the attempt. -/
  | trainPhaseTimeout (a : Nat)
  /-- R61: Both UP lanes lose signal for 1 ms, so the link goes to DOWN. -/
  | losTimeout (a : Nat)
  /-- R44: A block with an invalid sync header is discarded; sixteen in a row lose block lock. -/
  | invalidBlockHeader (a : Nat) (lane : Lane)
  /-- R46: A SAMPLE flit is received and placed by SSEQ, and a skip in SSEQ counts as a sample gap. -/
  | sampleFlit (a : Nat) (lane : Lane) (sseq : Nat) (samples : List Int)
  /-- R47: A TIME flit is checked against the module's sample count, and a mismatch is a sample gap. -/
  | timeFlit (a : Nat) (lane : Lane) (index : Nat) (sseq : Nat)
  /-- R48: A STATUS flit delivers ACK or NAK, phase currents, bridge events, heads state, sensor values and gate end. -/
  | statusFlit (a : Nat) (status : Status) (ce ue : Nat)
  /-- R49: A CHECK flit is checked against the CRC-32 of its group of 32 flits. -/
  | checkFlit (a : Nat) (lane : Lane) (group : Nat) (crcOk : Bool)
  /-- R45: An upstream flit of reserved TYPE is discarded and counted as a check failure. -/
  | reservedTypeFlit (a : Nat) (lane : Lane)
  /-- R65: A lane delivers no valid flit for more than 64 ns within a read or wedge window, which abandons the bricks it touches. -/
  | sampleGapDetected (a : Nat) (lane : Lane)
  /-- R67: A lane of an ACTIVE link delivers no valid flit for more than 10 µs, which sends the link to TRAIN. -/
  | longStall (a : Nat) (lane : Lane)
  /-- R55: No ACK within ACK_TO makes the H7128 resend every outstanding packet. -/
  | ackTimeout (a : Nat)
  /-- R80: Writing LK_CTL.RETRAIN starts training at T1 from any state except DOWN. -/
  | linkRetrain (acc : Accessor) (a : Nat)
  /-- R80: A write of LK_CTL.DOZE_REQ asks the link to enter DOZE, or to leave it and train from T3. -/
  | dozeRequest (acc : Accessor) (a : Nat) (value : Bool)
  /-- R80: A write of LK_CTL.FORCE_DOWN holds the link in DOWN and ignores the wake pattern. -/
  | forceDown (acc : Accessor) (a : Nat) (value : Bool)
  /-- R76: A write of RETRACT.SW_ASSERT drives or releases the software cause of RETRACT_n. -/
  | retractSwWrite (acc : Accessor) (c : Nat) (value : Bool)
  /-- R76: MGP writing RETRACT.HW_RELEASE ends hardware causes 0x01 and 0x03. -/
  | retractHwRelease (acc : Accessor) (c : Nat)
  /-- R76: The 500 ms hold of UNLOAD_UNACKED ends. -/
  | retractHoldExpiry (c : Nat)
  /-- R72: No ACK of the UNLOAD arrives within 20 µs, so RETRACT_n is asserted and the link moves on. -/
  | unloadAckTimeout (a : Nat) (signalLost : Bool)
  /-- R72: HEADS_PARKED has not shown within 500 ms, and the link moves to its new state. -/
  | parkWaitTimeout (a : Nat)
  /-- R74: After its system tiles have been read, Mason accepts an arriving HDA or refuses an actuator. -/
  | hdaAcceptance (n : Nat) (fa fb : Option Format) (da db : List Defect) (ca cb : List (Nat × Nat))
  /-- R98: A tile reset moves the tile to EMPTY at the next generation in the Course Table. -/
  | tileReset (id : Nat)
  /-- R99: A reset tile's first write is armed once the reads admitted against the old generation have finished. -/
  | tileFirstWriteArm (id : Nat)
  /-- R100: A tile's footer is written and the tile becomes CLOSED. -/
  | tileClose (id reason : Nat)
  /-- R104: A scan recovers the write pointer of an OPEN tile that the journal does not give. -/
  | writePointerScan (id : Nat) (found : List Scanned)
  /-- R105: System tile 0 is updated and read back, and then tile 1 is updated. -/
  | systemTileUpdate (a : Nat) (readBackOk : Bool)
  /-- R114: The detector demodulates a wedge window and posts a position record to the SVE. -/
  | wedgeDemodulated (a : Nat) (rec : WedgeRec)
  /-- R115: Soft detection of a brick completes, the sync mark is searched for, and the codeword is descrambled and enqueued for live decode. -/
  | softDetectionDone (a : Nat) (m : Marks)
  /-- R113: At the end of a read window the adapted taps of set 0 are written back. -/
  | readWindowEnd (a : Nat) (taps0 taps1 : List Int)
  /-- R122: A live decode ends, converged or failed after LIVE_IT iterations. -/
  | liveDecodeDone (a : Nat) (d : Decode)
  /-- R120: The copy of a pinned record to the retry store completes and the pin is released. -/
  | retryStoreCopyDone (a u unit sram : Nat)
  /-- R66: A decoded brick is released once every check group covering its samples has passed. -/
  | brickRelease (a : Nat)
  /-- R122: Mason posts a retry job to a pool's retry queue. -/
  | retryJobPost (c unit : Nat) (urgent : Bool)
  /-- R254: A retry job waiting in Mason because every pool was full is posted at the next RETRY_DONE. -/
  | retryJobDeferredPost (c : Nat)
  /-- R126: A replay detector finishes producing a record's soft values for one detector set. -/
  | replayDone (c unit : Nat)
  /-- R126: A retry decode attempt ends, passed, abandoned at ABORT_IT or failed, and the ladder proceeds. -/
  | retryAttemptDone (c dec : Nat) (d : Decode)
  /-- R253: At a level boundary Mason continues the job, moves it or cancels it for a rebuild. -/
  | levelBoundaryDecision (c tag tRb dest : Nat)
  /-- R124: A decoder message-memory parity error abandons or restarts its job and is counted per decoder. -/
  | decoderParityError (c dec : Nat)
  /-- R133: Writing QM_CTL.CLEAR clears QM_BITS and QM_FLIPS. -/
  | qmClear (a : Nat)
  /-- R132: Software writes LDPc.FENCE to withdraw decoders or return them to service. -/
  | fenceWrite (c : Nat) (value : Word)
  /-- R143: A thread issues a word with SEQ NEXT and carries out its actions in the order of R143. -/
  | seqNext (a upset : Nat)
  /-- R140: A word with SEQ JUMP is issued and the thread continues at NXT. -/
  | seqJump (a upset : Nat)
  /-- R140: A word with SEQ BRANCH goes to NXT if its condition holds. -/
  | seqBranch (a upset : Nat)
  /-- R140: A word with SEQ CALL pushes the return address and goes to NXT if its condition holds. -/
  | seqCall (a upset : Nat)
  /-- R140: A word with SEQ RET pops the return stack if its condition holds. -/
  | seqRet (a upset : Nat)
  /-- R140: A word with SEQ WAIT goes to NXT, or leaves the thread WAITING. -/
  | seqWait (a upset : Nat)
  /-- R140: A word with SEQ LOOP decrements LC and branches while LC is non-zero. -/
  | seqLoop (a upset : Nat)
  /-- R140: A word with SEQ DISPATCH goes to NXT plus the job's OP. -/
  | seqDispatch (a upset : Nat)
  /-- R140: A word with SEQ HALT sends the thread to HALTED with event HALTED. -/
  | seqHalt (a upset : Nat)
  /-- R136: A WAITING thread finds its condition true and resumes at NXT. -/
  | waitSatisfied (a slots : Nat)
  /-- R146: The effective WG falls to 0 during an armed or open gate, so GATE_KILL is queued and the gate's flits are withheld. -/
  | wgEffectiveLoss (a : Nat)
  /-- R151: No STATUS reports the gate's end within 20 µs, so every slot of the gate is void. -/
  | gateEndTimeout (a tag : Nat)
  /-- R160: SQ_CTL.RUN starts a HALTED or MCHK thread at START. -/
  | threadRun (acc : Accessor) (a : Nat)
  /-- R160: SQ_CTL.HALT halts the thread at the end of its current word. -/
  | threadHalt (acc : Accessor) (a : Nat)
  /-- R160: SQ_CTL.ABORT sets ABORT_REQ for the thread. -/
  | threadAbort (acc : Accessor) (a : Nat)
  /-- R137: CPX posts a job descriptor to a thread's FIFO, or the post is refused with JOB_FIFO_FULL. -/
  | jobPost (a item pred : Nat)
  /-- R158: MGP writes CS_CTL.LOAD_EN to enter or leave control-store load mode. -/
  | csLoadEnable (acc : Accessor) (c : Nat) (value : Bool)
  /-- R156: MGP writes CS_CTL.REPAIR to allow single-word rewrites while threads run. -/
  | csRepairEnable (acc : Accessor) (c : Nat) (value : Bool)
  /-- R159: Writing CS_CTL.DIGEST_CLR restarts CS_DIGEST. -/
  | digestClr (acc : Accessor) (c : Nat)
  /-- R157: The write of CS_DATA4 commits a microword to the store, or raises LOAD_REJECT. -/
  | csWordCommit (acc : Accessor) (c : Nat) (data4 : Word)
  /-- R156: MGP rewrites a word with a parity error from the verified copy and restarts the threads in MCHK. -/
  | csParityRepair (c n word : Nat)
  /-- R159: The write of ZT_DATA3 stores a whole zone-table entry. -/
  | zoneEntryStore (acc : Accessor) (c : Nat) (value : Word)
  /-- R160: A read of SQ_WORD0 latches SQ_WORD1 to SQ_WORD4 of the same word for the accessor. -/
  | sqWordRead (acc : Accessor) (a : Nat)
  /-- R162: A pipeline takes a position record and forms P and PES, decides WINH, runs the laws and issues an OUT flit. -/
  | servoUpdate (e pipe lat ce ue ueIdx : Nat)
  /-- R186: The single capture has kept its post-trigger samples and goes to DONE. -/
  | traceDone (e : Nat)
  /-- R182: ACQ_N consecutive candidate wedges close the loop in SETTLE. -/
  | loopAcquired (a : Nat)
  /-- R176: In LOADING the engine sends LOAD_CMD at each nominal wedge interval. -/
  | loadingOutputTick (a : Nat)
  /-- R182: LOAD_TO expires, so UNLOAD is sent and LOAD_FAIL is raised. -/
  | loadTimeout (a : Nat)
  /-- R176: LOST_TO expires, so the loop goes to UNLOADING with POS_LOST. -/
  | lostTimeout (a : Nat)
  /-- R176: UNLOAD_TO expires, so the loop goes to FAULT with UNLOAD_FAIL. -/
  | unloadTimeout (a : Nat)
  /-- R177: FOLLOW is not reached within SETTLE_TO wedges, so SETTLE_FAIL is raised. -/
  | settleTimeout (a : Nat)
  /-- R181: A LOAD request from SV_CTL or from a thread is sent as LOAD or refused. -/
  | loadRequest (a : Nat)
  /-- R183: A request for UNLOAD sends the packet and the loop enters UNLOADING. -/
  | unloadRequest (a : Nat) (byThread : Bool)
  /-- R183: RETRACT_n held low for 1 µs puts a loaded loop into UNLOADING. -/
  | retractLoopUnload (a : Nat)
  /-- R176: SV_CTL.CLEAR returns a FAULT loop to OPEN when the heads are parked. -/
  | loopClear (a : Nat)
  /-- R173: A software write of SV_CTL.SET changes the coefficient set at the next update. -/
  | setWrite (a n : Nat)
  /-- R177: SV_SEEK.GO requests a seek to TRACK. -/
  | seekRequest (a track : Nat)
  /-- R172: A MEM_DATA write stores a coefficient, bias or profile word, or is refused outside OPEN. -/
  | coefMemWrite (e : Nat) (value : Word)
  /-- R186: A MEM_DATA read returns a memory or trace word and advances INDEX. -/
  | servoMemRead (acc : Accessor) (e : Nat)
  /-- R186: TR_CTL.ARM starts a trace capture. -/
  | traceArm (e : Nat) (value : Word)
  /-- R186: TR_CTL.STOP ends a capture. -/
  | traceStop (e : Nat) (value : Word)
  /-- R203: A current period passes without a pair; after 40 the slot raises NO_CURRENT. -/
  | currentPeriodMissed (n : Nat)
  /-- R194: Every 40th current tick runs the speed loop and the spindle state sequencer. -/
  | speedTick (n : Nat) (speed : Int)
  /-- R200: The first 4 probes in RUN confirm forward rotation, or the attempt fails. -/
  | startProbeCheck (n : Nat) (forward : Bool)
  /-- R193: The residual exceeds RES_LIM for 8 electrical periods, which starts reacquisition. -/
  | observerLost (n : Nat)
  /-- R193: A phase current beyond 1.5 × IQ_START for 4 ticks is handled as observer loss or FAULT. -/
  | overcurrent (n : Nat)
  /-- R195: The AT_SPEED conditions have held for 100 ms, so AT_SPEED is set. -/
  | atSpeedReached (n : Nat)
  /-- R199: After 50 ms of PROBE the slot goes to ALIGN, catch, BRAKE or FAULT. -/
  | probeEnd (n : Nat) (speed : Int)
  /-- R199: BRAKE lasting 10 s sends the slot to FAULT with SPIN_REVERSE_STUCK. -/
  | brakeTimeout (n : Nat)
  /-- R197: ALIGN_T expires and the slot goes to RAMP. -/
  | alignEnd (n : Nat)
  /-- R200: AT_SPEED is not reached within START_TO, so the slot goes to FAULT. -/
  | startTimeout (n : Nat)
  /-- R201: Six ordered zero crossings seed the observer and the slot re-enters RUN. -/
  | reacquired (n : Nat) (speed : Int) (theta : Nat)
  /-- R201: No reacquisition within 200 ms sends the slot to a forced-coast SPINDOWN. -/
  | reacquireTimeout (n : Nat)
  /-- R198: SPk_CTL.START queues the spindle for a start place. -/
  | spindleStart (n : Nat)
  /-- R198: A free start place admits the next QUEUED spindle to PROBE. -/
  | startPlaceAdmit
  /-- R204: SPk_CTL.STOP unloads the actuators and spins the spindle down. -/
  | spindleStop (n : Nat)
  /-- R197: SPk_CTL.CLEAR returns a FAULT channel to STOPPED. -/
  | spindleClear (n : Nat)
  /-- R205: A write of SPk_TARGET.RPM sets the target speed, or is refused. -/
  | targetWrite (n rpm : Nat)
  /-- R206: A write to the motor and loop registers is accepted only in STOPPED or FAULT. -/
  | motorRegisterWrite (acc : Accessor) (n off : Nat) (value : Word)
  /-- R209: An SPM MEM_DATA access reads or writes a cogging entry and advances INDEX. -/
  | spindleMemAccess (acc : Accessor) (e : Nat) (write : Bool) (value : Word)
  /-- R215: Once per second ASC switches SENSOR_SEL to read each HDA's temperature. -/
  | tempSample (n : Nat) (t : Int)
  /-- R215: No fresh temperature arrives for 60 s. -/
  | tempStale (n : Nat)
  /-- R216: Every millisecond ASC updates each head's thermal rise. -/
  | headThermalTick (duty : List (Nat × Nat))
  /-- R219: TILE_CNT reaches QC_TILES, so a head's verify starts. -/
  | qualityCheck (a h : Nat)
  /-- R220: A verify ends, and Q is judged against the window. -/
  | verifyDone (a h live : Nat)
  /-- R222: A sweep ends, and the head record is rewritten or the sweep repeated. -/
  | recalibrationSweepDone (a h : Nat) (qs reps : List Nat) (rise duty : Nat) (full : List Nat)
  /-- R218: The bias-force table of a newly accepted HDA is measured. -/
  | biasTableMeasure (a : Nat) (avgs : List (List Int))
  /-- R224: At start and every REF_PERIOD, CAL_VREF and the on-die items are calibrated. -/
  | referenceCalibration (start : Bool) (vref : List Int) (adc osc : List (List (Int × Int)))
  /-- R232: CAL_CTL.REF_GO runs the on-die calibrations now. -/
  | refGo (acc : Accessor) (vref : List Int) (adc osc : List (List (Int × Int))) (fref : Bool) (ppm : List Int)
  /-- R225: At start and hourly, the crystal is measured against CAL_FREF. -/
  | frefMeasure (fref : Bool) (ppm : List Int)
  /-- R232: CAL_CTL.HU_GO requests a hold-up measurement. -/
  | huGo (acc : Accessor)
  /-- R229: A due or deferred hold-up measurement opens the input FET once its conditions hold. -/
  | holdupMeasurementStart
  /-- R229: The FET closes and C, ESR and HU_E are computed. -/
  | holdupMeasurementEnd (drawn v1 v2 esr : Nat) (late : Bool)
  /-- R230: HU_AGE reaching twice HU_PERIOD clears HU_VALID. -/
  | huAgeExpiry
  /-- R234: A write of POOL_SLOTS assigns slots to a pool, or is refused. -/
  | poolSlotsWrite (acc : Accessor) (p slots : Nat)
  /-- R264: SLOT_CTL.DRAIN starts moving the slot's referenced tiles. -/
  | slotDrain (n : Nat)
  /-- R235: SLOT_CTL.CANCEL returns a DRAINING or DRAINED slot to ACCEPTED. -/
  | slotCancel (n : Nat)
  /-- R235: A write of SLOT_CTL.EXCLUDE requests or withdraws exclusion. -/
  | slotExclude (acc : Accessor) (n : Nat) (value : Bool)
  /-- R245: Mason chooses members and opens a course. -/
  | courseOpen (p kind kdom number stNs stId : Nat) (cands : List Cand) (background : Bool)
  /-- R246: The mortar encoder computes a row once its k data bricks are encrypted. -/
  | mortarRowEncode (course : Nat) (fill sramUe : Bool)
  /-- R240: Every brick of a row is committed and the row becomes complete. -/
  | rowComplete (course row : Nat)
  /-- R248: A course closes, full or early, with footers written. -/
  | courseClose (course : Nat)
  /-- R251: A missing brick is reconstructed from k readable bricks of its row. -/
  | reconstructionRead (ix i : Nat) (got : List (Nat × Brick)) (waits sramUe : Bool)
  /-- R251: A waiting read resumes once a copy or k bricks become readable. -/
  | reconstructionWaitEnd (ix i : Nat)
  /-- R252: Mason decides re-read or rebuild for a brick returned from the ladder. -/
  | brickDecision (ix i kind : Nat) (urgentBg rebuildOk : Bool) (tRr tRb : Nat)
  /-- R244: Every HEAT_PERIOD Mason halves HEAT and creates or drops replicas. -/
  | heatSweep
  /-- R256: A finished replica copy is committed if the entry image is unchanged. -/
  | replicaCommit (ix course row : Nat)
  /-- R259: Free space below COMPACT_START starts compaction. -/
  | compactionStart (p : Nat)
  /-- R259: A moved extent's group commits, and a course whose LIVE reaches 0 is released. -/
  | extentMoveCommit (ix course start : Nat)
  /-- R262: REBUILD_DELAY after a loss, the rebuild of degraded courses starts. -/
  | rebuildStart (n : Nat) (repl : List (Nat × Nat × Cand))
  /-- R261: A replacement tile closes and the course switches members. -/
  | rebuildMemberSwitch (course member : Nat)
  /-- R264: A drain copy closes and the member switches; the last one ends the drain. -/
  | drainMemberSwitch (course member : Nat) (x : Cand)
  /-- R393: Re-keying of a domain begins once a FREE domain is available. -/
  | rekeyStart (d : Nat) (w0 w1 : Bool)
  /-- R268: A journal page is persisted when full or 1 ms after its first record. -/
  | journalPagePersist (jseq : Nat)
  /-- R269: A checkpoint starts every CKPT_MIN or on journal size. -/
  | checkpointStart
  /-- R269: All segments are persisted, and the CKPT end and root records are written. -/
  | checkpointEnd (bootSlots : Nat)
  /-- R271: A SEEK_DATA access reads or writes an entry and advances INDEX. -/
  | seekTableAccess (acc : Accessor) (write : Bool) (value : Nat)
  /-- R328: A poisoned table segment is restored from the checkpoint and the journal. -/
  | tableSegmentRebuild (table idx : Nat)
  /-- R291: The queue's unstarted commands are aborted and the queue is deleted. -/
  | deleteIoSubmissionQueue (c : Cmd) (qid : Nat)
  /-- R281: An I/O submission queue is created, or the command fails. -/
  | createIoSubmissionQueue (c : Cmd) (qid size cqid prio : Nat) (contiguous : Bool)
  /-- R283: An I/O completion queue is deleted. -/
  | deleteIoCompletionQueue (c : Cmd) (qid : Nat)
  /-- R281: An I/O completion queue is created, or the command fails. -/
  | createIoCompletionQueue (c : Cmd) (qid size vector : Nat) (contiguous : Bool)
  /-- R304: Returns the data of a supported log page. -/
  | getLogPage (c : Cmd) (lid nsid ofs len : Nat) (rae : Bool)
  /-- R279: Returns identify data. -/
  | identify (c : Cmd) (cns nsid : Nat)
  /-- R295: Aborts a fetched but unstarted command, or has no effect. -/
  | abort (c : Cmd) (sqid cid others : Nat)
  /-- R307: Sets a supported feature. -/
  | setFeatures (c : Cmd) (fid nsid value data : Nat)
  /-- R307: Returns a supported feature. -/
  | getFeatures (c : Cmd) (fid nsid : Nat)
  /-- R308: Posts a request that waiting events complete. -/
  | asynchronousEventRequest (c : Cmd)
  /-- R296: Namespace Management Create makes a thin namespace with a key domain. -/
  | namespaceCreate (c : Cmd) (set nsze ncap flbas nmic pool flags maxValue : Nat) (w0 w1 : Bool)
  /-- R297: Deletes a namespace and frees its domain and extents. -/
  | namespaceDelete (c : Cmd) (nsid : Nat)
  /-- R283: Attaches a namespace to controllers. -/
  | namespaceAttach (c : Cmd) (nsid : Nat) (ids : List Nat)
  /-- R297: Detaches a namespace from controllers. -/
  | namespaceDetach (c : Cmd) (nsid : Nat) (ids : List Nat)
  /-- R293: Stages image data in DRAM. -/
  | firmwareImageDownload (c : Cmd) (ofs : Nat) (bytes : List Nat)
  /-- R293: Commit with CA 0 or 1 verifies the staged image and writes it to the slot not running. -/
  | firmwareCommitReplace (c : Cmd) (slot : Nat) (next w0 w1 : Bool)
  /-- R293: Commit with CA 2 marks a slot as the next boot image. -/
  | firmwareCommitNextBoot (c : Cmd) (slot : Nat)
  /-- R294: Commit with CA 3 quiesces fetching to activate an image without reset. -/
  | firmwareCommitActivate (c : Cmd) (slot : Nat)
  /-- R294: In-flight commands complete, the new image is activated and fetching resumes. -/
  | activationQuiesced (ms : Nat)
  /-- R294: After 1.8 s the activation is cancelled. -/
  | activationQuiesceTimeout
  /-- R283: Carries an NVMe-MI request in band. -/
  | nvmeMiSend (c : Cmd) (r : MiReq)
  /-- R283: Returns an NVMe-MI response in band. -/
  | nvmeMiReceive (c : Cmd)
  /-- R302: Deallocates the namespace's extents and, with SES 1 or 2, replaces its key domain. -/
  | formatNvm (c : Cmd) (nsid ses : Nat) (w0 w1 : Bool)
  /-- R302: A Format NVM completes. -/
  | formatDone
  /-- R301: Replaces every key domain and frees the tables. -/
  | sanitizeCryptoErase (c : Cmd) (w0 w1 : Bool)
  /-- R301: Acts as crypto erase. -/
  | sanitizeBlockErase (c : Cmd) (w0 w1 : Bool)
  /-- R301: Replaces keys and overwrites every pool tile OWPASS times. -/
  | sanitizeOverwrite (c : Cmd) (w0 w1 : Bool)
  /-- R301: The sanitize completes, or fails and leaves the module restricted. -/
  | sanitizeDone
  /-- R310: The vendor command presents a CLEAR_RECORDER token. -/
  | clearEventRecorder (c : Cmd) (tok : List Nat)
  /-- R310: Returns a signed attestation report. -/
  | getAttestationReport (c : Cmd) (nonce : List Nat) (len : Nat) (w0 : Bool) (w1 : Bool)
  /-- R283: An unsupported opcode completes with Invalid Command Opcode. -/
  | unsupportedCommand (c : Cmd)
  /-- R288: A Flush is fetched and covers earlier writes. -/
  | flush (c : Cmd) (nsid : Nat)
  /-- R288: The covered writes reach the media and the Flush completes. -/
  | flushComplete (c : Cmd)
  /-- R285: A Write is checked, fetched and placed in the cache or pallets. -/
  | write (c : Cmd) (nsid slba nlb : Nat) (fua : Bool) (data : List Nat) (dptr : Nat)
  /-- R444: A write completes once safe under the hold-up or write-through rule. -/
  | writeAcknowledge (c : Cmd)
  /-- R341: A write waiting on the dirty ceiling is admitted as room frees. -/
  | writeWaitEnd (c : Cmd)
  /-- R287: A Read is served from the cache, pallets or media. -/
  | read (c : Cmd) (nsid slba nlb : Nat) (fua lr : Bool) (dptr : Nat) (media : List (Nat × Brick))
  /-- R284: Executes the NVM Compare command. -/
  | compare (c : Cmd) (nsid slba nlb : Nat) (data : List Nat) (dptr : Nat) (media : List (Nat × Brick))
  /-- R337: Writes zeroes through ZERO_LINE. -/
  | writeZeroes (c : Cmd) (nsid slba nlb : Nat) (fua : Bool)
  /-- R284: Deallocates the given ranges. -/
  | datasetManagement (c : Cmd) (nsid nr : Nat) (ad : Bool) (ranges : List (Nat × Nat))
  /-- R284: Verifies blocks without transfer. -/
  | verify (c : Cmd) (nsid slba nlb : Nat) (media : List (Nat × Brick))
  /-- R298: Zone Management Send Close. -/
  | zoneClose (c : Cmd) (nsid slba : Nat) (all_ : Bool)
  /-- R298: Zone Management Send Finish. -/
  | zoneFinish (c : Cmd) (nsid slba : Nat) (all_ : Bool)
  /-- R298: Zone Management Send Open, within the open limits. -/
  | zoneOpen (c : Cmd) (nsid slba : Nat) (all_ : Bool)
  /-- R298: Zone Management Send Reset deallocates the zone's extents. -/
  | zoneReset (c : Cmd) (nsid slba : Nat) (all_ : Bool)
  /-- R284: Zone Management Send Offline fails with Invalid Field in Command. -/
  | zoneOffline (c : Cmd) (nsid : Nat)
  /-- R284: Returns zone descriptors. -/
  | zoneManagementReceive (c : Cmd) (nsid slba zra : Nat)
  /-- R298: Appends data at the zone's write pointer. -/
  | zoneAppend (c : Cmd) (nsid zslba nlb : Nat) (fua : Bool) (data : List Nat) (dptr : Nat)
  /-- R299: Stores a key-value value atomically. -/
  | store (c : Cmd) (nsid : Nat) (key : List Nat) (size : Nat) (noOver onlyOver : Bool) (data : List Nat) (dptr : Nat)
  /-- R299: Returns value bytes from an offset, under STRICT or streaming checks. -/
  | retrieve (c : Cmd) (nsid : Nat) (key : List Nat) (bufSize ofs : Nat) (dptr : Nat) (media : List (Nat × Brick))
  /-- R299: Deletes a key. -/
  | delete (c : Cmd) (nsid : Nat) (key : List Nat)
  /-- R284: Reports whether a key exists. -/
  | exist (c : Cmd) (nsid : Nat) (key : List Nat)
  /-- R299: Lists keys from a given key upward. -/
  | list (c : Cmd) (nsid : Nat) (key : List Nat)
  /-- R281: A submission doorbell write makes new commands available for fetching. -/
  | sqDoorbellWrite (ctl q value : Nat)
  /-- R282: Fetching resumes as commands complete. -/
  | fetchResume
  /-- R281: A completion doorbell write releases completion entries. -/
  | cqDoorbellWrite (ctl q value : Nat)
  /-- R290: CC.EN written 1 to 0 resets the controller. -/
  | ccEnClear (ctl : Nat)
  /-- R290: CC.EN set makes CSTS.RDY 1 within 100 ms. -/
  | ccEnSet (ctl asq acq numVfs : Nat)
  /-- R290: FLR resets the function's controllers. -/
  | functionLevelReset (port fn : Nat)
  /-- R274: PERST#, hot reset or link-down resets a port's functions. -/
  | portReset (port cause : Nat)
  /-- R278: Clearing VF Enable resets every VF controller. -/
  | vfEnableClear (port : Nat)
  /-- R292: A normal shutdown notification completes commands and destages. -/
  | ccShnNormal (ctl : Nat)
  /-- R292: An abrupt shutdown notification discards unstarted commands and destages. -/
  | ccShnAbrupt (ctl : Nat)
  /-- R297: Every HOME course of the pool has k readable members and the namespace becomes ready. -/
  | namespaceReady (nsid : Nat) (sec : Nat)
  /-- R312: Sideband Read NVMe-MI Data Structure. -/
  | miReadDataStructure (i3c pecOk : Bool) (kind portOrCtl : Nat)
  /-- R312: Sideband NVM Subsystem Health Status Poll. -/
  | miSubsystemHealthPoll (i3c pecOk : Bool)
  /-- R312: Sideband Controller Health Status Poll. -/
  | miControllerHealthPoll (i3c pecOk : Bool) (ctl : Nat)
  /-- R312: Sideband Configuration Get. -/
  | miConfigurationGet (i3c pecOk : Bool) (cid : Nat)
  /-- R312: Sideband Configuration Set. -/
  | miConfigurationSet (i3c pecOk : Bool) (cid value : Nat)
  /-- R312: Sideband VPD Read. -/
  | miVpdRead (i3c pecOk : Bool) (ofs len : Nat)
  /-- R312: Sideband tunnelled Identify, Get Log Page or Get Features. -/
  | miTunnelledAdmin (i3c pecOk : Bool) (op ctl a b ofs len : Nat)
  /-- R315: SMBus clock low for longer than SBI_TO releases the bus. -/
  | smbusTimeout
  /-- R315: The I3C controller assigns a dynamic address. -/
  | i3cAddressAssigned (da : Nat)
  /-- R313: A port's data link comes up. -/
  | pcieLinkUp (port speed width : Nat)
  /-- R313: A port's data link goes down. -/
  | pcieLinkDown (port : Nat)
  /-- R482: PERST# deassertion lets PCX train and samples the straps. -/
  | perstDeassert (port : Nat) (two sris : Bool)
  /-- R318: Setting a region VALID starts its wipe, or is refused. -/
  | regionValidSet (acc : Accessor) (r : Nat)
  /-- R318: A region's wipe completes and its accesses proceed. -/
  | regionWipeDone (r : Nat)
  /-- R318: A region is made invalid. -/
  | regionValidClear (acc : Accessor) (r : Nat)
  /-- R324: A DRAM read returns clean, corrected, uncorrectable or poisoned data. -/
  | dramRead (addr outcome : Nat) (brick : Option Nat)
  /-- R324: A corrected line is written back in an idle cycle. -/
  | correctedWriteBack (line : Nat)
  /-- R325: A narrow write is a read-modify-write that follows the read outcome. -/
  | dramPartialWrite (addr : Nat) (bytes : List Nat) (outcome : Nat) (brick : Option Nat)
  /-- R323: A whole-line or whole-word write stores fresh check bits. -/
  | dramFullWrite (addr : Nat) (bytes : List Nat)
  /-- R327: The scrubber reads one line in an idle cycle. -/
  | scrubLine (outcome : Nat) (late : Bool) (lapMin : Nat) (brick : Option Nat)
  /-- R330: A DV_DATA read reads DRAM and advances DV_ADDR. -/
  | dvDataRead (acc : Accessor)
  /-- R330: A DV_DATA write writes DRAM and advances DV_ADDR. -/
  | dvDataWrite (acc : Accessor) (value : Word)
  /-- R338: Mason destages dirty sub-blocks above START or AGE, or for Flush and FUA. -/
  | destageStart (w sub : Nat)
  /-- R338: A sub-block has been dirty for AGE seconds. -/
  | subBlockAgeExpiry (w sub : Nat)
  /-- R338: A sub-block's copy to pallets completes and its dirty bit clears. -/
  | destageCopyDone (w sub : Nat)
  /-- R338: An EVICTING line's copy completes and the line becomes INVALID. -/
  | evictionDone (w : Nat)
  /-- R335: A FILLING sub-block receives its data. -/
  | subBlockFillDone (w sub : Nat) (data : List Nat)
  /-- R339: A write of SCC_CTL.DISABLE adds or removes the SOFTWARE cause. -/
  | cacheDisableWrite (acc : Accessor) (value : Bool)
  /-- R358: A Hod NOP instruction. -/
  | hodNop (n : Nat)
  /-- R358: A Hod MOVE copies rows, optionally through XTS. -/
  | hodMove (n : Nat) (host : Option (List Nat))
  /-- R358: A Hod FILL writes a pattern. -/
  | hodFill (n : Nat)
  /-- R358: A Hod COMPARE sets EQ. -/
  | hodCompare (n : Nat) (hostA hostB : Option (List Nat))
  /-- R361: A Hod WAIT samples its condition. -/
  | hodWait (n : Nat)
  /-- R361: A waiting channel's condition occurs and the channel resumes. -/
  | hodWaitSatisfied (n : Nat)
  /-- R361: The WAIT timeout expires and the channel goes to ERROR. -/
  | hodWaitTimeout (n : Nat)
  /-- R358: A Hod FLIP writes a flag word. -/
  | hodFlip (n : Nat)
  /-- R358: A Hod SIGNAL sets or clears event flags. -/
  | hodSignal (n : Nat)
  /-- R358: A Hod POST posts an item to a FIFO. -/
  | hodPost (n : Nat)
  /-- R358: A WAITFULL post is retried every 1 µs. -/
  | hodPostRetry (n : Nat)
  /-- R358: A Hod BRANCH goes to ADDR_A on its condition. -/
  | hodBranch (n : Nat)
  /-- R358: A Hod SETLC loads LC. -/
  | hodSetlc (n : Nat)
  /-- R358: A Hod STOP sends the channel to IDLE. -/
  | hodStop (n : Nat)
  /-- R359: A Hod STRIDE sets rows and strides for the next data instruction. -/
  | hodStride (n : Nat)
  /-- R358: An undefined opcode faults the channel with ILLEGAL. -/
  | hodIllegal (n : Nat)
  /-- R364: A BLOCKED channel's domain wakes and the channel resumes. -/
  | hodUnblock (n : Nat)
  /-- R356: CH_CTL.START starts a channel at CH_PC. -/
  | hodChannelStart (acc : Accessor) (n : Nat)
  /-- R365: CH_CTL.ABORT stops a channel in ERROR. -/
  | hodChannelAbort (acc : Accessor) (n : Nat)
  /-- R374: An EVF_SET write sets Hod event flags. -/
  | eventFlagSet (acc : Accessor) (mask : Nat)
  /-- R374: An EVF write clears Hod event flags. -/
  | eventFlagClear (acc : Accessor) (mask : Nat)
  /-- R349: A flag-tagged compare-and-swap on a window slot's flag word is performed or refused. -/
  | flagWrite (agent space addr owner hseq : Nat) (err : Bool)
  /-- R350: A flag-tagged read of a flag word, which gives OWNER = MGP on a poisoned line. -/
  | flagRead (agent space addr : Nat)
  /-- R353: ALLOC_CTL.ONE allocates one slot of an ALLOC window. -/
  | slotAllocateOne (acc : Accessor)
  /-- R353: ALLOC_CTL.PAIR allocates an aligned pair of slots. -/
  | slotAllocatePair (acc : Accessor)
  /-- R354: An untagged Common Window access is performed or refused. -/
  | commonWindowAccess (agent addr n ecc : Nat) (write : Option (List Nat))
  /-- R351: Setting a window descriptor VALID, or refusing it. -/
  | windowValidSet (acc : Accessor) (w : Nat)
  /-- R368: A hardware agent posts an item to a FIFO, or is refused. -/
  | fifoPost (n agent item : Nat) (commit : Bool)
  /-- R369: A FIFO_DATA write buffers a word, and the last word posts the item. -/
  | fifoDataWrite (acc : Accessor) (core i : Nat) (value : Word)
  /-- R369: A FIFO_DATA0 read pops the head item. -/
  | fifoPop (acc : Accessor) (core : Nat)
  /-- R371: FIFO_CMD.COMMIT makes held items readable. -/
  | fifoCommit (acc : Accessor) (core : Nat)
  /-- R371: FIFO_CMD.REWIND discards held items. -/
  | fifoRewind (acc : Accessor) (core : Nat)
  /-- R372: A claim not ended in CLAIM_TO is rewound. -/
  | claimTimeout (n : Nat)
  /-- R373: CPX rings the doorbell to MGP. -/
  | mbxC2mDoorbell (acc : Accessor) (slot : Nat)
  /-- R373: MGP rings the doorbell to CPX. -/
  | mbxM2cDoorbell (acc : Accessor) (slot : Nat)
  /-- R373: A slot held by the receiver for more than 1 s. -/
  | exchangeLate (slot : Nat)
  /-- R380: LC_REQ.TARGET requests a tokenless life-cycle transition. -/
  | lcTransitionRequest (acc : Accessor) (target : Nat) (places : List (Nat × Nat)) (dur : Nat) (vend : Nat)
  /-- R410: A TOK_DATA write appends 4 token bytes. -/
  | tokenDataWrite (acc : Accessor) (value : Word)
  /-- R383: LC_REQ.TOKEN presents the buffered token for checking. -/
  | tokenPresent (acc : Accessor) (places : List (Nat × Nat)) (dur : Nat) (vend : Nat)
  /-- R384: A token arrives through the JTAG LC_TOKEN instruction. -/
  | jtagLcToken (tok : List Nat) (places : List (Nat × Nat)) (dur : Nat) (vend : Nat)
  /-- R386: DOM_CTL.CREATE creates a domain's keys. -/
  | domainCreate (acc : Accessor) (w0 : Bool) (w1 : Bool)
  /-- R386: DOM_CTL.REPLACE replaces a domain's keys. -/
  | domainReplace (acc : Accessor) (w0 : Bool) (w1 : Bool)
  /-- R385: DOM_CTL.DESTROY frees a domain. -/
  | domainDestroy (acc : Accessor)
  /-- R393: DOM_CTL.RETIRE makes a domain RETIRING. -/
  | domainRetire (acc : Accessor)
  /-- R399: A cipher message arrives and may suspend a lower-class message. -/
  | xtsMessage (e : Nat) (id : Nat) (cls : Nat) (kdom : Nat) (dec : Bool) (fin : Bool)
  /-- R400: A suspended message resumes when no higher-class work waits. -/
  | xtsMessageResume (e : Nat) (unwrapOk : Bool) (fin : Bool)
  /-- R408: A key-value chunk's tag is checked, and a mismatch zero-fills and fails the Retrieve. -/
  | kvChunkTagCheck (c : Cmd) (again : List Nat)
  /-- R418: VIN below V_DET for more than PLD_T, or an overvoltage, runs the power-loss shutdown. -/
  | powerLossShutdown (places : List (Nat × Nat)) (dur : Nat) (vend : Nat)
  /-- R415: VIN returns within PLD_T. -/
  | vinDip
  /-- R415: VIN enters above 75 V. -/
  | vinHigh
  /-- R414: An excursion above 75 V lasts 100 ms, or VIN passes 80 V. -/
  | vinOv (beyond : Bool) (places : List (Nat × Nat)) (dur : Nat) (vend : Nat)
  /-- R420: VHOLD below 31 V before step 6 stops the module. -/
  | holdupShort (places : List (Nat × Nat)) (jseq : Nat)
  /-- R416: The bank does not charge in 2 s, so the FET opens. -/
  | inrushFail
  /-- R416: Charging is retried after 10 s. -/
  | inrushRetry
  /-- R423: A rail gives no power good within 20 ms. -/
  | railPgTimeout (r : Nat) (dest : Nat)
  /-- R423: A rail loses power good in service. -/
  | railPgLoss (r : Nat) (dest : Nat) (back : Bool)
  /-- R424: The crystal has not settled within 10 ms, so the ring oscillator is used. -/
  | xtalSettleTimeout
  /-- R425: PWC asks a domain's blocks in turn to sleep. -/
  | sleepRequest (d : Nat)
  /-- R425: A block gives no answer within 100 µs, which counts as BUSY. -/
  | sleepAnswerTimeout (d : Nat) (pg : Nat)
  /-- R426: A refused sleep is retried after its back-off. -/
  | sleepRetry (d : Nat)
  /-- R427: A wake event wakes a sleeping domain. -/
  | domainWake (d : Nat)
  /-- R437: A DOM_CTL.CL_SLEEP write requests sleep or wake of clusters. -/
  | clusterSleepWrite (acc : Accessor) (value : Nat)
  /-- R428: The module enters a new power state once its conditions are met. -/
  | powerStateEntry
  /-- R430: An I/O command returns the module to its last operational state. -/
  | powerStateExit
  /-- R429: A controller's APST idle time elapses. -/
  | apstIdleTimeout (ctl : Nat)
  /-- R430: In PS3 or PS4, CPX sleeps after 100 ms without commands. -/
  | cpxIdleSleep
  /-- R431: Input power over 10 ms is held at the effective cap by levers. -/
  | capControlTick (vin : Nat) (vhold : Nat) (pin : Nat) (spent : Bool) (ease : Bool)
  /-- R432: Every ms the thermal model updates and checks warnings. -/
  | thermalModelTick (powers : List Nat) (raw : List Int)
  /-- R433: A suspect sensor agrees for 10 s and becomes trusted. -/
  | sensorTrustRestore (n : Nat)
  /-- R432: The case temperature is re-estimated each second. -/
  | caseTempEstimate
  /-- R434: Above 100 °C the cap step moves down every 10 ms. -/
  | throttleStepDown
  /-- R434: Below 95 °C the cap step moves up every 100 ms. -/
  | throttleStepUp
  /-- R435: T_TRIP held for 1 s runs the shutdown with the FET closed. -/
  | thermalTrip (places : List (Nat × Nat)) (dur : Nat) (vend : Nat)
  /-- R435: The hottest sensor falls below 85 °C and the module starts. -/
  | tripCooldownRestart (memFail : Bool) (badBlobs : List Nat) (attOk : Bool) (badCl : List Nat)
  /-- R452: A CPX machine check or firmware fault restarts CPX with CFS set. -/
  | cpxFault (core : Nat) (cause : Nat) (recent : Nat) (places : List (Nat × Nat)) (dur : Nat) (vend : Nat)
  /-- R453: An MGP fault restarts MGP and wipes its secrets. -/
  | mgpFault (mchk : Bool) (recent : Nat) (places : List (Nat × Nat)) (dur : Nat) (vend : Nat)
  /-- R454: A processor restart completes. -/
  | processorRestartDone (set : Nat) (ms : Nat) (bad : List Nat)
  /-- R454: A restart not done in 2 s, or repeated restarts, escalates. -/
  | restartTimeout (set : Nat) (places : List (Nat × Nat)) (dur : Nat) (vend : Nat)
  /-- R456: A KLK or ACC clock unlocked for more than 10 ms loses the cluster. -/
  | clockUnlockLoss (c : Nat) (acc : Bool) (dest : Nat)
  /-- R459: A W1C write of REC_STAT also clears the bit in NOR. -/
  | recStatClear (acc : Accessor) (mask : Nat)
  /-- R445: A namespace without dirty data for 10 s has its bit cleared. -/
  | dirtyNsClear (nsid : Nat)
  /-- R466: Pending records are written to both NOR devices. -/
  | recordNorWrite (w0 w1 : Bool)
  /-- R462: Every 1/16 h the hour counter advances and is saved. -/
  | operatingHourTick
  /-- R467: Every minute MGP samples the 64 tracked quantities. -/
  | quantitySample (minute : List (Nat × Int))
  /-- R468: HST_CTL.FREEZE set freezes LAST and FIRST. -/
  | recorderFreeze (acc : Accessor)
  /-- R468: HST_CTL.FREEZE cleared writes the held records and a MISSED record. -/
  | recorderThaw (acc : Accessor)
  /-- R472: A REC_DATA0 read latches the rest of the record. -/
  | recordRead (acc : Accessor)
  /-- R475: A module start runs stages 1 to 9 and starts the parallel stages. -/
  | moduleStart (memFail : Bool) (badBlobs : List Nat) (attOk : Bool) (badCl : List Nat)
  /-- R475: Once the boot slots are in FOLLOW, the tables load and BOOT_DONE follows. -/
  | tableLoad (ms : Nat)
  /-- R475: Not every namespace is ready within 60 s. -/
  | readyLate
  /-- R479: The boot watchdog expires and requests a module reset. -/
  | bootWatchdogExpiry (places : List (Nat × Nat)) (dur : Nat) (vend : Nat)
  /-- R481: The CPX watchdog expires. -/
  | cpxWatchdogExpiry (core : Nat) (recent : Nat) (places : List (Nat × Nat)) (dur : Nat) (vend : Nat)
  /-- R481: The MGP watchdog expires. -/
  | mgpWatchdogExpiry (recent : Nat) (places : List (Nat × Nat)) (dur : Nat) (vend : Nat)
  /-- R481: Half a period without a kick raises PREWARN. -/
  | watchdogPrewarn (n : Nat)
  /-- R481: A WDG_KICK write with the key rearms a watchdog. -/
  | wdgKick (acc : Accessor) (value : Word)
  /-- R485: DEV.MOD_RST with its key requests a module reset. -/
  | moduleResetRequest (acc : Accessor) (value : Word) (places : List (Nat × Nat)) (dur : Nat) (vend : Nat)
  /-- R480: RCV_CTL.START begins image streaming in RECOVERY. -/
  | recoveryStart (acc : Accessor)
  /-- R485: An RCV_DATA write adds 4 image bytes. -/
  | recoveryDataWrite (acc : Accessor) (value : Word)
  /-- R480: RCV_CTL.COMMIT verifies and writes the streamed image. -/
  | recoveryCommit (acc : Accessor) (w0 : Bool) (w1 : Bool)
  /-- R480: RCV_CTL.RETRY clears FAILED and TRIES and resets. -/
  | recoveryRetry (acc : Accessor) (places : List (Nat × Nat)) (dur : Nat) (vend : Nat)
  /-- R483: 5 s after PERST# without service, CSTS.CFS reads 1. -/
  | serviceFailTimeout (port : Nat)
  /-- R502: Every 2 years of operating hours a NOR area is rewritten. -/
  | norRefresh (area : Nat) (dev : Nat) (good : Bool)
  /-- R414: VIN rising through the UVLO threshold closes the input FET to charge the bank, and AON runs once VHOLD reaches 30.0 V. -/
  | vinPowerUp
  /-- R421: VHOLD falls below 30.0 V, so the AON domain stops and the module leaves its held or shutdown-done state for a dead one. -/
  | vholdCollapse
  /-- R44: A lane regains block lock after 8 consecutive valid sync headers. -/
  | blockLockRegained (a : Nat) (n : Lane)
  /-- R461: The host unmasks a PF1 MSI-X vector while its page signal is 1, which sends a message. -/
  | msixVectorUnmask (port v : Nat)
  /-- R363: The host clears a function's Bus Master Enable, so Hod channels with outstanding host transactions fault with HOST_DISABLED. -/
  | busMasterEnableClear (port fn : Nat)
  /-- R277: A host read completion times out, or arrives poisoned or Unsupported, which ends the command with Data Transfer Error or faults the Hod channel with HOST. -/
  | completionTimeout (c : Option Cmd) (n : Nat)
  /-- R313: A port detects a correctable or uncorrectable PCIe error, which is counted and raises CORR_ERR or UNCORR_ERR toward the lasting action of R451. -/
  | pcieErrorDetected (port kind : Nat)
  /-- R343: An LPDDR5X package reports a raised refresh rate, which updates DMC_TREF and raises TEMP_DERATE. -/
  | tempDerate (p code : Nat)
  deriving DecidableEq, Repr

end Sys2Proof
end

