-- ==== Sys2Proof/Machine/Codec.lean ====
section
/-! DEFINITION. The codes on the media and on the link: CRCs (R49, R52, R91), the scrambler (R88), the LDPC encoder (R93,
R94), a brick's trailer bytes and its slot of channel bits (R87, R89, R90). -/

namespace Sys2Proof.Machine

/-! ### Bytes -/

/-- The `n` low bytes of a number, least significant first. -/
def leBytes (n v : Nat) : List Nat := (List.range n).map fun i => (v >>> (8 * i)) % 256

/-- Bytes put together, least significant first. -/
def ofLe : List Nat → Nat
  | [] => 0
  | b :: bs => b % 256 + 256 * ofLe bs

/-! ### CRCs -/

/-- One step of a reflected CRC over a byte. -/
def crcReflByte (poly c b : Nat) : Nat :=
  (List.range 8).foldl (fun c _ => if c % 2 = 1 then (c >>> 1) ^^^ poly else c >>> 1) (c ^^^ b)

/-- CRC-32C (R91): polynomial 0x1EDC6F41 reflected, initial value all ones, result inverted. -/
def crc32c (bs : List Nat) : Nat := bs.foldl (crcReflByte 0x82F63B78) 0xFFFFFFFF ^^^ 0xFFFFFFFF

/-- A CRC of `w` bits over bits taken most significant first. -/
def crcBits (w poly init : Nat) (bits : List Bool) : Nat :=
  bits.foldl (fun c b =>
    let c2 := (c <<< 1) % 2 ^ w
    if Bool.xor (c.testBit (w - 1)) b then c2 ^^^ poly else c2) init

/-- CRC-16 of flits (R52). -/
def crc16 (bits : List Bool) : Nat := crcBits 16 0x1021 0xFFFF bits

/-- CRC-32 of check groups (R49). -/
def crc32 (bits : List Bool) : Nat := crcBits 32 0x04C11DB7 0xFFFFFFFF bits ^^^ 0xFFFFFFFF

/-! ### Trailer (R90) -/

/-- The carried part, bytes 0-39. -/
def carriedBytes (t : Trailer) : List Nat :=
  leBytes 4 t.twTile ++ leBytes 2 t.twBrick ++ leBytes 4 t.twGen ++ leBytes 2 t.kdom ++ leBytes 4 t.extent
    ++ leBytes 4 t.extBrick ++ leBytes 8 t.seq ++ leBytes 2 t.nsid ++ leBytes 2 t.validLen ++ leBytes 8 0

/-- The placed part, bytes 40-59. -/
def placedBytes (t : Trailer) : List Nat :=
  leBytes 4 t.tile ++ leBytes 2 t.brick ++ leBytes 3 t.slot ++ leBytes 1 t.kind ++ leBytes 1 t.pos
    ++ leBytes 1 t.flags ++ leBytes 4 t.gen ++ leBytes 4 t.course

/-- The CRC of a brick: its data field and trailer bytes 0-59 (R91). -/
def brickCrc (b : Brick) : Nat := crc32c (leBytes 4096 b.data ++ carriedBytes b.trailer ++ placedBytes b.trailer)

/-- A brick with its CRC made. -/
def sealBrick (b : Brick) : Brick := { b with trailer := { b.trailer with crc := brickCrc b } }

/-- The information field: 4,160 bytes (R89). -/
def infoBytes (b : Brick) : List Nat :=
  leBytes 4096 b.data ++ carriedBytes b.trailer ++ placedBytes b.trailer ++ leBytes 4 b.trailer.crc

/-- A byte's bits, most significant first. -/
def byteBits (b : Nat) : List Bool := [7, 6, 5, 4, 3, 2, 1, 0].map b.testBit

/-! ### LDPC (R93, R94) -/

/-- The shift of block (i, j), R93. -/
def ldpcShift (i j : Nat) : Nat := ((i + 1) * (j + 3) ^ 2 + 17 * i) % 512

/-- Bits as a number, the first bit least significant. -/
def ofBitsLe (bs : List Bool) : Nat := bs.foldr (fun b a => (if b then 1 else 0) + 2 * a) 0

/-- A 512-bit block rotated so that entry r takes entry r + s. -/
def rot512 (u s : Nat) : Nat := (u >>> s) ||| ((u <<< (512 - s)) % 2 ^ 512)

/-- The information blocks u_0 to u_64 of a bit list. -/
def infoBlocks : Nat → List Bool → List Nat
  | 0, _ => []
  | n + 1, bs => ofBitsLe (bs.take 512) :: infoBlocks n (bs.drop 512)

/-- s_i: the XOR over j of u_j rotated by shift(i, j). -/
def ldpcSum (i : Nat) (us : List Nat) : Nat := (us.zipIdx).foldl (fun a uj => a ^^^ rot512 uj.1 (ldpcShift i uj.2)) 0

/-- The parity blocks: p_0 = s_0, p_i = s_i XOR p_(i-1). -/
def ldpcParity (us : List Nat) : List Nat :=
  ((List.range 7).foldl (fun (acc : List Nat × Nat) i =>
    let p := ldpcSum i us ^^^ acc.2
    (acc.1 ++ [p], p)) ([], 0)).1

/-- A 512-bit block's bits, bit 0 first. -/
def blockBits (u : Nat) : List Bool := (List.range 512).map u.testBit

/-- The codeword of a brick, in transmission order (R89). -/
def codeword (b : Brick) : List Bool :=
  let info := (infoBytes b).flatMap byteBits
  info ++ (ldpcParity (infoBlocks 65 info)).flatMap blockBits

/-- Check r of block row i of a codeword's blocks: true when it is satisfied (R93). -/
def ldpcCheck (us ps : List Nat) (i r : Nat) : Bool :=
  let p := fun t => ((ps.getD t 0).testBit r)
  let pre := if i = 0 then p i else Bool.xor (p i) (p (i - 1))
  Bool.xor ((ldpcSum i us).testBit r) pre = false

/-! ### Scrambler (R88) -/

/-- The seed of a slot. -/
def scrSeed (tileId slot : Nat) : Nat :=
  let s := (tileId % 2 ^ 31) ^^^ ((slot % 2 ^ 17) <<< 14)
  if s = 0 then 0x7FFFFFFF else s

/-- Bits scrambled from a state. -/
def scramble : Nat → List Bool → List Bool
  | _, [] => []
  | s, b :: bs =>
    let k := Bool.xor (s.testBit 30) (s.testBit 27)
    Bool.xor b k :: scramble ((2 * s + (if k then 1 else 0)) % 2 ^ 31) bs

/-! ### A slot's channel bits (R87) -/

/-- The `n` bits of a pattern, most significant first. -/
def patBits (n v : Nat) : List Bool := (List.range n).map fun i => v.testBit (n - 1 - i)

/-- A pattern repeated. -/
def repBits (k : Nat) (p : List Bool) : List Bool := (List.range k).flatMap fun _ => p

/-- The channel bits of a brick in its slot: preamble, sync mark, scrambled codeword, pad. -/
def slotBits (b : Brick) : List Bool :=
  repBits 40 (patBits 4 0xC) ++ patBits 32 0x4E5F0B9D ++ scramble (scrSeed b.trailer.tile b.trailer.slot) (codeword b)
    ++ repBits 16 (patBits 4 0xA)

/-- Channel bits of a slot. -/
def slotLen : Nat := 37120

/-- The resume field: 128 preamble bits and the resume mark (R85). -/
def resumeField : List Bool := repBits 32 (patBits 4 0xC) ++ patBits 32 0xB3A06C1F

/-- The pad of a split fragment: 32 bits (R85). -/
def splitPad : List Bool := repBits 8 (patBits 4 0xA)

/-- Bits as one number, the first bit most significant. -/
def ofBits (bs : List Bool) : Nat := bs.foldl (fun a b => 2 * a + (if b then 1 else 0)) 0

/-- Bits [from, from + n) of a number that holds `total` bits, first bit most significant. -/
def midBits (total v start n : Nat) : Nat := (v >>> (total - start - n)) % 2 ^ n

/-! ### GF(2^8) (R239) -/

/-- One doubling in GF(2^8) with 0x11D. -/
def gfDouble (a : Nat) : Nat := if a ≥ 128 then (2 * a) ^^^ 0x11D else 2 * a

/-- The product in GF(2^8). -/
def gfMul (a b : Nat) : Nat :=
  ((List.range 8).foldl (fun (st : Nat × Nat) i =>
    ((if b.testBit i then st.1 ^^^ st.2 else st.1), gfDouble st.2)) (0, a)).1

/-- The inverse in GF(2^8): the 254th power. -/
def gfInv (a : Nat) : Nat := (List.range 253).foldl (fun p _ => gfMul p a) a

/-- The coefficient c(p, d) of mortar position p (R239). -/
def mortarCoef (p d : Nat) : Nat := gfMul (0x10 ^^^ d) (gfInv ((0x10 ^^^ d) ^^^ p))

/-- The product of a coefficient and each of the `n` bytes of a number. -/
def gfScale (n c v : Nat) : Nat := ofLe ((leBytes n v).map (gfMul c))

/-- The bytes mortar covers: 4,096 data bytes, then the 40 carried bytes (R92). -/
def mortarLen : Nat := 4136

/-- Mortar position p of a row of k data bricks (as numbers of 4,136 bytes): R239. -/
def mortarRow (k p : Nat) (ds : List Nat) : Nat :=
  if k = 1 then ds.getD 0 0
  else (ds.zipIdx).foldl (fun a dx => a ^^^ gfScale mortarLen (mortarCoef p dx.2) dx.1) 0

end Sys2Proof.Machine
end

