-- ==== Sys2Proof/Config.lean ====
section
/-! DEFINITION. What an implementation of the block fixes and the spec leaves open: constants with no body, so that no
proof can see a value of them. The free values are applied to the state's counter of free values (see
State.free), and each is named in the assumption log. -/

namespace Sys2Proof.Config

/-- The value of the next free value of the machine, for one draw number. -/
opaque freeValue : Nat → BitVec 64

/-- PG_ID.REV of the pages other than DEV: "per block" (R36). -/
opaque blockRev : Nat → BitVec 8

/-- PG_CAP.BLOCK of the pages other than DEV: "per block" (R36). -/
opaque blockCap : Nat → BitVec 24

/-- PG_CAP.ERRINJ and PG_CAP.WINCNT: "per block" (R36). -/
opaque blockFeat : Nat → BitVec 2

/-- Whether a quotient that is no whole number is rounded up, where the spec gives a division and not its rounding. -/
opaque roundUp : Int → Int → Bool

/-- The quotient of two numbers, rounded as the implementation rounds. -/
def divFree (n d : Int) : Int := n / d + (if n % d = 0 then 0 else if roundUp n d then 1 else 0)

/-- The Clarke and Park transforms of a current pair at an angle: (id, iq) in 0.5 mA (R191, real arithmetic whose rounding
the spec does not give). -/
opaque park : Int → Int → Nat → Int × Int

/-- A PI's output and new integrator from its error, gains (value / 4,096) and integrator (R191, R194). -/
opaque pi : Int → Nat → Nat → Int → Int × Int

/-- The back-EMF feed-forward at a speed in 1/256 rpm (R191). -/
opaque keFf : Nat → Int → Int

/-- The inverse transforms: the three phase voltages from vd, vq and the advanced angle (R191). -/
opaque invPark : Int → Int → Nat → Int × Int × Int

/-- The bits of a completion token: its TAG, SLOT and status, whose places in the item the spec does not give (R137). -/
opaque tokenItem : Nat → Nat → Nat → Nat

/-- The bits of a void record: tile, generation and slot, whose places in the item the spec does not give (R152). -/
opaque voidItem : Nat → Nat → Nat → Nat

/-- The retry-store unit and the class of a retry job posted through the FIF page, in an item whose bits the spec does not
lay out (R122, R367). -/
opaque retryItem : Nat → Nat × Bool

/-- The actuator of a SEEK item of an engine, 0-7, and its track; the item's bits are not laid out (R367). -/
opaque seekItem : Nat → Nat × Nat

/-- The tile and the slot of a void record posted by software (R152, R367). -/
opaque voidOf : Nat → Nat × Nat

/-- The time from a wedge's start to the instant that its SAM's sample index names, in fs (R114). -/
opaque samPoint : Nat

/-- The raw DRAM bytes an access of so many bytes moves in a region of a code (R343: the spec counts them and does not
say how many). -/
opaque rawBytes : Nat → Nat → Nat

/-- A thermal node's next model value in 1/16 °C, from its number, the domain powers, the model values and the case
temperature (R432: Nolnex firmware loads the coefficients, and the spec does not give them). -/
opaque thermalNext : Nat → List Nat → List Int → Int → Int

/-- SHA-256 of a byte list (FIPS 180-4, a standard the spec cites and does not restate). -/
opaque sha256 : List Nat → Nat

/-- The LMS verification of a public key, a signature and a message (NIST SP 800-208; a standard the spec cites). -/
opaque lmsVerify : List Nat → List Nat → List Nat → Bool

/-- A number drawn from the TRNG (256 bits), for one draw number. -/
opaque trng : Nat → Nat

/-- XTS-AES-256 encryption of a data unit under a data key, a tweak key and a tweak (IEEE 1619). -/
opaque xtsEnc : Nat → Nat → Nat → Nat → Nat

/-- XTS-AES-256 decryption. -/
opaque xtsDec : Nat → Nat → Nat → Nat → Nat

/-- CMAC-AES-256 of a message under a key. -/
opaque cmac : Nat → List Nat → Nat

/-- The hash fused for vendor life-cycle tokens and for firmware images (R379: present in BLANK). -/
opaque vendorLc : Nat

/-- The hash fused for firmware images. -/
opaque vendorFw : Nat

/-- The bytes of a page or structure that NVMe Base and its companions lay out (identify data, standard log pages, feature
data, zone and key lists, management answers), from what names it and the values the spec gives for it. -/
opaque nvmeData : String → List Nat → List Nat

/-- The HSS signature bytes of an attestation report by its seed, leaf and body (R404). -/
opaque hssSign : Nat → Nat → List Nat → List Nat

/-- The HSS public key of a seed. -/
opaque hssPub : Nat → List Nat

end Sys2Proof.Config
end

