-- ==== Sys2Proof/Machine/RegMap.lean ====
section
/-! DEFINITION. The Control Aperture's register map: every field of every register table of the spec as one named
constant (offset, high bit, low bit, access type, reset value), the tables built from them, the page index of R28 and
each page's number of event bits. A field that spans a 64-bit value (R35) stands at the offset of its low word. -/

namespace Sys2Proof.Machine

/-- The access types of R34. A W1S or WO field that holds nothing and only acts is `act`: it reads 0. -/
inductive Acc where
  | ro | rw | rwl | w1c | w1s | act | rc
  deriving DecidableEq, Repr

/-- One field of a register (R10: bit range with both ends included). -/
structure RF where
  off : Nat
  hi : Nat
  lo : Nat
  acc : Acc
  rst : Nat
  deriving DecidableEq, Repr

/-- The same field of another unit, `d` bytes further on in the page. -/
def RF.at (f : RF) (d : Nat) : RF := ⟨f.off + d, f.hi, f.lo, f.acc, f.rst⟩

/-- The width of a field. -/
def RF.width (f : RF) : Nat := f.hi + 1 - f.lo

/-- The kinds of page (R28). -/
inductive Kind where
  | dev | clkg | pwc | thm | cal | evc | hst | sbi | lcs | sec | cip | mbx | fif | shw | wdg | pcx | nve | dmc | mps | scc | msn | map | mor | hod | asc | cpx | sve | spm | klc | fdc | ldp | fsq | xtc | act
  deriving DecidableEq, Repr

/-- TYPE: the page number of instance 0 (R28). -/
def Kind.base : Kind → Nat
  | .dev => 0x00
  | .clkg => 0x01
  | .pwc => 0x02
  | .thm => 0x03
  | .cal => 0x04
  | .evc => 0x05
  | .hst => 0x06
  | .sbi => 0x07
  | .lcs => 0x08
  | .sec => 0x09
  | .cip => 0x0A
  | .mbx => 0x0B
  | .fif => 0x0C
  | .shw => 0x0D
  | .wdg => 0x0E
  | .pcx => 0x10
  | .nve => 0x11
  | .dmc => 0x12
  | .mps => 0x13
  | .scc => 0x14
  | .msn => 0x18
  | .map => 0x19
  | .mor => 0x1A
  | .hod => 0x1B
  | .asc => 0x1C
  | .cpx => 0x1D
  | .sve => 0x20
  | .spm => 0x30
  | .klc => 0x40
  | .fdc => 0x48
  | .ldp => 0x50
  | .fsq => 0x58
  | .xtc => 0x60
  | .act => 0x80

/-- The number of event bits of a kind of page, PG_CAP.NEV (R36 and each block's register section). -/
def Kind.nev : Kind → Nat
  | .dev => 5
  | .clkg => 3
  | .pwc => 12
  | .thm => 7
  | .cal => 8
  | .evc => 2
  | .hst => 6
  | .sbi => 4
  | .lcs => 4
  | .sec => 9
  | .cip => 3
  | .mbx => 2
  | .fif => 5
  | .shw => 5
  | .wdg => 4
  | .pcx => 7
  | .nve => 10
  | .dmc => 4
  | .mps => 8
  | .scc => 6
  | .msn => 10
  | .map => 4
  | .mor => 2
  | .hod => 8
  | .asc => 8
  | .cpx => 8
  | .sve => 14
  | .spm => 16
  | .klc => 20
  | .fdc => 8
  | .ldp => 6
  | .fsq => 8
  | .xtc => 6
  | .act => 0

/-- The page index of R28; none is a reserved page. -/
def pageKind (pg : Nat) : Option Kind :=
  if pg ≥ 0x100 then none
  else if pg ≥ 0x80 then some .act
  else if pg ≥ 0x68 then none
  else if pg ≥ 0x60 then some .xtc
  else if pg ≥ 0x58 then some .fsq
  else if pg ≥ 0x50 then some .ldp
  else if pg ≥ 0x48 then some .fdc
  else if pg ≥ 0x40 then some .klc
  else if pg ≥ 0x30 then some .spm
  else if pg ≥ 0x20 then some .sve
  else match pg with
    | 0x00 => some .dev
    | 0x01 => some .clkg
    | 0x02 => some .pwc
    | 0x03 => some .thm
    | 0x04 => some .cal
    | 0x05 => some .evc
    | 0x06 => some .hst
    | 0x07 => some .sbi
    | 0x08 => some .lcs
    | 0x09 => some .sec
    | 0x0A => some .cip
    | 0x0B => some .mbx
    | 0x0C => some .fif
    | 0x0D => some .shw
    | 0x0E => some .wdg
    | 0x10 => some .pcx
    | 0x11 => some .nve
    | 0x12 => some .dmc
    | 0x13 => some .mps
    | 0x14 => some .scc
    | 0x18 => some .msn
    | 0x19 => some .map
    | 0x1A => some .mor
    | 0x1B => some .hod
    | 0x1C => some .asc
    | 0x1D => some .cpx
    | _ => none

/-! ### The common page header (R36) -/
def HDR.PG_CTL.LOCK : RF := ⟨0x008, 3, 3, .w1s, 0⟩
def HDR.PG_CTL.FREEZE : RF := ⟨0x008, 2, 2, .rw, 0⟩
def HDR.PG_CTL.SOFT_RESET : RF := ⟨0x008, 1, 1, .w1s, 0⟩
def HDR.PG_CTL.ENABLE : RF := ⟨0x008, 0, 0, .rwl, 0⟩
def HDR.PG_STAT.RESET_BUSY : RF := ⟨0x00C, 31, 31, .ro, 0⟩
def HDR.PG_STAT.FROZEN : RF := ⟨0x00C, 30, 30, .ro, 0⟩
def HDR.PG_STAT.LOCKED_WRITE : RF := ⟨0x00C, 29, 29, .w1c, 0⟩
def HDR.PG_STAT.RESET_REFUSED : RF := ⟨0x00C, 28, 28, .w1c, 0⟩
def HDR.PG_STAT.BLOCK : RF := ⟨0x00C, 27, 0, .ro, 0⟩
def HDR.EV_RAW.V : RF := ⟨0x010, 31, 0, .ro, 0⟩
def HDR.EV_PEND.V : RF := ⟨0x014, 31, 0, .w1c, 0⟩
def HDR.EV_EN.V : RF := ⟨0x018, 31, 0, .rw, 0⟩
def HDR.EV_SET.V : RF := ⟨0x01C, 31, 0, .act, 0⟩
def HDR.EV_ROUTE.VECTOR : RF := ⟨0x020, 14, 8, .rwl, 0⟩
def HDR.EV_ROUTE.PIN : RF := ⟨0x020, 3, 3, .rwl, 0⟩
def HDR.EV_ROUTE.MGP : RF := ⟨0x020, 2, 2, .rwl, 1⟩
def HDR.EV_ROUTE.CPX : RF := ⟨0x020, 1, 1, .rwl, 0⟩
def HDR.EV_ROUTE.MSIX : RF := ⟨0x020, 0, 0, .rwl, 0⟩
def HDR.WIN_CFG.SEL : RF := ⟨0x024, 4, 0, .rw, 0⟩
def HDR.WIN_LASTING.V : RF := ⟨0x02C, 31, 0, .w1c, 0⟩
def HDR.ERR_INJ.CONT : RF := ⟨0x030, 9, 9, .rw, 0⟩
def HDR.ERR_INJ.ONESHOT : RF := ⟨0x030, 8, 8, .w1s, 0⟩
def HDR.ERR_INJ.SRC : RF := ⟨0x030, 4, 0, .rw, 0⟩
def HDR.PG_SCRATCH.SCRATCH : RF := ⟨0x034, 31, 0, .rw, 0⟩
/-! ### Page KLC (R79) -/
def KLC.KLC_CFG.SPIN_TIMEOUT : RF := ⟨0x040, 19, 12, .rwl, 0x14⟩
def KLC.KLC_CFG.REPLAY_MAX : RF := ⟨0x040, 11, 8, .rwl, 4⟩
def KLC.KLC_CFG.ACK_TO : RF := ⟨0x040, 7, 4, .rwl, 4⟩
def KLC.KLC_CFG.TRAIN_MAX : RF := ⟨0x040, 3, 0, .rwl, 4⟩
def KLC.RETRACT.CAUSE : RF := ⟨0x044, 15, 8, .ro, 1⟩
def KLC.RETRACT.HW_RELEASE : RF := ⟨0x044, 4, 4, .act, 0⟩
def KLC.RETRACT.EXT_LOW : RF := ⟨0x044, 3, 3, .ro, 0⟩
def KLC.RETRACT.LEVEL : RF := ⟨0x044, 2, 2, .ro, 0⟩
def KLC.RETRACT.HW_ASSERT : RF := ⟨0x044, 1, 1, .ro, 1⟩
def KLC.RETRACT.SW_ASSERT : RF := ⟨0x044, 0, 0, .rw, 1⟩
def KLC.PRESENT.V : RF := ⟨0x048, 15, 0, .ro, 0⟩
def KLC.ACTIVE.V : RF := ⟨0x04C, 15, 0, .ro, 0⟩
def KLC.FAULTED.V : RF := ⟨0x050, 15, 0, .ro, 0⟩
def KLC.RATE.V : RF := ⟨0x054, 0, 0, .ro, 0⟩
/-! ### Page ACT (R80) -/
def ACT.LK_STAT.LOS : RF := ⟨0x040, 15, 15, .ro, 1⟩
def ACT.LK_STAT.SPIN_OWNER : RF := ⟨0x040, 14, 14, .ro, 0⟩
def ACT.LK_STAT.FULL_RATE : RF := ⟨0x040, 13, 13, .ro, 0⟩
def ACT.LK_STAT.STREAMING : RF := ⟨0x040, 12, 12, .ro, 0⟩
def ACT.LK_STAT.HEADS_PARKED : RF := ⟨0x040, 11, 11, .ro, 1⟩
def ACT.LK_STAT.ATTEMPT : RF := ⟨0x040, 10, 8, .ro, 0⟩
def ACT.LK_STAT.PHASE : RF := ⟨0x040, 7, 4, .ro, 0⟩
def ACT.LK_STAT.STATE : RF := ⟨0x040, 2, 0, .ro, 0⟩
def ACT.LK_CTL.FORCE_DOWN : RF := ⟨0x044, 2, 2, .rw, 0⟩
def ACT.LK_CTL.DOZE_REQ : RF := ⟨0x044, 1, 1, .rw, 0⟩
def ACT.LK_CTL.RETRAIN : RF := ⟨0x044, 0, 0, .act, 0⟩
def ACT.BR_ID.MAKER : RF := ⟨0x048, 31, 16, .ro, 0⟩
def ACT.BR_ID.PRODUCT : RF := ⟨0x048, 15, 0, .ro, 0⟩
def ACT.BR_CAP.REV : RF := ⟨0x04C, 31, 24, .ro, 0⟩
def ACT.BR_CAP.WFIFO : RF := ⟨0x04C, 23, 16, .ro, 0⟩
def ACT.BR_CAP.SIDE : RF := ⟨0x04C, 15, 15, .ro, 0⟩
def ACT.BR_CAP.ASSIST : RF := ⟨0x04C, 14, 13, .ro, 0⟩
def ACT.BR_CAP.HEADS : RF := ⟨0x04C, 12, 9, .ro, 0⟩
def ACT.BR_RATE.ADC_RATE : RF := ⟨0x050, 28, 16, .ro, 0⟩
def ACT.BR_RATE.MAXRATE : RF := ⟨0x050, 12, 0, .ro, 0⟩
def ACT.BR_SERIAL.V : RF := ⟨0x054, 63, 0, .ro, 0⟩
def ACT.WRATE.V : RF := ⟨0x05C, 12, 0, .rw, 0x1068⟩
def ACT.GAP_CNT.V : RF := ⟨0x060, 15, 0, .rc, 0⟩
def ACT.CHECK_CNT.V : RF := ⟨0x064, 15, 0, .rc, 0⟩
def ACT.NAK_CNT.V : RF := ⟨0x068, 15, 0, .rc, 0⟩
def ACT.OUT_CRC_CNT.V : RF := ⟨0x06C, 15, 0, .rc, 0⟩
def ACT.WGATE_CNT.V : RF := ⟨0x070, 15, 0, .rc, 0⟩
def ACT.TRAIN_CNT.V : RF := ⟨0x074, 15, 0, .rc, 0⟩
def ACT.SAMPLE_INDEX.V : RF := ⟨0x078, 63, 0, .ro, 0⟩
/-! ### Page FDC (R131) -/
def FDC.FDC_STAT.IN_WINDOW : RF := ⟨0x040, 15, 0, .ro, 0⟩
def FDC.FDC_STAT.PINNED : RF := ⟨0x040, 31, 16, .ro, 0⟩
def FDC.RS_CE.COUNT : RF := ⟨0x044, 15, 0, .rc, 0⟩
def FDC.RS_UE.COUNT : RF := ⟨0x048, 15, 0, .rc, 0⟩
/-! ### Page LDP (R132) -/
def LDP.LDP_CFG.EXT_IT : RF := ⟨0x040, 25, 20, .rwl, 0x3c⟩
def LDP.LDP_CFG.ABORT_FRAC : RF := ⟨0x040, 19, 12, .rwl, 0x40⟩
def LDP.LDP_CFG.ABORT_IT : RF := ⟨0x040, 11, 8, .rwl, 3⟩
def LDP.LDP_CFG.BORROW : RF := ⟨0x040, 7, 7, .rwl, 1⟩
def LDP.LDP_CFG.RETRY_MAX : RF := ⟨0x040, 6, 4, .rwl, 4⟩
def LDP.LDP_CFG.LIVE_IT : RF := ⟨0x040, 3, 0, .rwl, 0xa⟩
def LDP.LDP_STAT.LIVE_BUSY : RF := ⟨0x044, 4, 0, .ro, 0⟩
def LDP.LDP_STAT.RETRY_BUSY : RF := ⟨0x044, 9, 5, .ro, 0⟩
def LDP.LDP_STAT.BORROWED : RF := ⟨0x044, 14, 10, .ro, 0⟩
def LDP.LDP_STAT.QDEPTH : RF := ⟨0x044, 20, 15, .ro, 0⟩
def LDP.LDP_STAT.RDET_BUSY : RF := ⟨0x044, 22, 21, .ro, 0⟩
def LDP.LDP_STAT.FENCED : RF := ⟨0x044, 27, 23, .ro, 0⟩
def LDP.FENCE.DEC : RF := ⟨0x048, 19, 0, .rw, 0⟩
def LDP.LIVE_JOBS.COUNT : RF := ⟨0x04C, 31, 0, .rc, 0⟩
def LDP.RETRY_JOBS.COUNT : RF := ⟨0x050, 31, 0, .rc, 0⟩
def LDP.PREEMPT.COUNT : RF := ⟨0x054, 15, 0, .rc, 0⟩
def LDP.DEC_PERR.COUNT : RF := ⟨0x058, 15, 0, .rc, 0⟩
def LDP.DEC_LAST.DEC : RF := ⟨0x05C, 19, 0, .w1c, 0⟩
/-! ### Page ACT (R133) -/
def ACT.RD_CTL.ADAPT_EN : RF := ⟨0x080, 3, 3, .rw, 1⟩
def ACT.RD_CTL.DSET_LIVE : RF := ⟨0x080, 2, 1, .rw, 0⟩
def ACT.RD_CTL.RD_EN : RF := ⟨0x080, 0, 0, .rw, 0⟩
def ACT.NCO_STEP.STEP : RF := ⟨0x084, 23, 0, .rw, 0xe4c416⟩
def ACT.TR_GAIN.KP_ACQ : RF := ⟨0x088, 3, 0, .rwl, 3⟩
def ACT.TR_GAIN.KI_ACQ : RF := ⟨0x088, 7, 4, .rwl, 7⟩
def ACT.TR_GAIN.KP_TRK : RF := ⟨0x088, 11, 8, .rwl, 6⟩
def ACT.TR_GAIN.KI_TRK : RF := ⟨0x088, 15, 12, .rwl, 0xc⟩
def ACT.TR_GAIN.ACQ_LEN : RF := ⟨0x088, 23, 16, .rwl, 0x60⟩
def ACT.SYNC_WIN.HALF : RF := ⟨0x08C, 5, 0, .rwl, 0x20⟩
def ACT.SYNC_WIN.THRESH : RF := ⟨0x08C, 10, 8, .rwl, 4⟩
def ACT.SYNC_WIN.SHADOW_SPAN : RF := ⟨0x08C, 20, 16, .rwl, 8⟩
def ACT.SYNC_RES.OFFSET : RF := ⟨0x090, 6, 0, .ro, 0⟩
def ACT.SYNC_RES.ERRS : RF := ⟨0x090, 10, 8, .ro, 0⟩
def ACT.SYNC_RES.NCAND : RF := ⟨0x090, 29, 28, .ro, 0⟩
def ACT.SYNC_RES.MORE : RF := ⟨0x090, 30, 30, .ro, 0⟩
def ACT.SYNC_RES.MISSED : RF := ⟨0x090, 31, 31, .ro, 0⟩
def ACT.SYNC_CAND.CAND0_2 : RF := ⟨0x094, 29, 0, .ro, 0⟩
def ACT.FREQ_OFS.PPM : RF := ⟨0x098, 15, 0, .ro, 0⟩
def ACT.RING_STAT.PINNED : RF := ⟨0x09C, 3, 0, .ro, 0⟩
def ACT.RING_STAT.NEXT : RF := ⟨0x09C, 5, 4, .ro, 0⟩
def ACT.RING_STAT.DOUBLE : RF := ⟨0x09C, 6, 6, .ro, 0⟩
def ACT.LIVE_OK.COUNT : RF := ⟨0x0A0, 31, 0, .rc, 0⟩
def ACT.LIVE_FAIL.COUNT : RF := ⟨0x0A4, 15, 0, .rc, 0⟩
def ACT.SYNC_MISS.COUNT : RF := ⟨0x0A8, 15, 0, .rc, 0⟩
def ACT.RECOV_A.L1 : RF := ⟨0x0AC, 15, 0, .rc, 0⟩
def ACT.RECOV_A.L2 : RF := ⟨0x0AC, 31, 16, .rc, 0⟩
def ACT.RECOV_B.L3 : RF := ⟨0x0B0, 15, 0, .rc, 0⟩
def ACT.RECOV_B.L45 : RF := ⟨0x0B0, 31, 16, .rc, 0⟩
def ACT.UNREC.EXHAUSTED : RF := ⟨0x0B4, 15, 0, .rc, 0⟩
def ACT.UNREC.STALE : RF := ⟨0x0B4, 31, 16, .rc, 0⟩
def ACT.WEDGE_BAD.WEDGE : RF := ⟨0x0B8, 15, 0, .rc, 0⟩
def ACT.WEDGE_BAD.RING_ABANDON : RF := ⟨0x0B8, 31, 16, .rc, 0⟩
def ACT.ITER_LAST.ITER : RF := ⟨0x0BC, 5, 0, .ro, 0⟩
def ACT.ITER_LAST.CONV : RF := ⟨0x0BC, 6, 6, .ro, 0⟩
def ACT.ITER_LAST.UNSAT : RF := ⟨0x0BC, 27, 16, .ro, 0⟩
def ACT.CLIP_CNT.COUNT : RF := ⟨0x0C0, 31, 0, .rc, 0⟩
def ACT.QM_CTL.HEAD : RF := ⟨0x0C4, 3, 0, .rw, 0⟩
def ACT.QM_CTL.CLEAR : RF := ⟨0x0C4, 8, 8, .act, 0⟩
def ACT.PB_BASE.BASE : RF := ⟨0x0C8, 63, 8, .rwl, 0⟩
def ACT.QM_BITS.COUNT : RF := ⟨0x0D0, 63, 0, .ro, 0⟩
def ACT.QM_FLIPS.COUNT : RF := ⟨0x0D8, 63, 0, .ro, 0⟩
/-! ### Page FSQ (R159) -/
def FSQ.FSQ_STAT.ACTIVE : RF := ⟨0x040, 15, 0, .ro, 0⟩
def FSQ.FSQ_STAT.MCHK : RF := ⟨0x040, 31, 16, .ro, 0⟩
def FSQ.CS_CTL.LOAD_EN : RF := ⟨0x044, 0, 0, .rw, 0⟩
def FSQ.CS_CTL.REPAIR : RF := ⟨0x044, 1, 1, .rw, 0⟩
def FSQ.CS_CTL.DIGEST_CLR : RF := ⟨0x044, 2, 2, .act, 0⟩
def FSQ.CS_ADDR.ADDR : RF := ⟨0x048, 12, 0, .rw, 0⟩
def FSQ.CS_DATA0.DATA : RF := ⟨0x04C, 31, 0, .act, 0⟩
def FSQ.CS_DATA1.DATA : RF := ⟨0x050, 31, 0, .act, 0⟩
def FSQ.CS_DATA2.DATA : RF := ⟨0x054, 31, 0, .act, 0⟩
def FSQ.CS_DATA3.DATA : RF := ⟨0x058, 31, 0, .act, 0⟩
def FSQ.CS_DATA4.DATA : RF := ⟨0x05C, 31, 0, .act, 0⟩
def FSQ.CS_PERR.COUNT : RF := ⟨0x060, 15, 0, .rc, 0⟩
def FSQ.IMG_ID.ID : RF := ⟨0x064, 31, 0, .rwl, 0⟩
def FSQ.CS_DIGEST0.DIGEST : RF := ⟨0x068, 31, 0, .ro, 0⟩
def FSQ.CS_DIGEST1.DIGEST : RF := ⟨0x06C, 31, 0, .ro, 0⟩
def FSQ.CS_DIGEST2.DIGEST : RF := ⟨0x070, 31, 0, .ro, 0⟩
def FSQ.CS_DIGEST3.DIGEST : RF := ⟨0x074, 31, 0, .ro, 0⟩
def FSQ.CS_DIGEST4.DIGEST : RF := ⟨0x078, 31, 0, .ro, 0⟩
def FSQ.CS_DIGEST5.DIGEST : RF := ⟨0x07C, 31, 0, .ro, 0⟩
def FSQ.CS_DIGEST6.DIGEST : RF := ⟨0x080, 31, 0, .ro, 0⟩
def FSQ.CS_DIGEST7.DIGEST : RF := ⟨0x084, 31, 0, .ro, 0⟩
def FSQ.ZT_ADDR.ZONE : RF := ⟨0x088, 4, 0, .rw, 0⟩
def FSQ.ZT_ADDR.THREAD : RF := ⟨0x088, 11, 8, .rw, 0⟩
def FSQ.ZT_ADDR.PRESENT : RF := ⟨0x088, 20, 16, .ro, 0⟩
def FSQ.ZT_DATA0.FIRST_TILE : RF := ⟨0x08C, 23, 0, .rw, 0⟩
def FSQ.ZT_DATA1.RATE : RF := ⟨0x090, 12, 0, .rw, 0⟩
def FSQ.ZT_DATA1.SPT : RF := ⟨0x090, 31, 16, .rw, 0⟩
def FSQ.ZT_DATA2.TPT : RF := ⟨0x094, 15, 0, .rw, 0⟩
def FSQ.ZT_DATA2.GUARD : RF := ⟨0x094, 19, 16, .rw, 0⟩
def FSQ.ZT_DATA3.FIRST_TRACK : RF := ⟨0x098, 31, 0, .rw, 0⟩
/-! ### Page ACT (R160) -/
def ACT.SQ_CTL.START : RF := ⟨0x100, 28, 16, .rwl, 0⟩
def ACT.SQ_CTL.ABORT : RF := ⟨0x100, 3, 3, .w1s, 0⟩
def ACT.SQ_CTL.EXT : RF := ⟨0x100, 2, 2, .rwl, 0⟩
def ACT.SQ_CTL.HALT : RF := ⟨0x100, 1, 1, .act, 0⟩
def ACT.SQ_CTL.RUN : RF := ⟨0x100, 0, 0, .act, 0⟩
def ACT.SQ_STAT.PC : RF := ⟨0x104, 12, 0, .ro, 0⟩
def ACT.SQ_STAT.STATE : RF := ⟨0x104, 17, 16, .ro, 0⟩
def ACT.SQ_STAT.EXT : RF := ⟨0x104, 18, 18, .ro, 0⟩
def ACT.SQ_STAT.WINH : RF := ⟨0x104, 19, 19, .ro, 0⟩
def ACT.SQ_STAT.WG_EFF : RF := ⟨0x104, 20, 20, .ro, 0⟩
def ACT.SQ_STAT.GATE : RF := ⟨0x104, 21, 21, .ro, 0⟩
def ACT.SQ_STAT.DEPTH : RF := ⟨0x104, 24, 22, .ro, 0⟩
def ACT.SQ_MCA.ADDR : RF := ⟨0x108, 12, 0, .ro, 0⟩
def ACT.SQ_MCA.CAUSE : RF := ⟨0x108, 19, 16, .ro, 0⟩
def ACT.SQ_MCA.PGRP : RF := ⟨0x108, 27, 20, .ro, 0⟩
def ACT.SQ_WORD0.WORD : RF := ⟨0x10C, 31, 0, .ro, 0⟩
def ACT.SQ_WORD1.WORD : RF := ⟨0x110, 31, 0, .ro, 0⟩
def ACT.SQ_WORD2.WORD : RF := ⟨0x114, 31, 0, .ro, 0⟩
def ACT.SQ_WORD3.WORD : RF := ⟨0x118, 31, 0, .ro, 0⟩
def ACT.SQ_WORD4.WORD : RF := ⟨0x11C, 31, 0, .ro, 0⟩
def ACT.TGT.V : RF := ⟨0x120, 63, 0, .ro, 0⟩
def ACT.SLOT.V : RF := ⟨0x128, 23, 0, .ro, 0⟩
def ACT.LC.V : RF := ⟨0x12C, 23, 0, .ro, 0⟩
def ACT.T0.V : RF := ⟨0x130, 23, 0, .ro, 0⟩
def ACT.T1_FLAGS.T1 : RF := ⟨0x134, 15, 0, .ro, 0⟩
def ACT.T1_FLAGS.F : RF := ⟨0x134, 22, 16, .ro, 0⟩
def ACT.VOID_CNT.VOIDS : RF := ⟨0x138, 15, 0, .rc, 0⟩
def ACT.VOID_CNT.DROPS : RF := ⟨0x138, 31, 16, .rc, 0⟩
def ACT.MCHK_CNT.MCHK : RF := ⟨0x13C, 15, 0, .rc, 0⟩
def ACT.MCHK_CNT.JOBS : RF := ⟨0x13C, 31, 16, .rc, 0⟩
/-! ### Page SVE (R187) -/
def SVE.LOOP_CTL.STATE : RF := ⟨0x040, 1, 0, .ro, 0⟩
def SVE.LOOP_CTL.SPREAD : RF := ⟨0x040, 8, 8, .rwl, 0⟩
def SVE.ENG_STAT.CLOSED : RF := ⟨0x044, 7, 0, .ro, 0⟩
def SVE.ENG_STAT.WINH : RF := ⟨0x044, 15, 8, .ro, 0xff⟩
def SVE.ENG_STAT.SHOCK : RF := ⟨0x044, 19, 16, .ro, 0⟩
def SVE.MEM_ADDR.INDEX : RF := ⟨0x048, 11, 0, .rw, 0⟩
def SVE.MEM_ADDR.MEM : RF := ⟨0x048, 18, 16, .rw, 0⟩
def SVE.MEM_ADDR.ACT : RF := ⟨0x048, 22, 20, .rw, 0⟩
def SVE.MEM_DATA.DATA : RF := ⟨0x04C, 31, 0, .rw, 0⟩
def SVE.MEM_ECC.CE : RF := ⟨0x050, 15, 0, .rc, 0⟩
def SVE.MEM_ECC.UE : RF := ⟨0x050, 31, 16, .rc, 0⟩
def SVE.MAX_LAT.CYCLES : RF := ⟨0x054, 15, 0, .rc, 0⟩
def SVE.TR_CTL.ARM : RF := ⟨0x060, 0, 0, .act, 0⟩
def SVE.TR_CTL.STOP : RF := ⟨0x060, 1, 1, .act, 0⟩
def SVE.TR_CTL.MODE : RF := ⟨0x060, 2, 2, .rw, 0⟩
def SVE.TR_CTL.CLK_ACT : RF := ⟨0x060, 5, 3, .rw, 0⟩
def SVE.TR_CTL.CLK_SPM : RF := ⟨0x060, 6, 6, .rw, 0⟩
def SVE.TR_CTL.DECIM : RF := ⟨0x060, 11, 8, .rw, 0⟩
def SVE.TR_CTL.PRE : RF := ⟨0x060, 27, 16, .rw, 0⟩
def SVE.TR_SRC_LO.SRC0_3 : RF := ⟨0x064, 31, 0, .rw, 0⟩
def SVE.TR_SRC_HI.SRC4_7 : RF := ⟨0x068, 31, 0, .rw, 0⟩
def SVE.TR_TRIG.CH : RF := ⟨0x06C, 2, 0, .rw, 0⟩
def SVE.TR_TRIG.KIND : RF := ⟨0x06C, 6, 4, .rw, 0⟩
def SVE.TR_TRIG.EVENT : RF := ⟨0x06C, 12, 8, .rw, 0⟩
def SVE.TR_THRESH.THRESH : RF := ⟨0x070, 31, 0, .rw, 0⟩
def SVE.TR_SEC.VSEC : RF := ⟨0x074, 3, 0, .rw, 0⟩
def SVE.TR_SEC.MSEC : RF := ⟨0x074, 10, 8, .rw, 0⟩
def SVE.TR_STAT.STATE : RF := ⟨0x078, 1, 0, .ro, 0⟩
def SVE.TR_STAT.COUNT : RF := ⟨0x078, 15, 3, .ro, 0⟩
def SVE.TR_STAT.TRIG_IDX : RF := ⟨0x078, 27, 16, .ro, 0⟩
def SVE.TR_TIME.INDEX : RF := ⟨0x07C, 63, 0, .ro, 0⟩
/-! ### Page ACT (R188) -/
def ACT.SV_CTL.STATE : RF := ⟨0x140, 2, 0, .ro, 0⟩
def ACT.SV_CTL.SET : RF := ⟨0x140, 5, 4, .rw, 0⟩
def ACT.SV_CTL.RRO_EN : RF := ⟨0x140, 6, 6, .rw, 1⟩
def ACT.SV_CTL.WI_PRED : RF := ⟨0x140, 7, 7, .rw, 0⟩
def ACT.SV_CTL.SET_VALID : RF := ⟨0x140, 10, 8, .rw, 0⟩
def ACT.SV_CTL.CP_VALID : RF := ⟨0x140, 11, 11, .rw, 0⟩
def ACT.SV_CTL.LOAD : RF := ⟨0x140, 12, 12, .act, 0⟩
def ACT.SV_CTL.UNLOAD : RF := ⟨0x140, 13, 13, .act, 0⟩
def ACT.SV_CTL.CLEAR : RF := ⟨0x140, 14, 14, .act, 0⟩
def ACT.SV_CTL.SEEK_DONE : RF := ⟨0x140, 15, 15, .ro, 0⟩
def ACT.SV_STAT.WINH_CAUSE : RF := ⟨0x144, 6, 0, .ro, 0x41⟩
def ACT.SV_STAT.WINH : RF := ⟨0x144, 7, 7, .ro, 1⟩
def ACT.SV_STAT.MISS : RF := ⟨0x144, 11, 8, .ro, 0⟩
def ACT.SV_STAT.WEDGE : RF := ⟨0x144, 25, 16, .ro, 0⟩
def ACT.SV_SEEK.TRACK : RF := ⟨0x148, 23, 0, .rw, 0⟩
def ACT.SV_SEEK.GO : RF := ⟨0x148, 31, 31, .act, 0⟩
def ACT.SV_TOFS.OFS : RF := ⟨0x14C, 31, 0, .rw, 0⟩
def ACT.SV_LIM.WI_LIM : RF := ⟨0x150, 15, 0, .rwl, 0x199a⟩
def ACT.SV_LIM.WI_REL : RF := ⟨0x150, 19, 16, .rwl, 2⟩
def ACT.SV_LIM.MISS_MAX : RF := ⟨0x150, 23, 20, .rwl, 4⟩
def ACT.SV_LIM.ACQ_N : RF := ⟨0x150, 27, 24, .rwl, 8⟩
def ACT.SV_FOLLOW.FOLLOW_LIM : RF := ⟨0x154, 15, 0, .rwl, 0x147b⟩
def ACT.SV_FOLLOW.FOLLOW_CNT : RF := ⟨0x154, 23, 16, .rwl, 8⟩
def ACT.SV_SETTLE.SETTLE_DIST : RF := ⟨0x158, 15, 0, .rwl, 0x200⟩
def ACT.SV_SETTLE.SETTLE_VEL : RF := ⟨0x158, 31, 16, .rwl, 0xccd⟩
def ACT.SV_SEEKCFG.DSHIFT : RF := ⟨0x15C, 4, 0, .rwl, 6⟩
def ACT.SV_SEEKCFG.BIAS_SH : RF := ⟨0x15C, 12, 8, .rwl, 0xa⟩
def ACT.SV_SEEKCFG.BIAS_EN : RF := ⟨0x15C, 13, 13, .rwl, 1⟩
def ACT.SV_SEEKCFG.SETTLE_TO : RF := ⟨0x15C, 31, 16, .rwl, 0x5a0⟩
def ACT.SV_SHOCK.SHOCK_ACC : RF := ⟨0x160, 15, 0, .rwl, 0xccd⟩
def ACT.SV_SHOCK.SHOCK_HOLD : RF := ⟨0x160, 23, 16, .rwl, 0x24⟩
def ACT.SV_SHOCK.SENS_ID : RF := ⟨0x160, 31, 24, .rwl, 0⟩
def ACT.SV_SENS.SENS_THR : RF := ⟨0x164, 15, 0, .rwl, 0⟩
def ACT.SV_LOAD.LOAD_CMD : RF := ⟨0x168, 17, 0, .rwl, 0⟩
def ACT.SV_TIMEOUT.LOAD_TO : RF := ⟨0x16C, 7, 0, .rwl, 0x1e⟩
def ACT.SV_TIMEOUT.LOST_TO : RF := ⟨0x16C, 15, 8, .rwl, 0x32⟩
def ACT.SV_TIMEOUT.UNLOAD_TO : RF := ⟨0x16C, 23, 16, .rwl, 0x32⟩
def ACT.SV_PES.PES : RF := ⟨0x170, 31, 0, .ro, 0⟩
def ACT.SV_POS.P : RF := ⟨0x174, 63, 0, .ro, 0⟩
def ACT.SV_VEL.V : RF := ⟨0x17C, 31, 0, .ro, 0⟩
def ACT.SV_OUT.VCM : RF := ⟨0x180, 17, 0, .ro, 0⟩
def ACT.SV_MA.MA : RF := ⟨0x184, 15, 0, .ro, 0⟩
def ACT.SV_MA.WEDGE : RF := ⟨0x184, 25, 16, .ro, 0⟩
def ACT.SV_CNT_A.WINH : RF := ⟨0x188, 15, 0, .rc, 0⟩
def ACT.SV_CNT_A.SHOCK : RF := ⟨0x188, 31, 16, .rc, 0⟩
def ACT.SV_CNT_B.LOST : RF := ⟨0x18C, 15, 0, .rc, 0⟩
def ACT.SV_CNT_B.LATE_INV : RF := ⟨0x18C, 31, 16, .rc, 0⟩
def ACT.SV_CNT_C.SEEKS : RF := ⟨0x190, 15, 0, .rc, 0⟩
def ACT.SV_CNT_C.SETTLE_FAIL : RF := ⟨0x190, 31, 16, .rc, 0⟩
def ACT.SV_CNT_D.COEF_REFUSED : RF := ⟨0x194, 15, 0, .rc, 0⟩
def ACT.SV_CNT_D.SAT : RF := ⟨0x194, 31, 16, .rc, 0⟩
/-! ### Page SPM (R209) -/
def SPM.SPM_STAT.RUN : RF := ⟨0x040, 3, 0, .ro, 0⟩
def SPM.SPM_STAT.AT_SPEED : RF := ⟨0x040, 7, 4, .ro, 0⟩
def SPM.SPM_STAT.START_PLACE : RF := ⟨0x040, 11, 8, .ro, 0⟩
def SPM.SPM_STAT.FAULT : RF := ⟨0x040, 15, 12, .ro, 0⟩
def SPM.SPM_STAGGER.START_MAX : RF := ⟨0x044, 4, 0, .rwl, 8⟩
def SPM.SPM_STAGGER.STARTING : RF := ⟨0x044, 12, 8, .ro, 0⟩
def SPM.MEM_ADDR.INDEX : RF := ⟨0x048, 8, 0, .rw, 0⟩
def SPM.MEM_ADDR.SLOT : RF := ⟨0x048, 13, 12, .rw, 0⟩
def SPM.MEM_DATA.COG : RF := ⟨0x04C, 15, 0, .rw, 0⟩
def SPM.MEM_ECC.CE : RF := ⟨0x050, 15, 0, .rc, 0⟩
def SPM.MEM_ECC.UE : RF := ⟨0x050, 31, 16, .rc, 0⟩
def SPM.OBS_LASTING.SLOT : RF := ⟨0x054, 3, 0, .w1c, 0⟩
/-! ### Page SPM (R210) -/
def SPM.SPk_CTL.STATE : RF := ⟨0x080, 3, 0, .ro, 0⟩
def SPM.SPk_CTL.START : RF := ⟨0x080, 4, 4, .act, 0⟩
def SPM.SPk_CTL.STOP : RF := ⟨0x080, 5, 5, .act, 0⟩
def SPM.SPk_CTL.CLEAR : RF := ⟨0x080, 6, 6, .act, 0⟩
def SPM.SPk_CTL.DOWN_MODE : RF := ⟨0x080, 7, 7, .rw, 0⟩
def SPM.SPk_CTL.AT_SPEED : RF := ⟨0x080, 8, 8, .ro, 0⟩
def SPM.SPk_CTL.INJECT : RF := ⟨0x080, 9, 9, .ro, 1⟩
def SPM.SPk_CTL.REVERSE : RF := ⟨0x080, 10, 10, .ro, 0⟩
def SPM.SPk_CTL.COG_EN : RF := ⟨0x080, 11, 11, .rw, 0⟩
def SPM.SPk_CTL.CAUSE : RF := ⟨0x080, 23, 16, .ro, 0⟩
def SPM.SPk_TARGET.RPM : RF := ⟨0x084, 12, 0, .rw, 0⟩
def SPM.SPk_TARGET.NOM_RPM : RF := ⟨0x084, 28, 16, .rwl, 0x1c20⟩
def SPM.SPk_SPEED.SPEED : RF := ⟨0x088, 31, 0, .ro, 0⟩
def SPM.SPk_ANGLE.THETA : RF := ⟨0x08C, 15, 0, .ro, 0⟩
def SPM.SPk_MOTOR.POLE_PAIRS : RF := ⟨0x090, 3, 0, .rwl, 4⟩
def SPM.SPk_MOTOR.ALIGN_T : RF := ⟨0x090, 15, 8, .rwl, 0x1e⟩
def SPM.SPk_MOTOR.RAMP_ACC : RF := ⟨0x090, 23, 16, .rwl, 0x3c⟩
def SPM.SPk_MOTOR.START_TO : RF := ⟨0x090, 31, 24, .rwl, 0x14⟩
def SPM.SPk_RL.R_MOHM : RF := ⟨0x094, 15, 0, .rwl, 0⟩
def SPM.SPk_RL.L_UH : RF := ⟨0x094, 31, 16, .rwl, 0⟩
def SPM.SPk_KE.KE : RF := ⟨0x098, 15, 0, .rwl, 0⟩
def SPM.SPk_KE.VBUS : RF := ⟨0x098, 31, 16, .rwl, 0x2ee0⟩
def SPM.SPk_CURPI.CUR_KP : RF := ⟨0x09C, 15, 0, .rwl, 0⟩
def SPM.SPk_CURPI.CUR_KI : RF := ⟨0x09C, 31, 16, .rwl, 0⟩
def SPM.SPk_SPDPI.SPD_KP : RF := ⟨0x0A0, 15, 0, .rwl, 0⟩
def SPM.SPk_SPDPI.SPD_KI : RF := ⟨0x0A0, 31, 16, .rwl, 0⟩
def SPM.SPk_LIMITS.IQ_RUN : RF := ⟨0x0A4, 15, 0, .rwl, 0x4b0⟩
def SPM.SPk_LIMITS.IQ_START : RF := ⟨0x0A4, 31, 16, .rwl, 0xbb8⟩
def SPM.SPk_OBS.RES_LIM : RF := ⟨0x0A8, 15, 0, .rwl, 0x190⟩
def SPM.SPk_OBS.OBS_SH : RF := ⟨0x0A8, 20, 16, .rwl, 6⟩
def SPM.SPk_HAND.HAND_UP : RF := ⟨0x0AC, 15, 0, .rwl, 0x12c⟩
def SPM.SPk_HAND.HAND_DN : RF := ⟨0x0AC, 31, 16, .rwl, 0xc8⟩
def SPM.SPk_ACC.ACC_MAX : RF := ⟨0x0B0, 7, 0, .rwl, 0x78⟩
def SPM.SPk_CNT_A.OBS_LOST : RF := ⟨0x0B4, 15, 0, .rc, 0⟩
def SPM.SPk_CNT_A.REACQ : RF := ⟨0x0B4, 31, 16, .rc, 0⟩
def SPM.SPk_CNT_B.STARTS : RF := ⟨0x0B8, 15, 0, .rc, 0⟩
def SPM.SPk_CNT_B.FAULTS : RF := ⟨0x0B8, 31, 16, .rc, 0⟩
def SPM.SPk_IQD.IQ : RF := ⟨0x0BC, 15, 0, .ro, 0⟩
def SPM.SPk_IQD.ID : RF := ⟨0x0BC, 31, 16, .ro, 0⟩
/-! ### Page CAL (R232) -/
def CAL.CAL_CTL.HU_GO : RF := ⟨0x040, 0, 0, .act, 0⟩
def CAL.CAL_CTL.REF_GO : RF := ⟨0x040, 1, 1, .act, 0⟩
def CAL.CAL_CTL.HU_PERIOD : RF := ⟨0x040, 15, 8, .rwl, 0x18⟩
def CAL.CAL_CTL.REF_PERIOD : RF := ⟨0x040, 23, 16, .rwl, 0xa⟩
def CAL.CAL_STAT.VREF_VALID : RF := ⟨0x044, 0, 0, .ro, 0⟩
def CAL.CAL_STAT.FREF_PRESENT : RF := ⟨0x044, 1, 1, .ro, 0⟩
def CAL.CAL_STAT.HU_VALID : RF := ⟨0x044, 2, 2, .ro, 0⟩
def CAL.CAL_STAT.HU_BUSY : RF := ⟨0x044, 3, 3, .ro, 0⟩
def CAL.CAL_STAT.HU_LOWER : RF := ⟨0x044, 4, 4, .ro, 0⟩
def CAL.CAL_STAT.ADC_DEGRADED : RF := ⟨0x044, 5, 5, .ro, 0⟩
def CAL.CAL_STAT.OSC_DEGRADED : RF := ⟨0x044, 6, 6, .ro, 0⟩
def CAL.CAL_STAT.ADC_FAILED : RF := ⟨0x044, 7, 7, .ro, 0⟩
def CAL.CAL_STAT.ADC_SEL : RF := ⟨0x044, 9, 8, .ro, 0⟩
def CAL.CAL_STAT.OSC_SEL : RF := ⟨0x044, 11, 10, .ro, 0⟩
def CAL.VREF_MEAS.VREF : RF := ⟨0x048, 15, 0, .ro, 0⟩
def CAL.XTAL_PPM.PPM : RF := ⟨0x04C, 15, 0, .ro, 0⟩
def CAL.ADC_TRIM.GAIN : RF := ⟨0x050, 9, 0, .ro, 0⟩
def CAL.ADC_TRIM.OFFSET : RF := ⟨0x050, 23, 16, .ro, 0⟩
def CAL.OSC_TRIM.TRIM : RF := ⟨0x054, 7, 0, .ro, 0x80⟩
def CAL.HU_C.C : RF := ⟨0x058, 23, 0, .ro, 0⟩
def CAL.HU_E.E : RF := ⟨0x05C, 23, 0, .ro, 0⟩
def CAL.HU_ESR.ESR : RF := ⟨0x060, 15, 0, .ro, 0⟩
def CAL.HU_AGE.HOURS : RF := ⟨0x064, 15, 0, .ro, 0xffff⟩
def CAL.CAL_CNT.DISAGREE : RF := ⟨0x068, 15, 0, .rc, 0⟩
def CAL.CAL_CNT.HU_RUNS : RF := ⟨0x068, 31, 16, .rc, 0⟩
/-! ### Page ASC (R233) -/
def ASC.ASC_CFG.QC_TILES : RF := ⟨0x040, 7, 0, .rwl, 0x40⟩
def ASC.ASC_CFG.QM_HI : RF := ⟨0x040, 15, 8, .rwl, 0x20⟩
def ASC.ASC_CFG.QM_LO : RF := ⟨0x040, 23, 16, .rwl, 4⟩
def ASC.ASC_CFG.MARGIN : RF := ⟨0x040, 27, 24, .rwl, 2⟩
def ASC.ASC_CFG2.VERIFY_N : RF := ⟨0x044, 11, 0, .rwl, 0x200⟩
def ASC.ASC_CFG2.SWEEP_STEP : RF := ⟨0x044, 19, 12, .rwl, 0x40⟩
def ASC.ASC_CFG2.SWEEP_PTS : RF := ⟨0x044, 23, 20, .rwl, 4⟩
def ASC.ASC_CFG2.OFS_MAX : RF := ⟨0x044, 31, 24, .rwl, 0x40⟩
def ASC.TBL_BASE.BASE : RF := ⟨0x048, 63, 8, .rwl, 0⟩
def ASC.TEMP_ID.SENSOR : RF := ⟨0x050, 7, 0, .rwl, 0⟩
def ASC.ASC_STAT.RECAL_BUSY : RF := ⟨0x054, 7, 0, .ro, 0⟩
def ASC.ASC_STAT.QC_BUSY : RF := ⟨0x054, 15, 8, .ro, 0⟩
def ASC.HM_SEL.ACT : RF := ⟨0x058, 6, 0, .rw, 0⟩
def ASC.HM_SEL.HEAD : RF := ⟨0x058, 11, 8, .rw, 0⟩
def ASC.HM_RISE.RISE : RF := ⟨0x05C, 15, 0, .ro, 0⟩
def ASC.HM_RISE.DUTY : RF := ⟨0x05C, 26, 16, .ro, 0⟩
def ASC.HM_LEVEL.LEVEL : RF := ⟨0x060, 11, 0, .ro, 0⟩
def ASC.HM_LEVEL.T_HDA : RF := ⟨0x060, 31, 16, .ro, 0⟩
def ASC.ASC_CNT_A.CHECKS : RF := ⟨0x064, 15, 0, .rc, 0⟩
def ASC.ASC_CNT_A.DRIFTS : RF := ⟨0x064, 31, 16, .rc, 0⟩
def ASC.ASC_CNT_B.RECALS : RF := ⟨0x068, 15, 0, .rc, 0⟩
def ASC.ASC_CNT_B.RECAL_FAIL : RF := ⟨0x068, 31, 16, .rc, 0⟩
def ASC.ASC_CNT_C.FULL_RECALS : RF := ⟨0x06C, 15, 0, .rc, 0⟩
def ASC.ASC_CNT_C.CLAMPS : RF := ⟨0x06C, 31, 16, .rc, 0⟩
/-! ### Page MSN (R271) -/
def MSN.MSN_CFG.REPL_EN : RF := ⟨0x040, 0, 0, .rwl, 1⟩
def MSN.MSN_CFG.COMPACT_EN : RF := ⟨0x040, 1, 1, .rwl, 1⟩
def MSN.MSN_CFG.REBUILD_EN : RF := ⟨0x040, 2, 2, .rwl, 1⟩
def MSN.MSN_CFG.BG_HOLD : RF := ⟨0x040, 3, 3, .rw, 0⟩
def MSN.MSN_CFG.RB_BIAS : RF := ⟨0x040, 15, 8, .rwl, 0x18⟩
def MSN.MSN_CFG.REREAD_MAX : RF := ⟨0x040, 19, 16, .rwl, 1⟩
def MSN.MSN_CFG.REBUILD_DELAY : RF := ⟨0x040, 31, 24, .rwl, 0x3c⟩
def MSN.MSN_WEIGHT.W_Q : RF := ⟨0x044, 7, 0, .rwl, 0x10⟩
def MSN.MSN_WEIGHT.W_T : RF := ⟨0x044, 15, 8, .rwl, 8⟩
def MSN.MSN_WEIGHT.W_C : RF := ⟨0x044, 23, 16, .rwl, 4⟩
def MSN.MSN_WEIGHT.W_W : RF := ⟨0x044, 31, 24, .rwl, 4⟩
def MSN.MSN_HEAT.HEAT_PERIOD : RF := ⟨0x048, 7, 0, .rwl, 8⟩
def MSN.MSN_HOT.HOT_ON : RF := ⟨0x04C, 15, 0, .rwl, 0x800⟩
def MSN.MSN_HOT.HOT_OFF : RF := ⟨0x04C, 31, 16, .rwl, 0x100⟩
def MSN.POOL_SEL.POOL : RF := ⟨0x050, 2, 0, .rw, 0⟩
def MSN.POOL_CFG.GEOM : RF := ⟨0x054, 3, 0, .rwl, 1⟩
def MSN.POOL_CFG.REPL_GEOM : RF := ⟨0x054, 7, 4, .rwl, 5⟩
def MSN.POOL_CFG.OPEN_MAX : RF := ⟨0x054, 12, 8, .rwl, 4⟩
def MSN.POOL_CFG.REPL_PCT : RF := ⟨0x054, 23, 16, .rwl, 0xc⟩
def MSN.POOL_CFG.RESERVE_PCT : RF := ⟨0x054, 31, 24, .rwl, 8⟩
def MSN.POOL_SLOTS.SLOTS : RF := ⟨0x058, 63, 0, .rwl, 0⟩
def MSN.POOL_COMPACT.START : RF := ⟨0x060, 7, 0, .rwl, 0xa⟩
def MSN.POOL_COMPACT.STOP : RF := ⟨0x060, 15, 8, .rwl, 0xf⟩
def MSN.POOL_COMPACT.URGENT : RF := ⟨0x060, 23, 16, .rwl, 3⟩
def MSN.POOL_SHARE.REBUILD : RF := ⟨0x064, 3, 0, .rwl, 8⟩
def MSN.POOL_SHARE.COMPACT : RF := ⟨0x064, 7, 4, .rwl, 4⟩
def MSN.POOL_SHARE.DRAIN : RF := ⟨0x064, 11, 8, .rwl, 4⟩
def MSN.POOL_SHARE.URGENT : RF := ⟨0x064, 15, 12, .rwl, 0xc⟩
def MSN.POOL_STAT.CLUSTER_LOSS_COVERED : RF := ⟨0x068, 0, 0, .ro, 0⟩
def MSN.POOL_STAT.REFUSED : RF := ⟨0x068, 1, 1, .w1c, 0⟩
def MSN.POOL_STAT.FREE_PCT : RF := ⟨0x068, 15, 8, .ro, 0⟩
def MSN.POOL_STAT.OPEN : RF := ⟨0x068, 20, 16, .ro, 0⟩
def MSN.POOL_COURSES.DEGRADED : RF := ⟨0x06C, 22, 0, .ro, 0⟩
def MSN.SLOT_SEL.SLOT : RF := ⟨0x070, 5, 0, .rw, 0⟩
def MSN.SLOT_CTL.DRAIN : RF := ⟨0x074, 0, 0, .act, 0⟩
def MSN.SLOT_CTL.CANCEL : RF := ⟨0x074, 1, 1, .act, 0⟩
def MSN.SLOT_CTL.EXCLUDE : RF := ⟨0x074, 2, 2, .rwl, 0⟩
def MSN.SLOT_STAT.STATE : RF := ⟨0x078, 2, 0, .ro, 0⟩
def MSN.SLOT_STAT.POOL : RF := ⟨0x078, 6, 4, .ro, 0⟩
def MSN.SLOT_STAT.IN_POOL : RF := ⟨0x078, 7, 7, .ro, 0⟩
def MSN.SLOT_Q.Q_A : RF := ⟨0x07C, 15, 0, .ro, 0⟩
def MSN.SLOT_Q.Q_B : RF := ⟨0x07C, 31, 16, .ro, 0⟩
def MSN.SEEK_ADDR.INDEX : RF := ⟨0x080, 4, 0, .rw, 0⟩
def MSN.SEEK_DATA.US : RF := ⟨0x084, 15, 0, .rw, 0⟩
def MSN.REPL_CNT.CREATED : RF := ⟨0x088, 15, 0, .rc, 0⟩
def MSN.REPL_CNT.DROPPED : RF := ⟨0x088, 31, 16, .rc, 0⟩
def MSN.DECIDE_CNT.REREADS : RF := ⟨0x08C, 15, 0, .rc, 0⟩
def MSN.DECIDE_CNT.REBUILDS : RF := ⟨0x08C, 31, 16, .rc, 0⟩
def MSN.REBUILT.BRICKS : RF := ⟨0x090, 63, 0, .ro, 0⟩
def MSN.MOVED.BRICKS : RF := ⟨0x098, 63, 0, .ro, 0⟩
def MSN.UNREC_CNT.BRICKS : RF := ⟨0x0A0, 31, 0, .rc, 0⟩
/-! ### Page MAP (R272) -/
def MAP.MAP_BASE.BASE : RF := ⟨0x040, 63, 12, .rwl, 0⟩
def MAP.MAP_ENTRIES.N : RF := ⟨0x048, 26, 0, .rwl, 0⟩
def MAP.CT_BASE.BASE : RF := ⟨0x04C, 63, 12, .rwl, 0⟩
def MAP.CT_COURSES.N : RF := ⟨0x054, 22, 0, .rwl, 0⟩
def MAP.TT_BASE.BASE : RF := ⟨0x058, 63, 12, .rwl, 0⟩
def MAP.VT_BASE.BASE : RF := ⟨0x060, 63, 12, .rwl, 0⟩
def MAP.VT_ENTRIES.N : RF := ⟨0x068, 22, 0, .rwl, 0⟩
def MAP.JRN_BASE.BASE : RF := ⟨0x06C, 63, 12, .rwl, 0⟩
def MAP.JRN_SIZE.MIB : RF := ⟨0x074, 12, 0, .rwl, 0⟩
def MAP.CKPT_CFG.CKPT_MIN : RF := ⟨0x078, 7, 0, .rwl, 0x1e⟩
def MAP.CKPT_CFG.JRN_HIGH : RF := ⟨0x078, 15, 8, .rwl, 0x4b⟩
def MAP.JSEQ_APPENDED.JSEQ : RF := ⟨0x07C, 63, 0, .ro, 0⟩
def MAP.JSEQ_PERSISTED.JSEQ : RF := ⟨0x084, 63, 0, .ro, 0⟩
def MAP.CKPT_JSEQ.S : RF := ⟨0x08C, 63, 0, .ro, 0⟩
def MAP.WALK_CNT.LOOKUPS : RF := ⟨0x094, 63, 0, .rc, 0⟩
def MAP.WALK_MAX.NS : RF := ⟨0x09C, 15, 0, .rc, 0⟩
/-! ### Page MOR (R273) -/
def MOR.MOR_STAT.ENC_BUSY : RF := ⟨0x040, 5, 0, .ro, 0⟩
def MOR.MOR_STAT.DEC_BUSY : RF := ⟨0x040, 11, 6, .ro, 0⟩
def MOR.ENC_ROWS.ROWS : RF := ⟨0x044, 63, 0, .ro, 0⟩
def MOR.DEC_ROWS.ROWS : RF := ⟨0x04C, 63, 0, .ro, 0⟩
def MOR.SRAM_CE.COUNT : RF := ⟨0x054, 15, 0, .rc, 0⟩
/-! ### Page PCX (R313) -/
def PCX.PCX_MODE.BIF : RF := ⟨0x040, 0, 0, .ro, 0⟩
def PCX.PCX_MODE.SRIS : RF := ⟨0x040, 1, 1, .ro, 0⟩
def PCX.P0_LINK.DL_UP : RF := ⟨0x044, 0, 0, .ro, 0⟩
def PCX.P1_LINK.DL_UP : RF := ⟨0x048, 0, 0, .ro, 0⟩
def PCX.P0_LINK.SPEED : RF := ⟨0x044, 3, 1, .ro, 0⟩
def PCX.P1_LINK.SPEED : RF := ⟨0x048, 3, 1, .ro, 0⟩
def PCX.P0_LINK.WIDTH : RF := ⟨0x044, 8, 4, .ro, 0⟩
def PCX.P1_LINK.WIDTH : RF := ⟨0x048, 8, 4, .ro, 0⟩
def PCX.P0_LINK.PM : RF := ⟨0x044, 10, 9, .ro, 0⟩
def PCX.P1_LINK.PM : RF := ⟨0x048, 10, 9, .ro, 0⟩
def PCX.P0_LINK.LTSSM : RF := ⟨0x044, 19, 16, .ro, 0⟩
def PCX.P1_LINK.LTSSM : RF := ⟨0x048, 19, 16, .ro, 0⟩
def PCX.P0_ERR.CORR : RF := ⟨0x04C, 15, 0, .rc, 0⟩
def PCX.P0_ERR.RECOV : RF := ⟨0x04C, 31, 16, .rc, 0⟩
def PCX.P1_ERR.CORR : RF := ⟨0x050, 15, 0, .rc, 0⟩
def PCX.P1_ERR.RECOV : RF := ⟨0x050, 31, 16, .rc, 0⟩
def PCX.P0_UNC.UNCORR : RF := ⟨0x054, 15, 0, .rc, 0⟩
def PCX.P1_UNC.UNCORR : RF := ⟨0x058, 15, 0, .rc, 0⟩
def PCX.PCX_TARGET.MAX_SPEED : RF := ⟨0x05C, 2, 0, .rwl, 5⟩
/-! ### Page NVE (R314) -/
def NVE.NVE_STAT.RDY0 : RF := ⟨0x040, 0, 0, .ro, 0⟩
def NVE.NVE_STAT.RDY1 : RF := ⟨0x040, 1, 1, .ro, 0⟩
def NVE.NVE_STAT.FETCH_STOPPED : RF := ⟨0x040, 2, 2, .ro, 0⟩
def NVE.NVE_STAT.FW_ACT : RF := ⟨0x040, 3, 3, .ro, 0⟩
def NVE.NVE_STAT.SANITIZE : RF := ⟨0x040, 4, 4, .ro, 0⟩
def NVE.NVE_INFLIGHT.COUNT : RF := ⟨0x044, 16, 0, .ro, 0⟩
def NVE.NVE_VFS.VF0 : RF := ⟨0x048, 6, 0, .ro, 0⟩
def NVE.NVE_VFS.VF1 : RF := ⟨0x048, 22, 16, .ro, 0⟩
def NVE.NVE_QUEUES.SQ0 : RF := ⟨0x04C, 15, 0, .ro, 0⟩
def NVE.NVE_QUEUES.SQ1 : RF := ⟨0x04C, 31, 16, .ro, 0⟩
def NVE.NVE_DONE.COUNT : RF := ⟨0x050, 63, 0, .ro, 0⟩
def NVE.NVE_ERR.ERRORS : RF := ⟨0x058, 15, 0, .rc, 0⟩
def NVE.NVE_ERR.ABORTS : RF := ⟨0x058, 31, 16, .rc, 0⟩
def NVE.NVE_QUIESCE.LAST_MS : RF := ⟨0x05C, 15, 0, .ro, 0⟩
def NVE.NVE_QUIESCE.MAX_MS : RF := ⟨0x05C, 31, 16, .rc, 0⟩
/-! ### Page SBI (R315) -/
def SBI.SBI_CFG.SMB_ADDR : RF := ⟨0x040, 6, 0, .rwl, 0x1d⟩
def SBI.SBI_CFG.SMB_EN : RF := ⟨0x040, 8, 8, .rwl, 1⟩
def SBI.SBI_CFG.I3C_EN : RF := ⟨0x040, 9, 9, .rwl, 1⟩
def SBI.SBI_CFG.PEC_REQ : RF := ⟨0x040, 10, 10, .rwl, 1⟩
def SBI.SBI_STAT.DA_VALID : RF := ⟨0x044, 0, 0, .ro, 0⟩
def SBI.SBI_STAT.DA : RF := ⟨0x044, 7, 1, .ro, 0⟩
def SBI.SBI_STAT.BUSY : RF := ⟨0x044, 8, 8, .ro, 0⟩
def SBI.SBI_MSG.MSGS : RF := ⟨0x048, 15, 0, .rc, 0⟩
def SBI.SBI_MSG.DROPPED : RF := ⟨0x048, 31, 16, .rc, 0⟩
def SBI.SBI_TO.TIMEOUT : RF := ⟨0x04C, 7, 0, .rwl, 0x23⟩
/-! ### Page DMC (R343) -/
def DMC.DMC_STAT.CH_UP : RF := ⟨0x040, 15, 0, .ro, 0⟩
def DMC.DMC_STAT.INIT_DONE : RF := ⟨0x040, 16, 16, .ro, 0⟩
def DMC.DMC_STAT.SELFTEST_FAIL : RF := ⟨0x040, 17, 17, .ro, 0⟩
def DMC.DMC_STAT.SELF_REFRESH : RF := ⟨0x040, 18, 18, .ro, 0⟩
def DMC.DMC_BYTES.BYTES : RF := ⟨0x044, 63, 0, .ro, 0⟩
def DMC.DMC_RMW.COUNT : RF := ⟨0x04C, 31, 0, .rc, 0⟩
def DMC.DMC_TREF.TREF0_3 : RF := ⟨0x050, 31, 0, .ro, 0⟩
/-! ### Page MPS (R344) -/
def MPS.SCRUB_CFG.EN : RF := ⟨0x040, 0, 0, .rwl, 1⟩
def MPS.SCRUB_CFG.LAP_H : RF := ⟨0x040, 15, 8, .rwl, 4⟩
def MPS.SCRUB_STAT.PROGRESS : RF := ⟨0x044, 7, 0, .ro, 0⟩
def MPS.SCRUB_STAT.LAST_LAP : RF := ⟨0x044, 23, 8, .ro, 0⟩
def MPS.SCRUB_STAT.LATE : RF := ⟨0x044, 24, 24, .ro, 0⟩
def MPS.SCRUB_LAPS.LAPS : RF := ⟨0x048, 15, 0, .rc, 0⟩
def MPS.ERR_INFO.REGION : RF := ⟨0x04C, 3, 0, .ro, 0⟩
def MPS.ERR_INFO.SOURCE : RF := ⟨0x04C, 5, 4, .ro, 0⟩
def MPS.ERR_ADDR.LINE : RF := ⟨0x050, 35, 6, .ro, 0⟩
def MPS.DV_ADDR.ADDR : RF := ⟨0x058, 35, 2, .rw, 0⟩
def MPS.DV_DATA.DATA : RF := ⟨0x060, 31, 0, .rw, 0⟩
def MPS.RGN_SEL.REGION : RF := ⟨0x064, 3, 0, .rw, 0⟩
def MPS.RGN_CFG.VALID : RF := ⟨0x068, 0, 0, .rwl, 0⟩
def MPS.RGN_CFG.CODE : RF := ⟨0x068, 2, 1, .rwl, 0⟩
def MPS.RGN_CFG.OWNER : RF := ⟨0x068, 7, 4, .rwl, 0⟩
def MPS.RGN_CFG.VIEW : RF := ⟨0x068, 8, 8, .rwl, 0⟩
def MPS.RGN_GEOM.BASE : RF := ⟨0x06C, 12, 0, .rwl, 0⟩
def MPS.RGN_GEOM.SIZE : RF := ⟨0x06C, 28, 16, .rwl, 0⟩
def MPS.RGN_RAW.RAW_BASE : RF := ⟨0x070, 15, 0, .rwl, 0⟩
def MPS.RGN_STAT.RAW_MIB : RF := ⟨0x074, 16, 0, .ro, 0⟩
def MPS.RGN_STAT.WIPING : RF := ⟨0x074, 17, 17, .ro, 0⟩
def MPS.RGN_STAT.REFUSED : RF := ⟨0x074, 18, 18, .w1c, 0⟩
def MPS.RGN_CE.CE : RF := ⟨0x078, 31, 0, .rc, 0⟩
def MPS.RGN_UE.UE : RF := ⟨0x07C, 15, 0, .rc, 0⟩
def MPS.RGN_UE.POISONED : RF := ⟨0x07C, 31, 16, .rc, 0⟩
/-! ### Page SCC (R345) -/
def SCC.SCC_CTL.SIZE : RF := ⟨0x040, 2, 0, .rwl, 5⟩
def SCC.SCC_CTL.DISABLE : RF := ⟨0x040, 8, 8, .rw, 0⟩
def SCC.SCC_STAT.STATE : RF := ⟨0x044, 1, 0, .ro, 0⟩
def SCC.SCC_STAT.CAUSE : RF := ⟨0x044, 7, 4, .ro, 2⟩
def SCC.SCC_STAT.WAITING : RF := ⟨0x044, 8, 8, .ro, 0⟩
def SCC.SCC_CEIL.MIB : RF := ⟨0x048, 23, 0, .ro, 0⟩
def SCC.SCC_DIRTY.MIB : RF := ⟨0x04C, 23, 0, .ro, 0⟩
def SCC.SCC_HU.SD_W : RF := ⟨0x050, 15, 0, .rwl, 0x96⟩
def SCC.SCC_HU.T_FIX : RF := ⟨0x050, 31, 16, .rwl, 0xfa0⟩
def SCC.SCC_DRATE.DEST_RATE : RF := ⟨0x054, 15, 0, .rwl, 0x5dc0⟩
def SCC.SCC_DESTAGE.START : RF := ⟨0x058, 7, 0, .rwl, 0x32⟩
def SCC.SCC_DESTAGE.AGE : RF := ⟨0x058, 15, 8, .rwl, 0x1e⟩
def SCC.SCC_PF.PF_DEPTH : RF := ⟨0x05C, 3, 0, .rwl, 4⟩
def SCC.SCC_PF.MAX_STRIDE : RF := ⟨0x05C, 10, 4, .rwl, 0x40⟩
def SCC.SCC_HITS.BRICKS : RF := ⟨0x060, 63, 0, .ro, 0⟩
def SCC.SCC_MISSES.BRICKS : RF := ⟨0x068, 63, 0, .ro, 0⟩
def SCC.SCC_PF_CNT.ISSUED : RF := ⟨0x070, 15, 0, .rc, 0⟩
def SCC.SCC_PF_CNT.UNUSED : RF := ⟨0x070, 31, 16, .rc, 0⟩
def SCC.SCC_EVICT.CLEAN : RF := ⟨0x074, 15, 0, .rc, 0⟩
def SCC.SCC_EVICT.DIRTY : RF := ⟨0x074, 31, 16, .rc, 0⟩
def SCC.SCC_LFSR.LFSR : RF := ⟨0x078, 15, 0, .ro, 0x5a3c⟩
/-! ### Page MBX (R373) -/
def MBX.MBX_C2M.SLOT : RF := ⟨0x040, 3, 0, .act, 0⟩
def MBX.MBX_M2C.SLOT : RF := ⟨0x044, 3, 0, .act, 0⟩
def MBX.MBX_CNT.C2M : RF := ⟨0x048, 15, 0, .rc, 0⟩
def MBX.MBX_CNT.M2C : RF := ⟨0x048, 31, 16, .rc, 0⟩
/-! ### Page HOD (R374) -/
def HOD.CH_GRANT.GRANT : RF := ⟨0x044, 31, 0, .rwl, 0⟩
def HOD.CH_ACTIVE.ACTIVE : RF := ⟨0x048, 31, 0, .ro, 0⟩
def HOD.DONE_PEND.CH : RF := ⟨0x04C, 31, 0, .w1c, 0⟩
def HOD.HALF_PEND.CH : RF := ⟨0x050, 31, 0, .w1c, 0⟩
def HOD.FULL_PEND.CH : RF := ⟨0x054, 31, 0, .w1c, 0⟩
def HOD.ERR_PEND.CH : RF := ⟨0x058, 31, 0, .w1c, 0⟩
def HOD.EVF.FLAGS : RF := ⟨0x060, 63, 0, .w1c, 0⟩
def HOD.EVF_SET.FLAGS : RF := ⟨0x068, 63, 0, .act, 0⟩
def HOD.DOM_BUSY.DOM : RF := ⟨0x078, 14, 0, .ro, 0⟩
def HOD.BYTES.V : RF := ⟨0x080, 63, 0, .ro, 0⟩
/-! ### Page HOD (R375) -/
def HOD.CH_PC.SPACE : RF := ⟨0x100, 63, 60, .rw, 0⟩
def HOD.CH_PC.ADDR : RF := ⟨0x100, 35, 5, .rw, 0⟩
def HOD.CH_CTL.START : RF := ⟨0x108, 0, 0, .act, 0⟩
def HOD.CH_CTL.ABORT : RF := ⟨0x108, 1, 1, .act, 0⟩
def HOD.CH_STAT.STATE : RF := ⟨0x10C, 2, 0, .ro, 0⟩
def HOD.CH_STAT.CAUSE : RF := ⟨0x10C, 7, 4, .ro, 0⟩
def HOD.CH_STAT.EQ : RF := ⟨0x10C, 8, 8, .ro, 0⟩
def HOD.CH_STAT.FLIPOK : RF := ⟨0x10C, 9, 9, .ro, 0⟩
def HOD.CH_STAT.POSTOK : RF := ⟨0x10C, 10, 10, .ro, 0⟩
def HOD.CH_LC.LC : RF := ⟨0x110, 31, 0, .ro, 0⟩
def HOD.CH_FAULT.ADDR : RF := ⟨0x114, 63, 0, .ro, 0⟩
def HOD.CH_DONE.BYTES : RF := ⟨0x11C, 31, 0, .ro, 0⟩
/-! ### Page FIF (R376) -/
def FIF.FIFO_SEL.FIFO : RF := ⟨0x040, 9, 0, .rw, 0⟩
def FIF.FIFO_CFG.WIDTH : RF := ⟨0x044, 1, 0, .rwl, 0⟩
def FIF.FIFO_CFG.MODE : RF := ⟨0x044, 3, 2, .rwl, 0⟩
def FIF.FIFO_CFG.PF1 : RF := ⟨0x044, 4, 4, .rwl, 0⟩
def FIF.FIFO_CFG.CLAIM_TO : RF := ⟨0x044, 15, 8, .rwl, 0x64⟩
def FIF.FIFO_STAT.COUNT : RF := ⟨0x048, 6, 0, .ro, 0⟩
def FIF.FIFO_STAT.PEND : RF := ⟨0x048, 14, 8, .ro, 0⟩
def FIF.FIFO_STAT.CLAIMED : RF := ⟨0x048, 15, 15, .ro, 0⟩
def FIF.FIFO_STAT.CLAIMER : RF := ⟨0x048, 23, 16, .ro, 0⟩
def FIF.FIFO_STAT.DEPTH : RF := ⟨0x048, 31, 24, .ro, 0⟩
def FIF.FIFO_IDLE.IDLE : RF := ⟨0x04C, 31, 0, .rw, 0xffffffff⟩
def FIF.FIFO_DATA0.DATA : RF := ⟨0x050, 31, 0, .rw, 0⟩
def FIF.FIFO_DATA1.DATA : RF := ⟨0x054, 31, 0, .rw, 0⟩
def FIF.FIFO_DATA2.DATA : RF := ⟨0x058, 31, 0, .rw, 0⟩
def FIF.FIFO_DATA3.DATA : RF := ⟨0x05C, 31, 0, .rw, 0⟩
def FIF.FIFO_CMD.COMMIT : RF := ⟨0x060, 0, 0, .act, 0⟩
def FIF.FIFO_CMD.REWIND : RF := ⟨0x060, 1, 1, .act, 0⟩
def FIF.FIFO_CNT.REFUSED : RF := ⟨0x064, 15, 0, .rc, 0⟩
def FIF.FIFO_CNT.EMPTY_READS : RF := ⟨0x064, 31, 16, .rc, 0⟩
def FIF.FIFO_HWM.HWM : RF := ⟨0x068, 6, 0, .rc, 0⟩
/-! ### Page SHW (R377) -/
def SHW.WIN_SEL.WIN : RF := ⟨0x040, 3, 0, .rw, 0⟩
def SHW.WIN_CFG.VALID : RF := ⟨0x044, 0, 0, .rwl, 0⟩
def SHW.WIN_CFG.SPACE : RF := ⟨0x044, 1, 1, .rwl, 0⟩
def SHW.WIN_CFG.ALLOC : RF := ⟨0x044, 2, 2, .rwl, 0⟩
def SHW.WIN_CFG.PF1 : RF := ⟨0x044, 3, 3, .rwl, 0⟩
def SHW.WIN_CFG.NOTIFY : RF := ⟨0x044, 5, 4, .rwl, 0⟩
def SHW.WIN_CFG.SLOT_SH : RF := ⟨0x044, 12, 8, .rwl, 8⟩
def SHW.WIN_CFG.EVF : RF := ⟨0x044, 21, 16, .rwl, 0⟩
def SHW.WIN_BASE.BASE : RF := ⟨0x048, 35, 12, .rwl, 0⟩
def SHW.WIN_SLOTS.SLOTS : RF := ⟨0x050, 16, 0, .rwl, 0⟩
def SHW.WIN_NOTE.NFIFO : RF := ⟨0x054, 9, 0, .rwl, 0xac⟩
def SHW.ALLOC_CTL.ONE : RF := ⟨0x058, 0, 0, .act, 0⟩
def SHW.ALLOC_CTL.PAIR : RF := ⟨0x058, 1, 1, .act, 0⟩
def SHW.ALLOC_RES.SLOT : RF := ⟨0x05C, 31, 0, .ro, 0xffffffff⟩
def SHW.WIN_FREE.FREE : RF := ⟨0x060, 16, 0, .ro, 0⟩
def SHW.VIOL.FLAG : RF := ⟨0x064, 15, 0, .rc, 0⟩
def SHW.VIOL.CW : RF := ⟨0x064, 31, 16, .rc, 0⟩
def SHW.VIOL_INFO.AGENT : RF := ⟨0x068, 7, 0, .ro, 0⟩
def SHW.VIOL_INFO.WIN : RF := ⟨0x068, 11, 8, .ro, 0⟩
def SHW.VIOL_INFO.CAUSE : RF := ⟨0x068, 15, 12, .ro, 0⟩
def SHW.CW_ECC.CE : RF := ⟨0x06C, 15, 0, .rc, 0⟩
def SHW.CW_ECC.UE : RF := ⟨0x06C, 31, 16, .rc, 0⟩
/-! ### Page LCS (R410) -/
def LCS.LC_STAT.STATE : RF := ⟨0x040, 2, 0, .ro, 0⟩
def LCS.LC_STAT.BUSY : RF := ⟨0x040, 3, 3, .ro, 0⟩
def LCS.LC_STAT.OWNER_SET : RF := ⟨0x040, 4, 4, .ro, 0⟩
def LCS.LC_STAT.NOR_ONE : RF := ⟨0x040, 5, 5, .ro, 0⟩
def LCS.LC_REQ.TARGET : RF := ⟨0x044, 2, 0, .act, 0⟩
def LCS.LC_REQ.TOKEN : RF := ⟨0x044, 3, 3, .act, 0⟩
def LCS.TOK_DATA.DATA : RF := ⟨0x048, 31, 0, .act, 0⟩
def LCS.TOK_STAT.BYTES : RF := ⟨0x04C, 10, 0, .ro, 0⟩
def LCS.TOK_STAT.RESULT : RF := ⟨0x04C, 15, 12, .ro, 0⟩
def LCS.NONCE0.NONCE : RF := ⟨0x050, 31, 0, .ro, 0⟩
def LCS.NONCE1.NONCE : RF := ⟨0x054, 31, 0, .ro, 0⟩
def LCS.NONCE2.NONCE : RF := ⟨0x058, 31, 0, .ro, 0⟩
def LCS.NONCE3.NONCE : RF := ⟨0x05C, 31, 0, .ro, 0⟩
def LCS.NONCE4.NONCE : RF := ⟨0x060, 31, 0, .ro, 0⟩
def LCS.NONCE5.NONCE : RF := ⟨0x064, 31, 0, .ro, 0⟩
def LCS.NONCE6.NONCE : RF := ⟨0x068, 31, 0, .ro, 0⟩
def LCS.NONCE7.NONCE : RF := ⟨0x06C, 31, 0, .ro, 0⟩
def LCS.DEV_SERIAL.SERIAL : RF := ⟨0x070, 63, 0, .ro, 0⟩
def LCS.SVN_MIN.SVN : RF := ⟨0x078, 6, 0, .ro, 0⟩
/-! ### Page SEC (R411) -/
def SEC.DOM_SEL.DOM : RF := ⟨0x040, 9, 0, .rw, 0⟩
def SEC.DOM_CTL.CREATE : RF := ⟨0x044, 0, 0, .act, 0⟩
def SEC.DOM_CTL.REPLACE : RF := ⟨0x044, 1, 1, .act, 0⟩
def SEC.DOM_CTL.DESTROY : RF := ⟨0x044, 2, 2, .act, 0⟩
def SEC.DOM_CTL.RETIRE : RF := ⟨0x044, 3, 3, .act, 0⟩
def SEC.DOM_STAT.STATE : RF := ⟨0x048, 1, 0, .ro, 0⟩
def SEC.DOM_STAT.NSID : RF := ⟨0x048, 26, 16, .ro, 0⟩
def SEC.DOM_SERIAL.KSERIAL : RF := ⟨0x04C, 31, 0, .ro, 0⟩
def SEC.KSERIAL.NEXT : RF := ⟨0x050, 31, 0, .ro, 0⟩
def SEC.SPENT_MARK.MARK : RF := ⟨0x054, 31, 0, .ro, 0⟩
def SEC.ATT_Q.Q : RF := ⟨0x058, 63, 0, .ro, 0⟩
def SEC.ATT_STAT.ACTIVE : RF := ⟨0x060, 0, 0, .ro, 0⟩
def SEC.ATT_STAT.LEFT : RF := ⟨0x060, 25, 16, .ro, 0⟩
/-! ### Page CIP (R412) -/
def CIP.CIP_STAT.CTX_SRAM : RF := ⟨0x040, 6, 0, .ro, 0⟩
def CIP.CIP_STAT.CTX_DRAM : RF := ⟨0x040, 22, 7, .ro, 0⟩
def CIP.CIP_CNT.TAG_FAIL : RF := ⟨0x044, 15, 0, .rc, 0⟩
def CIP.CIP_CNT.UNWRAP_FAIL : RF := ⟨0x044, 31, 16, .rc, 0⟩
def CIP.CIP_BYTES.BYTES : RF := ⟨0x048, 63, 0, .ro, 0⟩
/-! ### Page XTC (R413) -/
def XTC.XD_BASE.BASE : RF := ⟨0x040, 35, 5, .rwl, 0⟩
def XTC.XTC_STAT.SUSPENDED : RF := ⟨0x048, 6, 0, .ro, 0⟩
def XTC.XTC_STAT.BUSY : RF := ⟨0x048, 7, 7, .ro, 0⟩
def XTC.XTC_ENC.BRICKS : RF := ⟨0x04C, 31, 0, .rc, 0⟩
def XTC.XTC_DEC.BRICKS : RF := ⟨0x050, 31, 0, .rc, 0⟩
def XTC.XTC_CHK.MISMATCH : RF := ⟨0x054, 15, 0, .rc, 0⟩
def XTC.XTC_CHK.STALE : RF := ⟨0x054, 31, 16, .rc, 0⟩
def XTC.XTC_MISC.KEY_MISS : RF := ⟨0x058, 15, 0, .rc, 0⟩
def XTC.XTC_MISC.SUSPENDS : RF := ⟨0x058, 31, 16, .rc, 0⟩
def XTC.XTC_MISPL.MISPLACED : RF := ⟨0x05C, 15, 0, .rc, 0⟩
/-! ### Page PWC (R437) -/
def PWC.PWC_STAT.PLS : RF := ⟨0x040, 0, 0, .ro, 0⟩
def PWC.PWC_STAT.INRUSH : RF := ⟨0x040, 1, 1, .ro, 0⟩
def PWC.PWC_STAT.PS_NOW : RF := ⟨0x040, 6, 4, .ro, 0⟩
def PWC.PWC_STAT.PS_TARGET : RF := ⟨0x040, 10, 8, .ro, 0⟩
def PWC.PWC_CFG.V_DET : RF := ⟨0x044, 8, 0, .rwl, 0x17c⟩
def PWC.PWC_CFG.PLD_T : RF := ⟨0x044, 23, 16, .rwl, 0x32⟩
def PWC.PS_CFG.IDLE_RPM : RF := ⟨0x048, 12, 0, .rwl, 0xbb8⟩
def PWC.VIN_MEAS.VIN : RF := ⟨0x04C, 15, 0, .ro, 0⟩
def PWC.VIN_MEAS.VHOLD : RF := ⟨0x04C, 31, 16, .ro, 0⟩
def PWC.PIN_MEAS.PIN : RF := ⟨0x050, 15, 0, .ro, 0⟩
def PWC.CAP_SW.CAP_W : RF := ⟨0x054, 7, 0, .rwl, 0⟩
def PWC.CAP_EFF.CAP_W : RF := ⟨0x058, 7, 0, .ro, 0xf0⟩
def PWC.CAP_EFF.SOURCE : RF := ⟨0x058, 9, 8, .ro, 0⟩
def PWC.DOM_STAT.POWERED : RF := ⟨0x05C, 14, 0, .ro, 0⟩
def PWC.DOM_CTL.CL_SLEEP : RF := ⟨0x060, 7, 0, .rw, 0⟩
def PWC.SLP_STAT.DOMAIN : RF := ⟨0x064, 3, 0, .ro, 0xf⟩
def PWC.SLP_STAT.REFUSER : RF := ⟨0x064, 11, 4, .ro, 0⟩
def PWC.SLP_STAT.TIMEOUT : RF := ⟨0x064, 12, 12, .ro, 0⟩
def PWC.SLP_STAT.BACKOFF : RF := ⟨0x064, 23, 16, .ro, 0⟩
def PWC.SLP_CNT.REFUSALS : RF := ⟨0x068, 15, 0, .rc, 0⟩
def PWC.SLP_CNT.ENTRIES : RF := ⟨0x068, 31, 16, .rc, 0⟩
def PWC.RAIL_STAT.PG : RF := ⟨0x06C, 6, 0, .ro, 0⟩
def PWC.RAIL_STAT.FAILED : RF := ⟨0x06C, 14, 8, .ro, 0⟩
def PWC.SUP_CNT.DIPS : RF := ⟨0x070, 15, 0, .rc, 0⟩
def PWC.SUP_CNT.HIGH : RF := ⟨0x070, 31, 16, .rc, 0⟩
def PWC.PLS_LAST.DUR : RF := ⟨0x074, 15, 0, .ro, 0⟩
def PWC.PLS_LAST.VEND : RF := ⟨0x074, 31, 16, .ro, 0⟩
/-! ### Page THM (R438) -/
def THM.THM_STAT.HOT : RF := ⟨0x040, 7, 0, .ro, 0⟩
def THM.THM_STAT.HOT_NODE : RF := ⟨0x040, 11, 8, .ro, 0⟩
def THM.THM_STAT.STEP : RF := ⟨0x040, 15, 12, .ro, 0⟩
def THM.THM_STAT.WARN : RF := ⟨0x040, 16, 16, .ro, 0⟩
def THM.THM_STAT.CRIT : RF := ⟨0x040, 17, 17, .ro, 0⟩
def THM.THM_STAT.TRIP : RF := ⟨0x040, 18, 18, .ro, 0⟩
def THM.THM_CFG.T_TRIP : RF := ⟨0x044, 7, 0, .rwl, 0x73⟩
def THM.NODE_SEL.NODE : RF := ⟨0x048, 3, 0, .rw, 0⟩
def THM.NODE_T.MODEL : RF := ⟨0x04C, 15, 0, .ro, 0⟩
def THM.NODE_T.NODE : RF := ⟨0x04C, 31, 16, .ro, 0⟩
def THM.SENS_SEL.SENSOR : RF := ⟨0x050, 4, 0, .rw, 0⟩
def THM.SENS_T.RAW : RF := ⟨0x054, 15, 0, .ro, 0⟩
def THM.SENS_T.USED : RF := ⟨0x054, 31, 16, .ro, 0⟩
def THM.SENS_SUSPECT.SUSPECT : RF := ⟨0x058, 29, 0, .ro, 0⟩
def THM.CASE_T.CASE : RF := ⟨0x05C, 15, 0, .ro, 0⟩
def THM.THM_CNT.STEPS_DOWN : RF := ⟨0x060, 15, 0, .rc, 0⟩
def THM.THM_CNT.SUSPECTS : RF := ⟨0x060, 31, 16, .rc, 0⟩
/-! ### Page CLKG (R439) -/
def CLKG.CLK_STAT.XTAL_OK : RF := ⟨0x040, 0, 0, .ro, 0⟩
def CLKG.CLK_STAT.RING : RF := ⟨0x040, 1, 1, .ro, 1⟩
def CLKG.CLK_LOCK.LOCK : RF := ⟨0x044, 24, 0, .ro, 0⟩
def CLKG.FREQ_SEL.DOMAIN : RF := ⟨0x048, 4, 0, .rw, 0⟩
def CLKG.CLK_FREQ.MHZ : RF := ⟨0x04C, 15, 0, .ro, 0⟩
/-! ### Page CPX (R459) -/
def CPX.CPX_STAT.CORES : RF := ⟨0x040, 7, 0, .ro, 0⟩
def CPX.CPX_STAT.RESTARTING : RF := ⟨0x040, 8, 8, .ro, 0⟩
def CPX.CPX_STAT.CFS : RF := ⟨0x040, 9, 9, .ro, 0⟩
def CPX.CPX_STAT.EFL : RF := ⟨0x040, 10, 10, .ro, 0⟩
def CPX.CPX_MCA.CORE : RF := ⟨0x044, 2, 0, .ro, 0⟩
def CPX.CPX_MCA.CAUSE : RF := ⟨0x044, 7, 4, .ro, 0⟩
def CPX.CPX_CNT.MCHK : RF := ⟨0x048, 15, 0, .rc, 0⟩
def CPX.CPX_CNT.RESTARTS : RF := ⟨0x048, 31, 16, .rc, 0⟩
def CPX.REC_STAT.COND : RF := ⟨0x04C, 4, 0, .w1c, 0⟩
def CPX.REC_STAT.DIRTY_LOST : RF := ⟨0x04C, 5, 5, .w1c, 0⟩
def CPX.REC_STAT.FAULT_HOLD : RF := ⟨0x04C, 6, 6, .w1c, 0⟩
def CPX.RESTART_T.LAST_MS : RF := ⟨0x050, 15, 0, .ro, 0⟩
/-! ### Page EVC (R471) -/
def EVC.EVT_ACT0.ACTIVE : RF := ⟨0x040, 31, 0, .ro, 0⟩
def EVC.EVT_ACT1.ACTIVE : RF := ⟨0x044, 31, 0, .ro, 0⟩
def EVC.EVT_ACT2.ACTIVE : RF := ⟨0x048, 31, 0, .ro, 0⟩
def EVC.EVT_ACT3.ACTIVE : RF := ⟨0x04C, 31, 0, .ro, 0⟩
def EVC.EVT_ACT4.ACTIVE : RF := ⟨0x050, 31, 0, .ro, 0⟩
def EVC.EVT_ACT5.ACTIVE : RF := ⟨0x054, 31, 0, .ro, 0⟩
def EVC.EVT_ACT6.ACTIVE : RF := ⟨0x058, 31, 0, .ro, 0⟩
def EVC.EVT_ACT7.ACTIVE : RF := ⟨0x05C, 31, 0, .ro, 0⟩
def EVC.EVT_ACT8.ACTIVE : RF := ⟨0x060, 31, 0, .ro, 0⟩
def EVC.EVT_ACT9.ACTIVE : RF := ⟨0x064, 31, 0, .ro, 0⟩
def EVC.REC_EN0.REC : RF := ⟨0x068, 31, 0, .rwl, 0xffffffff⟩
def EVC.REC_EN1.REC : RF := ⟨0x06C, 31, 0, .rwl, 0xffffffff⟩
def EVC.REC_EN2.REC : RF := ⟨0x070, 31, 0, .rwl, 0xffffffff⟩
def EVC.REC_EN3.REC : RF := ⟨0x074, 31, 0, .rwl, 0xffffdeff⟩
def EVC.REC_EN4.REC : RF := ⟨0x078, 31, 0, .rwl, 0xfcffffff⟩
def EVC.REC_EN5.REC : RF := ⟨0x07C, 31, 0, .rwl, 0xffffffff⟩
def EVC.REC_EN6.REC : RF := ⟨0x080, 31, 0, .rwl, 0xffffffff⟩
def EVC.REC_EN7.REC : RF := ⟨0x084, 31, 0, .rwl, 0xffffffff⟩
def EVC.REC_EN8.REC : RF := ⟨0x088, 31, 0, .rwl, 0xffffffff⟩
def EVC.REC_EN9.REC : RF := ⟨0x08C, 31, 0, .rwl, 0xffffffff⟩
def EVC.PIN_CFG.EN : RF := ⟨0x090, 0, 0, .rwl, 1⟩
def EVC.PIN_CFG.LEVEL : RF := ⟨0x090, 1, 1, .ro, 1⟩
def EVC.EVC_CNT.DROP_MGP : RF := ⟨0x094, 15, 0, .rc, 0⟩
def EVC.EVC_CNT.DROP_CPX : RF := ⟨0x094, 31, 16, .rc, 0⟩
/-! ### Page HST (R472) -/
def HST.HST_CTL.FREEZE : RF := ⟨0x040, 0, 0, .rw, 0⟩
def HST.HST_CTL.FRZ_AUTO : RF := ⟨0x040, 1, 1, .rwl, 0⟩
def HST.HST_CTL.FRZ_EVT : RF := ⟨0x040, 24, 16, .rwl, 0⟩
def HST.HST_STAT.FROZEN : RF := ⟨0x044, 0, 0, .ro, 0⟩
def HST.HST_STAT.HELD : RF := ⟨0x044, 6, 1, .ro, 0⟩
def HST.HST_STAT.FIRST_CNT : RF := ⟨0x044, 25, 16, .ro, 0⟩
def HST.MISSED.COUNT : RF := ⟨0x048, 15, 0, .ro, 0⟩
def HST.REC_SEL.INDEX : RF := ⟨0x04C, 9, 0, .rw, 0⟩
def HST.REC_DATA0.DATA : RF := ⟨0x050, 31, 0, .ro, 0⟩
def HST.REC_DATA1.DATA : RF := ⟨0x054, 31, 0, .ro, 0⟩
def HST.REC_DATA2.DATA : RF := ⟨0x058, 31, 0, .ro, 0⟩
def HST.REC_DATA3.DATA : RF := ⟨0x05C, 31, 0, .ro, 0⟩
def HST.REC_DATA4.DATA : RF := ⟨0x060, 31, 0, .ro, 0⟩
def HST.REC_DATA5.DATA : RF := ⟨0x064, 31, 0, .ro, 0⟩
def HST.REC_DATA6.DATA : RF := ⟨0x068, 31, 0, .ro, 0⟩
def HST.REC_DATA7.DATA : RF := ⟨0x06C, 31, 0, .ro, 0⟩
def HST.RSEQ.NEXT : RF := ⟨0x070, 31, 0, .ro, 0⟩
def HST.Q_SEL.Q : RF := ⟨0x074, 5, 0, .rw, 0⟩
def HST.Q_NOW.VALUE : RF := ⟨0x078, 31, 0, .ro, 0⟩
def HST.CLEARS.COUNT : RF := ⟨0x07C, 15, 0, .ro, 0⟩
/-! ### Page DEV (R485) -/
def DEV.RST_CAUSE.KIND : RF := ⟨0x040, 3, 0, .ro, 0⟩
def DEV.RST_CAUSE.PLS_DONE : RF := ⟨0x040, 4, 4, .ro, 0⟩
def DEV.RST_CAUSE.EFL_DONE : RF := ⟨0x040, 5, 5, .ro, 0⟩
def DEV.RST_CAUSE.DIRTY_LOST : RF := ⟨0x040, 6, 6, .ro, 0⟩
def DEV.BOOT_STAT.STAGE : RF := ⟨0x044, 3, 0, .ro, 0⟩
def DEV.BOOT_STAT.DONE : RF := ⟨0x044, 4, 4, .ro, 0⟩
def DEV.BOOT_STAT.RECOVERY : RF := ⟨0x044, 5, 5, .ro, 0⟩
def DEV.BOOT_STAT.DEGRADED : RF := ⟨0x044, 6, 6, .ro, 0⟩
def DEV.BOOT_STAT.FAIL_STAGE : RF := ⟨0x044, 11, 8, .ro, 0⟩
def DEV.BOOT_IMG.RUN_SLOT : RF := ⟨0x048, 1, 0, .ro, 0⟩
def DEV.BOOT_IMG.RUN_DEV : RF := ⟨0x048, 2, 2, .ro, 0⟩
def DEV.BOOT_IMG.NEXT : RF := ⟨0x048, 5, 4, .ro, 0⟩
def DEV.BOOT_IMG.TRIES_A : RF := ⟨0x048, 11, 8, .ro, 0⟩
def DEV.BOOT_IMG.TRIES_B : RF := ⟨0x048, 15, 12, .ro, 0⟩
def DEV.BOOT_IMG.FAILED_A : RF := ⟨0x048, 16, 16, .ro, 0⟩
def DEV.BOOT_IMG.FAILED_B : RF := ⟨0x048, 17, 17, .ro, 0⟩
def DEV.BOOT_VER.VERSION : RF := ⟨0x04C, 31, 0, .ro, 0⟩
def DEV.BOOT_T.TO_DONE_MS : RF := ⟨0x050, 15, 0, .ro, 0⟩
def DEV.BOOT_T.NS_READY_S : RF := ⟨0x050, 31, 16, .ro, 0xffff⟩
def DEV.MOD_RST.REQ : RF := ⟨0x054, 0, 0, .act, 0⟩
def DEV.MOD_RST.KEY : RF := ⟨0x054, 31, 16, .act, 0⟩
def DEV.RCV_CTL.START : RF := ⟨0x058, 0, 0, .act, 0⟩
def DEV.RCV_CTL.COMMIT : RF := ⟨0x058, 1, 1, .act, 0⟩
def DEV.RCV_CTL.RETRY : RF := ⟨0x058, 2, 2, .act, 0⟩
def DEV.RCV_CTL.RESULT : RF := ⟨0x058, 7, 4, .ro, 0⟩
def DEV.RCV_DATA.DATA : RF := ⟨0x05C, 31, 0, .act, 0⟩
/-! ### Page WDG (R486) -/
def WDG.WDG_CFG.CPX_TO : RF := ⟨0x040, 7, 0, .rwl, 0x32⟩
def WDG.WDG_CFG.MGP_TO : RF := ⟨0x040, 15, 8, .rwl, 0x32⟩
def WDG.WDG_CFG.BOOT_TO : RF := ⟨0x040, 23, 16, .rwl, 0x1e⟩
def WDG.WDG_KICK.WHO : RF := ⟨0x044, 3, 0, .act, 0⟩
def WDG.WDG_KICK.KEY : RF := ⟨0x044, 31, 16, .act, 0⟩
def WDG.WDG_STAT.CPX_ARMED : RF := ⟨0x048, 7, 0, .ro, 0⟩
def WDG.WDG_STAT.MGP_ARMED : RF := ⟨0x048, 8, 8, .ro, 0⟩
def WDG.WDG_STAT.BOOT_ARMED : RF := ⟨0x048, 9, 9, .ro, 1⟩
def WDG.WDG_STAT.CPX_LEFT : RF := ⟨0x048, 23, 16, .ro, 0⟩
def WDG.WDG_STAT.MGP_LEFT : RF := ⟨0x048, 31, 24, .ro, 0⟩
def WDG.WDG_CNT.CPX_EXP : RF := ⟨0x04C, 15, 0, .rc, 0⟩
def WDG.WDG_CNT.MGP_EXP : RF := ⟨0x04C, 31, 16, .rc, 0⟩

/-- Every field of the common header, in the order of the spec's tables. -/
def tableHDR : List RF :=
  [HDR.PG_CTL.LOCK, HDR.PG_CTL.FREEZE, HDR.PG_CTL.SOFT_RESET, HDR.PG_CTL.ENABLE, HDR.PG_STAT.RESET_BUSY, HDR.PG_STAT.FROZEN, HDR.PG_STAT.LOCKED_WRITE, HDR.PG_STAT.RESET_REFUSED, HDR.PG_STAT.BLOCK, HDR.EV_RAW.V, HDR.EV_PEND.V, HDR.EV_EN.V, HDR.EV_SET.V, HDR.EV_ROUTE.VECTOR, HDR.EV_ROUTE.PIN, HDR.EV_ROUTE.MGP] ++
  [HDR.EV_ROUTE.CPX, HDR.EV_ROUTE.MSIX, HDR.WIN_CFG.SEL, HDR.WIN_LASTING.V, HDR.ERR_INJ.CONT, HDR.ERR_INJ.ONESHOT, HDR.ERR_INJ.SRC, HDR.PG_SCRATCH.SCRATCH]

/-- Every field of the KLC page, in the order of the spec's tables. -/
def tableKLC : List RF :=
  [KLC.KLC_CFG.SPIN_TIMEOUT, KLC.KLC_CFG.REPLAY_MAX, KLC.KLC_CFG.ACK_TO, KLC.KLC_CFG.TRAIN_MAX, KLC.RETRACT.CAUSE, KLC.RETRACT.HW_RELEASE, KLC.RETRACT.EXT_LOW, KLC.RETRACT.LEVEL, KLC.RETRACT.HW_ASSERT, KLC.RETRACT.SW_ASSERT, KLC.PRESENT.V, KLC.ACTIVE.V, KLC.FAULTED.V, KLC.RATE.V]

/-- Every field of the ACT page, in the order of the spec's tables. -/
def tableACT : List RF :=
  [ACT.LK_STAT.LOS, ACT.LK_STAT.SPIN_OWNER, ACT.LK_STAT.FULL_RATE, ACT.LK_STAT.STREAMING, ACT.LK_STAT.HEADS_PARKED, ACT.LK_STAT.ATTEMPT, ACT.LK_STAT.PHASE, ACT.LK_STAT.STATE, ACT.LK_CTL.FORCE_DOWN, ACT.LK_CTL.DOZE_REQ, ACT.LK_CTL.RETRAIN, ACT.BR_ID.MAKER, ACT.BR_ID.PRODUCT, ACT.BR_CAP.REV, ACT.BR_CAP.WFIFO, ACT.BR_CAP.SIDE] ++
  [ACT.BR_CAP.ASSIST, ACT.BR_CAP.HEADS, ACT.BR_RATE.ADC_RATE, ACT.BR_RATE.MAXRATE, ACT.BR_SERIAL.V, ACT.WRATE.V, ACT.GAP_CNT.V, ACT.CHECK_CNT.V, ACT.NAK_CNT.V, ACT.OUT_CRC_CNT.V, ACT.WGATE_CNT.V, ACT.TRAIN_CNT.V, ACT.SAMPLE_INDEX.V, ACT.RD_CTL.ADAPT_EN, ACT.RD_CTL.DSET_LIVE, ACT.RD_CTL.RD_EN] ++
  [ACT.NCO_STEP.STEP, ACT.TR_GAIN.KP_ACQ, ACT.TR_GAIN.KI_ACQ, ACT.TR_GAIN.KP_TRK, ACT.TR_GAIN.KI_TRK, ACT.TR_GAIN.ACQ_LEN, ACT.SYNC_WIN.HALF, ACT.SYNC_WIN.THRESH, ACT.SYNC_WIN.SHADOW_SPAN, ACT.SYNC_RES.OFFSET, ACT.SYNC_RES.ERRS, ACT.SYNC_RES.NCAND, ACT.SYNC_RES.MORE, ACT.SYNC_RES.MISSED, ACT.SYNC_CAND.CAND0_2, ACT.FREQ_OFS.PPM] ++
  [ACT.RING_STAT.PINNED, ACT.RING_STAT.NEXT, ACT.RING_STAT.DOUBLE, ACT.LIVE_OK.COUNT, ACT.LIVE_FAIL.COUNT, ACT.SYNC_MISS.COUNT, ACT.RECOV_A.L1, ACT.RECOV_A.L2, ACT.RECOV_B.L3, ACT.RECOV_B.L45, ACT.UNREC.EXHAUSTED, ACT.UNREC.STALE, ACT.WEDGE_BAD.WEDGE, ACT.WEDGE_BAD.RING_ABANDON, ACT.ITER_LAST.ITER, ACT.ITER_LAST.CONV] ++
  [ACT.ITER_LAST.UNSAT, ACT.CLIP_CNT.COUNT, ACT.QM_CTL.HEAD, ACT.QM_CTL.CLEAR, ACT.PB_BASE.BASE, ACT.QM_BITS.COUNT, ACT.QM_FLIPS.COUNT, ACT.SQ_CTL.START, ACT.SQ_CTL.ABORT, ACT.SQ_CTL.EXT, ACT.SQ_CTL.HALT, ACT.SQ_CTL.RUN, ACT.SQ_STAT.PC, ACT.SQ_STAT.STATE, ACT.SQ_STAT.EXT, ACT.SQ_STAT.WINH] ++
  [ACT.SQ_STAT.WG_EFF, ACT.SQ_STAT.GATE, ACT.SQ_STAT.DEPTH, ACT.SQ_MCA.ADDR, ACT.SQ_MCA.CAUSE, ACT.SQ_MCA.PGRP, ACT.SQ_WORD0.WORD, ACT.SQ_WORD1.WORD, ACT.SQ_WORD2.WORD, ACT.SQ_WORD3.WORD, ACT.SQ_WORD4.WORD, ACT.TGT.V, ACT.SLOT.V, ACT.LC.V, ACT.T0.V, ACT.T1_FLAGS.T1] ++
  [ACT.T1_FLAGS.F, ACT.VOID_CNT.VOIDS, ACT.VOID_CNT.DROPS, ACT.MCHK_CNT.MCHK, ACT.MCHK_CNT.JOBS, ACT.SV_CTL.STATE, ACT.SV_CTL.SET, ACT.SV_CTL.RRO_EN, ACT.SV_CTL.WI_PRED, ACT.SV_CTL.SET_VALID, ACT.SV_CTL.CP_VALID, ACT.SV_CTL.LOAD, ACT.SV_CTL.UNLOAD, ACT.SV_CTL.CLEAR, ACT.SV_CTL.SEEK_DONE, ACT.SV_STAT.WINH_CAUSE] ++
  [ACT.SV_STAT.WINH, ACT.SV_STAT.MISS, ACT.SV_STAT.WEDGE, ACT.SV_SEEK.TRACK, ACT.SV_SEEK.GO, ACT.SV_TOFS.OFS, ACT.SV_LIM.WI_LIM, ACT.SV_LIM.WI_REL, ACT.SV_LIM.MISS_MAX, ACT.SV_LIM.ACQ_N, ACT.SV_FOLLOW.FOLLOW_LIM, ACT.SV_FOLLOW.FOLLOW_CNT, ACT.SV_SETTLE.SETTLE_DIST, ACT.SV_SETTLE.SETTLE_VEL, ACT.SV_SEEKCFG.DSHIFT, ACT.SV_SEEKCFG.BIAS_SH] ++
  [ACT.SV_SEEKCFG.BIAS_EN, ACT.SV_SEEKCFG.SETTLE_TO, ACT.SV_SHOCK.SHOCK_ACC, ACT.SV_SHOCK.SHOCK_HOLD, ACT.SV_SHOCK.SENS_ID, ACT.SV_SENS.SENS_THR, ACT.SV_LOAD.LOAD_CMD, ACT.SV_TIMEOUT.LOAD_TO, ACT.SV_TIMEOUT.LOST_TO, ACT.SV_TIMEOUT.UNLOAD_TO, ACT.SV_PES.PES, ACT.SV_POS.P, ACT.SV_VEL.V, ACT.SV_OUT.VCM, ACT.SV_MA.MA, ACT.SV_MA.WEDGE] ++
  [ACT.SV_CNT_A.WINH, ACT.SV_CNT_A.SHOCK, ACT.SV_CNT_B.LOST, ACT.SV_CNT_B.LATE_INV, ACT.SV_CNT_C.SEEKS, ACT.SV_CNT_C.SETTLE_FAIL, ACT.SV_CNT_D.COEF_REFUSED, ACT.SV_CNT_D.SAT]

/-- Every field of the FDC page, in the order of the spec's tables. -/
def tableFDC : List RF :=
  [FDC.FDC_STAT.IN_WINDOW, FDC.FDC_STAT.PINNED, FDC.RS_CE.COUNT, FDC.RS_UE.COUNT]

/-- Every field of the LDP page, in the order of the spec's tables. -/
def tableLDP : List RF :=
  [LDP.LDP_CFG.EXT_IT, LDP.LDP_CFG.ABORT_FRAC, LDP.LDP_CFG.ABORT_IT, LDP.LDP_CFG.BORROW, LDP.LDP_CFG.RETRY_MAX, LDP.LDP_CFG.LIVE_IT, LDP.LDP_STAT.LIVE_BUSY, LDP.LDP_STAT.RETRY_BUSY, LDP.LDP_STAT.BORROWED, LDP.LDP_STAT.QDEPTH, LDP.LDP_STAT.RDET_BUSY, LDP.LDP_STAT.FENCED, LDP.FENCE.DEC, LDP.LIVE_JOBS.COUNT, LDP.RETRY_JOBS.COUNT, LDP.PREEMPT.COUNT] ++
  [LDP.DEC_PERR.COUNT, LDP.DEC_LAST.DEC]

/-- Every field of the FSQ page, in the order of the spec's tables. -/
def tableFSQ : List RF :=
  [FSQ.FSQ_STAT.ACTIVE, FSQ.FSQ_STAT.MCHK, FSQ.CS_CTL.LOAD_EN, FSQ.CS_CTL.REPAIR, FSQ.CS_CTL.DIGEST_CLR, FSQ.CS_ADDR.ADDR, FSQ.CS_DATA0.DATA, FSQ.CS_DATA1.DATA, FSQ.CS_DATA2.DATA, FSQ.CS_DATA3.DATA, FSQ.CS_DATA4.DATA, FSQ.CS_PERR.COUNT, FSQ.IMG_ID.ID, FSQ.CS_DIGEST0.DIGEST, FSQ.CS_DIGEST1.DIGEST, FSQ.CS_DIGEST2.DIGEST] ++
  [FSQ.CS_DIGEST3.DIGEST, FSQ.CS_DIGEST4.DIGEST, FSQ.CS_DIGEST5.DIGEST, FSQ.CS_DIGEST6.DIGEST, FSQ.CS_DIGEST7.DIGEST, FSQ.ZT_ADDR.ZONE, FSQ.ZT_ADDR.THREAD, FSQ.ZT_ADDR.PRESENT, FSQ.ZT_DATA0.FIRST_TILE, FSQ.ZT_DATA1.RATE, FSQ.ZT_DATA1.SPT, FSQ.ZT_DATA2.TPT, FSQ.ZT_DATA2.GUARD, FSQ.ZT_DATA3.FIRST_TRACK]

/-- Every field of the SVE page, in the order of the spec's tables. -/
def tableSVE : List RF :=
  [SVE.LOOP_CTL.STATE, SVE.LOOP_CTL.SPREAD, SVE.ENG_STAT.CLOSED, SVE.ENG_STAT.WINH, SVE.ENG_STAT.SHOCK, SVE.MEM_ADDR.INDEX, SVE.MEM_ADDR.MEM, SVE.MEM_ADDR.ACT, SVE.MEM_DATA.DATA, SVE.MEM_ECC.CE, SVE.MEM_ECC.UE, SVE.MAX_LAT.CYCLES, SVE.TR_CTL.ARM, SVE.TR_CTL.STOP, SVE.TR_CTL.MODE, SVE.TR_CTL.CLK_ACT] ++
  [SVE.TR_CTL.CLK_SPM, SVE.TR_CTL.DECIM, SVE.TR_CTL.PRE, SVE.TR_SRC_LO.SRC0_3, SVE.TR_SRC_HI.SRC4_7, SVE.TR_TRIG.CH, SVE.TR_TRIG.KIND, SVE.TR_TRIG.EVENT, SVE.TR_THRESH.THRESH, SVE.TR_SEC.VSEC, SVE.TR_SEC.MSEC, SVE.TR_STAT.STATE, SVE.TR_STAT.COUNT, SVE.TR_STAT.TRIG_IDX, SVE.TR_TIME.INDEX]

/-- The registers of one slot of the SPM page, at their places for number 0. -/
def tableSPMUnit : List RF :=
  [SPM.SPk_CTL.STATE, SPM.SPk_CTL.START, SPM.SPk_CTL.STOP, SPM.SPk_CTL.CLEAR, SPM.SPk_CTL.DOWN_MODE, SPM.SPk_CTL.AT_SPEED, SPM.SPk_CTL.INJECT, SPM.SPk_CTL.REVERSE, SPM.SPk_CTL.COG_EN, SPM.SPk_CTL.CAUSE, SPM.SPk_TARGET.RPM, SPM.SPk_TARGET.NOM_RPM, SPM.SPk_SPEED.SPEED, SPM.SPk_ANGLE.THETA, SPM.SPk_MOTOR.POLE_PAIRS, SPM.SPk_MOTOR.ALIGN_T] ++
  [SPM.SPk_MOTOR.RAMP_ACC, SPM.SPk_MOTOR.START_TO, SPM.SPk_RL.R_MOHM, SPM.SPk_RL.L_UH, SPM.SPk_KE.KE, SPM.SPk_KE.VBUS, SPM.SPk_CURPI.CUR_KP, SPM.SPk_CURPI.CUR_KI, SPM.SPk_SPDPI.SPD_KP, SPM.SPk_SPDPI.SPD_KI, SPM.SPk_LIMITS.IQ_RUN, SPM.SPk_LIMITS.IQ_START, SPM.SPk_OBS.RES_LIM, SPM.SPk_OBS.OBS_SH, SPM.SPk_HAND.HAND_UP, SPM.SPk_HAND.HAND_DN] ++
  [SPM.SPk_ACC.ACC_MAX, SPM.SPk_CNT_A.OBS_LOST, SPM.SPk_CNT_A.REACQ, SPM.SPk_CNT_B.STARTS, SPM.SPk_CNT_B.FAULTS, SPM.SPk_IQD.IQ, SPM.SPk_IQD.ID]

/-- Every field of the SPM page, in the order of the spec's tables. -/
def tableSPM : List RF :=
  [SPM.SPM_STAT.RUN, SPM.SPM_STAT.AT_SPEED, SPM.SPM_STAT.START_PLACE, SPM.SPM_STAT.FAULT, SPM.SPM_STAGGER.START_MAX, SPM.SPM_STAGGER.STARTING, SPM.MEM_ADDR.INDEX, SPM.MEM_ADDR.SLOT, SPM.MEM_DATA.COG, SPM.MEM_ECC.CE, SPM.MEM_ECC.UE, SPM.OBS_LASTING.SLOT] ++
  (List.range 4).flatMap (fun k => tableSPMUnit.map (fun f => f.at (0x40 * k)))

/-- Every field of the CAL page, in the order of the spec's tables. -/
def tableCAL : List RF :=
  [CAL.CAL_CTL.HU_GO, CAL.CAL_CTL.REF_GO, CAL.CAL_CTL.HU_PERIOD, CAL.CAL_CTL.REF_PERIOD, CAL.CAL_STAT.VREF_VALID, CAL.CAL_STAT.FREF_PRESENT, CAL.CAL_STAT.HU_VALID, CAL.CAL_STAT.HU_BUSY, CAL.CAL_STAT.HU_LOWER, CAL.CAL_STAT.ADC_DEGRADED, CAL.CAL_STAT.OSC_DEGRADED, CAL.CAL_STAT.ADC_FAILED, CAL.CAL_STAT.ADC_SEL, CAL.CAL_STAT.OSC_SEL, CAL.VREF_MEAS.VREF, CAL.XTAL_PPM.PPM] ++
  [CAL.ADC_TRIM.GAIN, CAL.ADC_TRIM.OFFSET, CAL.OSC_TRIM.TRIM, CAL.HU_C.C, CAL.HU_E.E, CAL.HU_ESR.ESR, CAL.HU_AGE.HOURS, CAL.CAL_CNT.DISAGREE, CAL.CAL_CNT.HU_RUNS]

/-- Every field of the ASC page, in the order of the spec's tables. -/
def tableASC : List RF :=
  [ASC.ASC_CFG.QC_TILES, ASC.ASC_CFG.QM_HI, ASC.ASC_CFG.QM_LO, ASC.ASC_CFG.MARGIN, ASC.ASC_CFG2.VERIFY_N, ASC.ASC_CFG2.SWEEP_STEP, ASC.ASC_CFG2.SWEEP_PTS, ASC.ASC_CFG2.OFS_MAX, ASC.TBL_BASE.BASE, ASC.TEMP_ID.SENSOR, ASC.ASC_STAT.RECAL_BUSY, ASC.ASC_STAT.QC_BUSY, ASC.HM_SEL.ACT, ASC.HM_SEL.HEAD, ASC.HM_RISE.RISE, ASC.HM_RISE.DUTY] ++
  [ASC.HM_LEVEL.LEVEL, ASC.HM_LEVEL.T_HDA, ASC.ASC_CNT_A.CHECKS, ASC.ASC_CNT_A.DRIFTS, ASC.ASC_CNT_B.RECALS, ASC.ASC_CNT_B.RECAL_FAIL, ASC.ASC_CNT_C.FULL_RECALS, ASC.ASC_CNT_C.CLAMPS]

/-- Every field of the MSN page, in the order of the spec's tables. -/
def tableMSN : List RF :=
  [MSN.MSN_CFG.REPL_EN, MSN.MSN_CFG.COMPACT_EN, MSN.MSN_CFG.REBUILD_EN, MSN.MSN_CFG.BG_HOLD, MSN.MSN_CFG.RB_BIAS, MSN.MSN_CFG.REREAD_MAX, MSN.MSN_CFG.REBUILD_DELAY, MSN.MSN_WEIGHT.W_Q, MSN.MSN_WEIGHT.W_T, MSN.MSN_WEIGHT.W_C, MSN.MSN_WEIGHT.W_W, MSN.MSN_HEAT.HEAT_PERIOD, MSN.MSN_HOT.HOT_ON, MSN.MSN_HOT.HOT_OFF, MSN.POOL_SEL.POOL, MSN.POOL_CFG.GEOM] ++
  [MSN.POOL_CFG.REPL_GEOM, MSN.POOL_CFG.OPEN_MAX, MSN.POOL_CFG.REPL_PCT, MSN.POOL_CFG.RESERVE_PCT, MSN.POOL_SLOTS.SLOTS, MSN.POOL_COMPACT.START, MSN.POOL_COMPACT.STOP, MSN.POOL_COMPACT.URGENT, MSN.POOL_SHARE.REBUILD, MSN.POOL_SHARE.COMPACT, MSN.POOL_SHARE.DRAIN, MSN.POOL_SHARE.URGENT, MSN.POOL_STAT.CLUSTER_LOSS_COVERED, MSN.POOL_STAT.REFUSED, MSN.POOL_STAT.FREE_PCT, MSN.POOL_STAT.OPEN] ++
  [MSN.POOL_COURSES.DEGRADED, MSN.SLOT_SEL.SLOT, MSN.SLOT_CTL.DRAIN, MSN.SLOT_CTL.CANCEL, MSN.SLOT_CTL.EXCLUDE, MSN.SLOT_STAT.STATE, MSN.SLOT_STAT.POOL, MSN.SLOT_STAT.IN_POOL, MSN.SLOT_Q.Q_A, MSN.SLOT_Q.Q_B, MSN.SEEK_ADDR.INDEX, MSN.SEEK_DATA.US, MSN.REPL_CNT.CREATED, MSN.REPL_CNT.DROPPED, MSN.DECIDE_CNT.REREADS, MSN.DECIDE_CNT.REBUILDS] ++
  [MSN.REBUILT.BRICKS, MSN.MOVED.BRICKS, MSN.UNREC_CNT.BRICKS]

/-- Every field of the MAP page, in the order of the spec's tables. -/
def tableMAP : List RF :=
  [MAP.MAP_BASE.BASE, MAP.MAP_ENTRIES.N, MAP.CT_BASE.BASE, MAP.CT_COURSES.N, MAP.TT_BASE.BASE, MAP.VT_BASE.BASE, MAP.VT_ENTRIES.N, MAP.JRN_BASE.BASE, MAP.JRN_SIZE.MIB, MAP.CKPT_CFG.CKPT_MIN, MAP.CKPT_CFG.JRN_HIGH, MAP.JSEQ_APPENDED.JSEQ, MAP.JSEQ_PERSISTED.JSEQ, MAP.CKPT_JSEQ.S, MAP.WALK_CNT.LOOKUPS, MAP.WALK_MAX.NS]

/-- Every field of the MOR page, in the order of the spec's tables. -/
def tableMOR : List RF :=
  [MOR.MOR_STAT.ENC_BUSY, MOR.MOR_STAT.DEC_BUSY, MOR.ENC_ROWS.ROWS, MOR.DEC_ROWS.ROWS, MOR.SRAM_CE.COUNT]

/-- Every field of the PCX page, in the order of the spec's tables. -/
def tablePCX : List RF :=
  [PCX.PCX_MODE.BIF, PCX.PCX_MODE.SRIS, PCX.P0_LINK.DL_UP, PCX.P1_LINK.DL_UP, PCX.P0_LINK.SPEED, PCX.P1_LINK.SPEED, PCX.P0_LINK.WIDTH, PCX.P1_LINK.WIDTH, PCX.P0_LINK.PM, PCX.P1_LINK.PM, PCX.P0_LINK.LTSSM, PCX.P1_LINK.LTSSM, PCX.P0_ERR.CORR, PCX.P0_ERR.RECOV, PCX.P1_ERR.CORR, PCX.P1_ERR.RECOV] ++
  [PCX.P0_UNC.UNCORR, PCX.P1_UNC.UNCORR, PCX.PCX_TARGET.MAX_SPEED]

/-- Every field of the NVE page, in the order of the spec's tables. -/
def tableNVE : List RF :=
  [NVE.NVE_STAT.RDY0, NVE.NVE_STAT.RDY1, NVE.NVE_STAT.FETCH_STOPPED, NVE.NVE_STAT.FW_ACT, NVE.NVE_STAT.SANITIZE, NVE.NVE_INFLIGHT.COUNT, NVE.NVE_VFS.VF0, NVE.NVE_VFS.VF1, NVE.NVE_QUEUES.SQ0, NVE.NVE_QUEUES.SQ1, NVE.NVE_DONE.COUNT, NVE.NVE_ERR.ERRORS, NVE.NVE_ERR.ABORTS, NVE.NVE_QUIESCE.LAST_MS, NVE.NVE_QUIESCE.MAX_MS]

/-- Every field of the SBI page, in the order of the spec's tables. -/
def tableSBI : List RF :=
  [SBI.SBI_CFG.SMB_ADDR, SBI.SBI_CFG.SMB_EN, SBI.SBI_CFG.I3C_EN, SBI.SBI_CFG.PEC_REQ, SBI.SBI_STAT.DA_VALID, SBI.SBI_STAT.DA, SBI.SBI_STAT.BUSY, SBI.SBI_MSG.MSGS, SBI.SBI_MSG.DROPPED, SBI.SBI_TO.TIMEOUT]

/-- Every field of the DMC page, in the order of the spec's tables. -/
def tableDMC : List RF :=
  [DMC.DMC_STAT.CH_UP, DMC.DMC_STAT.INIT_DONE, DMC.DMC_STAT.SELFTEST_FAIL, DMC.DMC_STAT.SELF_REFRESH, DMC.DMC_BYTES.BYTES, DMC.DMC_RMW.COUNT, DMC.DMC_TREF.TREF0_3]

/-- Every field of the MPS page, in the order of the spec's tables. -/
def tableMPS : List RF :=
  [MPS.SCRUB_CFG.EN, MPS.SCRUB_CFG.LAP_H, MPS.SCRUB_STAT.PROGRESS, MPS.SCRUB_STAT.LAST_LAP, MPS.SCRUB_STAT.LATE, MPS.SCRUB_LAPS.LAPS, MPS.ERR_INFO.REGION, MPS.ERR_INFO.SOURCE, MPS.ERR_ADDR.LINE, MPS.DV_ADDR.ADDR, MPS.DV_DATA.DATA, MPS.RGN_SEL.REGION, MPS.RGN_CFG.VALID, MPS.RGN_CFG.CODE, MPS.RGN_CFG.OWNER, MPS.RGN_CFG.VIEW] ++
  [MPS.RGN_GEOM.BASE, MPS.RGN_GEOM.SIZE, MPS.RGN_RAW.RAW_BASE, MPS.RGN_STAT.RAW_MIB, MPS.RGN_STAT.WIPING, MPS.RGN_STAT.REFUSED, MPS.RGN_CE.CE, MPS.RGN_UE.UE, MPS.RGN_UE.POISONED]

/-- Every field of the SCC page, in the order of the spec's tables. -/
def tableSCC : List RF :=
  [SCC.SCC_CTL.SIZE, SCC.SCC_CTL.DISABLE, SCC.SCC_STAT.STATE, SCC.SCC_STAT.CAUSE, SCC.SCC_STAT.WAITING, SCC.SCC_CEIL.MIB, SCC.SCC_DIRTY.MIB, SCC.SCC_HU.SD_W, SCC.SCC_HU.T_FIX, SCC.SCC_DRATE.DEST_RATE, SCC.SCC_DESTAGE.START, SCC.SCC_DESTAGE.AGE, SCC.SCC_PF.PF_DEPTH, SCC.SCC_PF.MAX_STRIDE, SCC.SCC_HITS.BRICKS, SCC.SCC_MISSES.BRICKS] ++
  [SCC.SCC_PF_CNT.ISSUED, SCC.SCC_PF_CNT.UNUSED, SCC.SCC_EVICT.CLEAN, SCC.SCC_EVICT.DIRTY, SCC.SCC_LFSR.LFSR]

/-- Every field of the MBX page, in the order of the spec's tables. -/
def tableMBX : List RF :=
  [MBX.MBX_C2M.SLOT, MBX.MBX_M2C.SLOT, MBX.MBX_CNT.C2M, MBX.MBX_CNT.M2C]

/-- The registers of one channel of the HOD page, at their places for number 0. -/
def tableHODUnit : List RF :=
  [HOD.CH_PC.SPACE, HOD.CH_PC.ADDR, HOD.CH_CTL.START, HOD.CH_CTL.ABORT, HOD.CH_STAT.STATE, HOD.CH_STAT.CAUSE, HOD.CH_STAT.EQ, HOD.CH_STAT.FLIPOK, HOD.CH_STAT.POSTOK, HOD.CH_LC.LC, HOD.CH_FAULT.ADDR, HOD.CH_DONE.BYTES]

/-- Every field of the HOD page, in the order of the spec's tables. -/
def tableHOD : List RF :=
  [HOD.CH_GRANT.GRANT, HOD.CH_ACTIVE.ACTIVE, HOD.DONE_PEND.CH, HOD.HALF_PEND.CH, HOD.FULL_PEND.CH, HOD.ERR_PEND.CH, HOD.EVF.FLAGS, HOD.EVF_SET.FLAGS, HOD.DOM_BUSY.DOM, HOD.BYTES.V] ++
  (List.range 32).flatMap (fun k => tableHODUnit.map (fun f => f.at (0x20 * k)))

/-- Every field of the FIF page, in the order of the spec's tables. -/
def tableFIF : List RF :=
  [FIF.FIFO_SEL.FIFO, FIF.FIFO_CFG.WIDTH, FIF.FIFO_CFG.MODE, FIF.FIFO_CFG.PF1, FIF.FIFO_CFG.CLAIM_TO, FIF.FIFO_STAT.COUNT, FIF.FIFO_STAT.PEND, FIF.FIFO_STAT.CLAIMED, FIF.FIFO_STAT.CLAIMER, FIF.FIFO_STAT.DEPTH, FIF.FIFO_IDLE.IDLE, FIF.FIFO_DATA0.DATA, FIF.FIFO_DATA1.DATA, FIF.FIFO_DATA2.DATA, FIF.FIFO_DATA3.DATA, FIF.FIFO_CMD.COMMIT] ++
  [FIF.FIFO_CMD.REWIND, FIF.FIFO_CNT.REFUSED, FIF.FIFO_CNT.EMPTY_READS, FIF.FIFO_HWM.HWM]

/-- Every field of the SHW page, in the order of the spec's tables. -/
def tableSHW : List RF :=
  [SHW.WIN_SEL.WIN, SHW.WIN_CFG.VALID, SHW.WIN_CFG.SPACE, SHW.WIN_CFG.ALLOC, SHW.WIN_CFG.PF1, SHW.WIN_CFG.NOTIFY, SHW.WIN_CFG.SLOT_SH, SHW.WIN_CFG.EVF, SHW.WIN_BASE.BASE, SHW.WIN_SLOTS.SLOTS, SHW.WIN_NOTE.NFIFO, SHW.ALLOC_CTL.ONE, SHW.ALLOC_CTL.PAIR, SHW.ALLOC_RES.SLOT, SHW.WIN_FREE.FREE, SHW.VIOL.FLAG] ++
  [SHW.VIOL.CW, SHW.VIOL_INFO.AGENT, SHW.VIOL_INFO.WIN, SHW.VIOL_INFO.CAUSE, SHW.CW_ECC.CE, SHW.CW_ECC.UE]

/-- Every field of the LCS page, in the order of the spec's tables. -/
def tableLCS : List RF :=
  [LCS.LC_STAT.STATE, LCS.LC_STAT.BUSY, LCS.LC_STAT.OWNER_SET, LCS.LC_STAT.NOR_ONE, LCS.LC_REQ.TARGET, LCS.LC_REQ.TOKEN, LCS.TOK_DATA.DATA, LCS.TOK_STAT.BYTES, LCS.TOK_STAT.RESULT, LCS.NONCE0.NONCE, LCS.NONCE1.NONCE, LCS.NONCE2.NONCE, LCS.NONCE3.NONCE, LCS.NONCE4.NONCE, LCS.NONCE5.NONCE, LCS.NONCE6.NONCE] ++
  [LCS.NONCE7.NONCE, LCS.DEV_SERIAL.SERIAL, LCS.SVN_MIN.SVN]

/-- Every field of the SEC page, in the order of the spec's tables. -/
def tableSEC : List RF :=
  [SEC.DOM_SEL.DOM, SEC.DOM_CTL.CREATE, SEC.DOM_CTL.REPLACE, SEC.DOM_CTL.DESTROY, SEC.DOM_CTL.RETIRE, SEC.DOM_STAT.STATE, SEC.DOM_STAT.NSID, SEC.DOM_SERIAL.KSERIAL, SEC.KSERIAL.NEXT, SEC.SPENT_MARK.MARK, SEC.ATT_Q.Q, SEC.ATT_STAT.ACTIVE, SEC.ATT_STAT.LEFT]

/-- Every field of the CIP page, in the order of the spec's tables. -/
def tableCIP : List RF :=
  [CIP.CIP_STAT.CTX_SRAM, CIP.CIP_STAT.CTX_DRAM, CIP.CIP_CNT.TAG_FAIL, CIP.CIP_CNT.UNWRAP_FAIL, CIP.CIP_BYTES.BYTES]

/-- Every field of the XTC page, in the order of the spec's tables. -/
def tableXTC : List RF :=
  [XTC.XD_BASE.BASE, XTC.XTC_STAT.SUSPENDED, XTC.XTC_STAT.BUSY, XTC.XTC_ENC.BRICKS, XTC.XTC_DEC.BRICKS, XTC.XTC_CHK.MISMATCH, XTC.XTC_CHK.STALE, XTC.XTC_MISC.KEY_MISS, XTC.XTC_MISC.SUSPENDS, XTC.XTC_MISPL.MISPLACED]

/-- Every field of the PWC page, in the order of the spec's tables. -/
def tablePWC : List RF :=
  [PWC.PWC_STAT.PLS, PWC.PWC_STAT.INRUSH, PWC.PWC_STAT.PS_NOW, PWC.PWC_STAT.PS_TARGET, PWC.PWC_CFG.V_DET, PWC.PWC_CFG.PLD_T, PWC.PS_CFG.IDLE_RPM, PWC.VIN_MEAS.VIN, PWC.VIN_MEAS.VHOLD, PWC.PIN_MEAS.PIN, PWC.CAP_SW.CAP_W, PWC.CAP_EFF.CAP_W, PWC.CAP_EFF.SOURCE, PWC.DOM_STAT.POWERED, PWC.DOM_CTL.CL_SLEEP, PWC.SLP_STAT.DOMAIN] ++
  [PWC.SLP_STAT.REFUSER, PWC.SLP_STAT.TIMEOUT, PWC.SLP_STAT.BACKOFF, PWC.SLP_CNT.REFUSALS, PWC.SLP_CNT.ENTRIES, PWC.RAIL_STAT.PG, PWC.RAIL_STAT.FAILED, PWC.SUP_CNT.DIPS, PWC.SUP_CNT.HIGH, PWC.PLS_LAST.DUR, PWC.PLS_LAST.VEND]

/-- Every field of the THM page, in the order of the spec's tables. -/
def tableTHM : List RF :=
  [THM.THM_STAT.HOT, THM.THM_STAT.HOT_NODE, THM.THM_STAT.STEP, THM.THM_STAT.WARN, THM.THM_STAT.CRIT, THM.THM_STAT.TRIP, THM.THM_CFG.T_TRIP, THM.NODE_SEL.NODE, THM.NODE_T.MODEL, THM.NODE_T.NODE, THM.SENS_SEL.SENSOR, THM.SENS_T.RAW, THM.SENS_T.USED, THM.SENS_SUSPECT.SUSPECT, THM.CASE_T.CASE, THM.THM_CNT.STEPS_DOWN] ++
  [THM.THM_CNT.SUSPECTS]

/-- Every field of the CLKG page, in the order of the spec's tables. -/
def tableCLKG : List RF :=
  [CLKG.CLK_STAT.XTAL_OK, CLKG.CLK_STAT.RING, CLKG.CLK_LOCK.LOCK, CLKG.FREQ_SEL.DOMAIN, CLKG.CLK_FREQ.MHZ]

/-- Every field of the CPX page, in the order of the spec's tables. -/
def tableCPX : List RF :=
  [CPX.CPX_STAT.CORES, CPX.CPX_STAT.RESTARTING, CPX.CPX_STAT.CFS, CPX.CPX_STAT.EFL, CPX.CPX_MCA.CORE, CPX.CPX_MCA.CAUSE, CPX.CPX_CNT.MCHK, CPX.CPX_CNT.RESTARTS, CPX.REC_STAT.COND, CPX.REC_STAT.DIRTY_LOST, CPX.REC_STAT.FAULT_HOLD, CPX.RESTART_T.LAST_MS]

/-- Every field of the EVC page, in the order of the spec's tables. -/
def tableEVC : List RF :=
  [EVC.EVT_ACT0.ACTIVE, EVC.EVT_ACT1.ACTIVE, EVC.EVT_ACT2.ACTIVE, EVC.EVT_ACT3.ACTIVE, EVC.EVT_ACT4.ACTIVE, EVC.EVT_ACT5.ACTIVE, EVC.EVT_ACT6.ACTIVE, EVC.EVT_ACT7.ACTIVE, EVC.EVT_ACT8.ACTIVE, EVC.EVT_ACT9.ACTIVE, EVC.REC_EN0.REC, EVC.REC_EN1.REC, EVC.REC_EN2.REC, EVC.REC_EN3.REC, EVC.REC_EN4.REC, EVC.REC_EN5.REC] ++
  [EVC.REC_EN6.REC, EVC.REC_EN7.REC, EVC.REC_EN8.REC, EVC.REC_EN9.REC, EVC.PIN_CFG.EN, EVC.PIN_CFG.LEVEL, EVC.EVC_CNT.DROP_MGP, EVC.EVC_CNT.DROP_CPX]

/-- Every field of the HST page, in the order of the spec's tables. -/
def tableHST : List RF :=
  [HST.HST_CTL.FREEZE, HST.HST_CTL.FRZ_AUTO, HST.HST_CTL.FRZ_EVT, HST.HST_STAT.FROZEN, HST.HST_STAT.HELD, HST.HST_STAT.FIRST_CNT, HST.MISSED.COUNT, HST.REC_SEL.INDEX, HST.REC_DATA0.DATA, HST.REC_DATA1.DATA, HST.REC_DATA2.DATA, HST.REC_DATA3.DATA, HST.REC_DATA4.DATA, HST.REC_DATA5.DATA, HST.REC_DATA6.DATA, HST.REC_DATA7.DATA] ++
  [HST.RSEQ.NEXT, HST.Q_SEL.Q, HST.Q_NOW.VALUE, HST.CLEARS.COUNT]

/-- Every field of the DEV page, in the order of the spec's tables. -/
def tableDEV : List RF :=
  [DEV.RST_CAUSE.KIND, DEV.RST_CAUSE.PLS_DONE, DEV.RST_CAUSE.EFL_DONE, DEV.RST_CAUSE.DIRTY_LOST, DEV.BOOT_STAT.STAGE, DEV.BOOT_STAT.DONE, DEV.BOOT_STAT.RECOVERY, DEV.BOOT_STAT.DEGRADED, DEV.BOOT_STAT.FAIL_STAGE, DEV.BOOT_IMG.RUN_SLOT, DEV.BOOT_IMG.RUN_DEV, DEV.BOOT_IMG.NEXT, DEV.BOOT_IMG.TRIES_A, DEV.BOOT_IMG.TRIES_B, DEV.BOOT_IMG.FAILED_A, DEV.BOOT_IMG.FAILED_B] ++
  [DEV.BOOT_VER.VERSION, DEV.BOOT_T.TO_DONE_MS, DEV.BOOT_T.NS_READY_S, DEV.MOD_RST.REQ, DEV.MOD_RST.KEY, DEV.RCV_CTL.START, DEV.RCV_CTL.COMMIT, DEV.RCV_CTL.RETRY, DEV.RCV_CTL.RESULT, DEV.RCV_DATA.DATA]

/-- Every field of the WDG page, in the order of the spec's tables. -/
def tableWDG : List RF :=
  [WDG.WDG_CFG.CPX_TO, WDG.WDG_CFG.MGP_TO, WDG.WDG_CFG.BOOT_TO, WDG.WDG_KICK.WHO, WDG.WDG_KICK.KEY, WDG.WDG_STAT.CPX_ARMED, WDG.WDG_STAT.MGP_ARMED, WDG.WDG_STAT.BOOT_ARMED, WDG.WDG_STAT.CPX_LEFT, WDG.WDG_STAT.MGP_LEFT, WDG.WDG_CNT.CPX_EXP, WDG.WDG_CNT.MGP_EXP]

/-- The block-specific fields of a kind of page. -/
def Kind.table : Kind → List RF
  | .dev => tableDEV
  | .clkg => tableCLKG
  | .pwc => tablePWC
  | .thm => tableTHM
  | .cal => tableCAL
  | .evc => tableEVC
  | .hst => tableHST
  | .sbi => tableSBI
  | .lcs => tableLCS
  | .sec => tableSEC
  | .cip => tableCIP
  | .mbx => tableMBX
  | .fif => tableFIF
  | .shw => tableSHW
  | .wdg => tableWDG
  | .pcx => tablePCX
  | .nve => tableNVE
  | .dmc => tableDMC
  | .mps => tableMPS
  | .scc => tableSCC
  | .msn => tableMSN
  | .map => tableMAP
  | .mor => tableMOR
  | .hod => tableHOD
  | .asc => tableASC
  | .cpx => tableCPX
  | .sve => tableSVE
  | .spm => tableSPM
  | .klc => tableKLC
  | .fdc => tableFDC
  | .ldp => tableLDP
  | .fsq => tableFSQ
  | .xtc => tableXTC
  | .act => tableACT

/-- Every field of a page, the common header first. -/
def pageFields (pg : Nat) : List RF :=
  match pageKind pg with
  | some k => tableHDR ++ k.table
  | none => []

end Sys2Proof.Machine
end

