-- ==== Sys2Proof/Machine/Sparse.lean ====
section
/-! DEFINITION. Sparse tables as plain data: a list of (key, value) pairs with rising keys that lists no entry equal to
what an unlisted key reads as. Registers, memory bytes and the per-unit tables of the state are all held so. -/

namespace Sys2Proof.Machine.Tab

/-- The value listed at a key, if any. -/
def find? {α : Type} : List (Nat × α) → Nat → Option α
  | [], _ => none
  | (k, v) :: m, q => if k = q then some v else find? m q

/-- The table without a key. -/
def erase {α : Type} : List (Nat × α) → Nat → List (Nat × α)
  | [], _ => []
  | (k, v) :: m, q => if k = q then erase m q else (k, v) :: erase m q

/-- The table with a pair put in before the first greater key. -/
def place {α : Type} : List (Nat × α) → Nat → α → List (Nat × α)
  | [], q, x => [(q, x)]
  | (k, v) :: m, q, x => if q < k then (q, x) :: (k, v) :: m else (k, v) :: place m q x

/-- Read: an unlisted key reads as `d`. -/
def get {α : Type} (d : α) (m : List (Nat × α)) (q : Nat) : α := (find? m q).getD d

/-- Write: writing what an unlisted key reads as removes the entry. -/
def put {α : Type} [DecidableEq α] (d : α) (m : List (Nat × α)) (q : Nat) (x : α) : List (Nat × α) :=
  if x = d then erase m q else place (erase m q) q x

/-- Change the value at one key. -/
def upd {α : Type} [DecidableEq α] (d : α) (m : List (Nat × α)) (q : Nat) (f : α → α) : List (Nat × α) :=
  put d m q (f (get d m q))

/-- The keys rise strictly. -/
def rising {α : Type} : List (Nat × α) → Bool
  | [] => true
  | [_] => true
  | (k, _) :: (k', v') :: m => decide (k < k') && rising ((k', v') :: m)

/-- The canonical form: rising keys and no entry equal to the value `d` gives its key when unlisted. -/
def wf {α : Type} [DecidableEq α] (d : Nat → α) (m : List (Nat × α)) : Bool :=
  rising m && m.all (fun kv => decide (kv.2 ≠ d kv.1))

/-- Keep the entries whose key passes a test. -/
def keep {α : Type} (t : Nat → Bool) (m : List (Nat × α)) : List (Nat × α) := m.filter (fun kv => t kv.1)

end Sys2Proof.Machine.Tab
end

