-- ==== Sys2Proof/Machine/IoState.lean ====
section
/-! DEFINITION. The part of the state that every block shares: the registers of the aperture with the read view, the
latches and the write buffers (R34, R35, R39), the window counters (R450), the event recorder (R462-R470), the hardware
FIFOs (R366-R372) and what leaves the device as a signal (MSI-X, R461). -/

namespace Sys2Proof.Machine

/-- One source's window counter (R450): its settings and one count per unit (unit 0 where the page keeps one). -/
structure Win where
  window : Nat
  unit : Nat
  thresh : Nat
  counts : List (Nat × Nat)
  deriving DecidableEq, Repr

/-- A source as reset leaves it: not counted (R36). -/
def Win.zero : Win := ⟨0, 0, 0, []⟩

/-- A record of the event recorder (R463); its CRC is computed where the bytes are read. -/
structure Rec where
  evt : Nat
  kind : Nat
  flags : Nat
  rep : Nat
  page : Nat
  bit : Nat
  hours : Nat
  pcyc : Nat
  hoursLast : Nat
  ctx : Nat
  rseq : Nat
  deriving DecidableEq, Repr

/-- One tracked quantity (R467). -/
structure Qty where
  now : Int
  bins : List (Nat × Nat)
  min : Int
  minHours : Nat
  minPcyc : Nat
  max : Int
  maxHours : Nat
  maxPcyc : Nat
  count : Nat
  deriving DecidableEq, Repr

/-- A quantity with no sample. -/
def Qty.zero : Qty := ⟨0, [], 0, 0, 0, 0, 0, 0, 0⟩

/-- What the recorder keeps: FIRST, LAST, the statistics and the two counters (R466, R467, R469). -/
structure RecMem where
  first : List Rec
  last : List Rec
  qty : List (Nat × Qty)
  rseq : Nat
  clears : Nat
  deriving DecidableEq, Repr

/-- The recorder of a device that has recorded nothing. -/
def RecMem.zero : RecMem := ⟨[], [], [], 0, 0⟩

/-- A snapshot of the recorder for one reader (R470). -/
structure RecSnap where
  mem : RecMem
  missed : Nat
  frozen : Bool
  hours : Nat
  pcyc : Nat
  deriving DecidableEq, Repr

/-- The event recorder: the live copy, the copy in NOR (R466), the freeze buffer and its misses (R468), the hour and
power-cycle counters (R462) and the snapshots of the readers of log page 0xC2 (R470). -/
structure Recorder where
  mem : RecMem
  nor : RecMem
  held : List Rec
  missed : Nat
  hours : Nat
  pcyc : Nat
  norHours : Nat
  norPcyc : Nat
  snaps : List (Nat × RecSnap)
  /-- The RSEQ that the present start resumed from (R466). -/
  resume : Nat
  deriving DecidableEq, Repr

/-- A recorder with nothing recorded. -/
def Recorder.zero : Recorder := ⟨RecMem.zero, RecMem.zero, [], 0, 0, 0, 0, 0, [], 0⟩

/-- One hardware FIFO (R366, R370, R371): the readable items, the held items, the stages a packet has reserved, the items
the packet still lacks, and the claimer. -/
structure Fifo where
  items : List Nat
  held : List Nat
  reserved : Nat
  missing : Nat
  claimer : Option Nat
  hwm : Nat
  deriving DecidableEq, Repr

/-- An empty FIFO. -/
def Fifo.zero : Fifo := ⟨[], [], 0, 0, none, 0⟩

/-- The shared part of the state. -/
structure Io where
  part : Part
  grade : Grade
  dieRev : Nat
  /-- The live registers, keyed by `key`; an unlisted register holds its reset value (R474). -/
  regs : List (Nat × DWord)
  /-- The held read view of the frozen pages (R39). -/
  frozen : List (Nat × DWord)
  /-- The pages whose read view is held. -/
  heldPages : List Nat
  /-- The high-word latch of each accessor and page, while valid (R35). -/
  latches : List (Nat × Option Word)
  /-- The low-word write buffer of each accessor and page, while pending (R35). -/
  wbufs : List (Nat × Option Word)
  /-- The latches of multi-word values: the words after the first, per accessor and value (R160, R369, R472). -/
  wordLatches : List (Nat × List Nat)
  /-- The last value each accessor's read returned. -/
  readData : List (Nat × Nat)
  /-- The window counters, keyed by page * 32 + source. -/
  wins : List (Nat × Win)
  hst : Recorder
  fifos : List (Nat × Fifo)
  /-- FIFO_DATA words buffered per writer and FIFO (R369). -/
  fifoBufs : List (Nat × List Nat)
  /-- The power domains that are off (order of HOD.DOM_BUSY): their pages do not signal (R461). -/
  off : List Nat
  /-- PF1 MSI-X vectors unmasked by the host, as port * 128 + vector. -/
  msixOpen : List Nat
  /-- MSI-X messages sent on PF1, newest last, as port * 128 + vector (R461). -/
  msixSent : List Nat
  deriving DecidableEq, Repr

end Sys2Proof.Machine
end

