-- ==== Sys2Proof/Machine/Ops.lean ====
section
/-! DEFINITION. The named operations over registers: which pages exist, reading and writing a field or a register,
counting, and the reset of a page. Every read and write of a register in the model goes through these. -/

namespace Sys2Proof.Machine

/-! ### Numbers and places -/

/-- The largest value of `w` bits. -/
def maxOf (w : Nat) : Nat := 2 ^ w - 1

/-- A count that stops at the largest value of `w` bits. -/
def satAdd (w a n : Nat) : Nat := min (a + n) (maxOf w)

/-- One bit of a number. -/
def bitOf (v n : Nat) : Bool := v.testBit n

/-- A number with one bit set. -/
def bitSet (v n : Nat) : Nat := v ||| (2 ^ n)

/-- A number with one bit cleared. -/
def bitClear (v n : Nat) : Nat := v - (v &&& (2 ^ n))

/-- A number with one bit written. -/
def bitPut (v n : Nat) (b : Bool) : Nat := if b then bitSet v n else bitClear v n

/-- Bits [hi:lo] of a number. -/
def bitsOf (v hi lo : Nat) : Nat := (v >>> lo) % 2 ^ (hi + 1 - lo)

/-- 1 for true. -/
def b2n (b : Bool) : Nat := if b then 1 else 0

/-- The page of instance `i` of a kind, R28. -/
def Kind.pg (k : Kind) (i : Nat) : Nat := k.base + i

/-- The page whose windowed registers show unit `u`: unit u of a page stands in bank u + 1 (a select register, R39,
shows it at the page's own offset). -/
def bank (pg u : Nat) : Nat := pg + 256 * (u + 1)

/-- The key of a register: its page with its bank, and its offset. -/
def key (p off : Nat) : Nat := p * 4096 + off

/-- The clusters of a part (R1). -/
def clustersOf : Part → Nat
  | .h7128 => 8
  | .h7064 => 4

/-- The number of pages of a kind present on a part (R2). -/
def Kind.count (part : Part) : Kind → Nat
  | .sve => 2 * clustersOf part
  | .spm => 2 * clustersOf part
  | .klc => clustersOf part
  | .fdc => clustersOf part
  | .ldp => clustersOf part
  | .fsq => clustersOf part
  | .xtc => clustersOf part
  | .act => 16 * clustersOf part
  | _ => 1

/-- A page that is present (R2, R28, R29). -/
def present (part : Part) (pg : Nat) : Bool :=
  match pageKind pg with
  | some k => decide (pg < k.base + k.count part)
  | none => false

/-- Whether actuator `a` is present (R2). -/
def actOk (part : Part) (a : Nat) : Bool := decide (a < 16 * clustersOf part)

/-- Whether slot `n` is present (R1). -/
def slotOk (part : Part) (n : Nat) : Bool := decide (n < 8 * clustersOf part)

/-- Whether cluster `c` is present (R1). -/
def clOk (part : Part) (c : Nat) : Bool := decide (c < clustersOf part)

/-- Whether servo control engine `e` is present (R1). -/
def engOk (part : Part) (e : Nat) : Bool := decide (e < 2 * clustersOf part)

/-! ### Registers -/

/-- The value a register takes at reset: its fields' reset values in place (R474). -/
def resetReg (pg off : Nat) : DWord :=
  ((pageFields pg).filter (fun f => f.off = off)).foldl (fun w f => w ||| BitVec.ofNat 64 (f.rst <<< f.lo)) 0#64

namespace Io

/-- The value a register's key holds while unlisted: its reset value. -/
def regDefault (k : Nat) : DWord := resetReg (k / 4096 % 256) (k % 4096)

/-- A register's live value; `p` is a page, or a page's bank. -/
def reg (io : Io) (p off : Nat) : DWord := (Tab.find? io.regs (key p off)).getD (regDefault (key p off))

/-- Store a register, keeping the sparse form. -/
def setReg (io : Io) (p off : Nat) (w : DWord) : Io :=
  { io with regs := Tab.put (regDefault (key p off)) io.regs (key p off) w }

/-- A field's live value. -/
def fld (io : Io) (p : Nat) (f : RF) : Nat := ((io.reg p f.off) >>> f.lo).toNat % 2 ^ f.width

/-- The mask of a field in its register. -/
def fmask (f : RF) : DWord := BitVec.ofNat 64 (maxOf f.width) <<< f.lo

/-- A register's value with one field replaced. -/
def withFld (w : DWord) (f : RF) (v : Nat) : DWord :=
  (w &&& ~~~(fmask f)) ||| (BitVec.ofNat 64 (v % 2 ^ f.width) <<< f.lo)

/-- Set a field, as the hardware does. -/
def setFld (io : Io) (p : Nat) (f : RF) (v : Nat) : Io := io.setReg p f.off (withFld (io.reg p f.off) f v)

/-- A one-bit field as a truth value. -/
def flag (io : Io) (p : Nat) (f : RF) : Bool := decide (io.fld p f ≠ 0)

/-- Set a one-bit field. -/
def setFlag (io : Io) (p : Nat) (f : RF) (b : Bool) : Io := io.setFld p f (b2n b)

/-- Count in a field that saturates at its largest value. -/
def bumpN (io : Io) (p : Nat) (f : RF) (n : Nat) : Io := io.setFld p f (satAdd f.width (io.fld p f) n)

/-- Count one. -/
def bump (io : Io) (p : Nat) (f : RF) : Io := io.bumpN p f 1

/-- Count in a field that wraps (a 64-bit running total). -/
def addFld (io : Io) (p : Nat) (f : RF) (n : Nat) : Io := io.setFld p f (io.fld p f + n)

/-- PG_CTL.ENABLE of a page (R36). -/
def enabled (io : Io) (pg : Nat) : Bool := io.flag pg HDR.PG_CTL.ENABLE

/-- PG_CTL.LOCK of a page (R37). -/
def locked (io : Io) (pg : Nat) : Bool := io.flag pg HDR.PG_CTL.LOCK

/-- The fields of the register at one offset of a page. -/
def regFields (pg off : Nat) : List RF := (pageFields pg).filter (fun f => f.off = off)

/-- One register of a page at reset but for the fields kept (R38). -/
def resetKept (pg off : Nat) (kept : RF → Bool) (w : DWord) : DWord :=
  ((regFields pg off).filter kept).foldl
    (fun r f => withFld r f ((w >>> f.lo).toNat % 2 ^ f.width)) (resetReg pg off)

/-- Return every register of a page and of its banks to reset, but for the fields that `kept` (given the bank, 0 for the
page itself, and the field) names. -/
def resetRegs (io : Io) (pg : Nat) (kept : Nat → RF → Bool) : Io :=
  (io.regs.filter (fun kv => kv.1 / 4096 % 256 = pg)).foldl
    (fun i kv => i.setReg (kv.1 / 4096) (kv.1 % 4096) (resetKept pg (kv.1 % 4096) (kept (kv.1 / 4096 / 256)) kv.2)) io

end Io

end Sys2Proof.Machine
end

