-- ==== Sys2Proof/Machine/Flags.lean ====
section
/-! DEFINITION. Every event flag computation: numbered sources (R460), routing (R461), window counters (R450), records and
their merging (R463-R466), the recorder's freeze (R468), and the one operation by which a block raises an event. -/

namespace Sys2Proof.Machine

/-! ### Numbered sources -/

/-- The offset of a cluster page's event bit in its cluster's sources (R460); none: no source takes the bit. -/
def evtClusterOfs (k : Kind) (bit : Nat) : Option Nat :=
  match k with
  | .klc =>
    if bit ∈ [0, 1, 2, 4, 7, 13, 14, 15] then some 0
    else if bit ∈ [3, 5, 6, 8] then some 1
    else if bit ∈ [9, 10, 11, 12] then some 2
    else if bit ∈ [16, 17, 18, 19] then some 3
    else none
  | .fdc => if bit ∈ [0, 1, 2, 3, 6, 7] then some 4 else if bit ∈ [4, 5] then some 5 else none
  | .ldp => if bit ∈ [0, 1, 2, 3] then some 6 else if bit ∈ [4, 5] then some 7 else none
  | .fsq =>
    if bit ∈ [0, 1, 5] then some 8
    else if bit ∈ [3, 4, 7] then some 9
    else if bit ∈ [2, 6] then some 10
    else none
  | .xtc => if bit ∈ [0, 1, 2, 4, 5] then some 11 else if bit = 3 then some 12 else none
  | _ => none

/-- A source of consecutive numbers: bit n is source `first + n`, for the first `n` bits. -/
def evtRun (first n bit : Nat) : Option Nat := if bit < n then some (first + bit) else none

/-- The numbered source of a page's event bit (R460). -/
def evtOf (pg bit : Nat) : Option Nat :=
  match pageKind pg with
  | none => none
  | some k =>
    match k with
    | .pcx => evtRun 0 7 bit
    | .nve => evtRun 7 10 bit
    | .dmc => evtRun 24 4 bit
    | .mps => evtRun 28 8 bit
    | .scc => evtRun 40 6 bit
    | .msn => evtRun 48 10 bit
    | .map => evtRun 58 4 bit
    | .mor => evtRun 62 2 bit
    | .lcs => evtRun 64 4 bit
    | .sec => if bit = 8 then some 75 else evtRun 68 8 bit
    | .cip => evtRun 76 3 bit
    | .pwc => evtRun 80 12 bit
    | .thm => evtRun 96 7 bit
    | .hod => if bit ≤ 2 then some 104 else if bit ≤ 7 then some 105 else none
    | .fif => if bit < 5 then some 106 else none
    | .shw => if bit ∈ [0, 1, 2, 4] then some 107 else if bit = 3 then some 108 else none
    | .mbx => if bit < 2 then some 109 else none
    | .sve => some (112 + (pg - 0x20))
    | .spm => some (128 + (pg - 0x30) / 2)
    | .cpx => if bit ≤ 4 then some 136 else if bit ≤ 7 then some 137 else none
    | .wdg => if bit < 4 then some 138 else none
    | .dev => if bit < 5 then some 139 else none
    | .cal =>
      if bit ∈ [0, 4] then some 144
      else if bit ∈ [1, 5, 6, 7] then some 145
      else if bit ∈ [2, 3] then some 146
      else none
    | .asc =>
      if bit ∈ [0, 1] then some 147
      else if bit ∈ [2, 3, 5] then some 148
      else if bit ∈ [4, 6, 7] then some 149
      else none
    | .hst => some 152
    | .evc => some 153
    | .sbi => some 154
    | .clkg => some 155
    | .act => none
    | .klc => (evtClusterOfs k bit).map (fun o => 160 + 20 * (pg - 0x40) + o)
    | .fdc => (evtClusterOfs k bit).map (fun o => 160 + 20 * (pg - 0x48) + o)
    | .ldp => (evtClusterOfs k bit).map (fun o => 160 + 20 * (pg - 0x50) + o)
    | .fsq => (evtClusterOfs k bit).map (fun o => 160 + 20 * (pg - 0x58) + o)
    | .xtc => (evtClusterOfs k bit).map (fun o => 160 + 20 * (pg - 0x60) + o)

/-- The pages a numbered source takes bits from (R460). -/
def evtPages (evt : Nat) : List Nat :=
  if evt ≥ 160 then
    if evt ≥ 320 then []
    else
      let c := (evt - 160) / 20
      let o := (evt - 160) % 20
      if o ≤ 3 then [0x40 + c] else if o ≤ 5 then [0x48 + c] else if o ≤ 7 then [0x50 + c]
      else if o ≤ 10 then [0x58 + c] else if o ≤ 12 then [0x60 + c] else []
  else if evt ≥ 156 then []
  else if evt ≥ 152 then [[6], [5], [7], [1]].getD (evt - 152) []
  else if evt ≥ 150 then []
  else if evt ≥ 147 then [0x1C]
  else if evt ≥ 144 then [4]
  else if evt ≥ 140 then []
  else if evt = 139 then [0]
  else if evt = 138 then [0xE]
  else if evt ≥ 136 then [0x1D]
  else if evt ≥ 128 then [0x30 + 2 * (evt - 128), 0x31 + 2 * (evt - 128)]
  else if evt ≥ 112 then [0x20 + (evt - 112)]
  else if evt ≥ 110 then []
  else if evt = 109 then [0xB]
  else if evt ≥ 107 then [0xD]
  else if evt = 106 then [0xC]
  else if evt ≥ 104 then [0x1B]
  else if evt ≥ 96 then [3]
  else if evt ≥ 80 then [2]
  else if evt ≥ 76 then [0xA]
  else if evt ≥ 68 then [9]
  else if evt ≥ 64 then [8]
  else if evt ≥ 62 then [0x1A]
  else if evt ≥ 58 then [0x19]
  else if evt ≥ 48 then [0x18]
  else if evt ≥ 40 then [0x14]
  else if evt ≥ 28 then [0x13]
  else if evt ≥ 24 then [0x12]
  else if evt ≥ 7 then [0x11]
  else [0x10]

/-- Whether a page has a bit of the numbered source in a set of bits. -/
def evtHits (pg evt bits : Nat) : Bool :=
  (List.range 32).any fun b => bitOf bits b && decide (evtOf pg b = some evt)

/-- The power domain of a page of the domains that can be off in service, in the order of HOD.DOM_BUSY: MEM, SVE, the clusters;
16 for every other page. -/
def domOfPage (pg : Nat) : Nat :=
  if 0x12 ≤ pg ∧ pg ≤ 0x14 then 5 else if 0x20 ≤ pg ∧ pg < 0x40 then 6 else if 0x40 ≤ pg ∧ pg < 0x68 then 7 + pg % 8 else 16

namespace Io

/-- The event bits of a page that are pending and routed. -/
def pendEn (io : Io) (pg : Nat) : Nat := io.fld pg HDR.EV_PEND.V &&& io.fld pg HDR.EV_EN.V

/-- A page signals while any bit of EV_PEND AND EV_EN is 1 (R36), unless its power domain is off (R461). -/
def signals (io : Io) (pg : Nat) : Bool := decide (io.pendEn pg ≠ 0) && !io.off.contains (domOfPage pg)

/-- A numbered source is active while a bit of its mask is pending and enabled (R460). -/
def evtActive (io : Io) (evt : Nat) : Bool :=
  (evtPages evt).any fun pg => evtHits pg evt (io.pendEn pg)

/-- Whether any page with PIN routing signals (R461): only a page with a listed EV_PEND can. -/
def pinWanted (io : Io) : Bool :=
  io.regs.any fun kv =>
    decide (kv.1 % 4096 = 0x14) && io.signals (kv.1 / 4096) && io.flag (kv.1 / 4096) HDR.EV_ROUTE.PIN

/-- The level EVENT# takes: low while a page with PIN routing signals, the pin is enabled and EVC operates (R461, R471). -/
def pinLevelNow (io : Io) : Bool :=
  !(io.pinWanted && io.flag 5 EVC.PIN_CFG.EN && io.enabled 5)

/-- The vector a page's message goes out on: a vector above the enabled table size is delivered on vector 0 (R36). The
table has 128 vectors. -/
def msixVector (io : Io) (pg : Nat) : Nat := io.fld pg HDR.EV_ROUTE.VECTOR

/-- Send a page's MSI-X message on the ports whose PF1 has the vector unmasked. -/
def sendMsix (io : Io) (pg : Nat) : Io :=
  if io.enabled 5 && io.flag pg HDR.EV_ROUTE.MSIX then
    { io with msixSent := io.msixSent ++ io.msixOpen.filter (fun v => v % 128 = io.msixVector pg) }
  else io

/-! ### FIFOs: the raw post (R366-R368) -/

/-- The depth of a FIFO (R367); 0: the number is reserved. -/
def fifoDepth (n : Nat) : Nat :=
  if n < 0x80 then 8
  else if n < 0x88 then 2
  else if n < 0x98 then 8
  else if n < 0xA8 then 32
  else if n < 0xAD then 64
  else if n < 0xAF then 16
  else if 0xC0 ≤ n ∧ n < 0xD0 then 64
  else 0

/-- The FIFO page of a FIFO's own registers. -/
def fifoPg (n : Nat) : Nat := bank 0xC n

/-- A FIFO's contents. -/
def fifo (io : Io) (n : Nat) : Fifo := Tab.get Fifo.zero io.fifos n

/-- Readable and held items and reserved stages. -/
def fifoUsed (f : Fifo) : Nat := f.items.length + f.held.length + f.reserved

/-- Store a FIFO and show its counts in FIFO_STAT and FIFO_HWM (R376). -/
def setFifo (io : Io) (n : Nat) (f : Fifo) : Io :=
  ((((({ io with fifos := Tab.put Fifo.zero io.fifos n f } : Io).setFld (fifoPg n) FIF.FIFO_STAT.COUNT f.items.length).setFld
    (fifoPg n) FIF.FIFO_STAT.PEND (f.held.length + f.reserved)).setFlag (fifoPg n) FIF.FIFO_STAT.CLAIMED f.claimer.isSome).setFld
    (fifoPg n) FIF.FIFO_STAT.CLAIMER (f.claimer.getD 0)).setFld
    (fifoPg n) FIF.FIFO_HWM.HWM (max (io.fld (fifoPg n) FIF.FIFO_HWM.HWM) (fifoUsed f))

/-- Whether a FIFO can take one more item: FIF operates and a stage is free (R368, R372). -/
def fifoRoom (io : Io) (n : Nat) : Bool :=
  io.enabled 0xC && decide (fifoUsed (io.fifo n) < fifoDepth n)

/-- An accepted item enters the FIFO (R366). -/
def fifoPush (io : Io) (n item : Nat) : Io :=
  io.setFifo n { io.fifo n with items := (io.fifo n).items ++ [item] }

/-! ### Window counters (R450) -/

/-- The sources of which the page keeps one count per unit: DEC_PARITY of LDPc and OBS_LOST of SPMe (R450). -/
def perUnit (pg bit : Nat) : Bool :=
  (decide (pageKind pg = some .ldp) && decide (bit = 4)) || (decide (pageKind pg = some .spm) && decide (bit = 3))

/-- A source's window counter. -/
def win (io : Io) (pg bit : Nat) : Win := Tab.get Win.zero io.wins (pg * 32 + bit)

/-- Store a window counter. -/
def setWin (io : Io) (pg bit : Nat) (w : Win) : Io :=
  { io with wins := Tab.put Win.zero io.wins (pg * 32 + bit) w }

/-- The unit an occurrence is counted under: the decoder, or the slot's channel. -/
def winUnit (pg bit unit : Nat) : Nat :=
  if perUnit pg bit then (if pageKind pg = some .spm then unit % 4 else unit) else 0

/-- A record's CONTEXT (R463): the unit for the pages that name one (MSN names a slot in its events 0-4), otherwise 0. -/
def ctxOf (pg bit unit : Nat) : Nat :=
  match pageKind pg with
  | some .klc => unit
  | some .fdc => unit
  | some .fsq => unit
  | some .ldp => unit
  | some .spm => unit
  | some .hod => unit
  | some .mps => unit
  | some .pwc => unit
  | some .thm => unit
  | some .msn => if bit ≤ 4 then unit else 0
  | _ => 0

end Io

/-- WIN_CNT shows the largest unit count (R450). -/
def Win.largest (w : Win) : Nat := w.counts.foldl (fun m kv => max m kv.2) 0

namespace Io

/-- Whether one more occurrence makes the source lasting: its count reaches T. -/
def becomesLasting (io : Io) (pg bit unit : Nat) : Bool :=
  let w := io.win pg bit
  let c := Tab.get 0 w.counts (winUnit pg bit unit)
  decide (w.window ≠ 0) && decide (w.thresh ≠ 0) && decide (c < w.thresh) && decide (satAdd 16 c 1 ≥ w.thresh)

/-- Count one occurrence of a source; a source with WINDOW = 0 is not counted. -/
def countWin (io : Io) (pg bit unit : Nat) : Io :=
  let w := io.win pg bit
  if w.window = 0 then io
  else io.setWin pg bit { w with counts := Tab.upd 0 w.counts (winUnit pg bit unit) (fun c => satAdd 16 c 1) }

/-- The page's per-unit register names the lasting unit: LDPc.DEC_LAST or SPMe.OBS_LASTING (R450). -/
def nameUnit (io : Io) (pg bit unit : Nat) : Io :=
  if pageKind pg = some .ldp ∧ bit = 4 then io.setFld pg LDP.DEC_LAST.DEC (bitSet (io.fld pg LDP.DEC_LAST.DEC) (winUnit pg bit unit))
  else if pageKind pg = some .spm ∧ bit = 3 then io.setFld pg SPM.OBS_LASTING.SLOT (bitSet (io.fld pg SPM.OBS_LASTING.SLOT) (winUnit pg bit unit))
  else io

/-! ### Records (R463-R468) -/

end Io

/-- Whether a record has the fields that R465 compares equal. -/
def Rec.same (a b : Rec) : Bool :=
  decide (a.kind = 1) && decide (b.kind = 1) && decide (a.evt = b.evt) && decide (a.page = b.page) && decide (a.bit = b.bit)
    && decide (a.ctx = b.ctx) && decide (a.flags = b.flags) && decide (a.pcyc = b.pcyc)

/-- One more occurrence merged into a record (R465). -/
def Rec.merge (r : Rec) (hours : Nat) : Rec := { r with rep := satAdd 16 r.rep 1, hoursLast := hours }

/-- The last record of a list changed. -/
def onLast (f : Rec → Rec) (l : List Rec) : List Rec :=
  match l.reverse with
  | [] => []
  | r :: t => (f r :: t).reverse

/-- A new record goes to LAST, where it replaces the oldest of 512, and to FIRST while FIRST has room (R466). -/
def RecMem.add (m : RecMem) (r : Rec) : RecMem :=
  let r := { r with rseq := m.rseq }
  { m with
    last := if m.last.length ≥ 512 then (m.last ++ [r]).tail else m.last ++ [r]
    first := if m.first.length < 512 then m.first ++ [r] else m.first
    rseq := (m.rseq + 1) % 2 ^ 32 }

/-- Merge into the last record of LAST, and into the same record's copy in FIRST. -/
def RecMem.mergeLast (m : RecMem) (hours : Nat) : RecMem :=
  match m.last.getLast? with
  | none => m
  | some r =>
    { m with
      last := onLast (fun x => x.merge hours) m.last
      first := onLast (fun x => if x.rseq = r.rseq then x.merge hours else x) m.first }

namespace Io

/-- Store the recorder and show it in the HST page (R472). -/
def setHst (io : Io) (h : Recorder) : Io :=
  ((((({ io with hst := h } : Io).setFld 6 HST.HST_STAT.HELD h.held.length).setFld
    6 HST.HST_STAT.FIRST_CNT h.mem.first.length).setFld 6 HST.MISSED.COUNT h.missed).setFld
    6 HST.RSEQ.NEXT h.mem.rseq).setFld 6 HST.CLEARS.COUNT h.mem.clears

/-- Write a new record to LAST and FIRST; `up` raises an event of HST: RECORD, and FIRST_FULL when FIRST fills. -/
def addRec (up : Nat → Nat → Io → Io) (io : Io) (r : Rec) : Io :=
  let io' := up 6 0 (io.setHst { io.hst with mem := io.hst.mem.add r })
  if io.hst.mem.first.length = 511 then up 6 1 io' else io'

/-- Make a record: held or counted as missed during a freeze, merged under R465, or written. -/
def makeRec (up : Nat → Nat → Io → Io) (io : Io) (r : Rec) : Io :=
  if io.flag 6 HST.HST_CTL.FREEZE then
    match io.hst.held.getLast? with
    | some q =>
      if r.same q then io.setHst { io.hst with held := onLast (fun x => x.merge io.hst.hours) io.hst.held }
      else if io.hst.held.length < 32 then io.setHst { io.hst with held := io.hst.held ++ [r] }
      else up 6 3 (io.setHst { io.hst with missed := satAdd 16 io.hst.missed 1 })
    | none => io.setHst { io.hst with held := [r] }
  else
    match io.hst.mem.last.getLast? with
    | some q =>
      if r.same q then io.setHst { io.hst with mem := io.hst.mem.mergeLast io.hst.hours }
      else addRec up io r
    | none => addRec up io r

/-- A record with the present hours and power-cycle count (R463). -/
def newRec (io : Io) (evt kind flags pg bit ctx : Nat) : Rec :=
  ⟨evt, kind, flags, 0, pg, bit, io.hst.hours, io.hst.pcyc, io.hst.hours, ctx, 0⟩

/-- Set the recorder's freeze: the FREEZE record first, then the freeze takes effect (R468). -/
def freezeRec (up : Nat → Nat → Io → Io) (io : Io) : Io :=
  if io.flag 6 HST.HST_CTL.FREEZE then io
  else
    up 6 2 (((makeRec up io (io.newRec 0xFFFF 4 0 0 0 0)).setFlag 6 HST.HST_CTL.FREEZE true).setFlag 6 HST.HST_STAT.FROZEN true)

/-- End the recorder's freeze: the held records in order, then a MISSED record if any were missed (R468). -/
def thawRec (up : Nat → Nat → Io → Io) (io : Io) : Io :=
  if io.flag 6 HST.HST_CTL.FREEZE then
    let held := io.hst.held
    let missed := io.hst.missed
    let io1 := ((io.setHst { io.hst with held := [], missed := 0 }).setFlag 6 HST.HST_CTL.FREEZE false).setFlag
      6 HST.HST_STAT.FROZEN false
    let io2 := held.foldl (fun i r => addRec up i r) io1
    if missed ≠ 0 then addRec up io2 (io2.newRec 0xFFFF 5 0 0 0 missed) else io2
  else io

/-! ### Firing -/

/-- Whether REC_EN has the bit of a source; EVT 152 and 153 are never recorded (R464, R471). -/
def recEnabled (io : Io) (evt : Nat) : Bool :=
  decide (evt ≠ 152) && decide (evt ≠ 153) &&
    bitOf (io.fld 5 (EVC.REC_EN0.REC.at (4 * (evt / 32)))) (evt % 32)

/-- The notice item of a firing (R461). -/
def noticeItem (evt pg bit : Nat) (inj : Bool) : Nat := evt + bit * 2 ^ 9 + b2n inj * 2 ^ 14 + pg * 2 ^ 16

/-- Post a notice item to EV_MGP or EV_CPX; a refused item is dropped and counted, and EVC raises ITEM_DROPPED (R461). -/
def postNotice (up : Nat → Nat → Io → Io) (io : Io) (n : Nat) (cnt : RF) (item : Nat) : Io :=
  if io.fifoRoom n then io.fifoPush n item
  else up 5 0 (up 0xC 0 ((io.bump (fifoPg n) FIF.FIFO_CNT.REFUSED).bump 5 cnt))

/-- Bring EVENT# to the level the pages want; a change raises PIN_CHANGE (R461, R471). -/
def syncPin (up : Nat → Nat → Io → Io) (io : Io) : Io :=
  if io.flag 5 EVC.PIN_CFG.LEVEL = io.pinLevelNow then io
  else up 5 1 (io.setFlag 5 EVC.PIN_CFG.LEVEL io.pinLevelNow)

/-- One firing of an event source: the pending bit, the window count, the record, the freeze trigger, the LASTING record,
the notices, the message and the pin, in that order. The first argument bounds the chain of events that the firing's own
handling raises (a record raises HST.RECORD, a dropped notice EVC.ITEM_DROPPED). -/
def fire : Nat → Nat → Nat → Nat → Bool → Io → Io
  | 0, _, _, _, _, io => io
  | n + 1, pg, bit, ctx, inj, io =>
    let up : Nat → Nat → Io → Io := fun p b i => fire n p b 0 false i
    if present io.part pg then
      let was := io.signals pg
      let lasting := io.becomesLasting pg bit ctx
      let io := (io.setFld pg HDR.EV_PEND.V (bitSet (io.fld pg HDR.EV_PEND.V) bit)).countWin pg bit ctx
      let evt := evtOf pg bit
      let fl := fun (e : Nat) => b2n inj + 2 * b2n (io.evtActive e && io.flag pg HDR.EV_ROUTE.PIN)
      let io := match evt with
        | some e => if io.recEnabled e then makeRec up io (io.newRec e 1 (fl e) pg bit (ctxOf pg bit ctx)) else io
        | none => io
      let io := match evt with
        | some e =>
          if io.flag 6 HST.HST_CTL.FRZ_AUTO && decide (io.fld 6 HST.HST_CTL.FRZ_EVT = e) then freezeRec up io else io
        | none => io
      let io :=
        if lasting then
          let io := (io.setFld pg HDR.WIN_LASTING.V (bitSet (io.fld pg HDR.WIN_LASTING.V) bit)).nameUnit pg bit ctx
          match evt with
          | some e =>
            if e = 152 ∨ e = 153 then io else makeRec up io (io.newRec e 2 (b2n inj) pg bit (ctxOf pg bit ctx))
          | none => io
        else io
      let io :=
        if bitOf (io.fld pg HDR.EV_EN.V) bit && io.enabled 5 then
          match evt with
          | some e =>
            let io := if io.flag pg HDR.EV_ROUTE.MGP then
              postNotice up io 0xA9 EVC.EVC_CNT.DROP_MGP (noticeItem e pg bit inj) else io
            if io.flag pg HDR.EV_ROUTE.CPX then
              postNotice up io 0xAA EVC.EVC_CNT.DROP_CPX (noticeItem e pg bit inj) else io
          | none => io
        else io
      let io := if io.signals pg && !was then io.sendMsix pg else io
      syncPin up io
    else io

/-- How far a chain of events caused by one event's own handling is followed. -/
def chain : Nat := 3

/-- Raise an event of a page: `ctx` is the record's CONTEXT and the unit counted. -/
def raise (io : Io) (pg bit ctx : Nat) : Io := fire chain pg bit ctx false io

/-- Raise an event with its injected mark (R40). -/
def raiseI (io : Io) (pg bit ctx : Nat) (inj : Bool) : Io := fire chain pg bit ctx inj io

/-- Raise an event without a context from inside an event operation. -/
def up (pg bit : Nat) (io : Io) : Io := fire chain pg bit 0 false io

/-! ### Error injection (R39, R40) -/

/-- Whether an error of a source is due for injection at this opportunity. -/
def injects (io : Io) (pg bit : Nat) : Bool :=
  decide (io.fld pg HDR.ERR_INJ.SRC = bit) && (io.flag pg HDR.ERR_INJ.CONT || io.flag pg HDR.ERR_INJ.ONESHOT)

/-- ONESHOT clears itself when its error has been injected. -/
def injected (io : Io) (pg bit : Nat) : Io :=
  if io.fld pg HDR.ERR_INJ.SRC = bit then io.setFlag pg HDR.ERR_INJ.ONESHOT false else io

/-! ### FIFO posts by hardware (R368) -/

/-- A hardware agent's post: accepted, or refused with REFUSED counted and FULL raised. -/
def fifoPost (io : Io) (n item : Nat) : Io :=
  if io.fifoRoom n then io.fifoPush n item
  else if io.enabled 0xC then (io.bump (fifoPg n) FIF.FIFO_CNT.REFUSED).raise 0xC 0 0
  else io.bump (fifoPg n) FIF.FIFO_CNT.REFUSED

/-- A post to a FIFO whose reader takes every item at once. -/
def fifoPass (io : Io) (n item : Nat) : Io :=
  if io.fifoRoom n then (io.fifoPush n item).setFifo n (io.fifo n) else io.fifoPost n item

end Io

end Sys2Proof.Machine
end

