-- ==== Sys2Proof/Machine/BufState.lean ====
section
/-! DEFINITION. The state of the buffer memory (R316-R345): the DRAM's bytes and poisoned words, and the Segment Cache's
lines, trackers and destage work. -/

namespace Sys2Proof.Machine

/-- A cache line (R331, R338): its key, and for each of its 16 sub-blocks whether it is valid, dirty, being filled or
destaged, and prefetched but not yet read. `since` is the fetch order of the write that first made the line dirty. -/
structure Line where
  nsid : Nat
  line : Nat
  valid : Nat
  dirty : Nat
  filling : Nat
  copying : Nat
  unread : Nat
  evicting : Bool
  since : Nat
  deriving DecidableEq, Repr

/-- An INVALID way. -/
def Line.zero : Line := ⟨0, 0, 0, 0, 0, 0, 0, false, 0⟩

/-- A stride tracker (R336). -/
structure Tracker where
  nsid : Nat
  last : Nat
  stride : Nat
  conf : Nat
  deriving DecidableEq, Repr

/-- The buffer memory. -/
structure BufSt where
  /-- DRAM bytes in canonical form; an unlisted byte reads as zero, what a wipe leaves (R318, R382). -/
  dram : List (Nat × Byte)
  /-- Poisoned lines (R323): line number to the set of its 8-byte words still poisoned. -/
  poison : List (Nat × Nat)
  /-- Lines corrected by a read and not yet written back (R324). -/
  fixes : List Nat
  /-- The scrubber's place: lines read in this lap (R327). -/
  scrubbed : Nat
  /-- The cache's ways, by 16 * set + way. -/
  lines : List (Nat × Line)
  /-- The stride trackers, the most recently used first. -/
  trackers : List Tracker
  /-- The last ceiling stays in force for a drain after HU_VALID cleared (R341). -/
  ceilHeld : Bool
  /-- A cache size written while dirty sub-blocks remain (R345). -/
  sizeNext : Option Nat
  deriving DecidableEq, Repr

/-- The buffer memory after a wipe. -/
def BufSt.zero : BufSt := ⟨[], [], [], 0, [], [], false, none⟩

end Sys2Proof.Machine
end

