-- ==== Sys2Proof/Machine/DiskState.lean ====
section
/-! DEFINITION. The state of the disk side beyond the registers: links and their replay buffers, RETRACT_n, detectors
with their retained rings, decoder pools, sequencer threads with their control stores, servo loops with their memories,
spindle channels. What a register shows stands in the register; what is here no register shows. -/

namespace Sys2Proof.Machine

/-! ### Koraetar Link -/

/-- A command packet in the replay buffer (R54, R55): its PSEQ, opcode, arguments as one number, and resends. -/
structure Pkt where
  seq : Nat
  op : Nat
  arg : Nat
  resends : Nat
  deriving DecidableEq, Repr

/-- One upstream lane: block lock and its header runs (R44), the next SSEQ and its first sample's index (R46, R68), the check
groups (R49, R66). -/
structure LaneRx where
  locked : Bool
  bad : Nat
  good : Nat
  sseq : Option Nat
  idx : Nat
  group : Option Nat
  failed : Nat
  checkedTo : Nat
  deriving DecidableEq, Repr

/-- A lane that has received nothing. -/
def LaneRx.zero : LaneRx := ⟨true, 0, 0, none, 0, none, 0, 0⟩

/-- A link leaving ACTIVE with heads loaded (R72): where it goes, the UNLOAD's PSEQ, and whether its ACK has arrived. -/
structure Leave where
  target : Nat
  seq : Nat
  acked : Bool
  deriving DecidableEq, Repr

/-- What the H7128 has sent on DN or handed to the lane, R51-R54, R58, R64. -/
inductive DnItem where
  | kill
  | out (vcmV maV spinV : Bool) (vcm ma : Int) (wedge phU phV phW mode : Nat)
  | cmd (seq op arg : Nat)
  | write (gateOpen gateClose : Bool) (valid bits : Nat)
  | config (link cluster side curRate spinTimeout : Nat) (fullRate : Bool)
  deriving DecidableEq, Repr

/-- A link beyond its registers. -/
structure Link where
  pseq : Nat
  replay : List Pkt
  up0 : LaneRx
  up1 : LaneRx
  leave : Option Leave
  /-- The bridge events shown in the last STATUS flit (R48, R79). -/
  shown : Nat
  /-- The PSEQ of the EVT_CLEAR not yet covered by an ACK (R79). -/
  clearSeq : Option Nat
  clearMask : Nat
  outCrc : Nat
  /-- Failed attempts in a row (R62). -/
  fails : Nat
  /-- An IDENT has been received since the link was last DOWN (R63). -/
  identified : Bool
  curIndex : Nat
  vcmI : Int
  sensorId : Nat
  sensorVal : Int
  lastTag : Nat
  bitsWritten : Nat
  dn : List DnItem
  deriving DecidableEq, Repr

/-- A link as reset leaves it. -/
def Link.zero : Link :=
  ⟨0, [], LaneRx.zero, LaneRx.zero, none, 0, none, 0, 0, 0, false, 0, 0, 0, 0, 0, 0, []⟩

/-- The hardware causes of a cluster's RETRACT_n (R76), the links that caused UNLOAD_UNACKED, and an outside drive. -/
structure Retract where
  poweron : Bool
  unacked : Bool
  shutdown : Bool
  ext : Bool
  links : List Nat
  deriving DecidableEq, Repr

/-- RETRACT_n from power-on reset (R76). -/
def Retract.zero : Retract := ⟨true, false, false, false, []⟩

/-- The links, the retract lines and the bridges' spindle owners (slot to side; side A from the bridge's reset, R73). -/
structure LinkSt where
  links : List (Nat × Link)
  retract : List (Nat × Retract)
  owner : List (Nat × Nat)
  deriving DecidableEq, Repr

/-! ### Read channel -/

/-- A retained record: the header of R121 and the sample flits of both readers (R119). -/
structure Record where
  act : Nat
  head : Nat
  units : Nat
  reason : Nat
  tile : Nat
  slot : Nat
  level : Nat
  start : Nat
  n : Nat
  rate : Nat
  dsetDone : Nat
  urgent : Bool
  /-- A scan decode, whose ladder is limited to level 1 (R142), and the cipher handling of the window (CIPH). -/
  scan : Bool
  ciph : Nat
  syncOfs : Int
  cand : List Int
  gen : Nat
  brick : Nat
  best : Nat
  bestOfs : Int
  bestSet : Nat
  resumeOfs : Int
  tag : Nat
  samples0 : List (List Int)
  samples1 : List (List Int)
  deriving DecidableEq, Repr

/-- An empty record. -/
def Record.zero : Record :=
  ⟨0, 0, 1, 0, 0, 0, 1, 0, 0, 0, 0, false, false, 0, 0x7F, [], 0, 0, 3584, 0, 0, 0x7FFF, 0, [], []⟩

/-- An open brick read window (R142): what it reads and how its brick is handled. -/
structure RdWin where
  slot : Nat
  tile : Nat
  head : Nat
  tgt : Nat
  dset : Nat
  ldq : Nat
  ciph : Nat
  unit : Nat
  gen : Nat
  brick : Nat
  tag : Nat
  resumed : Bool
  /-- Its marks have been searched for. -/
  searched : Bool
  deriving DecidableEq, Repr

/-- A live decode or a brick waiting for its check groups. -/
structure LiveJob where
  act : Nat
  unit : Nat
  dec : Nat
  ldq : Nat
  ciph : Nat
  deriving DecidableEq, Repr

/-- A decoded brick held until every check group covering its samples has passed (R66). -/
structure HeldBrick where
  act : Nat
  slot : Nat
  tile : Nat
  tag : Nat
  upTo : Nat
  ciph : Nat
  brick : Brick
  deriving DecidableEq, Repr

/-- A detector beyond its registers. -/
structure Det where
  win : Option RdWin
  /-- Windows that have ended with their soft values still to come, oldest first. -/
  pend : List RdWin
  wedgeTgt : Option Nat
  /-- A sample gap or a failed check group has touched the open wedge window (R66). -/
  wedgeGap : Bool
  ring : List (Nat × Record)
  deriving DecidableEq, Repr

/-- A detector with nothing in its ring. -/
def Det.zero : Det := ⟨none, [], none, false, []⟩

/-- A retry job (R122): its record's unit in the retry store, tag, class, level and attempt. -/
structure RetryJob where
  tag : Nat
  unit : Nat
  act : Nat
  urgent : Bool
  level : Nat
  attempt : Nat
  replayed : Bool
  deriving DecidableEq, Repr

/-- A retry job on a decoder, by right or borrowed. -/
structure Running where
  dec : Nat
  borrowed : Bool
  job : RetryJob
  deriving DecidableEq, Repr

/-- A decoder pool beyond its registers: the retry queue, the decoders' jobs, the replay detectors. -/
structure Pool where
  queue : List RetryJob
  running : List Running
  live : List LiveJob
  replays : List Nat
  /-- Jobs at a level boundary, waiting for Mason's decision (R128). -/
  boundary : List RetryJob
  deriving DecidableEq, Repr

/-- An idle pool. -/
def Pool.zero : Pool := ⟨[], [], [], [], []⟩

/-- What a detector or pool reports to Mason (R65, R120, R121, R125-R129). -/
inductive ReportKind where
  | gap | ringPinned | stored | unretried | stale | misplaced | exhausted | level | passed | realloc | cancelled | returned
  deriving DecidableEq, Repr

/-- One report: the actuator, tile and slot, the job tag, the level reached and the best unsatisfied count. -/
structure Report where
  kind : ReportKind
  act : Nat
  tile : Nat
  slot : Nat
  head : Nat
  tag : Nat
  level : Nat
  best : Nat
  deriving DecidableEq, Repr

/-- A detector parameter block's taps as the detector holds them for set 0 (R112, R113). -/
structure Taps where
  taps0 : List Int
  taps1 : List Int
  deriving DecidableEq, Repr

/-- The read channel. -/
structure RcSt where
  dets : List (Nat × Det)
  pools : List (Nat × Pool)
  /-- The retry store: unit to record, with the flag's owner shown by presence (R121). -/
  store : List (Nat × Record)
  /-- Records kept for level 5 until Mason releases them: tag to units (R128). -/
  kept : List (Nat × List Nat)
  held : List HeldBrick
  /-- Bricks delivered after their checks (R66, R125): plaintext where their handling asks for it, else as on the media. -/
  delivered : List HeldBrick
  reports : List Report
  deriving DecidableEq, Repr

/-! ### Format sequencers -/

/-- One slot of a write gate: its first channel bit in the gate, the pallet entry it carries, and whether it is the
rest of a split brick (R151). -/
structure GateSlot where
  slot : Nat
  first : Nat
  entry : Nat
  resume : Bool
  /-- The brick goes on in another gate. -/
  part : Bool
  deriving DecidableEq, Repr

/-- A write gate armed or open (R146, R150). -/
structure Gate where
  tag : Nat
  tile : Nat
  tgt : Nat
  bits : Nat
  slots : List GateSlot
  closed : Bool
  killed : Bool
  deriving DecidableEq, Repr

/-- A job descriptor (R137). -/
structure JobD where
  op : Nat
  head : Nat
  slot : Nat
  tile : Nat
  count : Nat
  tag : Nat
  deriving DecidableEq, Repr

/-- The pallet a thread owns (R148): its place and header, how many bricks are staged and committed. -/
structure Pallet where
  addr : Nat
  producer : Nat
  count : Nat
  tile : Nat
  gen : Nat
  course : Nat
  pos : Nat
  kind : Nat
  brick : Nat
  staged : Nat
  committed : Nat
  entries : List Brick
  deriving DecidableEq, Repr

/-- A brick staged in the assembler for one slot: its channel bits, first-written bit first in significance (R149). -/
structure Staged where
  entry : Nat
  slot : Nat
  bits : Nat
  sent : Nat
  deriving DecidableEq, Repr

/-- A sequencer thread beyond its registers. -/
structure Thread where
  next : Nat
  word : Nat
  stack : List Nat
  tag : Nat
  job : Option JobD
  gates : List Gate
  /-- Bits queued for gates whose ARM is still to come, oldest first. -/
  pre : List Gate
  pallets : List Pallet
  staged : Option Staged
  zone : Option Nat
  gateDrop : Bool
  gateDone : Bool
  syncFound : Bool
  wedgeValid : Bool
  lastSam : Nat
  lastWedge : Nat
  decDone : Bool
  decPass : Bool
  haltReq : Bool
  deriving DecidableEq, Repr

/-- A thread as reset leaves it. -/
def Thread.zero : Thread :=
  ⟨0, 0, [], 0, none, [], [], [], none, none, false, false, false, false, 0, 0, false, false, false⟩

/-- The gate that queued bits go to: the last one while it is not closed, else one whose ARM is still to come. -/
def Thread.lastGate (t : Thread) : Gate :=
  match (t.gates ++ t.pre).getLast? with
  | some g => if g.closed then ⟨0, 0, 0, 0, [], false, false⟩ else g
  | none => ⟨0, 0, 0, 0, [], false, false⟩

/-- Put that gate back. -/
def Thread.putGate (t : Thread) (g : Gate) : Thread :=
  match t.pre.getLast?, t.gates.getLast? with
  | some x, _ => { t with pre := (if x.closed then t.pre else t.pre.dropLast) ++ [g] }
  | none, some x => if x.closed then { t with pre := [g] } else { t with gates := t.gates.dropLast ++ [g] }
  | none, none => { t with pre := [g] }

/-- A zone-table entry (R144, R159). -/
structure ZtEntry where
  firstTile : Nat
  rate : Nat
  spt : Nat
  tpt : Nat
  guard : Nat
  firstTrack : Nat
  deriving DecidableEq, Repr

/-- The sequencers: threads by actuator, control stores (cluster * 8192 + address; an unlisted word is zero), the words
committed since DIGEST_CLR per cluster, the CS_DATA words written, the zone tables (actuator * 32 + zone). -/
structure SeqSt where
  threads : List (Nat × Thread)
  store : List (Nat × Nat)
  digest : List (Nat × List Nat)
  csData : List (Nat × Nat)
  zones : List (Nat × Option ZtEntry)
  deriving DecidableEq, Repr

/-! ### Servo -/

/-- A section's delays (R168). -/
structure Sect where
  x1 : Int
  x2 : Int
  y1 : Int
  y2 : Int
  deriving DecidableEq, Repr

/-- A section at rest. -/
def Sect.zero : Sect := ⟨0, 0, 0, 0⟩

/-- The sample index of a wedge's SAM, kept for the speed ratio (R163). -/
structure SamAt where
  wedge : Nat
  sam : Nat
  ok : Bool
  deriving DecidableEq, Repr

/-- A servo loop beyond its registers. -/
structure Loop where
  sams : List SamAt
  r : Nat
  intervals : Nat
  pos : Option Int
  /-- The wedge intervals seen when that position was taken (R165). -/
  posAt : Nat
  /-- The position, its intervals and MISS before the last valid wedge, should it prove invalid (R167). -/
  wasPos : Option Int
  wasAt : Nat
  wasMiss : Nat
  target : Int
  asked : Option Int
  pes : Int
  /-- The positions of the latest consecutive valid wedges, newest first (R180). -/
  hist : List Int
  shockRun : Nat
  shockHold : Nat
  limitRun : Nat
  predRun : Nat
  followRun : Nat
  /-- The wedge intervals seen when the present request was applied, until FOLLOW is reached (R177). -/
  sinceAsk : Option Nat
  setUsed : Nat
  sects : List (Nat × Sect)
  uVcm : Int
  uFb : Int
  uMa : Int
  coup : Int
  bias : Int
  dist : Int
  wedgeWord : Nat
  delta : Nat
  acq : Nat
  acqPrev : Option (Nat × Nat)
  /-- The track of the last acquisition candidate (R182). -/
  landed : Nat
  deriving DecidableEq, Repr

/-- A loop as reset leaves it; r is 1.0 in Q2.30. -/
def Loop.zero : Loop :=
  ⟨[], 2 ^ 30, 0, none, 0, none, 0, 0, 0, none, 0, [], 0, 0, 0, 0, 0, none, 0, [], 0, 0, 0, 0, 0, 0, 0, 0, 0, none, 0⟩

/-- An engine's trace (R185, R186): the ticks since the last kept one, the samples of each tick (oldest first), where
the trigger fell, the samples still to keep, the channel's last value, and whether the page's event has fired. -/
structure Trace where
  ticks : Nat
  rows : List (List Int)
  trig : Option Nat
  left : Nat
  prev : Option Int
  fired : Bool
  deriving DecidableEq, Repr

/-- An empty trace. -/
def Trace.zero : Trace := ⟨0, [], none, 0, none, false⟩

/-- The servo engines: loops by actuator, the three memories (actuator * 4096 + index), the traces by engine, and the
memory words with an uncorrectable error. -/
structure ServoSt where
  loops : List (Nat × Loop)
  coef : List (Nat × Word)
  bias : List (Nat × Word)
  prof : List (Nat × Word)
  /-- Position records posted and not yet taken, by pipeline (engine * 2 + side), oldest first (R162). -/
  queue : List (Nat × List (Nat × WedgeRec))
  traces : List (Nat × Trace)
  /-- Actuators whose coefficients are reloaded at their next OPEN (R451). -/
  reload : List Nat
  deriving DecidableEq, Repr

/-! ### Spindle -/

/-- A spindle channel beyond its registers. -/
structure Spin where
  vdInt : Int
  vqInt : Int
  spdInt : Int
  spdOut : Int
  ref : Int
  ticks : Nat
  missed : Nat
  attempts : Nat
  /-- AT_SPEED has been reached since the last start: the current limit is IQ_RUN (R191). -/
  reached : Bool
  forced : Bool
  /-- The spin-down coasts whatever DOWN_MODE says (R197, R201). -/
  coast : Bool
  /-- The cause that a stop under way will show: STOP or ENABLE_OFF (R210). -/
  why : Nat
  /-- UNLOAD has gone out in the present fall below 85 % (R202). -/
  lowSent : Bool
  stopHeld : Bool
  stopping : Bool
  lowRaised : Bool
  probesDue : Bool
  phU : Nat
  phV : Nat
  phW : Nat
  deriving DecidableEq, Repr

/-- A channel as reset leaves it. -/
def Spin.zero : Spin := ⟨0, 0, 0, 0, 0, 0, 0, 0, false, false, false, 1, false, false, false, false, false, 0, 0, 0⟩

/-- The spindles: channels by slot, the cogging tables (slot * 512 + entry), the queue of START writes (R198) and the
slots holding a start place. -/
structure SpinSt where
  chans : List (Nat × Spin)
  cog : List (Nat × BitVec 16)
  queue : List Nat
  places : List Nat
  deriving DecidableEq, Repr

/-! ### Media -/

/-- One system tile's content (R105): the descriptor, the grown list, the calibration store (R217, see `CalWhere`) and its
SEQ; `ok` is its CRC's validity. -/
structure SysTile where
  fmt : Option Format
  grown : List Defect
  cal : List (Nat × Nat)
  seq : Nat
  ok : Bool
  deriving DecidableEq, Repr

/-- A system tile never written. -/
def SysTile.zero : SysTile := ⟨none, [], [], 0, false⟩

/-- A descriptor of zeros: no actuator has it accepted. -/
def Format.zero : Format := ⟨0, 0, 0, 0, 0, 0, 0, [], 0⟩

/-- What the module holds of each actuator's media: the descriptor in use, the defect list in use, the entries that wait
for their tile's next opening, and the two system tiles (actuator * 2 + copy). -/
structure MediaSt where
  fmts : List (Nat × Format)
  defects : List (Nat × List Defect)
  waiting : List (Nat × List Defect)
  sys : List (Nat × SysTile)
  deriving DecidableEq, Repr

/-! ### Assist and calibration -/

/-- What the bytes of a head record say (R213); the level table is by temperature column and radius point, entry 16t + r. -/
structure HeadRec where
  level : List Nat
  temp : List Int
  radSh : Nat
  kind : Nat
  ofs : Int
  cur : Nat
  bias : Nat
  thCoef : Int
  riseCal : Nat
  dutyCal : Nat
  tCal : Int
  qmRef : Nat
  hours : Nat
  thGain : Nat
  tauSh : Nat
  valid : Bool
  weak : Bool
  retired : Bool
  tileCnt : Nat
  deriving DecidableEq, Repr

/-- The thermal model of a head (R216): its rise, the last level sent, and the D of the last ticks, newest first. -/
structure HeadModel where
  rise : Nat
  last : Nat
  duty : List Nat
  deriving DecidableEq, Repr

/-- A head without history. -/
def HeadModel.zero : HeadModel := ⟨0, 0, []⟩

/-- A head's check or recalibration in progress (R219-R223): the side of a first verify outside the window (0 none, 1
low, 2 high), whether a recalibration runs, how many of its sweeps have failed, the level its sweep is centred on and the
base of R214 there; and the operating hours at which recalibrations failed (R223). -/
structure HeadWork where
  checking : Bool
  side : Nat
  recal : Bool
  sweeps : Nat
  center : Int
  base : Int
  fails : List Nat
  deriving DecidableEq, Repr

/-- A head with no work. -/
def HeadWork.zero : HeadWork := ⟨false, 0, false, 0, 0, 0, []⟩

/-- Assist and calibration: models and work of each head (actuator * 12 + head), HDA temperatures by slot in 1/16 °C,
the head selected on each actuator; whether a hold-up measurement is due, the capacitance
(nF), ESR and lower-bound mark of each run of it so far, and the operating hours (1/16 h) of the last valid one; and the
actuators whose bias-force table has been measured. -/
structure AscSt where
  models : List (Nat × HeadModel)
  work : List (Nat × HeadWork)
  temps : List (Nat × Int)
  head : List (Nat × Nat)
  huDue : Bool
  huRuns : List (Nat × Nat × Bool)
  huAt : Nat
  biasDone : List Nat
  deriving DecidableEq, Repr

/-- Assist and calibration after reset. -/
def AscSt.zero : AscSt := ⟨[], [], [], [], false, [], 0, []⟩

end Sys2Proof.Machine
end

