-- ==== Sys2Proof/Machine/MoveState.lean ====
section
/-! DEFINITION. The state of Hod, the windows and the on-die SRAM (R346-R377). -/

namespace Sys2Proof.Machine

/-- A pending STRIDE (R359): rows, source and destination stride. -/
structure Stride where
  rows : Nat
  src : Int
  dst : Int
  deriving DecidableEq, Repr

/-- A Hod instruction's fields (R357). -/
structure HodI where
  op : Nat
  spA : Nat
  spB : Nat
  fA : Nat
  fB : Nat
  flags : Nat
  arg8 : Nat
  arg16 : Nat
  a : Nat
  b : Nat
  len : Nat
  arg32 : Nat
  deriving DecidableEq, Repr

/-- A Hod channel beyond its registers (R356): the port whose PF1 started it, a STRIDE waiting for its data instruction,
whether DOMAIN_BLOCKED has been raised, the WAIT it is in, and whether an event flag set since has satisfied that WAIT. -/
structure Chan where
  by1 : Option Nat
  stride : Option Stride
  blocked : Bool
  wait : Option HodI
  woken : Bool
  deriving DecidableEq, Repr

/-- An idle channel. -/
def Chan.zero : Chan := ⟨none, none, false, none, false⟩

/-- A write that has left for host memory: port, function, address and bytes. -/
structure HostWrite where
  port : Nat
  func : Nat
  addr : Nat
  bytes : List Nat
  deriving DecidableEq, Repr

/-- Hod, the windows and the on-die SRAM. -/
structure HodSt where
  chans : List (Nat × Chan)
  /-- On-die SRAM bytes: the Common Window at 0, the exchange SRAM at 0x0040_0000 (R357). -/
  sram : List (Nat × Byte)
  /-- Common Window lines with an uncorrectable error (R354). -/
  sramBad : List Nat
  hostOut : List HostWrite
  /-- The allocator's bitmaps: window * 65,536 + slot to 1 (one slot) or 2 (an aligned pair), R353. -/
  alloc : List (Nat × Nat)
  /-- ALLOC_RES by accessor (R377). -/
  allocRes : List (Nat × Nat)
  /-- Slots of window 2 flipped to the receiver whose doorbell has rung and that it still holds (R373). -/
  exchanges : List Nat
  deriving DecidableEq, Repr

/-- Hod and the windows after reset. -/
def HodSt.zero : HodSt := ⟨[], [], [], [], [], [], []⟩

end Sys2Proof.Machine
end

