-- ==== Sys2Proof/Machine/NvmeState.lean ====
section
/-! DEFINITION. The state of the NVMe engine: controllers with their queues and features, namespaces, commands in flight,
firmware slots, sanitize and format progress (R274-R315). -/

namespace Sys2Proof.Machine

/-- The statuses the spec names for a completion; their codes are NVMe Base's. -/
inductive Sc where
  | success | invalidOpcode | invalidField | lbaRange | sglLength | prpOffset | invalidNamespace | capacityExceeded
  | invalidKeySize | invalidValueSize | keyExists | keyAbsent | invalidQueueSize | invalidQueueId | doorbell
  | zoneInvalidWrite | zoneBoundary | zoneFull | tooManyOpen | tooManyActive | fwSlot | fwImage | fwMaxTime
  | fwConventionalReset | abortRequested | abortLimit | abortedSqDeletion | transferError | unrecoveredRead
  | compareFailure | namespaceNotReady | sanitizeInProgress | sanitizeFailed | formatInProgress | nsCapacity
  | nsIdUnavailable | strictLength | attestationUnavailable | lifeCycle | poolNotConfigured | asyncLimit | cmdSequence
  | invalidLogPage | queueDeletion | internalError | accessDenied | cqInvalid | nsAttached | nsNotAttached | nsPrivate
  | ctrlListInvalid | zoneTransition
  deriving DecidableEq, Repr

/-- A completion posted: controller, submission queue, command identifier, status, DW0, Do Not Retry where the spec gives
it, and the data returned (the bytes of the host buffer as one number, 0 where none). -/
structure Cqe where
  ctl : Nat
  sq : Nat
  cid : Nat
  sc : Sc
  dw0 : Nat
  dnr : Option Bool
  data : Nat
  deriving DecidableEq, Repr

/-- A submission queue: its size, its completion queue, its priority, and the entries between head and tail. -/
structure Sq where
  size : Nat
  cq : Nat
  prio : Nat
  head : Nat
  tail : Nat
  deriving DecidableEq, Repr

/-- A completion queue: its size, its vector, and the entries between the host's head and the engine's tail. -/
structure Cq where
  size : Nat
  vector : Nat
  head : Nat
  tail : Nat
  deriving DecidableEq, Repr

/-- A controller: PF0 of a port or one of its VFs (R278). -/
structure Ctrl where
  en : Bool
  rdy : Bool
  /-- CSTS.SHST: 0 none, 1 under way, 2 complete. -/
  shst : Nat
  /-- Data written up to this fetch order must reach the media before the shutdown completes, and the journal up to this
  JSEQ once it has (R292). -/
  shutOrder : Nat
  shutMark : Option Nat
  sqs : List (Nat × Sq)
  cqs : List (Nat × Cq)
  /-- Queue pairs granted by Number of Queues (R281). -/
  granted : Option (Nat × Nat)
  aers : List Nat
  /-- Asynchronous events waiting: type, information, log page (R308). -/
  events : List (Nat × Nat × Nat)
  /-- Feature values set, by feature identifier. -/
  feats : List (Nat × Nat)
  attached : List Nat
  changedNs : List Nat
  changedZones : List (Nat × Nat)
  deriving DecidableEq, Repr

/-- A controller after its reset: disabled, no queues. -/
def Ctrl.zero : Ctrl := ⟨false, false, 0, 0, none, [], [], none, [], [], [], [], [], []⟩

/-- A zone (R298): 0 Empty, 1 Implicitly Opened, 2 Explicitly Opened, 3 Closed, 4 Full; its write pointer as blocks
written. -/
structure ZoneSt where
  st : Nat
  wp : Nat
  deriving DecidableEq, Repr

/-- A key-value object (R299): its key, object
number, size, and the tags of its chunks with the check
value key they were made under (R397). -/
structure KvObj where
  key : List Nat
  obj : Nat
  size : Nat
  tags : List Nat
  tagKey : Nat
  deriving DecidableEq, Repr

/-- A namespace (R296): its command set (0 NVM, 1 Key Value, 2 Zoned), size in blocks, pool, flags, key domain, zones or
objects; `gone` while it is deleted but commands started on it still run. -/
structure Ns where
  live : Bool
  set : Nat
  nsze : Nat
  nmic : Nat
  pool : Nat
  strict : Bool
  pinned : Bool
  kdom : Nat
  maxValue : Nat
  zones : List (Nat × ZoneSt)
  objs : List KvObj
  ready : Bool
  format : Option Nat
  deriving DecidableEq, Repr

/-- No namespace. -/
def Ns.zero : Ns := ⟨false, 0, 0, 0, 0, false, false, 0, 0, [], [], false, none⟩

/-- The kinds of command that stay in flight over several steps. -/
inductive FlightKind where
  | write | flush | store | append | dealloc | format | deleteSq | retrieve
  deriving DecidableEq, Repr

/-- A command in flight: what it addresses; whether it has started (R290); whether it waits for room under the dirty ceiling
(R341); its fetch order; the JSEQ its effect must be persisted to, once that is known; the blocks placed so far, those
fetched and not yet placed, and the blocks it has in all. A Store keeps its new object and the one it replaces. A Retrieve
keeps its object, the bricks read, the chunks checked (`got`), and the byte range it asks for. -/
structure Flight where
  cmd : Cmd
  kind : FlightKind
  nsid : Nat
  obj : Nat
  slba : Nat
  total : Nat
  fua : Bool
  started : Bool
  waits : Bool
  order : Nat
  jseq : Option Nat
  dw0 : Nat
  got : Nat
  part : List Nat
  new : Option KvObj
  old : Option KvObj
  range : Nat × Nat
  deriving DecidableEq, Repr

/-- The NVMe engine. -/
structure NvmeSt where
  ctrls : List (Nat × Ctrl)
  ns : List (Nat × Ns)
  flights : List Flight
  fetched : Nat
  /-- Fetching has stopped at 65,536 commands (R282). -/
  full : Bool
  nextObj : Nat
  done : List Cqe
  /-- The staged firmware image, byte by byte (R293). -/
  staged : List (Nat × Nat)
  /-- The commit whose activation runs, and its slot (R294). -/
  activating : Option (Cmd × Nat)
  /-- Sanitize in progress, by its method (1 crypto, 2 block, 3 overwrite); `restricted` after a failure. -/
  sanitize : Option Nat
  restricted : Bool
  sanitizes : Nat
  errLog : List Cqe
  timestamp : Nat
  /-- Entries of page 0xC0 entered since manufacture and its change count (R305, R306). -/
  unrecTotal : Nat
  unrecChanges : Nat
  /-- A shutdown notification has completed and no command has been fetched since (R305). -/
  orderly : Bool
  unsafeStarts : Nat
  /-- NVMe-MI configuration values set, the answer to the last in-band request, and the answers given on the sideband
  (R312): kind, status, data. -/
  miConf : List (Nat × Nat)
  miAsked : Option (Sc × Nat)
  miOut : List (Nat × Sc × Nat)
  deriving DecidableEq, Repr

/-- The NVMe engine after reset. -/
def NvmeSt.zero : NvmeSt :=
  ⟨[], [], [], 0, false, 1, [], [], none, none, false, 0, [], 0, 0, 0, false, 0, [], none, []⟩

end Sys2Proof.Machine
end

