-- ==== Sys2Proof/Machine/PlaceState.lean ====
section
/-! DEFINITION. The state of Mason: the Placement Map, the Course Table, the tile records with their void lists, the
journal and its checkpoints (R241-R243, R266-R269), and the work Mason has under way. The tables are held typed, one
entry each, where the hardware packs them into DRAM bytes. -/

namespace Sys2Proof.Machine

/-- A tile record (R243). `voids` is its void list, ascending; `held`: its first write waits for reads
admitted against an older generation (R99). -/
structure TileRec where
  gen : Nat
  st : Nat
  calib : Bool
  system : Bool
  short : Bool
  pos : Nat
  head : Nat
  course : Nat
  writePtr : Nat
  voids : List Nat
  bricks : Nat
  held : Bool
  deriving DecidableEq, Repr

/-- The value that names no course, tile or replica. -/
def noRef : Nat := 0xFFFFFFFF

/-- A never-written tile: EMPTY at generation 0 (R98). -/
def TileRec.zero : TileRec := ⟨0, 0, false, false, false, 0xFF, 0, noRef, 0, [], 0, false⟩

/-- An extent entry of the Placement Map (R241); `len` is LEN_M1 + 1 (0 in a FREE entry). -/
structure Extent where
  nsid : Nat
  st : Nat
  hot : Bool
  unrec : Bool
  pinned : Bool
  kv : Bool
  pool : Nat
  course : Nat
  start : Nat
  len : Nat
  replCourse : Nat
  replRow : Nat
  heat : Nat
  lbase : Nat
  /-- EXTENT and EXT_BRICK in the carried part of its first brick (R90), which a cut or a move leaves as written. -/
  wIx : Nat
  wOff : Nat
  deriving DecidableEq, Repr

/-- A FREE entry. -/
def Extent.zero : Extent := ⟨0, 0, false, false, false, false, 0, 0, 0, 0, noRef, 0, 0, 0, noRef, 0⟩

/-- A course entry (R242), with the rows in flight: for each row not yet complete, the members committed (bit n). -/
structure Course where
  geom : Nat
  pool : Nat
  st : Nat
  kind : Nat
  kdom : Nat
  lost : Nat
  rebuild : Nat
  rows : Nat
  live : Nat
  seqOpen : Nat
  seqClose : Nat
  hoursOpen : Nat
  members : List Nat
  /-- Rows the encoder has computed (R246). -/
  encoded : Nat
  flight : List (Nat × Nat)
  /-- Replacement tiles being filled, by member (R261, R264). -/
  copies : List (Nat × Nat)
  /-- The write stream it serves (R246): the namespace with its zone or object, or (0, 0) for the pool's general one. -/
  stream : Nat × Nat
  deriving DecidableEq, Repr

/-- A free entry. -/
def Course.zero : Course := ⟨0, 0, 0, 0, 0, 0, 0, 0, 0, 0, 0, 0, [], 0, [], [], (0, 0)⟩

/-- The journal's records (R266): each carries a full image. -/
inductive JrnBody where
  | extent (index : Nat) (image : Extent)
  | course (number : Nat) (image : Course)
  | tile (id : Nat) (image : TileRec)
  | void (id gen slot : Nat)
  | rows (course rows : Nat)
  | commit (records : Nat)
  | ckpt (isEnd : Bool) (jseq : Nat)
  | defect (act tile first count origin : Nat)
  deriving DecidableEq, Repr

/-- One journal record with its JSEQ and its group. -/
structure JrnRec where
  jseq : Nat
  group : Nat
  body : JrnBody
  deriving DecidableEq, Repr

/-- A checkpoint's tables, as written into METADATA courses (R269). -/
structure Ckpt where
  jseq : Nat
  tiles : List (Nat × TileRec)
  courses : List (Nat × Course)
  extents : List (Nat × Extent)
  deriving DecidableEq, Repr

/-- A brick that waits to be read by reconstruction (R251). -/
structure ReadWait where
  extent : Nat
  brick : Nat
  deriving DecidableEq, Repr

/-- An entry of the Unrecovered List (R306, R446): a range of blocks (kind 1) or a key, by object number (kind 2; count 0
stands for every key of the namespace); the reason: 1 ladder, 2 a course beyond m, 3 lost cache data, 4 lost pallet data,
5 lost with the dirty-namespace record; and the operating hours at entry. -/
structure UnrecEnt where
  nsid : Nat
  kind : Nat
  first : Nat
  count : Nat
  reason : Nat
  course : Nat
  hours : Nat
  deriving DecidableEq, Repr

/-- A host brick waiting in a pallet (R246, R340): whose it is, its place in the namespace (an LBA, or with an object
number the brick offset in the value), its plaintext and valid bytes, the write that brought it, its write stream, and
where it goes once its row is made (`course` is noRef before). -/
structure HostBrick where
  nsid : Nat
  obj : Nat
  lba : Nat
  data : Nat
  len : Nat
  order : Nat
  stream : Nat × Nat
  pool : Nat
  course : Nat
  cb : Nat
  /-- EXTENT and EXT_BRICK of its carried part, once it has a place (R90). -/
  ext : Nat
  extBrick : Nat
  deriving DecidableEq, Repr

/-- A row the mortar encoder has computed (R246): its k + m bricks in position order, as handed to the pallets. -/
structure RowMade where
  course : Nat
  row : Nat
  bricks : List Brick
  deriving DecidableEq, Repr

/-- Mason. -/
structure MasonSt where
  tiles : List (Nat × TileRec)
  courses : List (Nat × Course)
  extents : List (Nat × Extent)
  /-- BR_SERIAL of the HDA last ACCEPTED in each slot (R236); unlisted: the slot was never used. -/
  serials : List (Nat × Nat)
  /-- The generation of a slot's pool tiles that no record is kept of: one above the last at each renewal (R236). -/
  genBase : List (Nat × Nat)
  /-- Actuators lost under R260. -/
  lostActs : List Nat
  /-- SLOT_CTL.EXCLUDE requests wait in the register; slots whose new HDA waits for a rebuild's end (R235). -/
  newWaits : List Nat
  /-- The SEEK table (R271): index to µs. -/
  seek : List (Nat × Nat)
  /-- The predicted times of the jobs queued on each actuator, in 10 µs (R249). -/
  queueModel : List (Nat × List Nat)
  /-- Re-reads of a brick so far, by its tile and brick. -/
  rereads : List ((Nat × Nat) × Nat)
  waits : List ReadWait
  /-- Retry-store units of the jobs that wait because every pool is full (R254). -/
  deferred : List Nat
  unrec : List UnrecEnt
  /-- Extents below HOT_OFF at the last sweep (R257). -/
  cold : List Nat
  /-- Extents a move or a replica is being made of, with the image seen when it began (R256, R259). -/
  moving : List (Nat × Extent)
  /-- Pools whose compaction runs (R259), slots whose rebuild runs (R262), key domains being re-keyed (R265). -/
  compacting : List Nat
  rebuilding : List Nat
  rekeying : List (Nat × Nat)
  seq : Nat
  journal : List JrnRec
  ckptStart : Option Nat
  ckpt : Option Ckpt
  /-- The last 1,024 root records in NOR: their S (R269). -/
  roots : List Nat
  /-- Table segments read as poisoned, by table and index. -/
  poisoned : List (Nat × Nat)
  /-- Host bricks in pallets, not yet committed, oldest first. -/
  bricks : List HostBrick
  made : List RowMade
  /-- Bricks that reached RETRY_EXHAUSTED (R455): head (actuator * 12 + head), tile, operating hour. -/
  exhausted : List (Nat × Nat × Nat)
  deriving DecidableEq, Repr

/-- Mason after reset. -/
def MasonSt.zero : MasonSt :=
  ⟨[], [], [], [], [], [], [], [], [], [], [], [], [], [], [], [], [], [], 0, [], none, none, [], [], [], [], []⟩

end Sys2Proof.Machine
end

