-- ==== Sys2Proof/Machine/SysState.lean ====
section
/-! DEFINITION. The state of the chip as a whole: secrets and key domains (R378-R413), the NOR devices and the fuses, power
and thermal control (R414-R439), processors, watchdogs and the start (R440-R486). -/

namespace Sys2Proof.Machine

/-! ### Security -/

/-- A key domain's keys. -/
structure Keys where
  xk1 : Nat
  xk2 : Nat
  kvKey : Nat
  deriving DecidableEq, Repr

/-- The zeroed slot. -/
def Keys.zero : Keys := ⟨0, 0, 0⟩

/-- A domain blob (R388). -/
structure Blob where
  serial : Nat
  keys : Keys
  deriving DecidableEq, Repr

/-- A cipher message (R399): class, domain, direction, blocks left to do, and whether its saved context is wrapped. -/
structure Msg where
  id : Nat
  cls : Nat
  kdom : Nat
  dec : Bool
  wrapped : Bool
  deriving DecidableEq, Repr

/-- A cipher engine: the message running, those suspended and those waiting, in arrival order. -/
structure Engine where
  running : Option Msg
  suspended : List Msg
  waiting : List Msg
  deriving DecidableEq, Repr

/-- An idle engine. -/
def Engine.zero : Engine := ⟨none, [], []⟩

/-- Security: the loaded key slots, the token buffer, the fuses (DUS, 0 while unfused; the owner's hash), the attestation
seed, the engines (XTCc as c, CIP as 8), domains whose re-keying waits for a FREE domain (R393). -/
structure SecSt where
  slots : List (Nat × Keys)
  tok : List Nat
  dus : Nat
  owner : Nat
  seed : Option Nat
  engines : List (Nat × Engine)
  rekeyWait : List Nat
  deriving DecidableEq, Repr

/-- Security after reset, before anything is fused. -/
def SecSt.zero : SecSt := ⟨[], [], 0, 0, none, [], []⟩

/-! ### NOR -/

/-- What the two NOR devices hold: domain blobs (device * 1,024 + domain), firmware images (device * 2 + slot), for each
device the attestation blocks reserved and the bottom trees whose top signature is stored (R405), the KSERIAL of the
attestation key, the dirty-namespace record (R445), the markers of the last run (R418, R454), REC_STAT (R442), the
boot-slot mask (R476), a life-cycle transition begun and not completed (R381), sanitize and Format progress (R303), a
thermal trip (R485), and the operating hours of each area's last refresh (R502). -/
structure NorSt where
  blobs : List (Nat × Blob)
  images : List (Nat × List Nat)
  resv : List (Nat × Nat)
  tops : List Nat
  attSerial : Nat
  dirtyNs : List Nat
  plsStart : Bool
  plsDone : Bool
  eflStart : Bool
  eflDone : Bool
  recStat : Nat
  bootSlots : Nat
  lcWork : Option Nat
  erasing : List (Nat × Nat)
  refreshed : List (Nat × Nat)
  /-- The PLS_DONE record's duration in 10 µs and final VHOLD in 10 mV (R418, R437). -/
  plsLast : Nat × Nat
  /-- The next service owes the listing of R445: dirty data was lost without an orderly destage. -/
  dirtyLost : Bool
  /-- The next service owes HOLDUP_SHORT: the last shutdown was cut short (R420, R477). -/
  cutShort : Bool
  deriving DecidableEq, Repr

/-- Empty NOR devices. -/
def NorSt.zero : NorSt := ⟨[], [], [], [], 0, [], false, false, false, false, 0, 0, none, [], [], (0, 0), false, false⟩

/-! ### Power -/

/-- What the module as a whole is doing (R414, R417, R422, R435): dead below 30.0 V on VHOLD; AON only before a module
start; running; in the shutdown; held after it; held by a thermal trip; held by FAULT#. -/
inductive Phase where
  | dead | aon | run | shutdown | held | tripHeld | faultHold
  deriving DecidableEq, Repr

/-- Power: the phase, the input FET, the domains asleep (order of HOD.DOM_BUSY), the
back-off step of each domain refused (in 10 ms, R426), the power states the controllers require, the state APST has taken
each to, the last operational state, and the attempts that have failed on each rail (R423). -/
structure PwrSt where
  phase : Phase
  fet : Bool
  asleep : List Nat
  backoff : List (Nat × Nat)
  required : List (Nat × Nat)
  apst : List (Nat × Nat)
  lastOper : Nat
  rails : List (Nat × Nat)
  /-- PS3 or PS4 has been asked for and the cache still drains (R339). -/
  leaving : Bool
  /-- The levers of the power cap taken, 0 to 4 (R431). -/
  lever : Nat
  deriving DecidableEq, Repr

/-- Power as a start leaves it. -/
def PwrSt.zero : PwrSt := ⟨.run, true, [], [], [], [], 0, [], false, 0⟩

/-! ### Start, processors and watchdogs -/

/-- The chip's start and its processors: the life-cycle of a restart of CPX and of MGP, restarts of each since the start (0 CPX, 1
MGP), FAULT# asserted, the key slots wiped by an MGP fault and not loaded again (R453), the image streamed in RECOVERY, ports whose PERST#
is deasserted, straps, and clusters lost or disabled. -/
structure SysSt where
  cpxDown : Bool
  mgpDown : Bool
  restarts : List (Nat × Nat)
  fault : Bool
  keysGone : Bool
  rcvOpen : Bool
  rcv : List Nat
  perst : List Nat
  /-- The straps have been sampled since the module start (R274). -/
  strapped : Bool
  twoPorts : Bool
  sris : Bool
  lostClusters : List Nat
  /-- Watchdogs that have given PREWARN since their last kick: core n as n, MGP 8, BOOT 9. -/
  warned : List Nat
  /-- Controllers on which CSTS.CFS reads 1 since a CPX fault (R452). -/
  cfs : List Nat
  /-- A module start is due, and the RST_CAUSE.KIND it will report: 2 MOD_RST, 3 escalation, 4 thermal trip, 5 life cycle,
  6 image fallback, 7 RECOVERY (R473, R485). -/
  resetReq : Option Nat
  deriving DecidableEq, Repr

/-- The chip as a start begins. -/
def SysSt.zero : SysSt := ⟨false, false, [], false, false, false, [], [], false, false, false, [], [], [], none⟩

end Sys2Proof.Machine
end

