-- ==== Sys2Proof/Machine/State.lean ====
section
/-! DEFINITION. The state of the block, its state after reset, and the reasons a step can stop. -/

namespace Sys2Proof.Machine

/-- The reasons a step ends in a fault. None is raised: every command of the table has an effect or none at all, and the
spec's own error cases are effects. -/
inductive Fault where
  /-- Raised by no command; safe. It stands here because a closed type needs a member. -/
  | none
  deriving DecidableEq, Repr

/-- The reasons a step refuses a command. -/
inductive Refusal where
  /-- Raised by a command whose meaning has not been written; safe: the machine stops where the hardware goes on. -/
  | notModelled (mnemonic : String)
  deriving DecidableEq, Repr

/-- The state: the shared part (registers, events, recorder, FIFOs), the disk side, and the queue of waiting commands,
first in, first out. -/
structure State where
  io : Io
  link : LinkSt
  rc : RcSt
  seq : SeqSt
  servo : ServoSt
  spin : SpinSt
  asc : AscSt
  media : MediaSt
  mason : MasonSt
  nvme : NvmeSt
  buf : BufSt
  hod : HodSt
  sec : SecSt
  nor : NorSt
  pwr : PwrSt
  sys : SysSt
  /-- The number of the next free value (the model's own field, no part of the hardware). -/
  free : Nat
  pending : List Instr
  deriving DecidableEq, Repr

/-- What a command's effect is: a state, a fault or a refusal. -/
abbrev Out := Host.Outcome State Fault Refusal

/-- The shared part after power-on reset: every register at its reset value, nothing recorded, every FIFO empty. -/
def Io.reset : Io where
  part := .h7128
  grade := .sa
  dieRev := 0x41
  regs := []
  frozen := []
  heldPages := []
  latches := []
  wbufs := []
  wordLatches := []
  readData := []
  wins := []
  hst := Recorder.zero
  fifos := []
  fifoBufs := []
  off := []
  msixOpen := []
  msixSent := []

/-- The machine right after power-on reset (R474). -/
def State.reset : State where
  io := Io.reset
  link := ⟨[], [], []⟩
  rc := ⟨[], [], [], [], [], [], []⟩
  seq := ⟨[], [], [], [], []⟩
  servo := ⟨[], [], [], [], [], [], []⟩
  spin := ⟨[], [], [], []⟩
  asc := AscSt.zero
  media := ⟨[], [], [], []⟩
  mason := MasonSt.zero
  nvme := NvmeSt.zero
  buf := BufSt.zero
  hod := HodSt.zero
  sec := SecSt.zero
  nor := NorSt.zero
  pwr := PwrSt.zero
  sys := SysSt.zero
  free := 0
  pending := []

end Sys2Proof.Machine
end

