-- ==== Sys2Proof/Machine/StateOps.lean ====
section
/-! DEFINITION. The named operations over the whole state: register access, events, free values, and the numbering of
units (R8). -/

namespace Sys2Proof.Machine

/-! ### Pages and units (R8, R28) -/

/-- ACTa. -/
def pgAct (a : Nat) : Nat := 0x80 + a
/-- KLCc. -/
def pgKlc (c : Nat) : Nat := 0x40 + c
/-- FDCc. -/
def pgFdc (c : Nat) : Nat := 0x48 + c
/-- LDPc. -/
def pgLdp (c : Nat) : Nat := 0x50 + c
/-- FSQc. -/
def pgFsq (c : Nat) : Nat := 0x58 + c
/-- XTCc. -/
def pgXtc (c : Nat) : Nat := 0x60 + c
/-- SVEe. -/
def pgSve (e : Nat) : Nat := 0x20 + e
/-- SPMe. -/
def pgSpm (e : Nat) : Nat := 0x30 + e

/-- The cluster of an actuator. -/
def clOf (a : Nat) : Nat := a / 16
/-- An actuator's number in its cluster: its link, detector and thread. -/
def inCl (a : Nat) : Nat := a % 16
/-- The slot of an actuator. -/
def slotOf (a : Nat) : Nat := a / 2
/-- The servo control engine of an actuator. -/
def engOf (a : Nat) : Nat := a / 8
/-- The other actuator of the slot. -/
def sibOf (a : Nat) : Nat := if a % 2 = 0 then a + 1 else a - 1
/-- A slot's channel in its spindle unit. -/
def chanOf (slot : Nat) : Nat := slot % 4
/-- The register of a spindle channel at its place for a slot. -/
def spk (slot : Nat) (f : RF) : RF := f.at (0x40 * (slot % 4))

namespace State

/-- Change the shared part. -/
def onIo (s : State) (f : Io → Io) : State := { s with io := f s.io }

/-- A field's live value. -/
def fld (s : State) (p : Nat) (f : RF) : Nat := s.io.fld p f

/-- A one-bit field. -/
def flag (s : State) (p : Nat) (f : RF) : Bool := s.io.flag p f

/-- Set a field, as the hardware does. -/
def set (s : State) (p : Nat) (f : RF) (v : Nat) : State := s.onIo (fun i => i.setFld p f v)

/-- Set a one-bit field. -/
def setB (s : State) (p : Nat) (f : RF) (b : Bool) : State := s.onIo (fun i => i.setFlag p f b)

/-- Count one in a saturating counter. -/
def bump (s : State) (p : Nat) (f : RF) : State := s.onIo (fun i => i.bump p f)

/-- Count `n` in a saturating counter. -/
def bumpN (s : State) (p : Nat) (f : RF) (n : Nat) : State := s.onIo (fun i => i.bumpN p f n)

/-- Add to a running total that wraps. -/
def addTo (s : State) (p : Nat) (f : RF) (n : Nat) : State := s.onIo (fun i => i.addFld p f n)

/-- PG_CTL.ENABLE of a page. -/
def enabled (s : State) (pg : Nat) : Bool := s.io.enabled pg

/-- The part. -/
def part (s : State) : Part := s.io.part

/-- Note an event for the trace trigger of its engine (R186, KIND 4). -/
def noteTrace (s : State) (pg bit : Nat) : State :=
  if pageKind pg = some .sve then
    let e := pg - 0x20
    let t := Tab.get Trace.zero s.servo.traces e
    if s.fld pg SVE.TR_STAT.STATE = 1 ∧ s.fld pg SVE.TR_TRIG.KIND = 4 ∧ s.fld pg SVE.TR_TRIG.EVENT = bit then
      { s with servo := { s.servo with traces := Tab.put Trace.zero s.servo.traces e { t with fired := true } } }
    else s
  else s

/-- Raise an event of a page; `ctx` names the unit in the record. Where the source is armed for injection (R39), this
is the injected error: it bears the injected mark (R40), and a ONESHOT injection is done. -/
def raise (s : State) (pg bit ctx : Nat) : State :=
  if s.io.injects pg bit then (s.onIo fun i => (i.raiseI pg bit ctx true).injected pg bit).noteTrace pg bit
  else (s.onIo fun i => i.raise pg bit ctx).noteTrace pg bit

/-- Whether an error of a source is due for injection (R39). -/
def injects (s : State) (pg bit : Nat) : Bool := s.io.injects pg bit

/-- The value that an accessor's read returns. -/
def gave (s : State) (acc : Accessor) (v : Nat) : State :=
  s.onIo fun i => { i with readData := Tab.put 0 i.readData acc.num v }

/-- A hardware agent's post to a FIFO. -/
def post (s : State) (n item : Nat) : State := s.onIo (fun i => i.fifoPost n item)

/-- The next free value. -/
def freeNow (s : State) : DWord := Config.freeValue s.free

/-- Take the free value. -/
def drawn (s : State) : State := { s with free := s.free + 1 }

/-- A write to a field that only MGP, or only MGP and CPX, may write, from another accessor: ignored, LOCKED_WRITE. -/
def lockedWrite (s : State) (pg : Nat) : State := s.setB pg HDR.PG_STAT.LOCKED_WRITE true

/-- A write of RWL fields: while LOCK = 1 it is ignored from every accessor but MGP, with LOCKED_WRITE where it would have
changed a field (R34, R37). -/
def rwl (s : State) (acc : Accessor) (pg : Nat) (t : State) : State :=
  if s.io.locked pg && decide (acc ≠ .mgp) then (if t.io.regs = s.io.regs then s else s.lockedWrite pg) else t

/-- The life-cycle state (R378): 0 BLANK, 1 PROVISIONED, 2 SECURED, 3 RETURNED, 4 SCRAPPED. -/
def lifeCycle (s : State) : Nat := s.fld 8 LCS.LC_STAT.STATE

end State

/-- The command's effect is this state. -/
def ok (s : State) : Out := .next s

/-- The effect where a condition holds and the module is out of its held states; otherwise none (a happening that cannot
come about in this state). -/
def okIf (c : Bool) (s t : State) : Out := .next (if decide (s.pwr.phase = .run) && c then t else s)

/-- The effect where a condition holds, in any phase of the module: what the always-on domain does. -/
def okAon (c : Bool) (s t : State) : Out := .next (if c then t else s)

end Sys2Proof.Machine
end

