-- ==== Sys2Proof/Machine/BufOps.lean ====
section
/-! DEFINITION. The operations of the buffer memory: its bytes, its regions (R316-R318) and poison (R323). -/

namespace Sys2Proof.Machine

namespace State

/-- A DRAM byte. -/
def dramByte (s : State) (addr : Nat) : Byte := Tab.get 0#8 s.buf.dram addr

/-- Write one DRAM byte, keeping the sparse form. -/
def setDramByte (s : State) (addr : Nat) (b : Byte) : State :=
  { s with buf := { s.buf with dram := Tab.put 0#8 s.buf.dram addr b } }

/-- The bytes from an address on. -/
def dramRead (s : State) (addr n : Nat) : List Nat := (List.range n).map fun i => (s.dramByte (addr + i)).toNat

/-- Write bytes from an address on. -/
def dramWrite (s : State) (addr : Nat) : List Nat → State
  | [] => s
  | b :: bs => (s.setDramByte addr (BitVec.ofNat 8 b)).dramWrite (addr + 1) bs

/-- Change the buffer memory's state. -/
def onBuf (s : State) (f : BufSt → BufSt) : State := { s with buf := f s.buf }

/-! ### Regions (R316-R318) -/

/-- The bank of a region's MPS registers. -/
def pgRgn (r : Nat) : Nat := bank 0x13 r

/-- A region is VALID. -/
def rgnValid (s : State) (r : Nat) : Bool := s.flag (pgRgn r) MPS.RGN_CFG.VALID

/-- CODE: 0 NONE, 1 LIGHT, 2 STRONG; 3 acts as 2 (R344). -/
def rgnCode (s : State) (r : Nat) : Nat := min 2 (s.fld (pgRgn r) MPS.RGN_CFG.CODE)

/-- OWNER: 11-15 act as 10. -/
def rgnOwner (s : State) (r : Nat) : Nat := min 10 (s.fld (pgRgn r) MPS.RGN_CFG.OWNER)

/-- A region's first address: BASE in 8 MiB units. -/
def rgnBase (s : State) (r : Nat) : Nat := s.fld (pgRgn r) MPS.RGN_GEOM.BASE * 2 ^ 23

/-- A region's bytes. -/
def rgnSize (s : State) (r : Nat) : Nat := s.fld (pgRgn r) MPS.RGN_GEOM.SIZE * 2 ^ 23

/-- A region's raw MiB (R317): 1.25 times its size for STRONG, 1.125 times for LIGHT. -/
def rgnRaw (s : State) (r : Nat) : Nat :=
  let n := s.fld (pgRgn r) MPS.RGN_GEOM.SIZE
  if s.rgnCode r = 2 then 10 * n else if s.rgnCode r = 1 then 9 * n else 8 * n

/-- The valid region of a logical address (36 bits). -/
def rgnOf (s : State) (addr : Nat) : Option Nat :=
  (List.range 16).find? fun r => s.rgnValid r && decide (s.rgnBase r ≤ addr) && decide (addr < s.rgnBase r + s.rgnSize r)

/-- The first valid region of an owner. -/
def rgnOwned (s : State) (o : Nat) : Option Nat := (List.range 16).find? fun r => s.rgnValid r && decide (s.rgnOwner r = o)

/-- A region is being wiped: its accesses wait (R318). -/
def rgnWiping (s : State) (r : Nat) : Bool := s.flag (pgRgn r) MPS.RGN_STAT.WIPING

/-- The region of an address that the DRAM view allows: VIEW = 1, and for PF1 in SECURED, RETURNED and SCRAPPED owner PARAM
(R330). -/
def viewOf (s : State) (addr : Nat) (pf1 : Bool) : Option Nat :=
  (s.rgnOf addr).filter fun r => s.flag (pgRgn r) MPS.RGN_CFG.VIEW &&
    (!pf1 || decide (s.lifeCycle < 2) || decide (s.rgnOwner r = 8))

/-! ### Poison (R323, R328, R329) -/

/-- The set of a line's poisoned words. -/
def poisonOf (s : State) (line : Nat) : Nat := Tab.get 0 s.buf.poison line

/-- Set a line's poisoned words. -/
def setPoison (s : State) (line m : Nat) : State := s.onBuf fun b => { b with poison := Tab.put 0 b.poison line m }

/-- A line reads as POISONED. -/
def poisonedLine (s : State) (line : Nat) : Bool := decide (s.poisonOf line ≠ 0)

/-- Some line of a byte range is POISONED. -/
def poisonedRange (s : State) (addr n : Nat) : Bool :=
  s.buf.poison.any fun kv => decide (addr / 64 ≤ kv.1) && decide (kv.1 * 64 < addr + n)

/-- Bytes written clear the poison of what they wholly cover: a STRONG line, or the words of a LIGHT line (R323). -/
def cleanWrite (s : State) (addr n : Nat) : State :=
  (s.buf.poison.filter fun kv => decide (addr / 64 ≤ kv.1) && decide (kv.1 * 64 < addr + n)).foldl (fun (s : State) kv =>
    match s.rgnOf (kv.1 * 64) with
    | none => s
    | some r =>
      if s.rgnCode r = 2 then (if addr ≤ kv.1 * 64 ∧ kv.1 * 64 + 64 ≤ addr + n then s.setPoison kv.1 0 else s)
      else s.setPoison kv.1 ((List.range 8).foldl (fun m w =>
        let at_ := kv.1 * 64 + 8 * w
        if addr ≤ at_ ∧ at_ + 8 ≤ addr + n then bitClear m w else m) kv.2)) s

end State

end Sys2Proof.Machine
end

