-- ==== Sys2Proof/Machine/PlaceOps.lean ====
section
/-! DEFINITION. The operations over Mason's tables: tile records with their voids, courses and extents, the journal that
every change goes through (R241-R243, R266), and the usable slots of a tile (R96, R107). -/

namespace Sys2Proof.Machine.State

/-! ### Records -/

/-- A tile record; a pool tile that has none is EMPTY at its slot's base generation (R98, R236). -/
def tile (s : State) (id : Nat) : TileRec :=
  match Tab.find? s.mason.tiles id with
  | some t => t
  | none => if id % 2 ^ 24 < 2 then TileRec.zero else { TileRec.zero with gen := Tab.get 0 s.mason.genBase (id / 2 ^ 25 % 128) }

/-- A course entry. -/
def course (s : State) (n : Nat) : Course := Tab.get Course.zero s.mason.courses n

/-- An extent entry. -/
def extent (s : State) (i : Nat) : Extent := Tab.get Extent.zero s.mason.extents i

/-- Change Mason's state. -/
def onMason (s : State) (f : MasonSt → MasonSt) : State := { s with mason := f s.mason }

/-- The unpersisted part of the journal, in bytes: records of 1 to 3 units of 64 bytes (R266). -/
def jrnUnits : JrnBody → Nat
  | .extent _ _ => 2
  | .course _ _ => 3
  | .tile _ _ => 2
  | _ => 1

/-- JRN_SIZE in MiB: 16 to 4,096 (R272). -/
def jrnMib (s : State) : Nat := min 4096 (max 16 (s.fld 0x19 MAP.JRN_SIZE.MIB))

/-- JRN_HIGH in per cent: values outside 10-95 act as 75. -/
def jrnHigh (s : State) : Nat :=
  let h := s.fld 0x19 MAP.CKPT_CFG.JRN_HIGH
  if 10 ≤ h ∧ h ≤ 95 then h else 75

/-- Bytes of the records not yet persisted. -/
def unpersisted (s : State) : Nat :=
  (s.mason.journal.filter fun r => decide (r.jseq > s.fld 0x19 MAP.JSEQ_PERSISTED.JSEQ)).foldl (fun n r => n + 64 * jrnUnits r.body) 0

/-- The unpersisted part has reached JRN_HIGH per cent of the ring (R268). -/
def jrnFull (s : State) : Bool := decide (s.unpersisted * 100 ≥ s.jrnHigh * (s.jrnMib * 2 ^ 20))

/-- Append one record to the journal under the next JSEQ. -/
def jrnAppend (s : State) (group : Nat) (b : JrnBody) : State :=
  let n := s.fld 0x19 MAP.JSEQ_APPENDED.JSEQ + 1
  (s.set 0x19 MAP.JSEQ_APPENDED.JSEQ n).onMason fun m => { m with journal := m.journal ++ [⟨n, group, b⟩] }

/-- A group: its records, then COMMIT (R267). Reaching JRN_HIGH raises JOURNAL_HIGH (R268). -/
def journal (s : State) (bs : List JrnBody) : State :=
  let g := s.fld 0x19 MAP.JSEQ_APPENDED.JSEQ + 1
  let was := s.jrnFull
  let s1 := (bs ++ [JrnBody.commit bs.length]).foldl (fun s b => s.jrnAppend g b) s
  if s1.jrnFull && !was then s1.raise 0x19 0 0 else s1

/-- Store a tile record (the journal record is the caller's group). -/
def putTile (s : State) (id : Nat) (t : TileRec) : State :=
  s.onMason fun m => { m with tiles := Tab.put TileRec.zero m.tiles id t }

/-- Store a course entry. -/
def putCourse (s : State) (n : Nat) (c : Course) : State :=
  s.onMason fun m => { m with courses := Tab.put Course.zero m.courses n c }

/-- Store an extent entry. -/
def putExtent (s : State) (i : Nat) (e : Extent) : State :=
  s.onMason fun m => { m with extents := Tab.put Extent.zero m.extents i e }

/-- Journal and store a tile record. -/
def setTile (s : State) (id : Nat) (t : TileRec) : State := (s.journal [.tile id t]).putTile id t

/-- Journal and store a course entry. -/
def setCourse (s : State) (n : Nat) (c : Course) : State := (s.journal [.course n c]).putCourse n c

/-- Journal and store an extent entry. -/
def setExtent (s : State) (i : Nat) (e : Extent) : State := (s.journal [.extent i e]).putExtent i e

/-! ### Tiles and slots (R95, R96, R107) -/

/-- The actuator of a tile ID. -/
def tileAct (id : Nat) : Nat := id / 2 ^ 24 % 256

/-- The tile number on its actuator. -/
def tileNum (id : Nat) : Nat := id % 2 ^ 24

/-- The tile ID of an actuator's tile. -/
def tileId (a n : Nat) : Nat := a * 2 ^ 24 + n

/-- The defect list in use for an actuator. -/
def defects (s : State) (a : Nat) : List Defect := Tab.get [] s.media.defects a

/-- A defect entry names a slot of a tile; a head-retired entry covers every tile of its head. -/
def defectHits (s : State) (id slot : Nat) (d : Defect) : Bool :=
  if d.origin = 3 then decide ((s.tile (tileId (tileAct id) d.tile)).head = (s.tile id).head)
  else decide (d.tile = tileNum id) && decide (d.first ≤ slot) && decide (slot < d.first + d.count)

/-- A slot the defect list does not name. -/
def sound (s : State) (id slot : Nat) : Bool := !((s.defects (tileAct id)).any fun d => s.defectHits id slot d)

/-- A slot a brick may be written to or found in: no defect, not void (R96). -/
def usable (s : State) (id slot : Nat) : Bool := s.sound id slot && !(s.tile id).voids.contains slot

/-- The next usable slot at or after a slot; the first argument bounds the slots looked at. -/
def usableFrom (s : State) (id : Nat) : Nat → Nat → Nat
  | 0, slot => slot
  | n + 1, slot => if s.usable id slot then slot else usableFrom s id n (slot + 1)

/-- How far a next usable slot is looked for. -/
def slotSpan : Nat := 131072

/-- The next usable slot after a slot (OFS 3). -/
def nextUsable (s : State) (id slot : Nat) : Nat := s.usableFrom id slotSpan (slot + 1)

/-- The usable slots below a slot. -/
def usableBelow (s : State) (id slot : Nat) : Nat := ((List.range slot).filter fun x => s.usable id x).length

/-- The brick index a slot carries: the header takes the first usable slot (R96). -/
def brickAt (s : State) (id slot : Nat) : Nat := s.usableBelow id slot - 1

/-- The slot of a brick (R244): the usable slot with that many usable slots, and the header's, before it. -/
def slotOfBrick (s : State) (id : Nat) : Nat → Nat
  | 0 => s.nextUsable id (s.usableFrom id slotSpan 0)
  | b + 1 => s.nextUsable id (slotOfBrick s id b)

/-- A number put into an ascending list. -/
def insertAsc (x : Nat) : List Nat → List Nat
  | [] => [x]
  | y :: ys => if x < y then x :: y :: ys else if x = y then y :: ys else y :: insertAsc x ys

/-- All void-table entries in use. -/
def voidsHeld (s : State) : Nat := s.mason.tiles.foldl (fun n kv => n + kv.2.voids.length) 0

/-- A void slot is recorded in the journal and the tile's list at once; with no free void-table entry WALK_POISON is raised
and the tile closes early (R101, R152, R272). -/
def recordVoid (s : State) (id slot : Nat) : State :=
  let t := s.tile id
  if s.voidsHeld ≥ s.fld 0x19 MAP.VT_ENTRIES.N then
    (s.setTile id { t with st := if t.st = 1 then 2 else t.st }).raise 0x19 3 id
  else
    let t' := { t with voids := insertAsc slot t.voids }
    (s.journal [.void id t.gen slot]).putTile id t'

/-! ### Queue model (R249) -/

/-- Q(a) follows the jobs still queued; SLOT_Q shows it. -/
def setQueue (s : State) (a : Nat) (q : List Nat) : State :=
  (s.onMason fun m => { m with queueModel := Tab.put [] m.queueModel a q }).set (bank 0x18 (slotOf a))
    (if a % 2 = 0 then MSN.SLOT_Q.Q_A else MSN.SLOT_Q.Q_B) (min 0xFFFF q.sum)

/-- A job with its prediction is queued. -/
def enqueue (s : State) (a pred : Nat) : State := s.setQueue a (Tab.get [] s.mason.queueModel a ++ [pred])

/-- The oldest job queued has ended. -/
def dequeue (s : State) (a : Nat) : State := s.setQueue a (Tab.get [] s.mason.queueModel a).tail

end Sys2Proof.Machine.State
end

