-- ==== Sys2Proof/Machine/LinkOps.lean ====
section
/-! DEFINITION. The operations of a Koraetar Link: command packets and their replay (R54, R55), the DN lane (R51),
RETRACT_n (R76), and what a link's registers show. -/

namespace Sys2Proof.Machine.State

/-- A link. -/
def lk (s : State) (a : Nat) : Link := Tab.get Link.zero s.link.links a

/-- Store a link. -/
def setLk (s : State) (a : Nat) (l : Link) : State :=
  { s with link := { s.link with links := Tab.put Link.zero s.link.links a l } }

/-- Change a link. -/
def onLk (s : State) (a : Nat) (f : Link → Link) : State := s.setLk a (f (s.lk a))

/-- LK_STAT.STATE: 0 DOWN, 1 TRAIN, 2 ACTIVE, 3 DOZE, 4 FAULT (R80). -/
def lkState (s : State) (a : Nat) : Nat := s.fld (pgAct a) ACT.LK_STAT.STATE

/-- The training phase, 1 to 4; 0 none. -/
def lkPhase (s : State) (a : Nat) : Nat := s.fld (pgAct a) ACT.LK_STAT.PHASE

/-- The heads are off the ramp: the last STATUS flit did not show HEADS_PARKED. -/
def headsLoaded (s : State) (a : Nat) : Bool := !s.flag (pgAct a) ACT.LK_STAT.HEADS_PARKED

/-- DN at operating rate is allowed (R43). -/
def fullRate (s : State) (a : Nat) : Bool := s.flag (pgKlc (clOf a)) KLC.RATE.V

/-- Hand an item to the DN lane. -/
def sendDn (s : State) (a : Nat) (d : DnItem) : State := s.onLk a (fun l => { l with dn := l.dn ++ [d] })

/-- The most packets outstanding at once (R55). -/
def replayDepth : Nat := 64

/-- Send a command packet: it takes the next PSEQ and enters the replay buffer; beyond 64 outstanding packets it waits
there unsent (R54, R55). -/
def sendCmd (s : State) (a op arg : Nat) : State :=
  s.onLk a fun l =>
    let p : Pkt := ⟨l.pseq, op, arg, 0⟩
    { l with
      pseq := (l.pseq + 1) % 256
      replay := l.replay ++ [p]
      dn := if l.replay.length < replayDepth then l.dn ++ [.cmd p.seq p.op p.arg] else l.dn }

/-- The packets left once an ACK covers those up to its sequence number; an ACK of no packet held changes nothing. -/
def ackedTail (seq : Nat) : List Pkt → List Pkt
  | [] => []
  | p :: ps => if p.seq = seq then ps else ackedTail seq ps

/-- Whether an ACK names a packet held. -/
def ackHits (seq : Nat) (l : List Pkt) : Bool := (l.take replayDepth).any (fun p => decide (p.seq = seq))

/-- Take an ACK: drop what it covers and send what waited. -/
def takeAck (s : State) (a seq : Nat) : State :=
  s.onLk a fun l =>
    if ackHits seq l.replay then
      let rest := ackedTail seq l.replay
      let done := l.replay.length - rest.length
      let fresh := (rest.take replayDepth).drop (replayDepth - done)
      { l with replay := rest, dn := l.dn ++ fresh.map (fun p => .cmd p.seq p.op p.arg) }
    else l

/-- Whether a packet sequence is held by the replay buffer's packets sent. -/
def awaits (s : State) (a seq : Nat) : Bool := ackHits seq (s.lk a).replay

/-- KLC_CFG.REPLAY_MAX, 0 treated as 1 (R79). -/
def replayMax (s : State) (a : Nat) : Nat := max 1 (s.fld (pgKlc (clOf a)) KLC.KLC_CFG.REPLAY_MAX)

/-- The packets to be resent from a sequence number on; all of them when it names none. -/
def fromSeq (seq : Nat) : List Pkt → List Pkt
  | [] => []
  | p :: ps => if p.seq = seq then p :: ps else fromSeq seq ps

/-- Whether a resend would exceed REPLAY_MAX for some packet. -/
def exhausted (s : State) (a : Nat) (ps : List Pkt) : Bool := ps.any (fun p => decide (p.resends ≥ s.replayMax a))

/-- Resend packets: each counts a resend, and NAK_CNT counts them. -/
def resend (s : State) (a : Nat) (ps : List Pkt) : State :=
  (s.onLk a fun l =>
    { l with
      replay := l.replay.map (fun p => if ps.contains p then { p with resends := p.resends + 1 } else p)
      dn := l.dn ++ ps.map (fun p => .cmd p.seq p.op p.arg) }).bumpN (pgAct a) ACT.NAK_CNT.V ps.length

/-- Every packet outstanding. -/
def outstanding (s : State) (a : Nat) : List Pkt := (s.lk a).replay.take replayDepth

/-- No command packet of the link awaits ACK (R141, CMD_ACKED). -/
def cmdAcked (s : State) (a : Nat) : Bool := (s.lk a).replay.isEmpty

/-! ### RETRACT_n -/

/-- The hardware causes of a cluster's line. -/
def retract (s : State) (c : Nat) : Retract := Tab.get Retract.zero s.link.retract c

/-- Cause 0x05: clusters 4-7 of an H7064 (R3, R76). -/
def fusedOff (s : State) (c : Nat) : Bool := decide (s.part = .h7064) && decide (c ≥ 4)

/-- A hardware cause is driving the line. -/
def hwDrive (s : State) (c : Nat) : Bool :=
  let r := s.retract c
  r.poweron || r.unacked || r.shutdown || s.fusedOff c

/-- The H7128 drives the line low. -/
def drives (s : State) (c : Nat) : Bool := s.hwDrive c || s.flag (pgKlc c) KLC.RETRACT.SW_ASSERT

/-- RETRACT_n of the cluster is low. -/
def retractLow (s : State) (c : Nat) : Bool := s.drives c || (s.retract c).ext

/-- Show the line in the RETRACT register (R79). -/
def syncRetract (s : State) (c : Nat) : State :=
  ((s.setB (pgKlc c) KLC.RETRACT.HW_ASSERT (s.hwDrive c)).setB (pgKlc c) KLC.RETRACT.LEVEL (!s.retractLow c)).setB
    (pgKlc c) KLC.RETRACT.EXT_LOW ((s.retract c).ext && !s.drives c)

/-- Change the hardware causes of a line, and show it. -/
def onRetract (s : State) (c : Nat) (f : Retract → Retract) : State :=
  State.syncRetract { s with link := { s.link with retract := Tab.put Retract.zero s.link.retract c (f (s.retract c)) } } c

/-- Assert UNLOAD_UNACKED for a link (R72, R76). -/
def assertUnacked (s : State) (a : Nat) : State :=
  (s.onRetract (clOf a) fun r =>
    { r with unacked := true, links := if r.links.contains a then r.links else r.links ++ [a] }).set
    (pgKlc (clOf a)) KLC.RETRACT.CAUSE 3

/-- A link that caused UNLOAD_UNACKED shows HEADS_PARKED or has reached DOWN; the cause ends with the last (R76). -/
def settleUnacked (s : State) (a : Nat) : State :=
  if (s.retract (clOf a)).unacked && (s.retract (clOf a)).links.contains a then
    s.onRetract (clOf a) fun r =>
      let ls := r.links.filter (fun x => decide (x ≠ a))
      { r with links := ls, unacked := !ls.isEmpty }
  else s

/-! ### Lanes -/

/-- One lane of a link. -/
def lane (s : State) (a : Nat) : Lane → LaneRx
  | .up0 => (s.lk a).up0
  | .up1 => (s.lk a).up1

/-- Change one lane. -/
def onLane (s : State) (a : Nat) (n : Lane) (f : LaneRx → LaneRx) : State :=
  s.onLk a fun l => match n with
    | .up0 => { l with up0 := f l.up0 }
    | .up1 => { l with up1 := f l.up1 }

/-- Set one bit of a 16-link field of the KLC page. -/
def setLinkBit (s : State) (a : Nat) (f : RF) (b : Bool) : State :=
  s.set (pgKlc (clOf a)) f (bitPut (s.fld (pgKlc (clOf a)) f) (inCl a) b)

end Sys2Proof.Machine.State
end

