-- ==== Sys2Proof/Machine/ServoLaw.lean ====
section
/-! DEFINITION. The servo engines' arithmetic: second-order sections (R168), table interpolation (R504), position formation
(R163, R164), velocity (R165). All quantities are integers. -/

namespace Sys2Proof.Machine

/-- A signed value of `w` bits, saturated. -/
def satS (w : Nat) (v : Int) : Int := max (-(2 ^ (w - 1) : Int)) (min ((2 ^ (w - 1) : Int) - 1) v)

/-- An arithmetic right shift. -/
def asr (v : Int) (n : Nat) : Int := Int.shiftRight v n

/-- The signed reading of the low `w` bits of a number. -/
def signed (w : Nat) (v : Nat) : Int :=
  let m := v % 2 ^ w
  if m < 2 ^ (w - 1) then (m : Int) else (m : Int) - (2 ^ w : Int)

/-- The low `w` bits of a signed value. -/
def unsigned (w : Nat) (v : Int) : Nat := (v % (2 ^ w : Int)).toNat

/-- One coefficient's term (R168): rounded by half a unit before its shift. -/
def term (c : Int) (s : Nat) (v : Int) : Int :=
  if s = 0 then c * v else asr (c * v + 2 ^ (s - 1)) s

/-- A section's six words (R171). -/
structure SecCoef where
  b0 : Int
  b1 : Int
  b2 : Int
  a1 : Int
  a2 : Int
  shifts : Nat

/-- The saturation of the 72-bit accumulator at ±2^71 (R168). -/
def sat71 (v : Int) : Int := max (-(2 ^ 71 : Int)) (min (2 ^ 71 : Int) v)

/-- One section's output before its 32-bit saturation. -/
def sectAcc (k : SecCoef) (d : Sect) (x : Int) : Int :=
  sat71 (term k.b0 (k.shifts % 32) x + term k.b1 (bitsOf k.shifts 9 5) d.x1 + term k.b2 (bitsOf k.shifts 14 10) d.x2
    - term k.a1 (bitsOf k.shifts 19 15) d.y1 - term k.a2 (bitsOf k.shifts 24 20) d.y2)

/-- One section: its output, its new delays, and whether the output was clipped. -/
def sectRun (k : SecCoef) (d : Sect) (x : Int) : Int × Sect × Nat :=
  let acc := sectAcc k d x
  let y := satS 32 acc
  (y, ⟨x, d.x1, y, d.y1⟩, if y = acc then 0 else 1)

/-- A cascade of sections, each with its key in the loop's table; a cascade of none passes its input (R168). The result
is the output, the new delays, the clips, and every section's output in order. -/
def cascade : List (Nat × SecCoef) → List (Nat × Sect) → Int → Int × List (Nat × Sect) × Nat × List Int
  | [], st, x => (x, st, 0, [])
  | (q, k) :: ks, st, x =>
    let (y, d, n) := sectRun k (Tab.get Sect.zero st q) x
    let (z, st', m, ys) := cascade ks (Tab.put Sect.zero st q d) y
    (z, st', n + m, y :: ys)

/-- Linear interpolation of a table at a non-negative value with a shift (R504); from the last entry on, the last. -/
def interpTab (t : Nat → Int) (last : Nat) (x s : Nat) : Int :=
  let i := x >>> s
  if i ≥ last then t last
  else
    let f : Int := (x : Int) - ((i <<< s : Nat) : Int)
    t i + asr ((t (i + 1) - t i) * f) s

/-- The cogging table's form: entry i + 1 wraps modulo 512 (R191, R504). -/
def interpCog (t : Nat → Int) (th : Nat) : Int :=
  let i := (th >>> 7) % 512
  let f : Int := (th % 128 : Nat)
  t i + asr ((t ((i + 1) % 512) - t i) * f) 7

/-- A rational rounded to nearest, halves up. -/
def roundHalfUp (n d : Nat) : Nat := (2 * n + d) / (2 * d)

/-- A division rounded to nearest, halves away from zero (R165). -/
def roundAway (n d : Int) : Int :=
  if n ≥ 0 then (2 * n + d) / (2 * d) else -((2 * (-n) + d) / (2 * d))

/-- The speed ratio in Q2.30 (R163): the span over n nominal intervals of 4.7e9 * 60 / (rpm * WEDGES) samples. -/
def speedRatio (span n rpm wedges : Nat) : Nat :=
  roundHalfUp (span * rpm * wedges * 2 ^ 30) (n * 4700000000 * 60) % 2 ^ 32

/-- The fine position: y_raw wrapped into [-0.5, +0.5) track (R163). -/
def finePos (deltaN : Int) : Int := ((147456 - deltaN) * 32 + 32768) % 65536 - 32768

/-- The track nearest the prediction among G - 1, G and G + 1, ties to G (R164). -/
def nearTrack (g : Int) (y pred : Int) : Int :=
  let dist := fun n : Int => |n * 65536 + y - pred|
  if dist (g - 1) < dist g then g - 1 else if dist (g + 1) < dist g then g + 1 else g

end Sys2Proof.Machine
end

