-- ==== Sys2Proof/Machine/AscOps.lean ====
section
/-! DEFINITION. Assist operations: the head records in DRAM (R213), the calibration store (R217), the level of R214, and the
packets of R211 and R212. -/

namespace Sys2Proof.Machine

/-- Interpolation on the radius points of one temperature column (R214): entry u at track u * 2^sh; from point 15 on,
the last entry. -/
def radiusLevel (level : List Nat) (t track sh : Nat) : Int :=
  let u := track >>> sh
  if u ≥ 15 then (level.getD (16 * t + 15) 0 : Int)
  else
    let f : Int := (track : Int) - ((u <<< sh : Nat) : Int)
    let a : Int := level.getD (16 * t + u) 0
    let b : Int := level.getD (16 * t + u + 1) 0
    a + Int.shiftRight ((b - a) * f) sh

/-- A value within two bounds. -/
def clampInt (lo hi v : Int) : Int := max lo (min hi v)

/-- Linear interpolation between two temperature columns, in 1/16 °C; the spec gives the
interpolation and not its rounding. -/
def tempStep (t0 t1 : Int) (v0 v1 t : Int) : Int :=
  if t1 = t0 then v0 else v0 + Config.divFree ((v1 - v0) * (t - t0)) (t1 - t0)

/-- The base level at a track and an HDA temperature (in 1/16 °C): the columns' levels interpolated over their
temperatures, clamped to the first or last column outside (R214). -/
def baseLevel (r : HeadRec) (track : Nat) (tHda : Int) : Int :=
  let sh := min r.radSh 20
  let l := fun t => radiusLevel r.level t track sh
  let c := fun i => 16 * r.temp.getD i 0
  if tHda ≤ c 0 then l 0
  else if tHda ≤ c 1 then tempStep (c 0) (c 1) (l 0) (l 1) tHda
  else if tHda ≤ c 2 then tempStep (c 1) (c 2) (l 1) (l 2) tHda
  else if tHda ≤ c 3 then tempStep (c 2) (c 3) (l 2) (l 3) tHda
  else l 3

/-- The level before its clamp (R214). -/
def rawLevel (r : HeadRec) (track : Nat) (tHda : Int) (rise : Nat) : Int :=
  baseLevel r track tHda + r.ofs - Int.shiftRight (r.thCoef * ((rise : Int) - r.riseCal)) 12

namespace State

/-- The key of a head's record, model and work. -/
def headKey (a h : Nat) : Nat := a * 12 + h

/-- Where a head's record stands in DRAM (R213). -/
def headAddr (s : State) (k : Nat) : Nat := 256 * s.fld 0x1C ASC.TBL_BASE.BASE + 256 * k

/-- Fields of a record: an unsigned and a signed one of `n` bytes, little-endian. -/
def recU (bs : List Nat) (at_ n : Nat) : Nat := ofLe ((bs.drop at_).take n)

/-- A signed field. -/
def recS (bs : List Nat) (at_ n : Nat) : Int := signed (8 * n) (recU bs at_ n)

/-- What a record's bytes say (R213). -/
def parseRec (bs : List Nat) : HeadRec where
  level := (List.range 64).map fun i => recU bs (2 * i) 2 % 4096
  temp := (List.range 4).map fun i => recS bs (128 + i) 1
  radSh := recU bs 132 1
  kind := recU bs 133 1
  ofs := recS bs 134 2
  cur := recU bs 136 1
  bias := recU bs 137 1
  thCoef := recS bs 138 2
  riseCal := recU bs 140 2
  dutyCal := recU bs 142 2
  tCal := recS bs 144 2
  qmRef := recU bs 146 4
  hours := recU bs 150 4
  thGain := recU bs 154 2
  tauSh := recU bs 156 1
  valid := (recU bs 157 1).testBit 0
  weak := (recU bs 157 1).testBit 1
  retired := (recU bs 157 1).testBit 2
  tileCnt := recU bs 158 2

/-- The flags' byte. -/
def recFlags (r : HeadRec) : Nat := r.valid.toNat + 2 * r.weak.toNat + 4 * r.retired.toNat

/-- The 256 bytes of a record (R213). -/
def recBytes (r : HeadRec) : List Nat :=
  ((List.range 64).flatMap fun i => leBytes 2 (r.level.getD i 0 % 4096)) ++
  ((List.range 4).map fun i => unsigned 8 (r.temp.getD i 0)) ++ [r.radSh % 256, r.kind % 256] ++
  leBytes 2 (unsigned 16 r.ofs) ++ [r.cur % 256, r.bias % 256] ++ leBytes 2 (unsigned 16 r.thCoef) ++ leBytes 2 r.riseCal ++
  leBytes 2 r.dutyCal ++ leBytes 2 (unsigned 16 r.tCal) ++ leBytes 4 r.qmRef ++ leBytes 4 r.hours ++ leBytes 2 r.thGain ++
  [r.tauSh % 256, recFlags r] ++ leBytes 2 r.tileCnt ++ List.replicate 96 0

/-- The record of a key. -/
def recAt (s : State) (k : Nat) : HeadRec := parseRec (s.dramRead (s.headAddr k) 160)

/-- A head's record. -/
def headRec (s : State) (a h : Nat) : HeadRec := s.recAt (headKey a h)

/-- Bytes of DRAM are written whole. -/
def putBytes (s : State) (addr : Nat) (bs : List Nat) : State := (s.dramWrite addr bs).cleanWrite addr bs.length

/-- A head's record is rewritten. -/
def setHeadRec (s : State) (a h : Nat) (r : HeadRec) : State := s.putBytes (s.headAddr (headKey a h)) (recBytes r)

/-- TILE_CNT of a head is written. -/
def setTileCnt (s : State) (a h n : Nat) : State := s.dramWrite (s.headAddr (headKey a h) + 158) (leBytes 2 n)

/-- A head's record reads as POISONED. -/
def recPoisoned (s : State) (k : Nat) : Bool := s.poisonedRange (s.headAddr k) 160

/-! ### The calibration store (R217) -/

/-- Where an actuator's parameter blocks stand (R112). -/
def paramAddr (s : State) (a : Nat) : Nat := 256 * s.fld (pgAct a) ACT.PB_BASE.BASE

/-- The bytes of DRAM from an address on that are not zero, with their keys from `k` on. -/
def dramPart (s : State) (addr n k : Nat) : List (Nat × Nat) :=
  (s.buf.dram.filter fun kv => decide (addr ≤ kv.1) && decide (kv.1 < addr + n)).map fun kv => (kv.1 - addr + k, kv.2.toNat)

/-- The entries of an engine's table from `at_` on, with their keys from `k` on. -/
def tablePart {w : Nat} (m : List (Nat × BitVec w)) (at_ n k : Nat) : List (Nat × Nat) :=
  (m.filter fun kv => decide (at_ ≤ kv.1) && decide (kv.1 < at_ + n)).map fun kv => (kv.1 - at_ + k, kv.2.toNat)

/-- What the calibration store of an actuator holds now (R217), what is not zero, by key: its head records' bytes from 0, its
parameter blocks' bytes from 0x1000, its bias-force table from 0x8000, its coefficient sets and coupling block from 0x9000, and
the cogging table of its slot from 0xA000. -/
def calNow (s : State) (a : Nat) : List (Nat × Nat) :=
  s.dramPart (s.headAddr (12 * a)) 3072 0 ++ s.dramPart (s.paramAddr a) 12288 0x1000 ++
  tablePart s.servo.bias (a * 1024) 1024 0x8000 ++ tablePart s.servo.coef (a * 1024) 1024 0x9000 ++
  tablePart s.spin.cog (slotOf a * 512) 512 0xA000

/-- The calibration store read: of the copies with a valid CRC, the one with the larger SEQ (R105). -/
def calStore (s : State) (a : Nat) : Option (List (Nat × Nat)) :=
  let t := fun (i : Nat) => Tab.get SysTile.zero s.media.sys (2 * a + i)
  if (t 0).ok && (!(t 1).ok || decide ((t 1).seq ≤ (t 0).seq)) then some (t 0).cal
  else if (t 1).ok then some (t 1).cal
  else none

/-- One entry of the store is loaded into DRAM or an engine's memory. -/
def loadEntry (a : Nat) (s : State) (kv : Nat × Nat) : State :=
  let k := kv.1
  if k < 0x1000 then s.setDramByte (s.headAddr (12 * a) + k) (BitVec.ofNat 8 kv.2)
  else if k < 0x4000 then s.setDramByte (s.paramAddr a + (k - 0x1000)) (BitVec.ofNat 8 kv.2)
  else if k < 0x9000 then { s with servo := { s.servo with bias := Tab.put 0#32 s.servo.bias (a * 1024 + (k - 0x8000)) (BitVec.ofNat 32 kv.2) } }
  else if k < 0xA000 then { s with servo := { s.servo with coef := Tab.put 0#32 s.servo.coef (a * 1024 + (k - 0x9000)) (BitVec.ofNat 32 kv.2) } }
  else { s with spin := { s.spin with cog := Tab.put 0#16 s.spin.cog (slotOf a * 512 + (k - 0xA000)) (BitVec.ofNat 16 kv.2) } }

/-- MGP loads an actuator's store (R217); the coefficient sets go in only while the loop is OPEN (R172), and are then valid. -/
def loadCal (s : State) (a : Nat) : State :=
  match s.calStore a with
  | none => s
  | some l =>
    let opened := decide (s.fld (pgAct a) ACT.SV_CTL.STATE = 0)
    let s1 := (l.filter fun kv => opened || decide (kv.1 < 0x9000 ∨ 0xA000 ≤ kv.1)).foldl (loadEntry a) s
    if opened then (s1.set (pgAct a) ACT.SV_CTL.SET_VALID 7).setB (pgAct a) ACT.SV_CTL.CP_VALID true else s1

/-- MGP reloads an actuator's coefficient sets and coupling block from the store (R451). -/
def loadCoef (s : State) (a : Nat) : State :=
  match s.calStore a with
  | none => s
  | some l => (l.filter fun kv => decide (0x9000 ≤ kv.1 ∧ kv.1 < 0xA000)).foldl (loadEntry a) s

/-- The 256-byte block of the store from key `k` on goes back to DRAM, if there is a store. -/
def restoreBlock (s : State) (a addr k : Nat) : State :=
  match s.calStore a with
  | none => s
  | some l => s.putBytes addr ((List.range 256).map fun i => Tab.get 0 l (k + i))

/-- A head's thermal model. -/
def headModel (s : State) (a h : Nat) : HeadModel := Tab.get HeadModel.zero s.asc.models (headKey a h)

/-- Store a head's thermal model. -/
def setHeadModel (s : State) (a h : Nat) (m : HeadModel) : State :=
  { s with asc := { s.asc with models := Tab.put HeadModel.zero s.asc.models (headKey a h) m } }

/-- A head's check and recalibration. -/
def headWork (s : State) (a h : Nat) : HeadWork := Tab.get HeadWork.zero s.asc.work (headKey a h)

/-- Store a head's check and recalibration. -/
def setHeadWork (s : State) (a h : Nat) (w : HeadWork) : State :=
  { s with asc := { s.asc with work := Tab.put HeadWork.zero s.asc.work (headKey a h) w } }

/-- ASC_STAT shows how many heads are under check and how many recalibrate. -/
def showChecks (s : State) : State :=
  let n := fun (p : HeadWork → Bool) => (s.asc.work.filter fun kv => p kv.2).length
  (s.set 0x1C ASC.ASC_STAT.QC_BUSY (n fun w => w.checking)).set 0x1C ASC.ASC_STAT.RECAL_BUSY (n fun w => w.recal)

/-- A verify or a sweep of the actuator is abandoned (R231): the record and TILE_CNT stay. -/
def abandonChecks (s : State) (a : Nat) : State :=
  if s.asc.work.any fun kv => decide (kv.1 / 12 = a) && (kv.2.checking || kv.2.recal) then
    ((List.range 12).foldl (fun (s : State) h =>
      s.setHeadWork a h { HeadWork.zero with fails := (s.headWork a h).fails }) s).showChecks
  else s

/-- The head the last HEAD_SEL selected. -/
def headNow (s : State) (a : Nat) : Nat := Tab.get 0 s.asc.head a

/-- Send ASSIST_SET with a level to the selected head, unless the bridge has no assist (R211); the level is kept as the
head's last. -/
def assistSet (s : State) (a level : Nat) : State :=
  if s.fld (pgAct a) ACT.BR_CAP.ASSIST = 0 then s
  else (s.sendCmd a 2 level).setHeadModel a (s.headNow a) { s.headModel a (s.headNow a) with last := level }

/-- ASST 1: the level of the head's record at its target track (R213, R214); a record that is not VALID, or ASC disabled
(R233), gives level 0; a poisoned record repeats the last level, raises TABLE_UE and is restored from the store (R214). -/
def assistAuto (s : State) (a h : Nat) : State :=
  let r := s.headRec a h
  if !s.enabled 0x1C then s.assistSet a 0
  else if s.recPoisoned (headKey a h) then
    ((s.assistSet a (s.headModel a h).last).raise 0x1C 6 a).restoreBlock a (s.headAddr (headKey a h)) (256 * h)
  else if !r.valid then s.assistSet a 0
  else
    let raw := rawLevel r (s.fld (pgAct a) ACT.SV_SEEK.TRACK) (Tab.get 0 s.asc.temps (slotOf a)) (s.headModel a h).rise
    let lv := clampInt 0 4095 raw
    let s := if lv = raw then s else (s.bump 0x1C ASC.ASC_CNT_C.CLAMPS).raise 0x1C 4 a
    s.assistSet a lv.toNat

end State

end Sys2Proof.Machine
end

