-- ==== Sys2Proof/Machine/ServoOps.lean ====
section
/-! DEFINITION. The operations of a servo loop: its states (R176), write inhibit (R179), head load and unload (R181, R183),
its memories (R171), and what the engine's registers show. -/

namespace Sys2Proof.Machine.State

/-- A loop. -/
def loop (s : State) (a : Nat) : Loop := Tab.get Loop.zero s.servo.loops a

/-- Store a loop. -/
def setLoop (s : State) (a : Nat) (l : Loop) : State :=
  { s with servo := { s.servo with loops := Tab.put Loop.zero s.servo.loops a l } }

/-- Change a loop. -/
def onLoop (s : State) (a : Nat) (f : Loop → Loop) : State := s.setLoop a (f (s.loop a))

/-- SV_CTL.STATE: 0 OPEN, 1 LOADING, 2 CLOSED, 3 LOST, 4 UNLOADING, 5 FAULT (R176). -/
def svState (s : State) (a : Nat) : Nat := s.fld (pgAct a) ACT.SV_CTL.STATE

/-- SV_CTL.SET: 0 SEEK, 1 SETTLE, 2 FOLLOW. -/
def svSet (s : State) (a : Nat) : Nat := s.fld (pgAct a) ACT.SV_CTL.SET

/-- The write-inhibit causes held. -/
def winhCause (s : State) (a : Nat) : Nat := s.fld (pgAct a) ACT.SV_STAT.WINH_CAUSE

/-- Write inhibit is asserted (R179). -/
def winh (s : State) (a : Nat) : Bool := s.flag (pgAct a) ACT.SV_STAT.WINH

/-- Set one bit of an engine's per-channel field. -/
def setChanBit (s : State) (a : Nat) (f : RF) (b : Bool) : State :=
  s.set (pgSve (engOf a)) f (bitPut (s.fld (pgSve (engOf a)) f) (a % 8) b)

/-- Take a new set of causes: WINH is asserted while any holds; an assertion from the released state is counted and
raises WINH (R179). The sequencer sees it as SQ_STAT.WINH. -/
def setCauses (s : State) (a c : Nat) : State :=
  let was := s.winh a
  let s1 := (((s.set (pgAct a) ACT.SV_STAT.WINH_CAUSE c).setB (pgAct a) ACT.SV_STAT.WINH (decide (c ≠ 0))).setB
    (pgAct a) ACT.SQ_STAT.WINH (decide (c ≠ 0))).setChanBit a SVE.ENG_STAT.WINH (decide (c ≠ 0))
  if c ≠ 0 ∧ ¬ was then (s1.bump (pgAct a) ACT.SV_CNT_A.WINH).raise (pgSve (engOf a)) 0 a else s1

/-- Set or clear one cause: 0 NOT_FOLLOW, 1 PES_LIMIT, 2 INVALID, 3 SHOCK, 4 PRED, 5 LATE_INVALID, 6 ENGINE. -/
def setCause (s : State) (a n : Nat) (b : Bool) : State := s.setCauses a (bitPut (s.winhCause a) n b)

/-- The loop is CLOSED in FOLLOW. -/
def inFollow (s : State) (a : Nat) : Bool := decide (s.svState a = 2) && decide (s.svSet a = 2)

/-- The cause NOT_FOLLOW follows the state (R179). -/
def syncFollow (s : State) (a : Nat) : State := s.setCause a 0 (!s.inFollow a)

/-- The cause ENGINE holds on an engine's actuators while the engine is disabled or not in RUN (R179). -/
def syncEngine (s : State) (e : Nat) : State :=
  let off := !s.enabled (pgSve e) || decide (s.fld (pgSve e) SVE.LOOP_CTL.STATE ≠ 1)
  (List.range 8).foldl (fun (s : State) k => s.setCause (8 * e + k) 6 off) s

/-- Every actuator of an engine is OPEN or FAULT. -/
def engineQuiet (s : State) (e : Nat) : Bool :=
  (List.range 8).all fun k => s.svState (8 * e + k) = 0 || s.svState (8 * e + k) = 5

/-- STOPPING ends in IDLE once every actuator is OPEN or FAULT (R184). -/
def settleEngine (s : State) (e : Nat) : State :=
  if s.fld (pgSve e) SVE.LOOP_CTL.STATE = 2 && s.engineQuiet e then s.set (pgSve e) SVE.LOOP_CTL.STATE 0 else s

/-- The loop enters a state: CLOSED is shown, SEEK_DONE is cleared by any state change (R178), write inhibit follows; a
check on a loop that leaves CLOSED is abandoned (R231). -/
def toLoop (s : State) (a st : Nat) : State :=
  let s := if s.svState a = 2 ∧ st ≠ 2 then s.abandonChecks a else s
  ((((s.set (pgAct a) ACT.SV_CTL.STATE st).setChanBit a SVE.ENG_STAT.CLOSED (decide (st = 2))).setB
    (pgAct a) ACT.SV_CTL.SEEK_DONE false).syncFollow a).settleEngine (engOf a)

/-- A loop that is OPEN has its coefficients reloaded where that is due (R451). -/
def reloadOpen (s : State) (a : Nat) : State :=
  if s.servo.reload.contains a ∧ s.svState a = 0 then
    ({ s with servo := { s.servo with reload := s.servo.reload.erase a } } : State).loadCoef a
  else s

/-- A loop enters a state. -/
def toState (s : State) (a st : Nat) : State := (s.toLoop a st).reloadOpen a

/-- Use a coefficient set. -/
def toSet (s : State) (a n : Nat) : State := (s.set (pgAct a) ACT.SV_CTL.SET n).syncFollow a

/-- After MISS_MAX consecutive invalid wedges a CLOSED loop enters LOST (R166). -/
def missLimit (s : State) (a m : Nat) : State :=
  if s.svState a = 2 ∧ m ≥ max 1 (s.fld (pgAct a) ACT.SV_LIM.MISS_MAX) then
    ((s.bump (pgAct a) ACT.SV_CNT_B.LOST).onLoop a fun l => { l with acq := 0, acqPrev := none }).toState a 3
  else s

/-- An UNLOAD packet is sent on the actuator's link, and the loop enters UNLOADING unless it is OPEN, UNLOADING or FAULT
(R183). -/
def sendUnload (s : State) (a : Nat) : State :=
  let s1 := s.sendCmd a 5 0
  if s.svState a = 1 || s.svState a = 2 || s.svState a = 3 then s1.toState a 4 else s1

/-- UNLOAD where the loop has its heads on the disk or on the way: LOADING, CLOSED or LOST. -/
def unloadLoaded (s : State) (a : Nat) : State :=
  if s.svState a = 1 || s.svState a = 2 || s.svState a = 3 then s.sendUnload a else s

/-- The link going to DOWN sends the loop to OPEN, with LOOP_DROPPED unless it was OPEN (R176). -/
def dropLoop (s : State) (a : Nat) : State :=
  if s.svState a = 0 then s else (s.toState a 0).raise (pgSve (engOf a)) 9 a

/-- HEADS_PARKED ends UNLOADING in OPEN (R176). -/
def parkedLoop (s : State) (a : Nat) : State := if s.svState a = 4 then s.toState a 0 else s

/-- RETRACT_n is low for a loaded loop: UNLOADING without a packet (R183). -/
def retractLoop (s : State) (a : Nat) : State :=
  if s.svState a = 1 || s.svState a = 2 || s.svState a = 3 then s.toState a 4 else s

/-- The three coefficient sets and the coupling block are valid (R172). -/
def setsValid (s : State) (a : Nat) : Bool :=
  decide (s.fld (pgAct a) ACT.SV_CTL.SET_VALID = 7) && s.flag (pgAct a) ACT.SV_CTL.CP_VALID

/-- The slot's spindle is AT_SPEED (R195). -/
def atSpeed (s : State) (slot : Nat) : Bool := s.flag (pgSpm (slot / 4)) (spk slot SPM.SPk_CTL.AT_SPEED)

/-- The conditions of a LOAD (R181). -/
def loadOk (s : State) (a : Nat) : Bool :=
  decide (s.svState a = 0) && decide (s.lkState a = 2) && !s.retractLow (clOf a) && s.atSpeed (slotOf a)
    && s.setsValid a && decide (s.fld (pgSve (engOf a)) SVE.LOOP_CTL.STATE = 1)

/-- A LOAD request: the packet is sent and the loop enters LOADING, or LOAD_REFUSED is raised (R181). -/
def loadRequest (s : State) (a : Nat) : State :=
  if s.loadOk a then
    ((s.sendCmd a 4 0).onLoop a (fun l => { l with acq := 0, acqPrev := none, pos := none, hist := [] })).toState a 1
  else s.raise (pgSve (engOf a)) 11 a

/-- A seek request for a target track: SV_SEEK.TRACK shows it, and it waits for the next update, replacing one not yet
applied (R177). A request for another target than the loop's clears SEEK_DONE (R178). -/
def seekRequest (s : State) (a : Nat) (t : Int) : State :=
  let s1 := (s.set (pgAct a) ACT.SV_SEEK.TRACK (unsigned 24 t)).onLoop a (fun l => { l with asked := some t })
  if t = (s.loop a).target then s1 else s1.setB (pgAct a) ACT.SV_CTL.SEEK_DONE false

/-- A shock: cause SHOCK on both actuators of the slot, or on all eight of the engine with SPREAD (R180). -/
def shock (s : State) (a : Nat) : State :=
  let e := engOf a
  let acts := if s.flag (pgSve e) SVE.LOOP_CTL.SPREAD then (List.range 8).map (fun k => 8 * e + k)
    else [2 * slotOf a, 2 * slotOf a + 1]
  let s1 := (s.bump (pgAct a) ACT.SV_CNT_A.SHOCK).raise (pgSve e) 1 a
  let s2 := acts.foldl (fun s b =>
    (s.setCause b 3 true).onLoop b (fun l => { l with shockHold := max 1 (s.fld (pgAct b) ACT.SV_SHOCK.SHOCK_HOLD) })) s1
  acts.foldl (fun s b =>
    s.set (pgSve e) SVE.ENG_STAT.SHOCK (bitSet (s.fld (pgSve e) SVE.ENG_STAT.SHOCK) (chanOf (slotOf b)))) s2

/-- One valid wedge without a detection counts the SHOCK cause down (R180). -/
def shockTick (s : State) (a : Nat) : State :=
  if bitOf (s.winhCause a) 3 then
    let n := (s.loop a).shockHold - 1
    let s1 := s.onLoop a (fun l => { l with shockHold := n })
    if n = 0 then
      let s2 := s1.setCause a 3 false
      if bitOf (s2.winhCause (sibOf a)) 3 then s2
      else s2.set (pgSve (engOf a)) SVE.ENG_STAT.SHOCK
        (bitClear (s2.fld (pgSve (engOf a)) SVE.ENG_STAT.SHOCK) (chanOf (slotOf a)))
    else s1
  else s

/-! ### Memories -/

/-- A coefficient word (R171); `a * 1024 + index`. -/
def coefWord (s : State) (a i : Nat) : Word := Tab.get 0#32 s.servo.coef (a * 1024 + i)

/-- A bias-table word. -/
def biasWord (s : State) (a i : Nat) : Word := Tab.get 0#32 s.servo.bias (a * 1024 + i)

/-- A seek-profile word. -/
def profWord (s : State) (a i : Nat) : Word := Tab.get 0#32 s.servo.prof (a * 256 + i)

/-- A signed coefficient. -/
def coefInt (s : State) (a i : Nat) : Int := (s.coefWord a i).toInt

/-- The section whose six words begin at a word. -/
def secCoef (s : State) (a i : Nat) : SecCoef :=
  ⟨s.coefInt a i, s.coefInt a (i + 1), s.coefInt a (i + 2), s.coefInt a (i + 3), s.coefInt a (i + 4),
    (s.coefWord a (i + 5)).toNat⟩

/-- NSEC_VCM of a set, at most 16. -/
def nsecVcm (s : State) (a n : Nat) : Nat := min 16 (bitsOf (s.coefWord a (256 * n)).toNat 4 0)

/-- NSEC_MA of a set, at most 8. -/
def nsecMa (s : State) (a n : Nat) : Nat := min 8 (bitsOf (s.coefWord a (256 * n)).toNat 11 8)

/-- CP_NSEC, at most 4. -/
def nsecCp (s : State) (a : Nat) : Nat := min 4 (bitsOf (s.coefWord a 768).toNat 2 0)

/-- The VCM sections of a set with their keys. -/
def vcmSecs (s : State) (a n : Nat) : List (Nat × SecCoef) :=
  (List.range (s.nsecVcm a n)).map fun i => (i, s.secCoef a (256 * n + 16 + 6 * i))

/-- The microactuator sections of a set with their keys. -/
def maSecs (s : State) (a n : Nat) : List (Nat × SecCoef) :=
  (List.range (s.nsecMa a n)).map fun i => (16 + i, s.secCoef a (256 * n + 112 + 6 * i))

/-- The coupling sections with their keys. -/
def cpSecs (s : State) (a : Nat) : List (Nat × SecCoef) :=
  (List.range (s.nsecCp a)).map fun i => (24 + i, s.secCoef a (772 + 6 * i))

/-- A format descriptor in use. -/
def fmt (s : State) (a : Nat) : Format := Tab.get Format.zero s.media.fmts a

end Sys2Proof.Machine.State
end

