-- ==== Sys2Proof/Machine/WinOps.lean ====
section
/-! DEFINITION. The operations over windows: the on-die SRAM, flag words and their compare-and-swap (R346-R350, R355), the
allocator (R353), the Common Window's checks (R354), and Hod's event flags, which a flip can set. -/

namespace Sys2Proof.Machine

/-- The agent code of an accessor (R346). -/
def agentOf : Accessor → Nat
  | .pf1p0 => 4
  | .pf1p1 => 5
  | .cpx => 1
  | .mgp => 2

/-- The accessor behind an agent code, where one is. -/
def accOf (agent : Nat) : Option Accessor :=
  if agent = 1 then some .cpx else if agent = 2 then some .mgp else if agent = 4 then some .pf1p0
  else if agent = 5 then some .pf1p1 else none

/-- The codes that name an agent, or FREE (R346). -/
def agentKnown (n : Nat) : Bool :=
  decide (n ≤ 5) || decide (n ∈ [8, 9, 10]) || (decide (0x10 ≤ n) && decide (n < 0x28))
    || (decide (0x40 ≤ n) && decide (n < 0x60)) || (decide (0x80 ≤ n) && decide (n < 0x100))

/-- The bank of a window's SHW registers. -/
def pgWin (w : Nat) : Nat := bank 0xD w

/-- A flag word (R347). -/
def flagWord (owner hseq : Nat) (err : Bool) : Nat := owner % 256 * 2 ^ 24 + hseq % 256 * 2 ^ 16 + b2n err * 2 ^ 15

/-- The last byte of the on-die SRAM's space and one more; the Common Window is its first 4 MiB (R357). -/
def sramEnd : Nat := 0x410000

/-- The bytes of the Common Window. -/
def cwEnd : Nat := 0x400000

namespace State

/-- Change Hod's and the windows' state. -/
def onHod (s : State) (f : HodSt → HodSt) : State := { s with hod := f s.hod }

/-! ### Bytes of the two spaces -/

/-- A byte of DRAM (space 0) or of on-die SRAM (space 1). -/
def memByte (s : State) (space addr : Nat) : Nat :=
  if space = 0 then (s.dramByte addr).toNat else (Tab.get 0#8 s.hod.sram addr).toNat

/-- Write a byte of either space. -/
def setMemByte (s : State) (space addr b : Nat) : State :=
  if space = 0 then s.setDramByte addr (BitVec.ofNat 8 b)
  else s.onHod fun h => { h with sram := Tab.put 0#8 h.sram addr (BitVec.ofNat 8 b) }

/-- Bytes of either space. -/
def memRead (s : State) (space addr n : Nat) : List Nat := (List.range n).map fun i => s.memByte space (addr + i)

/-- Write bytes of either space. -/
def memWrite (s : State) (space addr : Nat) : List Nat → State
  | [] => s
  | b :: bs => (s.setMemByte space addr b).memWrite space (addr + 1) bs

/-- A 32-bit word of either space. -/
def memWord (s : State) (space addr : Nat) : Nat := ofLe (s.memRead space addr 4)

/-- The line of a byte reads as poisoned in its space. -/
def memPoison (s : State) (space addr : Nat) : Bool :=
  if space = 0 then s.poisonedLine (addr / 64) else s.hod.sramBad.contains (addr / 64)

/-- The word that holds a flag is poisoned (R350). -/
def flagPoison (s : State) (space addr : Nat) : Bool :=
  if space = 0 then bitOf (s.poisonOf (addr / 64)) (addr % 64 / 8) else s.hod.sramBad.contains (addr / 64)

/-- The poison of the word that holds a flag is gone: the flag has been rewritten. -/
def clearFlagPoison (s : State) (space addr : Nat) : State :=
  if space = 0 then s.setPoison (addr / 64) (bitClear (s.poisonOf (addr / 64)) (addr % 64 / 8)) else s

/-! ### Windows (R351) -/

/-- VALID of a window. -/
def winValid (s : State) (w : Nat) : Bool := s.flag (pgWin w) SHW.WIN_CFG.VALID
/-- SPACE of a window: 0 DRAM, 1 on-die. -/
def winSpace (s : State) (w : Nat) : Nat := s.fld (pgWin w) SHW.WIN_CFG.SPACE
/-- ALLOC of a window. -/
def winAlloc (s : State) (w : Nat) : Bool := s.flag (pgWin w) SHW.WIN_CFG.ALLOC
/-- A window's first byte. -/
def winBase (s : State) (w : Nat) : Nat := s.fld (pgWin w) SHW.WIN_BASE.BASE * 4096
/-- A window's slot size. -/
def slotSize (s : State) (w : Nat) : Nat := 2 ^ s.fld (pgWin w) SHW.WIN_CFG.SLOT_SH
/-- A window's slots. -/
def winSlots (s : State) (w : Nat) : Nat := s.fld (pgWin w) SHW.WIN_SLOTS.SLOTS
/-- One byte past a window. -/
def winEnd (s : State) (w : Nat) : Nat := s.winBase w + s.winSlots w * s.slotSize w
/-- The address of a slot. -/
def slotAddr (s : State) (w n : Nat) : Nat := s.winBase w + n * s.slotSize w

/-- The valid window that an address lies in. -/
def winAt (s : State) (space addr : Nat) : Option Nat :=
  (List.range 16).find? fun w =>
    s.winValid w && decide (s.winSpace w = space) && decide (s.winBase w ≤ addr) && decide (addr < s.winEnd w)

/-- The slot of a window that an address lies in. -/
def slotNo (s : State) (w addr : Nat) : Nat := (addr - s.winBase w) / s.slotSize w

/-- OWNER of the flag word at an address. -/
def flagOwner (s : State) (space addr : Nat) : Nat := s.memWord space addr / 2 ^ 24 % 256
/-- HSEQ of the flag word at an address. -/
def flagSeq (s : State) (space addr : Nat) : Nat := s.memWord space addr / 2 ^ 16 % 256

/-! ### Hod's event flags (R361, R374) -/

/-- A Hod channel beyond its registers. -/
def chan (s : State) (n : Nat) : Chan := Tab.get Chan.zero s.hod.chans n

/-- Change a channel. -/
def onChan (s : State) (n : Nat) (f : Chan → Chan) : State :=
  s.onHod fun h => { h with chans := Tab.upd Chan.zero h.chans n f }

/-- Whether a channel's WAIT is for an event flag and not yet satisfied. -/
def waitsFlag (s : State) (n f : Nat) : Bool :=
  match (s.chan n).wait with
  | some i => decide (i.arg8 = 0) && decide (i.arg16 = f) && !(s.chan n).woken
  | none => false

/-- CONSUME of a channel's WAIT. -/
def consumes (s : State) (n : Nat) : Bool :=
  match (s.chan n).wait with
  | some i => bitOf i.flags 0
  | none => false

/-- One event flag is set: every channel that waits for it is satisfied, but of those with CONSUME only the
lowest-numbered, which clears the flag in the same cycle (R361). -/
def setFlagBit (s : State) (f : Nat) : State :=
  let ws := (List.range 32).filter fun n => s.waitsFlag n f
  let first := ws.find? fun n => s.consumes n
  let s1 := (ws.filter fun n => !s.consumes n || decide (some n = first)).foldl
    (fun (s : State) n => s.onChan n fun c => { c with woken := true }) s
  s1.set 0x1B HOD.EVF.FLAGS (bitPut (s1.fld 0x1B HOD.EVF.FLAGS) f first.isNone)

/-- The event flags of a mask are set. -/
def setFlags (s : State) (mask : Nat) : State :=
  ((List.range 64).filter fun f => bitOf mask f).foldl (fun (s : State) f => s.setFlagBit f) s

/-- The event flags of a mask are cleared. -/
def clearFlags (s : State) (mask : Nat) : State :=
  let v := s.fld 0x1B HOD.EVF.FLAGS
  s.set 0x1B HOD.EVF.FLAGS (v - (v &&& mask))

/-! ### The allocator (R353) -/

/-- The slots of a window that its allocator has given. -/
def allocUsed (s : State) (w : Nat) : Nat :=
  s.hod.alloc.foldl (fun n kv => if kv.1 / 65536 = w then n + kv.2 else n) 0

/-- Show the free slots of an ALLOC window (R377). -/
def showFree (s : State) (w : Nat) : State :=
  if s.winAlloc w then s.set (pgWin w) SHW.WIN_FREE.FREE (s.winSlots w - s.allocUsed w) else s

/-- A slot is free in the allocator's bitmap. -/
def slotFree (s : State) (w n : Nat) : Bool :=
  decide (n < s.winSlots w) && (Tab.find? s.hod.alloc (w * 65536 + n)).isNone
    && !(decide (n % 2 = 1) && decide (Tab.get 0 s.hod.alloc (w * 65536 + n - 1) = 2))

/-- A slot, or an aligned pair, is free. -/
def placeFree? (s : State) (w n : Nat) (pair : Bool) : Bool :=
  if pair then decide (n % 2 = 0) && s.slotFree w n && s.slotFree w (n + 1) else s.slotFree w n

/-- The flag word at an address is written. -/
def putFlag (s : State) (space addr owner hseq : Nat) (err : Bool) : State :=
  (s.memWrite space addr (leBytes 4 (flagWord owner hseq err))).clearFlagPoison space addr

/-- The allocator gives a slot: it marks its bitmap and writes the flag with the requester's code and HSEQ + 1. -/
def giveSlot (s : State) (w n agent : Nat) (pair : Bool) : State :=
  let addr := s.slotAddr w n
  let s1 := s.onHod fun h => { h with alloc := Tab.put 0 h.alloc (w * 65536 + n) (if pair then 2 else 1) }
  (s1.putFlag (s.winSpace w) addr agent (s.flagSeq (s.winSpace w) addr + 1) false).showFree w

/-- A slot flipped to FREE returns to the allocator, with its partner where it was given as a pair. -/
def regain (s : State) (w n : Nat) : State :=
  (s.onHod fun h => { h with alloc := Tab.erase h.alloc (w * 65536 + n) }).showFree w

/-- The slot an allocation takes, the lowest-numbered free place; none where nothing is free or the window cannot give
one: SHW disabled, not VALID, or not an ALLOC window. -/
def allocChoice (s : State) (w : Nat) (pair : Bool) : Option Nat :=
  if s.enabled 0xD && s.winValid w && s.winAlloc w then (List.range (s.winSlots w)).find? fun n => s.placeFree? w n pair
  else none

/-- An allocation request (R353): the slot, or 0xFFFF_FFFF with ALLOC_EMPTY where nothing is free. -/
def allocate1 (s : State) (w agent : Nat) (pair : Bool) : Nat × State :=
  match s.allocChoice w pair with
  | some n => (n, s.giveSlot w n agent pair)
  | none => (0xFFFFFFFF, if s.enabled 0xD && s.winValid w && s.winAlloc w then s.raise 0xD 3 0 else s)

/-! ### Pallets handed to a thread (R148) -/

/-- Entry n of the pallet at an address. -/
def palletEntry (s : State) (addr kind0 n : Nat) : Brick :=
  let p := addr + 2048 + 4160 * n
  let w := fun (k o : Nat) => ofLe (s.dramRead (p + 4096 + o) k)
  let k := w 1 41
  ⟨ofLe (s.dramRead p 4096),
    ⟨w 4 0, w 2 4, w 4 6, w 2 10, w 4 12, w 4 16, w 8 20, w 2 28, w 2 30, 0, 0, 0, if k = 0 then kind0 else k, 0, w 1 40, 0, 0, 0⟩⟩

/-- The pallet at an address, as its header and entries stand in DRAM. -/
def palletAt (s : State) (addr producer : Nat) : Pallet :=
  let w := fun (k o : Nat) => ofLe (s.dramRead (addr + o) k)
  { addr := addr, producer := producer, count := w 2 4, tile := w 4 8, gen := w 4 12, course := w 4 16, pos := w 1 20
    kind := w 1 21, brick := w 2 22, staged := 0, committed := 0
    entries := (List.range (min 2016 (w 2 4))).map fun n => s.palletEntry addr (w 1 21) n }

/-- A thread's list of owned pallets changed. -/
def onPallets (s : State) (a : Nat) (f : List Pallet → List Pallet) : State :=
  { s with seq := { s.seq with threads := Tab.upd Thread.zero s.seq.threads a fun t => { t with pallets := f t.pallets } } }

/-- A pallet slot has changed hands: a thread that owned it no longer does, and the thread of the slot's actuator that now
does takes it. Pallet 2a + i is pallet i of actuator a (R352). -/
def palletFlip (s : State) (slot addr old new by_ : Nat) : State :=
  let s1 := if old ≥ 0x80 then s.onPallets (old - 0x80) fun ps => ps.filter fun p => decide (p.addr ≠ addr) else s
  if new ≥ 0x80 ∧ new - 0x80 = slot / 2 then s1.onPallets (new - 0x80) fun ps => ps ++ [s1.palletAt addr by_] else s1

/-! ### Flag-tagged accesses (R348-R350, R355) -/

/-- A refused access is recorded: VIOL_INFO, the count and the event (R349, R354). -/
def flagRefused (s : State) (agent w cause : Nat) : State :=
  let s1 := ((s.set 0xD SHW.VIOL_INFO.AGENT agent).set 0xD SHW.VIOL_INFO.WIN w).set 0xD SHW.VIOL_INFO.CAUSE cause
  if cause = 5 then (s1.bump 0xD SHW.VIOL.CW).raise 0xD 1 0 else (s1.bump 0xD SHW.VIOL.FLAG).raise 0xD 0 0

/-- Why a flag-tagged write would be refused (R349): 0 where it is performed, 1 not the owner, 2 HSEQ, 3 not a slot's
start, 4 a claim in an ALLOC window. The odd slot of a pair is no slot's start (R353). -/
def flagCause (s : State) (agent space addr owner hseq : Nat) : Nat :=
  match s.winAt space addr with
  | none => 3
  | some w =>
    let n := s.slotNo w addr
    let old := s.flagOwner space addr
    if addr ≠ s.slotAddr w n then 3
    else if n % 2 = 1 ∧ Tab.get 0 s.hod.alloc (w * 65536 + n - 1) = 2 then 3
    else if agent ≠ 2 ∧ old = 0 ∧ s.winAlloc w then 4
    else if agent ≠ 2 ∧ old ≠ 0 ∧ old ≠ agent then 1
    else if agent ≠ 2 ∧ s.flagPoison space addr then 1
    else if (agent = 4 ∨ agent = 5) ∧ !s.flag (pgWin w) SHW.WIN_CFG.PF1 then 1
    else if !agentKnown owner then 1
    else if hseq % 256 ≠ (s.flagSeq space addr + 1) % 256 then 2
    else 0

/-- What a successful flip brings with it: the allocator takes a freed slot back, the notice and the event flag of NOTIFY
(R355), and a pallet changes hands. -/
def flipped (s : State) (w n space addr old owner hseq by_ : Nat) : State :=
  let s1 := if s.winAlloc w && decide (owner = 0) then s.regain w n else s
  let k := s1.fld (pgWin w) SHW.WIN_CFG.NOTIFY
  let item := w * 2 ^ 60 + n * 2 ^ 32 + owner * 2 ^ 24 + hseq % 256 * 2 ^ 16
  let s2 := if k % 2 = 1 then s1.post (s1.fld (pgWin w) SHW.WIN_NOTE.NFIFO) item else s1
  let s3 := if k ≥ 2 then s2.setFlagBit (s2.fld (pgWin w) SHW.WIN_CFG.EVF) else s2
  let s4 := if w = 2 then s3.onHod fun h => { h with exchanges := h.exchanges.filter fun x => decide (x ≠ n) } else s3
  if w = 0 ∧ space = 0 then s4.palletFlip n addr old owner by_ else s4

/-- A flag-tagged write (R349): performed, or refused with FLAG_VIOLATION. With SHW disabled it is refused (R377). -/
def flagWrite (s : State) (agent space addr owner hseq : Nat) (err : Bool) : Bool × State :=
  if !s.enabled 0xD then (false, s)
  else
    let cause := s.flagCause agent space addr owner hseq
    match s.winAt space addr with
    | none => (false, s.flagRefused agent 0 cause)
    | some w =>
      if cause ≠ 0 then (false, s.flagRefused agent w cause)
      else
        (true, (s.putFlag space addr owner hseq err).flipped w (s.slotNo w addr) space addr (s.flagOwner space addr)
          (owner % 256) hseq agent)

/-- The flip of a slot by the agent that hands it on: HSEQ goes up by one. -/
def flip (s : State) (agent space addr owner : Nat) (err : Bool) : Bool × State :=
  s.flagWrite agent space addr owner (s.flagSeq space addr + 1) err

/-- A flag-tagged read (R350): the stored word, or on a poisoned line OWNER = MGP, ERR = 1 and HSEQ as stored, with
FLAG_POISON. -/
def flagRead (s : State) (space addr : Nat) : Nat × State :=
  if s.flagPoison space addr then (flagWord 2 (s.flagSeq space addr) true, s.raise 0xD 2 0)
  else (s.memWord space addr, s)

/-! ### Untagged accesses to the Common Window (R354) -/

/-- The slot of a Common Window byte whose owner keeps an agent from its data: the window and the slot's address. -/
def cwBars (s : State) (agent addr : Nat) : Option (Nat × Nat) :=
  if addr < cwEnd ∧ agent ≠ 2 then
    match s.winAt 1 addr with
    | none => none
    | some w =>
      let base := s.slotAddr w (s.slotNo w addr)
      let o := s.flagOwner 1 base
      if addr < base + 4 ∨ o = 0 ∨ o = agent then none else some (w, base)
  else none

/-! ### The retry store's slots (R121, R352) -/

/-- The front detector takes a unit, or a pair, of the retry store from the allocator. -/
def takeUnit (s : State) (u c : Nat) (pair : Bool) : State :=
  if s.enabled 0xD && s.winValid 1 && s.winAlloc 1 && s.placeFree? 1 u pair then s.giveSlot 1 u (0x10 + c) pair else s

/-- A unit is flipped by its present owner: to the decoder pool that Mason names, or to FREE. -/
def unitTo (s : State) (u owner : Nat) : State :=
  if s.winValid 1 && (Tab.find? s.hod.alloc (65536 + u)).isSome then
    (s.flip (s.flagOwner (s.winSpace 1) (s.slotAddr 1 u)) (s.winSpace 1) (s.slotAddr 1 u) owner false).2
  else s

end State

end Sys2Proof.Machine
end

