-- ==== Sys2Proof/Machine/RcOps.lean ====
section
/-! DEFINITION. The operations of the read channel: the retained ring and its pins (R119, R120), the delivery check (R125),
the decoder pools and their queue (R122-R124), the ladder's attempts (R126, R127), and reports to Mason (R128). -/

namespace Sys2Proof.Machine

/-! ### Attempts (R126, R127) -/

/-- +1, -1, +2, -2 ... to a span. -/
def spread (n : Nat) : List Int := (List.range n).flatMap fun i => [((i : Int) + 1), -((i : Int) + 1)]

/-- The framings level 1 tries, as (sync offset, resume offset), in order. -/
def level1 (half span : Nat) (r : Record) : List (Int × Int) :=
  let used := if r.reason = 2 then 0 else r.syncOfs
  let first : List (Int × Int) :=
    if r.reason = 2 then ((0 : Int) :: spread half).map fun o => (o, r.resumeOfs)
    else (r.cand ++ (spread span).map fun o => used + o).map fun o => (o, r.resumeOfs)
  let second : List (Int × Int) :=
    if r.reason = 4 then ((0 : Int) :: spread half).map fun o => (r.bestOfs, o)
    else if r.resumeOfs = 0x7FFF then []
    else (spread span).map fun o => (r.bestOfs, r.resumeOfs + o)
  first ++ second

/-- The next detector set level 3 tries. -/
def nextSet (r : Record) : Option Nat := [1, 2, 3].find? fun d => !bitOf r.dsetDone d

/-- A record's samples per reader at a channel rate (R119). -/
def samplesOf (rate : Nat) : Nat := (slotLen * 4700 + rate - 1) / rate

/-- The units a record takes (R119). -/
def unitsOf (rate : Nat) : Nat := if rate ≥ 4010 then 1 else 2

/-- How a converged decode is classed (R125): 0 pass, 1 mismatch, 2 stale, 3 misplaced. -/
def trailerCheck (b : Brick) (tile slot gen brick : Nat) : Nat :=
  let t := b.trailer
  if brickCrc b ≠ t.crc ∨ t.kind = 0 ∨ t.kind > 5 then 1
  else if t.tile ≠ tile ∨ t.slot ≠ slot then 3
  else if t.gen ≠ gen ∨ t.brick ≠ brick then 2
  else 0

namespace State

/-! ### Detectors and rings -/

/-- A detector. -/
def det (s : State) (a : Nat) : Det := Tab.get Det.zero s.rc.dets a

/-- Change a detector; FDC_STAT.IN_WINDOW shows whether a window is open. -/
def onDet (s : State) (a : Nat) (f : Det → Det) : State :=
  let d := f (s.det a)
  let s1 : State := { s with rc := { s.rc with dets := Tab.put Det.zero s.rc.dets a d } }
  s1.set (pgFdc (clOf a)) FDC.FDC_STAT.IN_WINDOW
    (bitPut (s1.fld (pgFdc (clOf a)) FDC.FDC_STAT.IN_WINDOW) (inCl a) (d.win.isSome || d.wedgeTgt.isSome))

/-- The record in a ring unit. -/
def ringRec (s : State) (a u : Nat) : Record := Tab.get Record.zero (s.det a).ring u

/-- Store a ring record. -/
def setRingRec (s : State) (a u : Nat) (r : Record) : State :=
  s.onDet a fun d => { d with ring := Tab.put Record.zero d.ring u r }

/-- A ring unit is pinned. -/
def pinned (s : State) (a u : Nat) : Bool := bitOf (s.fld (pgAct a) ACT.RING_STAT.PINNED) u

/-- Pin or release the units of a record (R120). -/
def setPin (s : State) (a u : Nat) (b : Bool) : State :=
  let m := bitPut (s.fld (pgAct a) ACT.RING_STAT.PINNED) u b
  let m := if (s.ringRec a u).units = 2 then bitPut m (u + 1) b else m
  (s.set (pgAct a) ACT.RING_STAT.PINNED m).set (pgFdc (clOf a)) FDC.FDC_STAT.PINNED
    (bitPut (s.fld (pgFdc (clOf a)) FDC.FDC_STAT.PINNED) (inCl a) (decide (m ≠ 0)))

/-! ### Reports -/

/-- A report to Mason; it goes as a MASON_NOTE item whose bits the spec does not lay out (R128, R367). -/
def report (s : State) (r : Report) : State :=
  let item := s.freeNow.toNat
  ({ s.drawn with rc := { s.rc with reports := s.rc.reports ++ [r] } } : State).post 0xA8 item

/-- A report about a record. -/
def reportRec (s : State) (k : ReportKind) (r : Record) (lv : Nat) : State :=
  s.report ⟨k, r.act, r.tile, r.slot, r.head, r.tag, lv, r.best⟩

/-! ### The retry store (R121) -/

/-- The units of the store. -/
def storeUnits : Nat := 16384

/-- The record in a store unit. -/
def stored (s : State) (u : Nat) : Record := Tab.get Record.zero s.rc.store u

/-- Store a record in a unit. -/
def setStored (s : State) (u : Nat) (r : Record) : State :=
  { s with rc := { s.rc with store := Tab.put Record.zero s.rc.store u r } }

/-- A unit holds no record. -/
def unitFree (s : State) (u : Nat) : Bool :=
  decide (u < storeUnits) && (Tab.find? s.rc.store u).isNone && !(s.winValid 1 && !s.slotFree 1 u)
    && !(decide (u % 2 = 1) && decide ((s.stored (u - 1)).units = 2) && (Tab.find? s.rc.store (u - 1)).isSome)

/-- A unit, or an even unit and the odd one after it, is free for a record. -/
def placeFree (s : State) (u units : Nat) : Bool :=
  if units = 2 then decide (u % 2 = 0) && s.unitFree u && s.unitFree (u + 1) else s.unitFree u

/-- Some place is free. -/
def storeRoom (s : State) (units : Nat) : Bool := (List.range storeUnits).any fun u => s.placeFree u units

/-- A job frees its units. -/
def freeUnits (s : State) (u : Nat) : State := ({ s with rc := { s.rc with store := Tab.erase s.rc.store u } } : State).unitTo u 0

/-! ### Pools -/

/-- A pool. -/
def pool (s : State) (c : Nat) : Pool := Tab.get Pool.zero s.rc.pools c

/-- Decoder n is fenced (R124, R132). -/
def fenced (s : State) (c n : Nat) : Bool := bitOf (s.fld (pgLdp c) LDP.FENCE.DEC) n

/-- The number of fenced decoders. -/
def fencedCnt (s : State) (c : Nat) : Nat := ((List.range 20).filter fun n => s.fenced c n).length

/-- RETRY_MAX: 5-7 act as 4; fenced decoders shrink it, so that 16 stay for live jobs (R124, R132). -/
def retryMax (s : State) (c : Nat) : Nat := min (min 4 (s.fld (pgLdp c) LDP.LDP_CFG.RETRY_MAX)) (4 - s.fencedCnt c)

/-- LIVE_IT: 4 to 11. -/
def liveIt (s : State) (c : Nat) : Nat := min 11 (max 4 (s.fld (pgLdp c) LDP.LDP_CFG.LIVE_IT))

/-- EXT_IT: 11 to 60. -/
def extIt (s : State) (c : Nat) : Nat := min 60 (max 11 (s.fld (pgLdp c) LDP.LDP_CFG.EXT_IT))

/-- Store a pool and show it in LDP_STAT. A live job on decoder 20 is one that waits for a decoder. -/
def setPool (s : State) (c : Nat) (p : Pool) : State :=
  let s1 : State := { s with rc := { s.rc with pools := Tab.put Pool.zero s.rc.pools c p } }
  let pg := pgLdp c
  (((((s1.set pg LDP.LDP_STAT.LIVE_BUSY (p.live.filter fun j => decide (j.dec < 20)).length).set
    pg LDP.LDP_STAT.RETRY_BUSY (p.running.filter fun r => !r.borrowed).length).set
    pg LDP.LDP_STAT.BORROWED (p.running.filter fun r => r.borrowed).length).set
    pg LDP.LDP_STAT.QDEPTH p.queue.length).set
    pg LDP.LDP_STAT.RDET_BUSY p.replays.length).set pg LDP.LDP_STAT.FENCED (s.fencedCnt c)

/-! ### Abandoning (R65, R120, R130) -/

/-- A brick's read is abandoned, with its live decode if one has started: it never enters the ladder, and Mason re-reads or
rebuilds. -/
def abandonWin (s : State) (a : Nat) (k : ReportKind) : State :=
  match (s.det a).win with
  | none => s
  | some w =>
    let s1 := s.onDet a fun d => { d with win := none }
    let p := s1.pool (clOf a)
    (s1.setPool (clOf a) { p with live := p.live.filter fun j => decide (j.act ≠ a) || decide (j.unit ≠ w.unit) }).reportRec
      k (s1.ringRec a w.unit) 0

/-- The decoders no job holds and no fence withdraws, lowest first. -/
def idleDecs (s : State) (c : Nat) : List Nat :=
  let p := s.pool c
  (List.range 20).filter fun n =>
    !s.fenced c n && !(p.live.any fun j => decide (j.dec = n)) && !(p.running.any fun r => decide (r.dec = n))

/-- The next retry job: URGENT before BACKGROUND, each in posting order (R122). -/
def nextJob (q : List RetryJob) : Option RetryJob :=
  match q.find? (fun j => j.urgent) with
  | some j => some j
  | none => q.head?

/-- A replay detector is taken for the jobs that need one and have none, two at most. -/
def withReplays (p : Pool) : Pool :=
  let want := (p.running.filter fun r => !r.job.replayed).map fun r => r.job.unit
  let have' := p.replays.filter fun u => want.contains u
  { p with replays := (have' ++ want.filter fun u => !have'.contains u).take 2 }

/-- A yielded or posted job goes to the head of its class (R123). -/
def putBack (q : List RetryJob) (j : RetryJob) : List RetryJob := j :: q

/-- Start the retry jobs that may run: by right up to RETRY_MAX, and borrowed while BORROW = 1; none with five or more
fenced. The first argument bounds the jobs started. -/
def startRetries : Nat → State → Nat → State
  | 0, s, _ => s
  | n + 1, s, c =>
    let p := s.pool c
    match nextJob p.queue, s.idleDecs c with
    | some j, d :: _ =>
      let byRight := (p.running.filter fun r => !r.borrowed).length
      let borrow := s.flag (pgLdp c) LDP.LDP_CFG.BORROW
      if s.fencedCnt c ≥ 5 ∨ (byRight ≥ s.retryMax c ∧ ¬ borrow) then s
      else
        let run : Running := ⟨d, decide (byRight ≥ s.retryMax c), j⟩
        startRetries n (s.setPool c (withReplays { p with queue := p.queue.erase j, running := p.running ++ [run] })) c
    | _, _ => s

/-- Give waiting live jobs the free decoders, then start retry jobs. With ENABLE = 0 the pool takes no new jobs (R130). -/
def settlePool (s : State) (c : Nat) : State :=
  let p := s.pool c
  let s := match p.live.find? (fun j => decide (j.dec ≥ 20)), s.idleDecs c with
    | some j, d :: _ => s.setPool c { p with live := p.live.map fun x => if x = j then { x with dec := d } else x }
    | _, _ => s
  if s.enabled (pgLdp c) then startRetries 32 s c else s

/-- A live job takes a free decoder, or the one a borrowing retry job yields at once (PREEMPT), or waits (R123, R124). -/
def placeLive (s : State) (c : Nat) (j : LiveJob) : State :=
  let p := s.pool c
  match s.idleDecs c with
  | d :: _ => s.setPool c { p with live := p.live ++ [{ j with dec := d }] }
  | [] =>
    match (p.running.filter fun r => r.borrowed).getLast? with
    | some r =>
      let p' := withReplays { p with
        live := p.live ++ [{ j with dec := r.dec }]
        running := p.running.erase r
        queue := putBack p.queue { r.job with replayed := false } }
      ((s.setPool c p').bump (pgLdp c) LDP.PREEMPT.COUNT).raise (pgLdp c) 3 r.dec
    | none => s.setPool c { p with live := p.live ++ [{ j with dec := 20 }] }

/-- A post to a pool's retry queue: refused with QUEUE_FULL at 32 entries (R122). -/
def postRetry (s : State) (c : Nat) (j : RetryJob) : State :=
  let p := s.pool c
  if p.queue.length ≥ 32 ∨ ¬ s.enabled (pgLdp c) then s.raise (pgLdp c) 2 0
  else ((s.setPool c { p with queue := p.queue ++ [j] }).unitTo j.unit (0x18 + c)).settlePool c

/-! ### The ladder's start -/

/-- A read fails into the ladder: pinned until its copy is in the retry store; with no room there it goes to Mason
UNRETRIED (R120, R121, R126). -/
def toLadder (s : State) (a u reason : Nat) : State :=
  let r := { s.ringRec a u with reason := reason, level := 1 }
  let s1 := s.setRingRec a u r
  if s1.storeRoom r.units then s1.setPin a u true
  else (s1.raise (pgFdc (clOf a)) 3 a).reportRec .unretried r 0

/-- Whether the thread's decode is judged: DEC_DONE and DEC_PASS (R141). -/
def setDec (s : State) (a : Nat) (done pass : Bool) : State :=
  let t := Tab.get Thread.zero s.seq.threads a
  { s with seq := { s.seq with threads := Tab.put Thread.zero s.seq.threads a { t with decDone := done, decPass := pass } } }

/-- The delivery check in a cluster's XTC page, with its counts and events (R125, R413). -/
def judge (s : State) (c a : Nat) (o : Nat) : State :=
  match o with
  | 1 => (s.bump (pgXtc c) XTC.XTC_CHK.MISMATCH).raise (pgXtc c) 0 a
  | 2 => ((s.bump (pgXtc c) XTC.XTC_CHK.STALE).raise (pgXtc c) 1 a).bump (pgAct a) ACT.UNREC.STALE
  | 3 => (s.bump (pgXtc c) XTC.XTC_MISPL.MISPLACED).raise (pgXtc c) 5 a
  | _ => s

/-- A passed brick is held until the link's checks for all its samples have passed (R66). -/
def holdBrick (s : State) (a : Nat) (r : Record) (ciph : Nat) (b : Brick) : State :=
  { s with rc := { s.rc with held := s.rc.held ++ [⟨a, r.slot, r.tile, r.tag, r.start + r.n, ciph, b⟩] } }

/-- The re-reads Mason has ordered of a record's brick (R252). -/
def rereadOf (s : State) (r : Record) : Bool := s.mason.rereads.any fun x => decide (x.1 = (r.tile, r.brick))

/-- The store units kept for a record's slot, but for one (R128). -/
def keptFor (s : State) (tile slot but : Nat) : List Nat :=
  (s.rc.kept.flatMap (·.2)).filter fun u => decide (u ≠ but) && decide ((s.stored u).tile = tile) && decide ((s.stored u).slot = slot)

/-- Mason releases the records kept for a slot (R128). -/
def releaseKept (s : State) (tile slot : Nat) : State :=
  let us := s.keptFor tile slot storeUnits
  let s1 := us.foldl (fun (s : State) u => s.freeUnits u) s
  { s1 with rc := { s1.rc with kept := (s1.rc.kept.map fun kv => (kv.1, kv.2.filter fun u => !us.contains u)).filter fun kv => !kv.2.isEmpty } }

/-- A brick has been read: its re-reads are over and its kept records are released. -/
def readOver (s : State) (r : Record) : State :=
  ({ s with mason := { s.mason with rereads := s.mason.rereads.filter fun x => decide (x.1 ≠ (r.tile, r.brick)) } } : State).releaseKept
    r.tile r.slot

end State

end Sys2Proof.Machine
end

