-- ==== Sys2Proof/Machine/SeqOps.lean ====
section
/-! DEFINITION. The operations of a sequencer thread: its conditions (R141), its slot layout (R84-R86, R142), write gates
and the void slots of a drop (R146-R153), pallets and staging (R148, R149). -/

namespace Sys2Proof.Machine

/-! ### The track's layout (R84-R86) -/

/-- The geometry of a track: wedges, rpm, servo bit time in fs, channel rate in MHz, slots and tracks per tile. -/
structure Geo where
  wedges : Nat
  rpm : Nat
  bitFs : Nat
  rate : Nat
  spt : Nat
  deriving DecidableEq, Repr

/-- One wedge interval in fs. -/
def Geo.interval (g : Geo) : Nat := 60000000000000000 / (g.rpm * g.wedges)

/-- D: the channel bits between the two guards of one interval (R86). -/
def Geo.room (g : Geo) : Nat := (g.interval - 1492 * g.bitFs) * g.rate / 1000000000 - 192

/-- The place after `rem` more bits from a window and offset: a brick that does not fit leaves room for its 32-bit pad and
goes on after the 160-bit resume field (R85). The first argument bounds the splits. -/
def advance (d : Nat) : Nat → Nat → Nat → Nat → Nat × Nat
  | 0, w, o, _ => (w, o)
  | n + 1, w, o, rem =>
    if o + rem ≤ d then (w, o + rem)
    else if d ≤ o + 32 then advance d n (w + 1) 0 rem
    else advance d n (w + 1) 160 (rem - (d - o - 32))

/-- Where a slot of a track begins: its window and the offset from the leading guard. -/
def slotStart (d : Nat) : Nat → Nat × Nat
  | 0 => (0, 0)
  | k + 1 =>
    let p := advance d 64 (slotStart d k).1 (slotStart d k).2 slotLen
    if d ≤ p.2 + 32 then (p.1 + 1, 0) else p

/-- The bits of a slot that go before the trailing guard of its window, or none when all fit; `sent` bits of it stand in
earlier windows (R85). -/
def splitAt (d o sent : Nat) : Option Nat :=
  if o + (slotLen - sent) ≤ d then none else some (d - o - 32)

namespace State

/-! ### Threads -/

/-- A thread. -/
def thr (s : State) (a : Nat) : Thread := Tab.get Thread.zero s.seq.threads a

/-- Change a thread. -/
def onThr (s : State) (a : Nat) (f : Thread → Thread) : State :=
  { s with seq := { s.seq with threads := Tab.put Thread.zero s.seq.threads a (f (s.thr a)) } }

/-- SQ_STAT.STATE: 0 HALTED, 1 RUNNING, 2 WAITING, 3 MCHK. -/
def sqState (s : State) (a : Nat) : Nat := s.fld (pgAct a) ACT.SQ_STAT.STATE

/-- The thread enters a state: FSQ_STAT shows it; ABORT_REQ ends with RUNNING and WAITING (R160). -/
def toSq (s : State) (a st : Nat) : State :=
  let c := clOf a
  let s1 := ((s.set (pgAct a) ACT.SQ_STAT.STATE st).set (pgFsq c) FSQ.FSQ_STAT.ACTIVE
    (bitPut (s.fld (pgFsq c) FSQ.FSQ_STAT.ACTIVE) (inCl a) (decide (st = 1 ∨ st = 2)))).set (pgFsq c) FSQ.FSQ_STAT.MCHK
    (bitPut (s.fld (pgFsq c) FSQ.FSQ_STAT.MCHK) (inCl a) (decide (st = 3)))
  if st = 0 ∨ st = 3 then s1.setB (pgAct a) ACT.SQ_CTL.ABORT false else s1

/-- A word of a cluster's control store; an unwritten one is zero. -/
def csWord (s : State) (c n : Nat) : Nat := Tab.get 0 s.seq.store (c * 8192 + n)

/-- Store a word. -/
def setCsWord (s : State) (c n w : Nat) : State :=
  { s with seq := { s.seq with store := Tab.put 0 s.seq.store (c * 8192 + n) w } }

/-- The job in progress, or the free descriptor when none has been popped. -/
def curJob (s : State) (a : Nat) : JobD :=
  ((s.thr a).job).getD
    ⟨s.freeNow.toNat % 16, s.freeNow.toNat / 16 % 12, s.freeNow.toNat / 256 % 2 ^ 24, tileId a (s.freeNow.toNat / 2 ^ 32 % 2 ^ 24), 1, 0⟩

/-- The 1-to-65,538 count of a job: 0 is treated as 1 (R137). -/
def jobCount (n : Nat) : Nat := if n = 0 then 1 else n

/-- A descriptor's fields (R137). -/
def jobOf (v : Nat) : JobD :=
  ⟨bitsOf v 127 124, bitsOf v 123 120, bitsOf v 119 96, bitsOf v 95 64, jobCount (bitsOf v 63 47), bitsOf v 31 0⟩

/-- A completion token (R137): posted to the cluster's TOKEN FIFO, counted, and the job is no longer in progress. -/
def token (s : State) (a status : Nat) : State :=
  match (s.thr a).job with
  | none => s
  | some j =>
    ((((s.post (0x98 + clOf a) (Config.tokenItem j.tag (s.fld (pgAct a) ACT.SLOT.V) status)).bump
      (pgAct a) ACT.MCHK_CNT.JOBS).setB (pgAct a) ACT.SQ_CTL.ABORT false).dequeue a).onThr a fun t => { t with job := none }

/-! ### Zones (R144) -/

/-- An entry of a thread's zone table. -/
def zone (s : State) (a z : Nat) : Option ZtEntry := Tab.get none s.seq.zones (a * 32 + z)

/-- The zone that holds a tile: the last whose first tile is not beyond it. -/
def zoneOf (s : State) (a tileNo : Nat) : Nat :=
  ((List.range 32).filter fun z =>
    match s.zone a z with
    | some e => decide (e.firstTile ≤ tileNo) && decide (e.rate ≠ 0 ∨ e.spt ≠ 0 ∨ e.tpt ≠ 0)
    | none => false).foldl max 0

/-- An entry that may become the present zone: rate in 2,000-4,400 MHz, SPT and TPT not zero. -/
def zoneOk (s : State) (a z : Nat) : Bool :=
  match s.zone a z with
  | some e => decide (2000 ≤ e.rate) && decide (e.rate ≤ 4400) && decide (e.spt ≠ 0) && decide (e.tpt ≠ 0)
  | none => false

/-- The entry of the zone of a tile, zeros where none is loaded. -/
def entryOf (s : State) (a tileNo : Nat) : ZtEntry := (s.zone a (s.zoneOf a tileNo)).getD ⟨0, 0, 0, 0, 0, 0⟩

/-- The geometry of the tile a thread works on. -/
def geo (s : State) (a tileNo : Nat) : Geo :=
  let f := s.fmt a
  let e := s.entryOf a tileNo
  ⟨f.wedges, f.rpm, f.bitFs, e.rate, e.spt⟩

/-- The track of a slot: the tiles of a zone follow one another with GUARD tracks between (R97). -/
def trackOf (s : State) (a tileNo slot : Nat) : Nat :=
  let e := s.entryOf a tileNo
  e.firstTrack + (tileNo - e.firstTile) * (e.tpt + e.guard) + slot / max 1 e.spt

/-- The present zone changes: NCO_STEP and WRATE are loaded (R109, R144). -/
def toZone (s : State) (a z : Nat) : State :=
  if (s.thr a).zone = some z then s
  else
    let r := ((s.zone a z).getD ⟨0, 0, 0, 0, 0, 0⟩).rate
    let s1 := (((s.onThr a fun t => { t with zone := some z }).set (pgAct a) ACT.NCO_STEP.STEP
      (roundHalfUp (2 ^ 24 * r) 4700))).set (pgAct a) ACT.WRATE.V r
    let pg := pgFsq (clOf a)
    if s1.fld pg FSQ.ZT_ADDR.THREAD = inCl a then s1.set pg FSQ.ZT_ADDR.PRESENT z else s1

/-! ### Sample indexes (OFS) -/

/-- NCO_STEP within its bounds (R133). -/
def ncoStep (s : State) (a : Nat) : Nat := min 0xEFA8DA (max 0x6CEFA9 (s.fld (pgAct a) ACT.NCO_STEP.STEP))

/-- A time in fs as ADC samples of 4.7 GS/s; the spec gives the rate and not the rounding. -/
def fsToSamples (fs : Int) : Int := Config.divFree (fs * 47) 10000000

/-- Channel bits as ADC samples at NCO_STEP (OFS 2). -/
def bitsToSamples (s : State) (a : Nat) (bits : Int) : Int := Config.divFree (bits * 2 ^ 24) (s.ncoStep a)

/-- The sample index of an offset in a window, extrapolated from the SAM of the last valid wedge (R142). -/
def sampleAt (s : State) (a tileNo w o : Nat) : Nat :=
  let g := s.geo a tileNo
  let t := s.thr a
  let n := (w + g.wedges - t.lastWedge) % max 1 g.wedges
  let fs : Int := (n : Int) * g.interval + 1492 * g.bitFs - Config.samPoint
  let bitFs : Int := Config.divFree (((96 + o : Nat) : Int) * 1000000000) (max 1 g.rate : Nat)
  ((t.lastSam : Int) + fsToSamples (fs + bitFs)).toNat % 2 ^ 64

/-- Bits of the staged or present slot already sent in an earlier window. -/
def sentOf (s : State) (a : Nat) : Nat := match (s.thr a).staged with | some g => g.sent | none => 0

/-- OFS 1: bit 0 of SLOT, or the resume field when its remaining part starts after a wedge. -/
def ofsSlot (s : State) (a : Nat) : Nat :=
  let tn := tileNum (s.curJob a).tile
  let g := s.geo a tn
  let p := slotStart g.room (s.fld (pgAct a) ACT.SLOT.V % max 1 g.spt)
  if s.sentOf a > 0 then s.sampleAt a tn (p.1 + 1) 0 else s.sampleAt a tn p.1 p.2

/-- OFS 5: the start of the next wedge window. -/
def ofsWedge (s : State) (a : Nat) : Nat :=
  let g := s.geo a (tileNum (s.curJob a).tile)
  let t := s.thr a
  let now := s.fld (pgAct a) ACT.SAMPLE_INDEX.V
  let atN := fun (n : Nat) => ((t.lastSam : Int) + fsToSamples ((n : Int) * g.interval - Config.samPoint)).toNat
  match ((List.range 1440).find? fun n => decide (atN (n + 1) > now)) with
  | some n => atN (n + 1) % 2 ^ 64
  | none => t.lastSam

/-- SPLIT: the remaining bits of SLOT do not fit before the trailing guard; the bits that do (R141). -/
def splitNow (s : State) (a : Nat) : Option Nat :=
  let g := s.geo a (tileNum (s.curJob a).tile)
  let p := slotStart g.room (s.fld (pgAct a) ACT.SLOT.V % max 1 g.spt)
  if s.sentOf a > 0 then splitAt g.room 160 (s.sentOf a) else splitAt g.room p.2 0

/-! ### Write gates (R146) -/

/-- A gate counts as armed or open until the sample index of its last bit has passed. -/
def gateLive (s : State) (a : Nat) (g : Gate) : Bool :=
  !g.killed && !(g.closed && decide ((s.fld (pgAct a) ACT.SAMPLE_INDEX.V : Int) > g.tgt + s.bitsToSamples a g.bits))

/-- A gate of the thread is armed or open. -/
def gateOn (s : State) (a : Nat) : Bool := (s.thr a).gates.any fun g => s.gateLive a g

/-- Show SQ_STAT.GATE. -/
def syncGate (s : State) (a : Nat) : State := s.setB (pgAct a) ACT.SQ_STAT.GATE (s.gateOn a)

/-- The effective WG for a word (R146). -/
def wgEff (s : State) (a word : Nat) : Bool :=
  bitOf word 92 && !s.winh a && !s.retractLow (clOf a) && decide (s.lkState a = 2) && s.enabled (pgFsq (clOf a))
    && decide (s.sqState a ≠ 0) && decide (s.sqState a ≠ 3)

/-- Gates are killed: GATE_KILL on DN, further flits withheld, GATE_DROP set, one drop counted (R146, R154), the assist off
(R212). -/
def killGates (s : State) (a : Nat) : State :=
  if s.gateOn a then
    let w := s.winh a
    let s1 := ((s.sendDn a .kill).onThr a fun t =>
      { t with gates := t.gates.map fun g => if s.gateLive a g then { g with killed := true } else g, gateDrop := true })
    (((s1.bump (pgAct a) ACT.VOID_CNT.DROPS).raise (pgFsq (clOf a)) (if w then 4 else 3) a).assistSet a 0).syncGate a
  else s

/-- The void slots of a dropped gate (R151): the first slot, and every further slot whose first bit lies below the bits
reported; all of them when no report came. -/
def voidSlots (g : Gate) (bits : Option Nat) : List Nat :=
  match g.slots with
  | [] => []
  | x :: xs => x.slot :: ((xs.filter fun y => match bits with | some b => decide (y.first < b) | none => true).map fun y => y.slot)

/-- Post and record the void slots of a gate (R152). -/
def postVoids (s : State) (a : Nat) (g : Gate) (vs : List Nat) : State :=
  vs.foldl (fun s v =>
    (((s.onIo fun i => i.fifoPass (0xA0 + clOf a) (Config.voidItem g.tile (s.tile g.tile).gen v)).bump (pgAct a) ACT.VOID_CNT.VOIDS).recordVoid
      g.tile v)) s

/-- A dropped gate ends: its voids, the resume point, and the next gate where it goes on from a voided slot (R151-R153). -/
def dropGate (s : State) (a : Nat) (g : Gate) (bits : Option Nat) : State :=
  let vs := voidSlots g bits
  let s1 := s.postVoids a g vs
  let resume := match g.slots.find? (fun x => !vs.contains x.slot) with
    | some x => x.slot
    | none => s1.nextUsable g.tile (vs.foldl max 0)
  let s2 := (s1.onThr a fun t => { t with gates := t.gates.filter (fun x => decide (x.tag ≠ g.tag)), gateDrop := true }).set
    (pgAct a) ACT.SLOT.V resume
  let s3 := if g.killed then s2 else ((s2.bump (pgAct a) ACT.VOID_CNT.DROPS).raise (pgFsq (clOf a)) 3 a).assistSet a 0
  let follows := fun (x : Gate) => match x.slots.head? with
    | some y => (vs.contains y.slot && y.resume) || vs.any (fun v => decide (y.slot > v))
    | none => false
  if (s3.thr a).gates.any (fun x => s3.gateLive a x && follows x) then (s3.killGates a).syncGate a else s3.syncGate a

/-- The tile record after a brick of a pallet's kind is committed at a slot: a header opens the tile, a footer closes it, any
other brick is counted (R98, R150). -/
def tileAfter (s : State) (id slot : Nat) (p : Option Pallet) : TileRec :=
  let t := s.tile id
  let next := s.nextUsable id slot
  match p with
  | none => { t with writePtr := next }
  | some p =>
    if p.kind = 3 then { t with writePtr := next, st := if t.st = 0 then 1 else t.st, course := p.course, pos := p.pos }
    else if p.kind = 4 then { t with writePtr := next, st := if t.st = 1 then 2 else t.st }
    else if p.kind = 5 then t
    else { t with writePtr := next, bricks := min 65536 (t.bricks + 1) }

/-- The brick of a slot is committed: the tile's record advances, and so does its row (R150, R240). -/
def commitSlot (s : State) (id slot entry : Nat) (a : Nat) : State :=
  let p := (s.thr a).pallets.find? fun p => decide (p.tile = id)
  let s1 := (s.putTile id (s.tileAfter id slot p)).onThr a fun th =>
    { th with pallets := th.pallets.map fun p =>
        if p.tile = id ∧ p.committed = entry then { p with committed := p.committed + 1 } else p }
  match p with
  | some p =>
    if p.kind = 1 ∨ p.kind = 2 then
      let c := s1.course p.course
      s1.putCourse p.course { c with flight := Tab.upd 0 c.flight (p.brick + entry) (fun m => bitSet m p.pos) }
    else s1
  | none => s1

/-- A thread gives a pallet back: it writes COMMITTED and flips the flag to the producer (R150). -/
def returnPallet (s : State) (a : Nat) (p : Pallet) : State :=
  ((s.dramWrite (p.addr + 6) (leBytes 2 p.committed)).flip (0x80 + a) 0 p.addr p.producer false).2

/-- A gate has ended clean: its bricks are committed, but for one that goes on in another gate; a pallet whose bricks are
all committed goes back to its producer (R150). -/
def cleanGate (s : State) (a : Nat) (g : Gate) : State :=
  let s1 := (g.slots.filter fun x => !x.part).foldl (fun s x => s.commitSlot g.tile x.slot x.entry a) s
  let full := (s1.thr a).pallets.filter fun p => decide (p.committed ≥ p.count)
  let s2 := s1.onThr a fun t =>
    { t with
      gates := t.gates.filter (fun x => decide (x.tag ≠ g.tag))
      pallets := t.pallets.filter (fun p => !decide (p.committed ≥ p.count)) }
  (full.foldl (fun (s : State) p => s.returnPallet a p) s2).syncGate a

/-- The bridge has reported a gate's end (R150, R151): its tag, the bits written, and whether a drop event belongs to it. -/
def gateEnd (s : State) (a tag bits : Nat) (drop : Bool) : State :=
  let t := s.thr a
  let s1 := s.onThr a fun t => { t with gateDone := decide (t.tag = tag) || t.gateDone }
  match t.gates.find? (fun g => decide (g.tag = tag)) with
  | none => s1
  | some g =>
    if drop || !g.closed || decide (bits ≠ g.bits) then s1.dropGate a g (some bits)
    else s1.cleanGate a g

/-- The link has left ACTIVE: every slot of the thread's gates is void (R151). -/
def gatesLost (s : State) (a : Nat) : State :=
  ((s.thr a).gates.foldl (fun (s : State) g => s.dropGate a g none) s).onThr a fun t => { t with pre := [] }

/-! ### Staging (R148, R149) -/

/-- The brick of a pallet's entry as written at a slot: its placed part and its CRC. -/
def placeBrick (p : Pallet) (n slot : Nat) : Brick :=
  let b := p.entries.getD n ⟨0, ⟨0, 0, 0, 0xFFFF, noRef, 0, 0, 0, 0, 0, 0, 0, 0, 0, 0, 0, 0, 0⟩⟩
  let t := b.trailer
  sealBrick { b with trailer := { t with
    tile := p.tile, brick := (if p.kind = 3 ∨ p.kind = 4 then 0 else p.brick + n), slot := slot
    kind := (if t.kind = 0 then p.kind else t.kind), pos := p.pos, gen := p.gen, course := p.course } }

/-- Stage an entry of the owned pallet for SLOT. -/
def stage (s : State) (a n : Nat) : State :=
  match (s.thr a).pallets.head? with
  | none => s
  | some p =>
    if n < p.count then
      let slot := s.fld (pgAct a) ACT.SLOT.V
      s.onThr a fun t => { t with
        staged := some ⟨n, slot, ofBits (slotBits (placeBrick p n slot)), 0⟩
        pallets := match t.pallets with | [] => [] | q :: qs => { q with staged := max q.staged (n + 1) } :: qs }
    else s

/-- A staged brick is rebuilt for the slot that SLOT names now (R149). -/
def restage (s : State) (a : Nat) : State :=
  match (s.thr a).staged with
  | some g => if g.slot = s.fld (pgAct a) ACT.SLOT.V ∨ g.sent > 0 then s else s.stage a g.entry
  | none => s

/-- WRITE flits of a bit run, of up to 224 bits each, first flit of the gate marked (R52). -/
def writeFlits (bits : List Bool) (opens closes : Bool) : List DnItem :=
  let n := (bits.length + 223) / 224
  (List.range n).map fun i =>
    let part := (bits.drop (224 * i)).take 224
    .write (opens && decide (i = 0)) (closes && decide (i + 1 = n)) part.length (ofBits part)

/-- Queue bits in the thread's latest gate as the part of a slot; those of a gate that has dropped are withheld (R146). -/
def emitBits (s : State) (a : Nat) (bits : List Bool) (x : Option GateSlot) (closes : Bool) : State :=
  let g := (s.thr a).lastGate
  if g.killed then s
  else
    let g' := { g with bits := g.bits + bits.length, closed := closes, slots := g.slots ++ x.toList }
    ((s.onThr a fun t => t.putGate g').onLk a fun l =>
      { l with dn := l.dn ++ writeFlits bits (decide (g.bits = 0)) closes }).syncGate a

/-- The staged brick's bits from where it stands. -/
def stagedBits (g : Staged) (n : Nat) : List Bool := patBits n (midBits slotLen g.bits g.sent n)

/-- The staged brick up to the split point, behind `lead`, then 32 pad bits, with GATE_CLOSE (R85). -/
def emitPart (s : State) (a : Nat) (g : Staged) (lead : List Bool) (resumed : Bool) : State :=
  let n := min (slotLen - g.sent) ((s.splitNow a).getD (slotLen - g.sent))
  (s.emitBits a (lead ++ stagedBits g n ++ splitPad) (some ⟨g.slot, (s.thr a).lastGate.bits, g.entry, resumed, true⟩) true).onThr a
    fun t => { t with staged := some { g with sent := g.sent + n } }

/-- EMIT SPLITPAD: the staged brick up to the split point, then 32 pad bits, with GATE_CLOSE (R85, R142). -/
def emitSplit (s : State) (a : Nat) : State :=
  match (s.thr a).staged with
  | some g => s.emitPart a g [] (decide (g.sent > 0))
  | none => s

/-- The rest of the staged brick behind `lead`; no bit is queued that would fall within the trailing guard (R147). -/
def emitRest (s : State) (a : Nat) (g : Staged) (lead : List Bool) (resumed : Bool) : State :=
  if (s.splitNow a).isSome then s.emitPart a g lead resumed
  else
    (s.emitBits a (lead ++ stagedBits g (slotLen - g.sent)) (some ⟨g.slot, (s.thr a).lastGate.bits, g.entry, resumed, false⟩) false).onThr a
      fun t => { t with staged := none }

/-- EMIT BRICK: the staged brick's flits; one that would cross the guard goes as SPLITPAD (R147). -/
def emitBrick (s : State) (a : Nat) : State :=
  match (s.thr a).staged with
  | some g => s.emitRest a g [] (decide (g.sent > 0))
  | none => s

/-- EMIT RESUME: the resume field and the rest of the split brick. -/
def emitResume (s : State) (a : Nat) : State :=
  match (s.thr a).staged with
  | some g => s.emitRest a g resumeField true
  | none => s

/-- EMIT CLOSE: the last queued WRITE flit is marked GATE_CLOSE. -/
def closeLast : List DnItem → List DnItem
  | [] => []
  | .write o c v b :: ds =>
    if ds.any (fun d => match d with | .write _ _ _ _ => true | _ => false) then .write o c v b :: closeLast ds
    else .write o true v b :: ds
  | d :: ds => d :: closeLast ds

end State

end Sys2Proof.Machine
end

