-- ==== Sys2Proof/Machine/SecOps.lean ====
section
/-! DEFINITION. The operations over key domains and cipher engines: creating, freeing and retiring a domain (R385-R387,
R393), SPENT tiles (R392), the tweak and the XTS engines (R390, R394), messages and their contexts (R399-R401). -/

namespace Sys2Proof.Machine

/-- The bank of a domain's SEC registers. -/
def pgDom (d : Nat) : Nat := bank 9 d

/-- KDOM of data that is not encrypted (R385). -/
def noKdom : Nat := 0xFFFF

/-- The tweak of a brick (R390): TW_TILE, TW_BRICK, TW_GEN and 48 zero bits. -/
def tweakOf (tile brick gen : Nat) : Nat := tile * 2 ^ 96 + brick * 2 ^ 80 + gen * 2 ^ 48

namespace State

/-- Change security's state. -/
def onSec (s : State) (f : SecSt → SecSt) : State := { s with sec := f s.sec }

/-- Change NOR's content. -/
def onNor (s : State) (f : NorSt → NorSt) : State := { s with nor := f s.nor }

/-- DOM_STAT.STATE: 0 FREE, 1 ACTIVE, 2 RETIRING, 3 UNAVAILABLE (R385). -/
def domSt (s : State) (d : Nat) : Nat := s.fld (pgDom d) SEC.DOM_STAT.STATE

/-- The keys in a domain's slot. -/
def domKeys (s : State) (d : Nat) : Keys := Tab.get Keys.zero s.sec.slots d

/-- Store a domain's state, namespace and serial. -/
def setDom (s : State) (d st nsid serial : Nat) : State :=
  ((s.set (pgDom d) SEC.DOM_STAT.STATE st).set (pgDom d) SEC.DOM_STAT.NSID nsid).set (pgDom d) SEC.DOM_SERIAL.KSERIAL serial

/-- Load a key slot. -/
def setSlot (s : State) (d : Nat) (k : Keys) : State := s.onSec fun x => { x with slots := Tab.put Keys.zero x.slots d k }

/-- The lowest-numbered FREE domain (R386). -/
def firstFree (s : State) : Option Nat := (List.range 1024).find? fun d => decide (s.domSt d = 0)

/-- The domains in some state. -/
def domainsIn (s : State) (sts : List Nat) : List Nat := (List.range 1024).filter fun d => decide (s.domSt d ∈ sts)

/-- A write to both NOR devices: one that fails leaves NOR_DEGRADED and shows in LC_STAT.NOR_ONE (R388). -/
def norWrite (s : State) (w0 w1 : Bool) : State :=
  if w0 && w1 then s else (s.setB 8 LCS.LC_STAT.NOR_ONE (w0 || w1)).raise 9 1 0

/-! ### Messages (R399-R401) -/

/-- The page of a cipher engine: XTCc for c below 8, CIP for 8. -/
def engPage (e : Nat) : Nat := if e < 8 then pgXtc e else 0xA

/-- An engine. -/
def engine (s : State) (e : Nat) : Engine := Tab.get Engine.zero s.sec.engines e

/-- Store an engine and show it: suspended messages, contexts in SRAM (64) and wrapped in DRAM (R400, R412, R413). -/
def setEngine (s : State) (e : Nat) (g : Engine) : State :=
  let s1 := s.onSec fun x => { x with engines := Tab.put Engine.zero x.engines e g }
  let n := g.suspended.length
  let wrapped := s1.sec.engines.foldl (fun n kv => n + (kv.2.suspended.filter (·.wrapped)).length) 0
  let s2 := s1.set 0xA CIP.CIP_STAT.CTX_DRAM (min 0xFFFF wrapped)
  if e < 8 then (s2.set (pgXtc e) XTC.XTC_STAT.SUSPENDED (min 64 n)).setB (pgXtc e) XTC.XTC_STAT.BUSY g.running.isSome
  else s2.set 0xA CIP.CIP_STAT.CTX_SRAM (min 64 (g.suspended.filter fun m => !m.wrapped).length)

/-- A message ends with KEY_MISS (R394, R401). -/
def keyMiss (s : State) (e : Nat) : State :=
  if e < 8 then (s.bump (pgXtc e) XTC.XTC_MISC.KEY_MISS).raise (pgXtc e) 2 0 else s

/-- Whether a domain lets a message run: it encrypts only while ACTIVE, decrypts while ACTIVE or RETIRING (R385); data
that is not encrypted passes. -/
def domainRuns (s : State) (m : Msg) : Bool :=
  decide (m.kdom = noKdom) || decide (s.domSt m.kdom = 1) || (m.dec && decide (s.domSt m.kdom = 2))

/-- Messages of a domain that run or are suspended end at their next block boundary (R401). -/
def endMessages (s : State) (d : Nat) : State :=
  s.sec.engines.foldl (fun (s : State) (kv : Nat × Engine) =>
    let hit := fun (m : Msg) => decide (m.kdom = d)
    let g := kv.2
    let n := (g.suspended.filter hit).length + b2n (g.running.any hit)
    if n = 0 then s
    else
      (List.range n).foldl (fun s _ => s.keyMiss kv.1) (s.setEngine kv.1 { g with
        running := if g.running.any hit then none else g.running
        suspended := g.suspended.filter fun m => !hit m })) s

/-! ### Domains -/

/-- Three keys drawn from the TRNG (R386). -/
def drawKeys (s : State) : Keys × State :=
  (⟨Config.trng s.free, Config.trng (s.free + 1), Config.trng (s.free + 2)⟩, { s with free := s.free + 3 })

/-- CREATE and REPLACE (R386, R387): fresh keys under the next KSERIAL, a blob in NOR, the slot loaded. Refused with
KEY_SERIAL_END at the counter's end; a blob that neither device takes fails the command. -/
def makeKeys (s : State) (d nsid : Nat) (w0 w1 : Bool) : Bool × State :=
  let n := s.fld 9 SEC.KSERIAL.NEXT
  if n = 0xFFFFFFFF then (false, s.raise 9 2 d)
  else
    let (k, s1) := s.drawKeys
    let s2 := s1.set 9 SEC.KSERIAL.NEXT (n + 1)
    if !w0 && !w1 then (false, s2)
    else
      let put := fun (dev : Nat) (ok : Bool) (bs : List (Nat × Blob)) =>
        if ok then Tab.put ⟨0, Keys.zero⟩ bs (dev * 1024 + d) ⟨n, k⟩ else Tab.erase bs (dev * 1024 + d)
      let s3 := ((s2.norWrite w0 w1).onNor fun x => { x with blobs := put 1 w1 (put 0 w0 x.blobs) }).endMessages d
      (true, (s3.setSlot d k).setDom d 1 nsid n)

/-- Generations 0 are safe once every key that existed at the wrap is gone: every SPENT tile whose course has been freed
returns to EMPTY, with SPENT_CLEARED (R392). -/
def spentCheck (s : State) : State :=
  let mark := s.fld 9 SEC.SPENT_MARK.MARK
  let old := (s.domainsIn [1, 2]).any fun d => decide (s.fld (pgDom d) SEC.DOM_SERIAL.KSERIAL ≤ mark)
  let hit := s.mason.tiles.filter fun kv => decide (kv.2.st = 3) && decide (kv.2.course = noRef)
  if old || hit.isEmpty then s
  else
    (hit.foldl (fun s kv => s.setTile kv.1 { kv.2 with
      st := 0, gen := 0, pos := 0xFF, voids := [], bricks := 0, writePtr := 0, short := false }) s).raise 9 3 0

/-- A domain becomes FREE: its keys and both blobs are destroyed, its messages end, and SPENT_MARK is compared (R385, R386,
R392). -/
def freeDomain (s : State) (d : Nat) : State :=
  ((((s.setDom d 0 0 0).setSlot d Keys.zero).onNor fun x =>
    { x with blobs := Tab.erase (Tab.erase x.blobs d) (1024 + d) }).endMessages d).spentCheck

/-- The re-keying of a domain has to start: it waits for a FREE domain, with REKEY_WAIT where none is (R393); a domain that
is being re-keyed, or waits already, needs nothing more. -/
def askRekey (s : State) (d : Nat) : State :=
  if d = noKdom ∨ s.domSt d = 0 ∨ s.domSt d = 2 ∨ s.sec.rekeyWait.contains d then s
  else
    let s1 := s.onSec fun x => { x with rekeyWait := x.rekeyWait ++ [d] }
    if s1.firstFree.isNone then s1.raise 9 8 d else s1

/-- A tile has become SPENT (R392): SPENT_MARK takes the largest KSERIAL in existence, and the domain that last wrote the
tile is to be re-keyed. -/
def markSpent (s : State) (kdom : Nat) : State :=
  let top := (s.domainsIn [1, 2, 3]).foldl (fun m d => max m (s.fld (pgDom d) SEC.DOM_SERIAL.KSERIAL)) 0
  ((s.set 9 SEC.SPENT_MARK.MARK (max top (s.fld 9 SEC.SPENT_MARK.MARK)))).askRekey kdom

/-! ### Bricks through XTS (R390, R394) -/

/-- The plaintext of a brick's data field, where its domain lets it be decrypted. -/
def plainOf (s : State) (b : Brick) : Option Nat :=
  let t := b.trailer
  if t.kdom = noKdom then some b.data
  else if s.sys.keysGone then none
  else if s.domSt t.kdom = 1 ∨ s.domSt t.kdom = 2 then
    let k := s.domKeys t.kdom
    some (Config.xtsDec k.xk1 k.xk2 (tweakOf t.twTile t.twBrick t.twGen) b.data)
  else none

/-- The ciphertext of data written at a tile's brick. -/
def cipherOf (s : State) (kdom tile brick gen data : Nat) : Nat :=
  if kdom = noKdom then data
  else
    let k := s.domKeys kdom
    Config.xtsEnc k.xk1 k.xk2 (tweakOf tile brick gen) data

/-- A brick read with CIPH 0b00 goes through XTCc: decrypted and counted, or not delivered, with KEY_MISS (R394). -/
def decrypt (s : State) (c : Nat) (b : Brick) : Option Nat × State :=
  match s.plainOf b with
  | some d => (some d, if b.trailer.kdom = noKdom then s else s.bump (pgXtc c) XTC.XTC_DEC.BRICKS)
  | none => (none, s.keyMiss c)

end State

end Sys2Proof.Machine
end

