-- ==== Sys2Proof/Machine/MasonOps.lean ====
section
/-! DEFINITION. The operations of Mason's policy: slots and pools (R234-R236), closing a course (R248), loss (R260),
taking tiles back (R263), the Unrecovered List (R255, R446), and asynchronous events to the host (R308). -/

namespace Sys2Proof.Machine

/-! ### Geometries (R237) -/

/-- k of a geometry code. -/
def geomK (g : Nat) : Nat := [0, 8, 10, 12, 16, 1, 1].getD g 0

/-- m of a geometry code. -/
def geomM (g : Nat) : Nat := [0, 2, 2, 3, 4, 1, 2].getD g 0

/-- The number of members named in a mask. -/
def maskCount (m : Nat) : Nat := ((List.range 20).filter fun n => bitOf m n).length

namespace State

/-! ### Completions -/

/-- A controller. -/
def ctrl (s : State) (id : Nat) : Ctrl := Tab.get Ctrl.zero s.nvme.ctrls id

/-- Store a controller. -/
def setCtrl (s : State) (id : Nat) (c : Ctrl) : State :=
  { s with nvme := { s.nvme with ctrls := Tab.put Ctrl.zero s.nvme.ctrls id c } }

/-- A completion is posted: counted; an error is counted besides and entered in the Error Information log, which keeps 256
(ELPE); the completion queue's tail advances. -/
def complete (s : State) (e : Cqe) : State :=
  let s1 := (s.addTo 0x11 NVE.NVE_DONE.COUNT 1)
  let s2 := if e.sc = .success then s1 else
    { s1.bump 0x11 NVE.NVE_ERR.ERRORS with nvme := { s1.nvme with errLog := (s1.nvme.errLog ++ [e]).drop (s1.nvme.errLog.length - 255) } }
  let c := Tab.get Ctrl.zero s2.nvme.ctrls e.ctl
  let cq := match Tab.find? c.sqs e.sq with | some q => q.cq | none => 0
  let c' := { c with cqs := c.cqs.map fun kv =>
    if kv.1 = cq then (kv.1, { kv.2 with tail := (kv.2.tail + 1) % max 1 kv.2.size }) else kv }
  { s2 with nvme := { s2.nvme with done := s2.nvme.done ++ [e], ctrls := Tab.put Ctrl.zero s2.nvme.ctrls e.ctl c' } }

/-! ### Commands in flight (R282, R288-R292) -/

/-- Store the commands in flight and show their number; reaching 65,536 stops fetching, with FETCH_FULL (R282). -/
def setFlights (s : State) (fs : List Flight) : State :=
  let s1 := { s with nvme := { s.nvme with flights := fs } }.set 0x11 NVE.NVE_INFLIGHT.COUNT (min fs.length 65536)
  if fs.length ≥ 65536 ∧ !s.nvme.full then { s1 with nvme := { s1.nvme with full := true } }.raise 0x11 5 0 else s1

/-- The command in flight of an identity. -/
def flightOf (s : State) (c : Cmd) : Option Flight := s.nvme.flights.find? fun f => decide (f.cmd = c)

/-- Replace a command in flight. -/
def setFlight (s : State) (f : Flight) : State :=
  { s with nvme := { s.nvme with flights := s.nvme.flights.map fun x => if x.cmd = f.cmd then f else x } }

/-- No data written up to a fetch order is still dirty or in a pallet, but for the orders excepted. -/
def cleanTo (s : State) (order : Nat) (but : List Nat) : Bool :=
  (s.buf.lines.all fun kv => decide (kv.2.dirty = 0) || decide (kv.2.since > order) || but.contains kv.2.since)
    && s.mason.bricks.all fun b => decide (b.order > order) || but.contains b.order

/-- The bricks of a write are on the media: none of its places is dirty or in a pallet from a write that old. -/
def cleanRange (s : State) (f : Flight) : Bool :=
  let place := fun (x : Nat) => if f.obj = 0 then x else f.obj * 2 ^ 40 + x
  (s.buf.lines.all fun kv =>
    decide (kv.2.nsid ≠ f.nsid) || decide (kv.2.since > f.order) || (List.range 16).all fun b =>
      !bitOf kv.2.dirty b || decide (kv.2.line * 256 + 16 * b + 16 ≤ place f.slba) || decide (place f.slba + f.total ≤ kv.2.line * 256 + 16 * b))
    && s.mason.bricks.all fun b =>
      decide (b.nsid ≠ f.nsid) || decide (b.obj ≠ f.obj) || decide (b.order > f.order) || decide (b.lba < f.slba) || decide (f.slba + f.total ≤ b.lba)

/-- The writes a Flush covers are in complete rows (R288): those completed before it was fetched, and the earlier ones of
its queue. -/
def flushClean (s : State) (f : Flight) : Bool :=
  let other := s.nvme.flights.filter fun x => decide (x.order < f.order) && !(decide (x.cmd.ctl = f.cmd.ctl) && decide (x.cmd.sq = f.cmd.sq))
  let mine := s.nvme.flights.filter fun x =>
    decide (x.order < f.order) && decide (x.cmd.ctl = f.cmd.ctl) && decide (x.cmd.sq = f.cmd.sq) && decide (x.kind ≠ .flush)
  s.cleanTo f.order (other.map (·.order)) && mine.all fun x => decide (x.got = x.total)

/-- Everything a command in flight wrote is in complete rows. -/
def flightClean (s : State) (f : Flight) : Bool :=
  if f.kind = .flush then s.flushClean f else decide (f.got = f.total) && s.cleanRange f

/-- Its journal groups are persisted (R268). -/
def flightPersisted (s : State) (f : Flight) : Bool :=
  decide (f.jseq.getD (s.fld 0x19 MAP.JSEQ_APPENDED.JSEQ) ≤ s.fld 0x19 MAP.JSEQ_PERSISTED.JSEQ)

/-- NVE_QUEUES shows the I/O submission queues per port (R314). -/
def showQueues (s : State) : State :=
  let n := fun (p : Nat) => s.nvme.ctrls.foldl (fun n kv => if kv.1 / 0x80 = p then n + (kv.2.sqs.filter fun q => decide (q.1 ≠ 0)).length else n) 0
  (s.set 0x11 NVE.NVE_QUEUES.SQ0 (n 0)).set 0x11 NVE.NVE_QUEUES.SQ1 (n 1)

/-- A shutdown under way goes on (R292): once no command of the controller is in flight and the data named is on the
media, its journal mark is fixed; once the journal is persisted to it, the shutdown is complete. -/
def shutdownStep (s : State) (id : Nat) : State :=
  let c := s.ctrl id
  if c.shst ≠ 1 then s
  else
    let idle := !(s.nvme.flights.any fun f => decide (f.cmd.ctl = id)) && s.cleanTo c.shutOrder []
    let mark := match c.shutMark with
      | some m => some m
      | none => if idle then some (s.fld 0x19 MAP.JSEQ_APPENDED.JSEQ) else none
    match mark with
    | none => s
    | some m =>
      if m ≤ s.fld 0x19 MAP.JSEQ_PERSISTED.JSEQ then
        { s.setCtrl id { c with shst := 2, shutMark := none } with nvme := { (s.setCtrl id { c with shst := 2, shutMark := none }).nvme with orderly := true } }.raise 0x11 1 id
      else s.setCtrl id { c with shutMark := mark }

/-- What waits for data to become safe moves on: journal marks of commands in flight, shutdowns, and deletions of queues
whose commands have ended (R291). -/
def settle (s : State) : State :=
  let mark := fun (f : Flight) =>
    if f.jseq.isNone && s.flightClean f then { f with jseq := some (s.fld 0x19 MAP.JSEQ_APPENDED.JSEQ) } else f
  let s1 := { s with nvme := { s.nvme with flights := s.nvme.flights.map mark } }
  let gone := s1.nvme.flights.filter fun f => decide (f.kind = .deleteSq) &&
    !(s1.nvme.flights.any fun x => decide (x.cmd.ctl = f.cmd.ctl) && decide (x.cmd.sq = f.obj) && decide (x.kind ≠ .deleteSq))
  let s2 := gone.foldl (fun (s : State) (f : Flight) =>
    let c := s.ctrl f.cmd.ctl
    ((s.setFlights (s.nvme.flights.filter fun x => decide (x.cmd ≠ f.cmd))).setCtrl f.cmd.ctl { c with sqs := Tab.erase c.sqs f.obj }).complete
      ⟨f.cmd.ctl, f.cmd.sq, f.cmd.cid, .success, 0, none, 0⟩) s1
  (s2.nvme.ctrls.foldl (fun (s : State) kv => s.shutdownStep kv.1) s2).showQueues

/-- A command in flight ends. -/
def finish (s : State) (f : Flight) (sc : Sc) (data : Nat) : State :=
  ((s.setFlights (s.nvme.flights.filter fun x => decide (x.cmd ≠ f.cmd))).complete
    ⟨f.cmd.ctl, f.cmd.sq, f.cmd.cid, sc, f.dw0, none, data⟩).settle

/-! ### Asynchronous events (R308) -/

/-- DW0 of an asynchronous event: type, information, log page (R308). -/
def asyncDw0 (ev : Nat × Nat × Nat) : Nat := ev.1 + ev.2.1 * 2 ^ 8 + ev.2.2 * 2 ^ 16

/-- An event reaches a controller: it completes the oldest request outstanding, or waits for the next. -/
def asyncTo (s : State) (id : Nat) (ev : Nat × Nat × Nat) : State :=
  let c := s.ctrl id
  match c.aers with
  | cid :: rest => (s.setCtrl id { c with aers := rest }).complete ⟨id, 0, cid, .success, asyncDw0 ev, none, 0⟩
  | [] => s.setCtrl id { c with events := c.events ++ [ev] }

/-- Raise an asynchronous event on every enabled controller whose Asynchronous Event Configuration has the bit. -/
def async (s : State) (bit : Nat) (ev : Nat × Nat × Nat) : State :=
  (s.nvme.ctrls.filter fun kv => kv.2.en && bitOf (Tab.get 0 kv.2.feats 0x0B) bit).foldl (fun s kv => s.asyncTo kv.1 ev) s

/-! ### The Unrecovered List (R446, R448) -/

/-- Every change of the list raises the vendor event and UNREC_CHANGE on the CPX page. -/
def unrecChanged (s : State) : State :=
  ((({ s with nvme := { s.nvme with unrecChanges := s.nvme.unrecChanges + 1 } } : State).async 31 (7, 0, 0xC0)).raise 0x1D 6 0)

/-- A breach of a condition of R442 is recorded in CPX.REC_STAT and in NOR, with COND_BREACH. -/
def breach (s : State) (n : Nat) : State :=
  ((s.onNor fun x => { x with recStat := bitSet x.recStat n }).set 0x1D CPX.REC_STAT.COND (bitSet (s.fld 0x1D CPX.REC_STAT.COND) n)).raise 0x1D 7 n

/-- Entries are added, each counted since manufacture. -/
def unrecAdd (s : State) (es : List UnrecEnt) : State :=
  if es.isEmpty then s
  else
    State.unrecChanged { s with
      mason := { s.mason with unrec := s.mason.unrec ++ es }
      nvme := { s.nvme with unrecTotal := s.nvme.unrecTotal + es.length } }

/-- A range without the part that has been replaced (R448). -/
def cutRange (nsid first count : Nat) (e : UnrecEnt) : List UnrecEnt :=
  if e.nsid ≠ nsid ∨ e.kind ≠ 1 then [e]
  else
    let lo := max e.first first
    let hi := min (e.first + e.count) (first + count)
    if lo ≥ hi then [e]
    else
      (if e.first < lo then [{ e with count := lo - e.first }] else [])
        ++ (if hi < e.first + e.count then [{ e with first := hi, count := e.first + e.count - hi }] else [])

/-- Blocks leave the list when wholly replaced. -/
def unrecCut (s : State) (nsid first count : Nat) : State :=
  let l := s.mason.unrec.flatMap (cutRange nsid first count)
  if l = s.mason.unrec then s else State.unrecChanged { s with mason := { s.mason with unrec := l } }

/-- Entries that pass a test leave the list. -/
def unrecDrop (s : State) (p : UnrecEnt → Bool) : State :=
  let l := s.mason.unrec.filter fun e => !p e
  if l = s.mason.unrec then s else State.unrecChanged { s with mason := { s.mason with unrec := l } }

/-- Whether a block is listed. -/
def unrecHas (s : State) (nsid lba : Nat) : Bool :=
  s.mason.unrec.any fun e => decide (e.nsid = nsid) && decide (e.kind = 1) && decide (e.first ≤ lba) && decide (lba < e.first + e.count)

/-- Whether a key is listed: by its own entry, or by its namespace's (count 0), which stands for the objects that were
there when it was made, those below `first` (R446, R448). -/
def unrecKey (s : State) (nsid obj : Nat) : Bool :=
  s.mason.unrec.any fun e => decide (e.nsid = nsid) && decide (e.kind = 2) &&
    (if e.count = 0 then decide (obj < e.first) else decide (e.first = obj))

/-- The list entry of an extent's brick. -/
def unrecOf (s : State) (e : Extent) (i reason : Nat) : UnrecEnt :=
  if e.kv then ⟨e.nsid, 2, e.lbase / 2 ^ 32, 1, reason, e.course, s.io.hst.hours⟩
  else ⟨e.nsid, 1, e.lbase + i, 1, reason, e.course, s.io.hst.hours⟩

/-- A brick is unrecoverable (R255): UNREC in its entry, DATA_UNRECOVERED, and the list, in one journal group. -/
def brickLost (s : State) (ix i reason : Nat) : State :=
  let e := s.extent ix
  (((s.setExtent ix { e with unrec := true }).unrecAdd [s.unrecOf e i reason]).bump 0x18 MSN.UNREC_CNT.BRICKS).raise 0x18 7 ix

/-! ### Slots and pools (R234, R235) -/

/-- The bank of a slot's or a pool's MSN registers. -/
def pgMsn (n : Nat) : Nat := bank 0x18 n

/-- SLOT_STAT.STATE: 0 ABSENT, 1 ACCEPTED, 2 LOST, 3 DRAINING, 4 DRAINED, 5 EXCLUDED. -/
def slotSt (s : State) (n : Nat) : Nat := s.fld (pgMsn n) MSN.SLOT_STAT.STATE

/-- A slot enters a state; page 0xC1 changes (R308). -/
def toSlot (s : State) (n st : Nat) : State :=
  if s.slotSt n = st then s else (s.set (pgMsn n) MSN.SLOT_STAT.STATE st).async 31 (7, 1, 0xC1)

/-- The slot is in a pool. -/
def inPool (s : State) (n : Nat) : Bool := s.flag (pgMsn n) MSN.SLOT_STAT.IN_POOL

/-- The tile names a slot's actuator. -/
def ofSlot (n id : Nat) : Bool := decide (tileAct id / 2 = n)

/-- Some course in use refers to a tile of the slot. -/
def slotReferenced (s : State) (n : Nat) : Bool :=
  s.mason.courses.any fun kv => decide (kv.2.geom ≠ 0) && kv.2.members.any (ofSlot n)

/-- A bridge is present on some link of the slot (R74). -/
def bridgeHere (s : State) (n : Nat) : Bool :=
  bitOf (s.fld (pgKlc (clOf (2 * n))) KLC.PRESENT.V) (inCl (2 * n)) || bitOf (s.fld (pgKlc (clOf (2 * n))) KLC.PRESENT.V) (inCl (2 * n + 1))

/-- The slot may enter EXCLUDED: ABSENT, DRAINED, or ACCEPTED with no tile referenced (R235). -/
def excludable (s : State) (n : Nat) : Bool :=
  let st := s.slotSt n
  decide (st = 0) || decide (st = 4) || (decide (st = 1) && !s.slotReferenced n)

/-- A waiting EXCLUDE takes effect as soon as it may. -/
def tryExclude (s : State) (n : Nat) : State :=
  if s.flag (pgMsn n) MSN.SLOT_CTL.EXCLUDE && s.excludable n then s.toSlot n 5 else s

/-- Every pool tile of a slot is EMPTY at one generation above its last (R236, R263); a generation at its end makes it SPENT;
RETIRED tiles stay so unless the HDA is new (`fresh`). -/
def renewTiles (s : State) (n : Nat) (fresh : Bool) : State :=
  let s1 := (s.mason.tiles.filter fun kv => ofSlot n kv.1 && decide (tileNum kv.1 ≥ 2) && (fresh || decide (kv.2.st ≠ 4))).foldl (fun s kv =>
    let t := kv.2
    s.setTile kv.1 (if t.gen = 0xFFFFFFFF then { t with st := 3 }
      else { t with st := 0, gen := t.gen + 1, course := noRef, pos := 0xFF, voids := [], bricks := 0, writePtr := 0, short := false })) s
  s1.onMason fun m => { m with genBase := Tab.upd 0 m.genBase n (· + 1) }

/-! ### Courses -/

/-- The actuators of a pool's ACCEPTED slots. -/
def poolActs (s : State) (p : Nat) : List Nat :=
  let m := s.fld (pgMsn p) MSN.POOL_SLOTS.SLOTS
  (List.range 128).filter fun a => bitOf m (slotOf a) && decide (s.slotSt (slotOf a) = 1)

/-- The pool's tiles (R95: pool tiles start at 2), and those of them that are EMPTY. -/
def poolTiles (s : State) (p : Nat) : Nat × Nat :=
  let acts := s.poolActs p
  let n := acts.foldl (fun n a => n + ((s.fmt a).tiles - 2)) 0
  let used := s.mason.tiles.filter fun kv => acts.contains (tileAct kv.1) && decide (tileNum kv.1 ≥ 2) && decide (kv.2.st ≠ 0)
  (n, n - used.length)

/-- Free space: EMPTY tiles as a share of the pool's tiles, in hundredths of a per cent (R259). -/
def poolFree (s : State) (p : Nat) : Nat := if (s.poolTiles p).1 = 0 then 0 else 10000 * (s.poolTiles p).2 / (s.poolTiles p).1

/-- POOL_CFG.GEOM: codes 1-6; others act as 1 (R271). -/
def poolGeom (s : State) (p : Nat) : Nat :=
  let g := s.fld (pgMsn p) MSN.POOL_CFG.GEOM
  if 1 ≤ g ∧ g ≤ 6 then g else 1

/-- The pool's status is shown (R271): its OPEN and DEGRADED courses, its free space, and whether it survives the loss of a
cluster (R19). -/
def showPool (s : State) (p : Nat) : State :=
  let cs := s.mason.courses.filter fun kv => decide (kv.2.geom ≠ 0) && decide (kv.2.pool = p)
  ((((s.set (pgMsn p) MSN.POOL_STAT.OPEN (cs.filter fun kv => decide (kv.2.st = 1)).length).set
    (pgMsn p) MSN.POOL_COURSES.DEGRADED (cs.filter fun kv => decide (kv.2.st = 3)).length).set
    (pgMsn p) MSN.POOL_STAT.FREE_PCT (s.poolFree p / 100)).setB
    (pgMsn p) MSN.POOL_STAT.CLUSTER_LOSS_COVERED (decide (s.part = .h7128) || decide (s.poolGeom p ≥ 5)))

/-- The members of a course that are not lost. -/
def intact (c : Course) : List Nat := (c.members.zipIdx).filterMap fun tn => if bitOf c.lost tn.2 then none else some tn.1

/-- Close a course (R248): footers on the members that are still writable make their tiles CLOSED; rows in flight are
abandoned, and their data bricks wait for another course (R240). -/
def closeCourse (s : State) (n : Nat) : State :=
  let c := s.course n
  let c' := { c with st := if c.st = 1 then (if c.lost ≠ 0 then 3 else 2) else c.st, seqClose := s.mason.seq, flight := [] }
  let s1 := (intact c).foldl (fun s id =>
    let t := s.tile id
    if t.st = 1 then s.setTile id { t with st := 2 } else s) (s.setCourse n c')
  (s1.onMason fun m => { m with
    bricks := m.bricks.map fun b => if b.course = n then { b with course := noRef, cb := 0, ext := noRef, extBrick := 0 } else b
    made := m.made.filter fun r => decide (r.course ≠ n) }).showPool c.pool

/-- A read is under way on a tile: a brick window, a live decode or a retry of one of its slots, or a brick that waits for
its checks. -/
def tileRead (s : State) (id : Nat) : Bool :=
  let a := tileAct id
  let mine := fun (u : Nat) => decide ((Tab.get Record.zero (s.det a).ring u).tile = id)
  let stored := fun (j : RetryJob) => decide ((Tab.get Record.zero s.rc.store j.unit).tile = id)
  (match (s.det a).win with | some w => decide (w.tile = id) | none => false)
    || (s.det a).pend.any (fun w => decide (w.tile = id))
    || s.rc.held.any (fun h => decide (h.tile = id))
    || s.rc.pools.any (fun kv => kv.2.live.any (fun j => decide (j.act = a) && mine j.unit) || kv.2.queue.any stored
        || kv.2.running.any (fun r => stored r.job) || kv.2.boundary.any stored)

/-- A tile reset (R98, R99): EMPTY at the next generation, its voids freed; one whose generation would wrap is SPENT (R391),
and the domain that wrote it is to be re-keyed. Reads already admitted hold its first write. -/
def resetTile (s : State) (id : Nat) : State :=
  let t := s.tile id
  if t.st = 4 ∨ t.st = 3 then s
  else if t.gen = 0xFFFFFFFF then
    (s.setTile id { t with st := 3, course := noRef, pos := 0xFF }).markSpent (if t.course = noRef then noKdom else (s.course t.course).kdom)
  else s.setTile id { t with
    st := 0, gen := t.gen + 1, course := noRef, pos := 0xFF, voids := [], bricks := 0, writePtr := 0, short := false
    held := s.tileRead id }

/-- REKEY_DONE, once no course of the old key remains: its keys are destroyed and its domain is FREE (R265, R393). -/
def rekeyCheck (s : State) : State :=
  let done := s.mason.rekeying.filter fun dd => !(s.mason.courses.any fun kv => decide (kv.2.geom ≠ 0) && decide (kv.2.kdom = dd.1))
  done.foldl (fun s dd =>
    ((s.onMason fun m => { m with rekeying := m.rekeying.filter (fun x => decide (x ≠ dd)) }).raise 0x18 8 dd.1).freeDomain dd.1) s

/-- A course is released: every member tile is reset and its entry freed (R259). -/
def freeCourse (s : State) (n : Nat) : State :=
  let c := s.course n
  let s1 := (c.members.foldl (fun s id => s.resetTile id) s).setCourse n Course.zero
  let s2 := (s1.showPool c.pool).rekeyCheck.spentCheck
  (List.range 64).foldl (fun s k => s.tryExclude k) s2

/-- The bricks of an extent that lie on member n of its course. -/
def bricksOn (e : Extent) (k n : Nat) : List Nat := (List.range e.len).filter fun i => decide ((e.start + i) % max 1 k = n)

/-- A course has more members lost than m: each LIVE brick on a lost member is listed at once (R270, R446). -/
def beyondM (s : State) (n : Nat) : State :=
  let c := s.course n
  let k := geomK c.geom
  let hit := (s.mason.extents.filter fun kv => decide (kv.2.st ≠ 0) && decide (kv.2.course = n)).flatMap fun kv =>
    ((List.range k).filter fun d => bitOf c.lost d).flatMap fun d => (bricksOn kv.2 k d).map fun i => (kv.1, i)
  let hit := hit.filter fun xi => !(s.mason.unrec.contains (s.unrecOf (s.extent xi.1) xi.2 2))
  (hit.foldl (fun s xi => s.brickLost xi.1 xi.2 2) s).breach 1

/-- A replica is dropped from its extent (R257). -/
def dropReplica (s : State) (ix : Nat) : State :=
  let e := s.extent ix
  let c := s.course e.replCourse
  let s1 := (s.setExtent ix { e with hot := false, replCourse := noRef, replRow := 0 }).bump 0x18 MSN.REPL_CNT.DROPPED
  s1.setCourse e.replCourse { c with live := c.live - e.len }

/-- Members that a test names are lost (R260): the course is DEGRADED and closed, a rebuild or a copy into such a tile is
dropped (R270); a replica course loses its replicas. -/
def loseTiles (s : State) (n : Nat) (hit : Nat → Bool) : State :=
  let c := s.course n
  let lost := (c.members.zipIdx).foldl (fun m tn => if hit tn.1 then bitSet m tn.2 else m) c.lost
  let gone := c.copies.filter fun mt => hit mt.2
  if lost = c.lost ∧ gone.isEmpty then s
  else
    let c1 := { c with
      lost := lost
      rebuild := gone.foldl (fun m mt => bitClear m mt.1) c.rebuild
      copies := c.copies.filter fun mt => !(gone.contains mt) }
    if lost = c.lost then s.setCourse n c1
    else
      let s1 := if c.st = 1 then (s.putCourse n c1).closeCourse n else s.putCourse n c1
      let slot := ((c.members.filter hit).map fun id => tileAct id / 2).headD 0
      let s2 := (s1.setCourse n { s1.course n with st := 3 }).raise 0x18 2 slot
      let s3 := if c.kind = 2 then
          (s2.mason.extents.filter fun kv => decide (kv.2.replCourse = n)).foldl (fun s kv => s.dropReplica kv.1) s2
        else s2
      let s4 := if maskCount lost > geomM c.geom ∧ c.kind ≠ 2 then s3.beyondM n else s3
      s4.showPool c.pool

/-- Members on an actuator are lost. -/
def loseMembers (s : State) (n a : Nat) : State := s.loseTiles n fun id => decide (tileAct id = a)

/-- A head is lost (R455, R456): its tiles are RETIRED, a defect entry of origin 0x03 names it, its members are lost, and its
record is kept with RETIRED set (R231). -/
def loseHead (s : State) (a h : Nat) : State :=
  let mine := fun (id : Nat) => decide (tileAct id = a) && decide ((s.tile id).head = h) && decide (tileNum id ≥ 2)
  let ids := (s.mason.tiles.filter fun kv => mine kv.1).map (·.1)
  let first := ids.headD (tileId a 2)
  let s1 := { s with media := { s.media with defects := Tab.upd [] s.media.defects a fun l => l ++ [⟨tileNum first, 0xFFFFFF, 1, 3⟩] } }
  let s2 := State.journal s1 [.defect a (tileNum first) 0xFFFFFF 1 3]
  let s3 := (s2.mason.courses.filter fun kv => decide (kv.2.geom ≠ 0)).foldl (fun (s : State) (kv : Nat × Course) => s.loseTiles kv.1 mine) s2
  let s4 := ids.foldl (fun s id => s.setTile id { s.tile id with st := 4 }) s3
  s4.dramWrite (s4.headAddr (headKey a h) + 157) [recFlags { s4.headRec a h with retired := true }]

/-- An actuator is lost (R260): its members, and the whole HDA with HDA_LOST when both sides are. -/
def loseActuator (s : State) (a : Nat) : State :=
  if s.mason.lostActs.contains a then s
  else
    let s1 := s.onMason fun m => { m with lostActs := m.lostActs ++ [a] }
    let n := slotOf a
    let st := s.slotSt n
    if st = 1 ∨ st = 3 then
      let s2 := (s1.mason.courses.filter fun kv => decide (kv.2.geom ≠ 0)).foldl (fun s kv => s.loseMembers kv.1 a) s1
      if s2.mason.lostActs.contains (sibOf a) then ((s2.toSlot n 2).raise 0x18 0 n).tryExclude n else s2
    else s1

/-- An actuator that was lost is back: each member tile is taken back, or reset where its course has switched (R263). -/
def takeBack (s : State) (a : Nat) : State :=
  let s1 := s.onMason fun m => { m with lostActs := m.lostActs.filter (fun x => decide (x ≠ a)) }
  let s2 := (s1.mason.courses.filter fun kv => decide (kv.2.geom ≠ 0)).foldl (fun (s : State) (kv : Nat × Course) =>
    let c := kv.2
    let back : Nat := (kv.2.members.zipIdx).foldl (fun m tn => if tileAct tn.1 = a then bitClear m tn.2 else m) kv.2.lost
    if back = c.lost then s
    else
      let gone := c.copies.filter fun mt => bitOf c.lost mt.1 && !bitOf back mt.1
      let s' := gone.foldl (fun s mt => s.resetTile mt.2) s
      let c' := { c with
        lost := back, rebuild := c.rebuild &&& back
        copies := c.copies.filter (fun mt => !(gone.contains mt)), st := if back = 0 then 2 else c.st }
      let s'' := (s'.setCourse kv.1 c').showPool c.pool
      if maskCount c.lost > geomM c.geom ∧ maskCount back ≤ geomM c.geom then
        s''.unrecDrop fun e => decide (e.reason = 2) && decide (e.course = kv.1)
      else s'') s1
  (s2.mason.tiles.filter fun kv => decide (tileAct kv.1 = a) && decide (tileNum kv.1 ≥ 2) && decide (kv.2.course ≠ noRef)).foldl
    (fun s kv => if (s.course kv.2.course).members.contains kv.1 then s else s.resetTile kv.1) s2

end State

end Sys2Proof.Machine
end

