-- ==== Sys2Proof/Machine/SpinOps.lean ====
section
/-! DEFINITION. The operations of a spindle channel: its states and start place (R197, R198), the current tick (R190-R192),
observer loss (R201), and the stop (R204). -/

namespace Sys2Proof.Machine.State

/-- A spindle channel. -/
def ch (s : State) (n : Nat) : Spin := Tab.get Spin.zero s.spin.chans n

/-- Change a spindle channel. -/
def onCh (s : State) (n : Nat) (f : Spin → Spin) : State :=
  { s with spin := { s.spin with chans := Tab.put Spin.zero s.spin.chans n (f (s.ch n)) } }

/-- A per-slot field of the spindle page. -/
def sp (s : State) (n : Nat) (f : RF) : Nat := s.fld (pgSpm (n / 4)) (spk n f)

/-- A per-slot bit. -/
def spB (s : State) (n : Nat) (f : RF) : Bool := s.flag (pgSpm (n / 4)) (spk n f)

/-- Set a per-slot field. -/
def spSet (s : State) (n : Nat) (f : RF) (v : Nat) : State := s.set (pgSpm (n / 4)) (spk n f) v

/-- Raise an event of a slot's spindle page. -/
def spRaise (s : State) (n bit : Nat) : State := s.raise (pgSpm (n / 4)) bit n

/-- Count in a per-slot counter. -/
def spBump (s : State) (n : Nat) (f : RF) : State := s.bump (pgSpm (n / 4)) (spk n f)

/-- SPk_CTL.STATE: 0 STOPPED, 1 QUEUED, 2 PROBE, 3 BRAKE, 4 ALIGN, 5 RAMP, 6 RUN, 7 REACQUIRE, 8 SPINDOWN, 9 FAULT. -/
def spState (s : State) (n : Nat) : Nat := s.sp n SPM.SPk_CTL.STATE

/-- The measured speed in 1/256 rpm. -/
def spSpeed (s : State) (n : Nat) : Int := signed 32 (s.sp n SPM.SPk_SPEED.SPEED)

/-- Set one slot's bit in a field of SPM_STAT. -/
def spStatBit (s : State) (n : Nat) (f : RF) (b : Bool) : State :=
  s.set (pgSpm (n / 4)) f (bitPut (s.fld (pgSpm (n / 4)) f) (chanOf n) b)

/-- The spindle pages of the part. -/
def spmPages (s : State) : List Nat := (List.range (2 * clustersOf s.part)).map pgSpm

/-- Take the start places held; SPM_STAGGER is one register seen through every page (R209). -/
def setPlaces (s : State) (ps : List Nat) : State :=
  let s1 := { s with spin := { s.spin with places := ps } }
  s1.spmPages.foldl (fun s p => s.set p SPM.SPM_STAGGER.STARTING ps.length) s1

/-- A slot gives up its start place. -/
def freePlace (s : State) (n : Nat) : State :=
  if s.spin.places.contains n then
    (s.setPlaces (s.spin.places.filter (fun x => decide (x ≠ n)))).spStatBit n SPM.SPM_STAT.START_PLACE false
  else s

/-- Both actuators of a slot are OPEN. -/
def bothOpen (s : State) (n : Nat) : Bool := decide (s.svState (2 * n) = 0) && decide (s.svState (2 * n + 1) = 0)

/-- AT_SPEED clears; with an actuator not OPEN, SPEED_OUT is raised to CPX (R195, R196). -/
def loseSpeed (s : State) (n : Nat) : State :=
  if s.spB n SPM.SPk_CTL.AT_SPEED then
    let s1 := (s.spSet n SPM.SPk_CTL.AT_SPEED 0).spStatBit n SPM.SPM_STAT.AT_SPEED false
    if s.bothOpen n then s1 else s1.spRaise n 1
  else s

/-- A channel enters a state: RUN and FAULT are shown, AT_SPEED ends outside RUN, a place ends at STOPPED and FAULT,
and STOPPED raises its event. -/
def toSpin (s : State) (n st : Nat) : State :=
  let s1 := ((s.spSet n SPM.SPk_CTL.STATE st).spStatBit n SPM.SPM_STAT.RUN (decide (st = 6))).spStatBit n
    SPM.SPM_STAT.FAULT (decide (st = 9))
  let s2 := if st = 6 then s1 else s1.loseSpeed n
  let s3 := if st = 0 ∨ st = 9 then s2.freePlace n else s2
  let s3 := if st = 0 then s3.spRaise n 15 else s3
  if st = 9 then s3.spBump n SPM.SPk_CNT_B.FAULTS else s3

/-- The cause of leaving RUN or entering FAULT (R210). -/
def spCause (s : State) (n c : Nat) : State := s.spSet n SPM.SPk_CTL.CAUSE c

/-- HAND_DN, or HAND_UP - 50 where it is not below HAND_UP (R210). -/
def handDn (s : State) (n : Nat) : Nat :=
  let u := s.sp n SPM.SPk_HAND.HAND_UP
  let d := s.sp n SPM.SPk_HAND.HAND_DN
  if d ≥ u then u - 50 else d

/-- RUN is entered at a speed: BEMF at or above HAND_DN, INJECT below; the reference starts from the speed (R194, R199). -/
def enterRun (s : State) (n : Nat) (speed : Int) : State :=
  (((s.toSpin n 6).spSet n SPM.SPk_SPEED.SPEED (unsigned 32 speed)).spSet n SPM.SPk_CTL.INJECT
    (if speed ≥ 256 * (s.handDn n : Int) then 0 else 1)).onCh n
    (fun c => { c with ref := speed, vdInt := 0, vqInt := 0, spdInt := 0, spdOut := 0, missed := 0 })

/-- The target speed in rpm: RPM, or NOM_RPM while it is 0 (R194, R205). -/
def targetRpm (s : State) (n : Nat) : Nat :=
  let r := s.sp n SPM.SPk_TARGET.RPM
  if r = 0 then s.sp n SPM.SPk_TARGET.NOM_RPM else min 7200 (max 3000 r)

/-- START_MAX: 0 acts as 1, values above 16 as 16 (R209). -/
def startMax (s : State) : Nat := min 16 (max 1 (s.fld (pgSpm 0) SPM.SPM_STAGGER.START_MAX))

/-- The actuator whose link owns the slot's spindle (R73). -/
def ownerAct (s : State) (n : Nat) : Nat := 2 * n + Tab.get 0 s.link.owner n

/-- A spindle output on the owning link: drive 0, high impedance 1, low-side short 2 (R53, R190). -/
def spinOut (s : State) (n u v w mode : Nat) : State :=
  let s1 := s.sendDn (s.ownerAct n) (.out false false true 0 0 0 u v w mode)
  if mode = 0 then s1.onCh n (fun c => { c with phU := u, phV := v, phW := w }) else s1

/-- The phases at high impedance. -/
def spinFree (s : State) (n : Nat) : State := s.spinOut n 0 0 0 1

/-- Observer loss (R193, R201): OBS_LOST, phases to high impedance, REACQUIRE. -/
def observerLoss (s : State) (n : Nat) : State :=
  ((((s.spBump n SPM.SPk_CNT_A.OBS_LOST).spRaise n 3).spCause n 5).toSpin n 7).spinFree n

/-- UNLOAD on every actuator of the slot that is not OPEN (R197, R202, R204). -/
def unloadSlot (s : State) (n : Nat) : State :=
  let s1 := if s.svState (2 * n) = 0 then s else s.sendUnload (2 * n)
  if s1.svState (2 * n + 1) = 0 then s1 else s1.sendUnload (2 * n + 1)

/-- The channel spins down in coast mode (R197, R201). -/
def coastDown (s : State) (n : Nat) (forced : Bool) : State :=
  ((s.toSpin n 8).onCh n (fun c => { c with forced := forced, coast := true, stopping := false, stopHeld := false })).spinFree n

/-- A stop in RUN, for a cause (R204): SPINDOWN once both actuators are OPEN; until then they are unloaded and the slot runs on;
an actuator in FAULT withdraws the stop with STOP_HELD. -/
def stopRun (s : State) (n why : Nat) : State :=
  if s.bothOpen n then
    (((s.spCause n why).toSpin n 8).onCh n
      (fun c => { c with stopping := false, stopHeld := false, forced := false, coast := false })).spinFree n
  else (s.unloadSlot n).onCh n (fun c => { c with stopping := true, stopHeld := false, why := why })

/-- A stop in any state (R197, R204, R207). -/
def stopSpin (s : State) (n why : Nat) : State :=
  match s.spState n with
  | 1 => ({ s with spin := { s.spin with queue := s.spin.queue.filter (fun x => decide (x ≠ n)) } } : State).toSpin n 0
  | 2 | 3 | 4 | 5 => s.coastDown n false
  | 6 => s.stopRun n why
  | _ => s

/-- A stop under way proceeds, or is withdrawn (R204). -/
def stopGoesOn (s : State) (n : Nat) : State :=
  if (s.ch n).stopping && decide (s.spState n = 6) then
    if s.svState (2 * n) = 5 ∨ s.svState (2 * n + 1) = 5 then (s.onCh n (fun c => { c with stopping := false })).spRaise n 13
    else if s.bothOpen n then s.stopRun n (s.ch n).why
    else s
  else s

/-- With neither link of a slot in ACTIVE or DOZE the channel goes to STOPPED with cause NO_LINK (R203); one that drives
nothing stays. -/
def noLink (s : State) (n : Nat) : State :=
  let up := fun a => decide (s.lkState a = 2) || decide (s.lkState a = 3)
  if up (2 * n) || up (2 * n + 1) || decide (s.spState n = 0) || decide (s.spState n = 9) then s
  else
    let s1 := { s with spin := { s.spin with queue := s.spin.queue.filter (fun x => decide (x ≠ n)) } }
    ((s1.spCause n 6).toSpin n 0).onCh n (fun c => { c with stopping := false, stopHeld := false })

/-- The current limit: IQ_START until AT_SPEED has been reached since the start, IQ_RUN after (R191). -/
def iqLim (s : State) (n : Nat) : Int :=
  if (s.ch n).reached then s.sp n SPM.SPk_LIMITS.IQ_RUN else s.sp n SPM.SPk_LIMITS.IQ_START

/-- A cogging entry; the one before `bad`, lost to an uncorrectable error, reads 0 for the tick (R207). -/
def cogEntry (s : State) (n bad i : Nat) : Int :=
  if bad = i + 1 then 0 else (Tab.get 0#16 s.spin.cog (n * 512 + i % 512)).toInt

/-- The phase duty of a voltage: centred and scaled to 12 bits (R191). -/
def duty (v vo : Int) (vbus : Nat) : Nat :=
  (max 0 (min 0xFFF (0x800 + Config.divFree ((v - vo) * 4096) (if vbus = 0 then 1 else vbus)))).toNat

/-- The angle half a period on: θ + ω * 12.5 us (R191). -/
def halfOn (s : State) (n th : Nat) : Nat :=
  let pp : Int := (min 12 (max 1 (s.sp n SPM.SPk_MOTOR.POLE_PAIRS)) : Nat)
  (((th : Int) + Config.divFree (s.spSpeed n * pp * 8192) 153600000) % 65536).toNat

/-- Drive one period of the current loop with its references at an angle (R191). -/
def drive (s : State) (n : Nat) (iu iv idRef iqRef : Int) (th : Nat) : State :=
  let c := s.ch n
  let (id, iq) := Config.park iu iv th
  let kp := s.sp n SPM.SPk_CURPI.CUR_KP
  let ki := s.sp n SPM.SPk_CURPI.CUR_KI
  let (vd, vdI) := Config.pi (idRef - id) kp ki c.vdInt
  let (vq0, vqI) := Config.pi (iqRef - iq) kp ki c.vqInt
  let vq := vq0 + Config.keFf (s.sp n SPM.SPk_KE.KE) (s.spSpeed n)
  let (va, vb, vc) := Config.invPark vd vq (s.halfOn n th)
  let vo := Config.divFree (max va (max vb vc) + min va (min vb vc)) 2
  let vbus := s.sp n SPM.SPk_KE.VBUS
  let s1 := ((s.spSet n SPM.SPk_IQD.IQ (unsigned 16 iq)).spSet n SPM.SPk_IQD.ID (unsigned 16 id)).onCh n
    (fun c => { c with vdInt := vdI, vqInt := vqI })
  s1.spinOut n (duty va vo vbus) (duty vb vo vbus) (duty vc vo vbus) 0

/-- The cogging table's errors of one tick: corrected words, and one uncorrectable (R207, R209). -/
def cogErrs (s : State) (n ce ue : Nat) : State :=
  let pg := pgSpm (n / 4)
  let s := s.bumpN pg SPM.MEM_ECC.CE ce
  if ue = 0 then s else (s.bump pg SPM.MEM_ECC.UE).spRaise n 14

/-- One current tick of a channel (R190-R192, R197): the observer's angle is the free value of the tick. `ce` and `ue` are the
errors that the tick's cogging reads meet: words corrected, and one more than the entry lost. -/
def currentTick (s : State) (n : Nat) (iu iv : Int) (ce ue : Nat) : State :=
  let th := s.freeNow.toNat % 65536
  let s := (s.drawn).onCh n (fun c => { c with ticks := c.ticks + 1, missed := 0 })
  let t := (s.ch n).ticks
  let probe := s.spinOut n 0 0 0 2
  match s.spState n with
  | 2 => if t % 8 = 0 then probe else s.spinFree n
  | 3 => probe
  | 4 => s.drive n iu iv (s.sp n SPM.SPk_LIMITS.IQ_START) 0 0
  | 5 => s.drive n iu iv 0 (s.sp n SPM.SPk_LIMITS.IQ_START) th
  | 6 =>
    let s := s.spSet n SPM.SPk_ANGLE.THETA th
    if s.spB n SPM.SPk_CTL.INJECT && decide (t % 8 = 0) then s.spinOut n 0 0 0 2
    else
      let on := s.spB n SPM.SPk_CTL.COG_EN
      let cog := if on then interpCog (s.cogEntry n ue) th else 0
      let s := if on then s.cogErrs n ce ue else s
      s.drive n iu iv 0 (clampInt (-(s.iqLim n)) (s.iqLim n) ((s.ch n).spdOut + cog)) th
  | 7 => if t % 2 = 0 then probe else s.spinFree n
  | 8 =>
    if (s.ch n).coast || !s.spB n SPM.SPk_CTL.DOWN_MODE then
      if t % 4000 = 0 then probe else s.spinFree n
    else if s.spSpeed n ≥ 256 * (s.handDn n : Int) then s.drive n iu iv 0 (-(s.sp n SPM.SPk_LIMITS.IQ_RUN : Int)) th
    else probe
  | _ => s

end Sys2Proof.Machine.State
end

