-- ==== Sys2Proof/Machine/MapOps.lean ====
section
/-! DEFINITION. Mason's operations over rows and extents: choosing members (R238, R245), mortar and reconstruction (R239,
R251), entering bricks in the Placement Map (R240, R241) and moving them (R259). -/

namespace Sys2Proof.Machine

/-! ### Choosing members (R245) -/

/-- A candidate with its score. -/
structure Scored where
  cand : Cand
  score : Nat
  deriving DecidableEq, Repr

/-- By score, then by actuator number. -/
def Scored.before (x y : Scored) : Bool := decide (x.score < y.score) || (decide (x.score = y.score) && decide (x.cand.act ≤ y.cand.act))

/-- A candidate put in its place. -/
def Scored.insert (x : Scored) : List Scored → List Scored
  | [] => [x]
  | y :: ys => if x.before y then x :: y :: ys else y :: Scored.insert x ys

/-- The candidates sorted. -/
def Scored.sort : List Scored → List Scored
  | [] => []
  | x :: xs => Scored.insert x (Scored.sort xs)

/-- The number of actuators of a list in a cluster. -/
def inCluster (c : Nat) (acts : List Nat) : Nat := (acts.filter fun a => decide (clOf a = c)).length

/-- Members picked in order until `n` stand: distinct HDAs, at most `cap` in a cluster, over the actuators that stand
already. -/
def pickMembers (cap n : Nat) : List Nat → List Scored → List Cand
  | _, [] => []
  | acts, x :: xs =>
    if acts.length ≥ n then []
    else if acts.any (fun a => decide (slotOf a = slotOf x.cand.act)) || decide (inCluster (clOf x.cand.act) acts ≥ cap) then
      pickMembers cap n acts xs
    else x.cand :: pickMembers cap n (acts ++ [x.cand.act]) xs

/-- The cap on one cluster's members (R238). -/
def capOf (part : Part) (kind k m : Nat) : Nat :=
  if kind ≠ 1 then 1 else match part with
    | .h7128 => m
    | .h7064 => (k + m + 3) / 4

/-! ### Mortar (R239) -/

/-- The bytes of a brick that mortar covers, as one number: the data field, then the carried part (R92). -/
def rowNum (b : Brick) : Nat := b.data % 2 ^ 32768 + 2 ^ 32768 * ofLe (carriedBytes b.trailer)

/-- The carried part read back from its 40 bytes, with an empty placed part (R90). -/
def carriedOf (v : Nat) : Trailer where
  twTile := v % 2 ^ 32
  twBrick := v / 2 ^ 32 % 2 ^ 16
  twGen := v / 2 ^ 48 % 2 ^ 32
  kdom := v / 2 ^ 80 % 2 ^ 16
  extent := v / 2 ^ 96 % 2 ^ 32
  extBrick := v / 2 ^ 128 % 2 ^ 32
  seq := v / 2 ^ 160 % 2 ^ 64
  nsid := v / 2 ^ 224 % 2 ^ 16
  validLen := v / 2 ^ 240 % 2 ^ 16
  tile := 0
  brick := 0
  slot := 0
  kind := 0
  pos := 0
  flags := 0
  gen := 0
  course := 0
  crc := 0

/-- A brick from the bytes that mortar covers. -/
def brickOfRow (v : Nat) : Brick := ⟨v % 2 ^ 32768, carriedOf (v / 2 ^ 32768)⟩

/-- A filler brick (R247). -/
def fillerBrick : Brick := ⟨0, { carriedOf 0 with kdom := noKdom, extent := noRef }⟩

/-- XOR of the products of coefficients and values. -/
def gfDot (cs xs : List Nat) : Nat := (cs.zip xs).foldl (fun a cx => a ^^^ gfScale mortarLen cx.1 cx.2) 0

/-- One equation scaled so that its first coefficient is 1. -/
def gfNorm (e : List Nat × Nat) : List Nat × Nat :=
  let i := gfInv (e.1.headD 1)
  (e.1.map (gfMul i), gfScale mortarLen i e.2)

/-- An equation with a pivot's multiple taken away, without its first coefficient. -/
def gfElim (p e : List Nat × Nat) : List Nat × Nat :=
  let h := e.1.headD 0
  (((p.1.zip e.1).map fun xy => xy.2 ^^^ gfMul h xy.1).tail, e.2 ^^^ gfScale mortarLen h p.2)

/-- The solution of `n` linear equations over GF(2^8), by elimination. -/
def gfSolve : Nat → List (List Nat × Nat) → Option (List Nat)
  | 0, _ => some []
  | n + 1, es =>
    match es.find? (fun e => decide (e.1.headD 0 ≠ 0)) with
    | none => none
    | some e =>
      let p := gfNorm e
      match gfSolve n ((es.erase e).map (gfElim p)) with
      | none => none
      | some xs => some ((p.2 ^^^ gfDot p.1.tail xs) :: xs)

/-- The missing data brick d of a row from bricks read of it, by position: any k of the k + m determine the rest. -/
def reconstruct (k d : Nat) (got : List (Nat × Nat)) : Option Nat :=
  if k = 1 then (got.head?).map (·.2)
  else
    let have_ := got.filter fun pv => decide (pv.1 < k)
    let unknown := (List.range k).filter fun j => !(have_.any fun pv => decide (pv.1 = j))
    let eqs := ((got.filter fun pv => decide (k ≤ pv.1)).take unknown.length).map fun pv =>
      (unknown.map (mortarCoef (pv.1 - k)),
        have_.foldl (fun a jv => a ^^^ gfScale mortarLen (mortarCoef (pv.1 - k) jv.1) jv.2) pv.2)
    match have_.find? (fun pv => decide (pv.1 = d)) with
    | some pv => some pv.2
    | none =>
      match gfSolve unknown.length eqs with
      | none => none
      | some xs => ((unknown.zip xs).find? fun jx => decide (jx.1 = d)).map (·.2)

namespace State

/-- Mason's own work may run: MSN enabled and not held (R271), in an operational power state (R457). -/
def urgentWork (s : State) : Bool := s.enabled 0x18 && !s.flag 0x18 MSN.MSN_CFG.BG_HOLD && decide (s.fld 2 PWC.PWC_STAT.PS_NOW ≤ 2)

/-- Mason's background work may run: the power cap has not taken its first lever (R431). -/
def background (s : State) : Bool := s.urgentWork && decide (s.pwr.lever = 0)

/-- A cluster's temperature in °C by the thermal model. -/
def clusterTemp (s : State) (c : Nat) : Int := signed 16 (s.fld (bank 3 c) THM.NODE_T.NODE) / 16

/-- Tiles of an actuator open for writing. -/
def openTiles (s : State) (a : Nat) : Nat := (s.mason.tiles.filter fun kv => decide (tileAct kv.1 = a) && decide (kv.2.st = 1)).length

/-- Per cent of an actuator's pool tiles in use. -/
def fillPct (s : State) (a : Nat) : Nat :=
  let n := (s.fmt a).tiles - 2
  if n = 0 then 100
  else 100 * (s.mason.tiles.filter fun kv => decide (tileAct kv.1 = a) && decide (tileNum kv.1 ≥ 2) && decide (kv.2.st ≠ 0)).length / n

/-- A cluster is asleep or lost: no course opens there (R270). -/
def clusterDown (s : State) (c : Nat) : Bool := s.pwr.asleep.contains (7 + c) || s.sys.lostClusters.contains c

/-- Whether an actuator may take a member on the tile found: R245's conditions; a head being recalibrated takes none (R221). -/
def candOk (s : State) (p : Nat) (x : Cand) : Bool :=
  let t := s.tile x.tile
  let r := s.headRec x.act x.head
  bitOf (s.fld (pgMsn p) MSN.POOL_SLOTS.SLOTS) (slotOf x.act) && decide (s.slotSt (slotOf x.act) = 1) && decide (s.spState (slotOf x.act) ≠ 9)
    && s.setsValid x.act && decide (tileAct x.tile = x.act) && decide (tileNum x.tile ≥ 2) && decide (tileNum x.tile < (s.fmt x.act).tiles)
    && decide (t.st = 0) && decide (t.course = noRef) && !t.calib && r.valid && !r.weak && !r.retired && !(s.headWork x.act x.head).recal
    && !(s.mason.lostActs.contains x.act) && !s.clusterDown (clOf x.act)

/-- The score of R245. -/
def scoreOf (s : State) (x : Cand) : Nat :=
  s.fld 0x18 MSN.MSN_WEIGHT.W_Q * (Tab.get [] s.mason.queueModel x.act).sum / 100
    + s.fld 0x18 MSN.MSN_WEIGHT.W_T * (s.clusterTemp (clOf x.act) - 85).toNat
    + s.fld 0x18 MSN.MSN_WEIGHT.W_C * s.openTiles (sibOf x.act)
    + s.fld 0x18 MSN.MSN_WEIGHT.W_W * (x.closed + s.fillPct x.act)

/-- The members chosen beside actuators that stand already, up to `n` in all. -/
def choose (s : State) (p kind k m : Nat) (standing : List Nat) (cands : List Cand) : List Cand :=
  pickMembers (capOf s.part kind k m) (k + m) standing
    (Scored.sort ((cands.filter (s.candOk p)).map fun x => ⟨x, s.scoreOf x⟩))

/-- A chosen tile belongs to a course from then on; it is EMPTY until its header is written (R98). -/
def reserveTile (s : State) (x : Cand) (course pos : Nat) : State :=
  s.setTile x.tile { s.tile x.tile with course := course, pos := pos, head := x.head }

/-! ### Extents -/

/-- LIVE of a course changed. -/
def addLive (s : State) (n : Nat) (d : Int) : State :=
  let c := s.course n
  if c.geom = 0 then s else s.setCourse n { c with live := ((c.live : Int) + d).toNat }

/-- The lowest FREE entry of the Placement Map that no brick on its way to the map is meant for. -/
def freeEntry (s : State) : Nat :=
  ((List.range (s.mason.extents.length + s.mason.bricks.length + 1)).find? fun i =>
    decide ((s.extent i).st = 0) && !(s.mason.bricks.any fun b => decide (b.ext = i))).getD 0

/-- Whether an extent holds a place of a namespace (a block, or a brick of an object's value). -/
def holds (e : Extent) (nsid obj lba : Nat) : Bool :=
  let at_ := if obj = 0 then lba else obj * 2 ^ 32 + lba
  decide (e.st ≠ 0) && decide (e.nsid = nsid) && (e.kv == decide (obj ≠ 0)) && decide (e.lbase ≤ at_) && decide (at_ < e.lbase + e.len)

/-- The extent that holds a place, with the brick's offset in it (R244). -/
def lookup (s : State) (nsid obj lba : Nat) : Option (Nat × Nat) :=
  (s.mason.extents.find? fun kv => holds kv.2 nsid obj lba).map fun kv =>
    (kv.1, (if obj = 0 then lba else obj * 2 ^ 32 + lba) - kv.2.lbase)

/-- Part of an extent, from a brick on for a length. -/
def part' (e : Extent) (i len : Nat) : Extent := { e with start := e.start + i, lbase := e.lbase + i, len := len, wOff := e.wOff + i }

/-- Bricks [i, i + n) of an extent leave the map: what is left stands in its entry and in a new one; its replica is dropped
(R257), and a move of it finds the image changed (R256). -/
def cutExtent (s : State) (ix i n : Nat) : State :=
  let s0 := if (s.extent ix).hot then s.dropReplica ix else s
  let e := s0.extent ix
  let n := min n (e.len - i)
  let s1 := s0.addLive e.course (-(n : Int))
  let head := if i = 0 then Extent.zero else part' e 0 i
  let s2 := s1.setExtent ix head
  if i + n < e.len then
    let rest := part' e (i + n) (e.len - i - n)
    s2.setExtent (if i = 0 then ix else s2.freeEntry) rest
  else s2

/-- A place leaves the map, if it is in it. -/
def unmap (s : State) (nsid obj lba : Nat) : State :=
  match s.lookup nsid obj lba with
  | some (ix, i) => s.cutExtent ix i 1
  | none => s

/-- A run of blocks leaves the map. -/
def unmapRange (s : State) (nsid first count : Nat) : State :=
  (s.mason.extents.filter fun kv =>
    decide (kv.2.st ≠ 0) && decide (kv.2.nsid = nsid) && !kv.2.kv && decide (kv.2.lbase < first + count) && decide (first < kv.2.lbase + kv.2.len)).foldl
    (fun (s : State) (kv : Nat × Extent) =>
      let lo := max kv.2.lbase first
      let hi := min (kv.2.lbase + kv.2.len) (first + count)
      s.cutExtent kv.1 (lo - kv.2.lbase) (hi - lo)) s

/-- The place of a brick in its namespace as LBASE counts it (R241). -/
def placeOf (b : HostBrick) : Nat := if b.obj = 0 then b.lba else b.obj * 2 ^ 32 + b.lba

/-- An extent that a brick goes on from: the one that ends where the brick begins, in its course and in its namespace. -/
def endsAt (b : HostBrick) (kv : Nat × Extent) : Bool :=
  decide (kv.2.st = 1) && decide (kv.2.nsid = b.nsid) && (kv.2.kv == decide (b.obj ≠ 0)) && decide (kv.2.course = b.course)
    && !kv.2.hot && decide (kv.2.start + kv.2.len = b.cb) && decide (kv.2.lbase + kv.2.len = placeOf b)

/-- An entry that is FREE and that no brick on its way to the map is meant for. -/
def freshEntry (s : State) (more : List HostBrick) : Nat :=
  let taken := s.mason.bricks ++ more
  ((List.range (s.mason.extents.length + taken.length + 1)).find? fun i =>
    decide ((s.extent i).st = 0) && !(taken.any fun b => decide (b.ext = i))).getD 0

/-- A brick with a place gets its carried EXTENT and EXT_BRICK: those that follow the brick before it in its extent, or the
first of a new entry. -/
def identify (s : State) (before : List HostBrick) (b : HostBrick) : HostBrick :=
  let prior := (s.mason.bricks ++ before).find? fun x =>
    decide (x.ext ≠ noRef) && decide (x.course = b.course) && decide (x.cb + 1 = b.cb) && decide (x.nsid = b.nsid) && decide (x.obj = b.obj)
      && decide (x.lba + 1 = b.lba)
  match prior with
  | some x => { b with ext := x.ext, extBrick := x.extBrick + 1 }
  | none => match s.mason.extents.find? (endsAt b) with
    | some kv => { b with ext := kv.2.wIx, extBrick := kv.2.wOff + kv.2.len }
    | none => { b with ext := s.freshEntry before, extBrick := 0 }

/-- A committed host brick enters the map in place of what stood there (R240): an extent that ends where it begins grows,
or a new entry is made. -/
def mapBrick (s : State) (b : HostBrick) (pinned : Bool) : State :=
  let s1 := (s.unmap b.nsid b.obj b.lba).addLive b.course 1
  match s1.mason.extents.find? (fun kv => endsAt b kv && decide (kv.2.wIx = b.ext) && decide (kv.2.wOff + kv.2.len = b.extBrick)) with
  | some kv => s1.setExtent kv.1 { kv.2 with len := kv.2.len + 1 }
  | none => s1.setExtent (if b.ext ≠ noRef ∧ (s1.extent b.ext).st = 0 then b.ext else s1.freeEntry)
      { Extent.zero with nsid := b.nsid, st := 1, pinned := pinned, kv := decide (b.obj ≠ 0), pool := b.pool, course := b.course
                         start := b.cb, len := 1, lbase := placeOf b, wIx := b.ext, wOff := b.extBrick }

/-- A move or a copy of an extent begins: its image is kept, and it is MOVING (R241, R256). -/
def beginMove (s : State) (ix : Nat) : State :=
  let e := { s.extent ix with st := 2 }
  (s.setExtent ix e).onMason fun m => { m with moving := m.moving.filter (fun kv => decide (kv.1 ≠ ix)) ++ [(ix, e)] }

/-- The image kept when a move began is still the entry's. -/
def unchanged (s : State) (ix : Nat) : Bool := s.mason.moving.contains (ix, s.extent ix)

/-- The end of a move: no longer MOVING. -/
def endMove (s : State) (ix : Nat) : State := s.onMason fun m => { m with moving := m.moving.filter fun kv => decide (kv.1 ≠ ix) }

/-- A course starts to be emptied: RETIRING, its extents MOVING. -/
def retireCourse (s : State) (n : Nat) : State :=
  let s1 := if (s.course n).st = 1 then s.closeCourse n else s
  let s2 := s1.setCourse n { s1.course n with st := 4 }
  (s2.mason.extents.filter fun kv => decide (kv.2.st = 1) && decide (kv.2.course = n)).foldl (fun s kv => s.beginMove kv.1) s2

/-- A slot's rebuild is done when no course has a lost member on it: REBUILD_DONE, and the slot leaves LOST as R235 has it. -/
def rebuildCheck (s : State) (n : Nat) : State :=
  let open_ := s.mason.courses.any fun kv => decide (kv.2.geom ≠ 0) && kv.2.members.any (ofSlot n) && decide (kv.2.lost ≠ 0)
  if s.slotSt n = 2 && !open_ && !s.slotReferenced n then
    let s1 := (s.onMason fun m => { m with rebuilding := m.rebuilding.filter fun x => decide (x ≠ n) }).raise 0x18 3 n
    if s1.mason.newWaits.contains n then
      ((((s1.onMason fun m => { m with newWaits := m.newWaits.filter fun x => decide (x ≠ n) }).renewTiles n true).onMason fun m =>
        { m with
          serials := Tab.put 0 m.serials n (s1.fld (pgAct (2 * n)) ACT.BR_SERIAL.V)
          lostActs := m.lostActs.filter fun a => decide (slotOf a ≠ n) }).toSlot n 1).tryExclude n
    else (s1.toSlot n (if s1.bridgeHere n then 4 else 0)).tryExclude n
  else s

end State

end Sys2Proof.Machine
end

