-- ==== Sys2Proof/Machine/CacheOps.lean ====
section
/-! DEFINITION. The operations over regions (R316-R330), the Segment Cache (R331-R338), its modes (R339) and the dirty
ceiling (R340, R341). -/

namespace Sys2Proof.Machine.State

/-! ### The dirty total and its ceiling (R340) -/

/-- The number of bits set in a 16-bit mask. -/
def ones16 (m : Nat) : Nat := ((List.range 16).filter fun i => bitOf m i).length

/-- Dirty sub-blocks. -/
def dirtySubs (s : State) : Nat := s.buf.lines.foldl (fun n kv => n + ones16 kv.2.dirty) 0

/-- The dirty total in bytes: dirty sub-blocks, host bricks in pallets not committed, journal pages not persisted. -/
def dirtyTotal (s : State) : Nat :=
  65536 * s.dirtySubs + 4096 * s.mason.bricks.length + 4096 * ((s.unpersisted + 4095) / 4096)

/-- The ceiling in MiB as R340 computes it. -/
def ceilingNow (s : State) : Nat :=
  let w := s.fld 0x14 SCC.SCC_HU.SD_W
  let avail := s.fld 4 CAL.HU_E.E * 1000 / (if w = 0 then 240 else w)
  let dest := avail * 2 / 3 - s.fld 0x14 SCC.SCC_HU.T_FIX
  let c := dest * s.fld 0x14 SCC.SCC_DRATE.DEST_RATE / 1048576
  if !s.flag 4 CAL.CAL_STAT.HU_VALID || s.flag 1 CLKG.CLK_STAT.RING || decide (c < 16) then 0 else c

/-- The ceiling in force in bytes. -/
def ceiling (s : State) : Nat := s.fld 0x14 SCC.SCC_CEIL.MIB * 1048576

/-- Store the ceiling; a change raises CEILING_CHANGE. -/
def setCeil (s : State) (c : Nat) : State :=
  if s.fld 0x14 SCC.SCC_CEIL.MIB = c then s else (s.set 0x14 SCC.SCC_CEIL.MIB c).raise 0x14 1 0

/-! ### Cache modes (R339) -/

/-- SCC_STAT.STATE: 0 DISABLED, 1 WRITE_BACK, 2 DRAINING. -/
def cacheState (s : State) : Nat := s.fld 0x14 SCC.SCC_STAT.STATE

/-- A controller's Volatile Write Cache feature (06h), enabled unless a host has cleared it (R307). -/
def wce (c : Ctrl) : Bool := bitOf (Tab.get 1 c.feats 6) 0

/-- The causes that keep the cache out of WRITE_BACK: bit 0 HOST, 1 HOLDUP, 2 SOFTWARE, 3 POWER. -/
def cacheCauses (s : State) : Nat :=
  let on := s.nvme.ctrls.filter fun kv => kv.2.en
  let host := !on.isEmpty && on.all fun kv => !wce kv.2
  let soft := s.flag 0x14 SCC.SCC_CTL.DISABLE || !s.enabled 0x14 || decide (s.fld 0x14 SCC.SCC_CTL.SIZE = 0)
  let power := s.pwr.leaving || decide (s.fld 2 PWC.PWC_STAT.PS_NOW ≥ 3)
  b2n host + 2 * b2n (decide (s.ceilingNow = 0)) + 4 * b2n soft + 8 * b2n power

/-- Enter a cache state with STATE_CHANGE; entering DISABLED from a drain raises DRAIN_DONE, and applies a size that
waited (R345). -/
def toCache (s : State) (st : Nat) : State :=
  if s.cacheState = st then s
  else
    let s1 := (s.set 0x14 SCC.SCC_STAT.STATE st).raise 0x14 0 0
    if st = 0 then
      let s2 := s1.raise 0x14 3 0
      match s2.buf.sizeNext with
      | some n => (s2.set 0x14 SCC.SCC_CTL.SIZE n).onBuf fun b => { b with lines := [], sizeNext := none }
      | none => s2
    else s1

/-- The ceiling and the mode follow their inputs: the ceiling of R340, held for a drain after HU_VALID has cleared (R341);
the causes; DRAINING while one holds, DISABLED once nothing is dirty, WRITE_BACK when none holds. -/
def syncCache (s : State) : State :=
  let new := s.ceilingNow
  let hold := !s.flag 4 CAL.CAL_STAT.HU_VALID && decide (s.fld 0x14 SCC.SCC_CEIL.MIB ≠ 0) && decide (s.dirtyTotal ≠ 0)
  let s1 := if hold then s.onBuf fun b => { b with ceilHeld := true } else (s.setCeil new).onBuf fun b => { b with ceilHeld := false }
  let c := s1.cacheCauses
  let s2 := s1.set 0x14 SCC.SCC_STAT.CAUSE c
  if c = 0 then s2.toCache 1
  else
    let s3 := if s2.cacheState = 1 then s2.toCache 2 else s2
    if s3.cacheState = 2 ∧ s3.dirtySubs = 0 then s3.toCache 0 else s3

/-- The write is covered by hold-up (R444). -/
def covered (s : State) (ctl : Nat) : Bool :=
  let c := s.fld 0x14 SCC.SCC_STAT.CAUSE
  decide (s.fld 0x14 SCC.SCC_CEIL.MIB ≠ 0) && !bitOf c 0 && !bitOf c 2 && wce (s.ctrl ctl)

/-! ### Lines (R331-R338) -/

/-- The number of sets: 128 at SIZE 1 to 2,048 at SIZE 5; 6 and 7 act as 5. -/
def cacheSets (s : State) : Nat := 64 * 2 ^ min 5 (s.fld 0x14 SCC.SCC_CTL.SIZE)

/-- The line number of a block, or of a brick of an object's value (R331). -/
def lineNo (obj lba : Nat) : Nat := if obj = 0 then lba / 256 else obj * 2 ^ 32 + lba / 256

/-- The set of a line. -/
def setOfLine (s : State) (nsid l : Nat) : Nat :=
  (bitsOf l 10 0 ^^^ bitsOf l 21 11 ^^^ bitsOf l 32 22 ^^^ nsid % 2048) % s.cacheSets

/-- A way. -/
def way (s : State) (w : Nat) : Line := Tab.get Line.zero s.buf.lines w

/-- Store a way. -/
def setWay (s : State) (w : Nat) (l : Line) : State := s.onBuf fun b => { b with lines := Tab.put Line.zero b.lines w l }

/-- The way that holds a line. -/
def findWay (s : State) (nsid l : Nat) : Option Nat :=
  let set := s.setOfLine nsid l
  ((List.range 16).map fun i => 16 * set + i).find? fun w =>
    let x := s.way w
    decide (x.valid ≠ 0 ∨ x.filling ≠ 0) && decide (x.nsid = nsid) && decide (x.line = l)

/-- The DRAM address of a brick of a way's line (R331). -/
def wayAddr (s : State) (w brick : Nat) : Nat :=
  (match s.rgnOwned 5 with | some r => s.rgnBase r | none => 0) + w * 2 ^ 20 + brick % 256 * 4096

/-- A brick's data in a way. -/
def wayBrick (s : State) (w brick : Nat) : Nat := ofLe (s.dramRead (s.wayAddr w brick) 4096)

/-- Put a brick's data in a way. -/
def putWayBrick (s : State) (w brick data : Nat) : State :=
  (s.dramWrite (s.wayAddr w brick) (leBytes 4096 data)).cleanWrite (s.wayAddr w brick) 4096

/-- One shift of the LFSR (R333). -/
def lfsrNext (v : Nat) : Nat :=
  let b := fun i => b2n (bitOf v i)
  (2 * v + (b 15 + b 13 + b 12 + b 10) % 2) % 65536

/-- A way that a victim choice may take. -/
def eligible (l : Line) : Bool := !l.evicting && decide (l.filling = 0)

/-- Evict a clean line at once: counted, with its unread prefetches (R336, R338). -/
def dropClean (s : State) (w : Nat) : State :=
  let l := s.way w
  ((s.bump 0x14 SCC.SCC_EVICT.CLEAN).bumpN 0x14 SCC.SCC_PF_CNT.UNUSED (ones16 l.unread)).setWay w Line.zero

/-- Allocate a way for a line (R333): an invalid way, or a victim. A dirty victim starts to be evicted, and the allocation
waits; so it does where no way may be taken. -/
def allocate (s : State) (nsid l : Nat) : Option Nat × State :=
  let set := s.setOfLine nsid l
  let ways := (List.range 16).map fun i => 16 * set + i
  let fresh := { Line.zero with nsid := nsid, line := l }
  match ways.find? (fun w => decide (s.way w = Line.zero)) with
  | some w => (some w, s.setWay w fresh)
  | none =>
    let v := s.fld 0x14 SCC.SCC_LFSR.LFSR
    match ((List.range 16).map fun i => 16 * set + (v % 16 + i) % 16).find? (fun w => eligible (s.way w)) with
    | none => (none, s)
    | some w =>
      let s1 := s.set 0x14 SCC.SCC_LFSR.LFSR (lfsrNext v)
      if (s1.way w).dirty = 0 then (some w, (s1.dropClean w).setWay w fresh)
      else (none, (s1.bump 0x14 SCC.SCC_EVICT.DIRTY).setWay w { s1.way w with evicting := true })

/-- The way of a line, allocated where it has none. -/
def wayFor (s : State) (nsid l : Nat) : Option Nat × State :=
  match s.findWay nsid l with
  | some w => (if (s.way w).evicting then none else some w, s)
  | none => s.allocate nsid l

/-- A dirty sub-block's bricks go into pallets: host bricks that wait for a row (R338). -/
def toPallets (s : State) (nsid obj lba : Nat) (data len order : Nat) (stream : Nat × Nat) : State :=
  let p := (Tab.get Ns.zero s.nvme.ns nsid).pool
  s.onMason fun m => { m with bricks := (m.bricks.filter fun b =>
    !(decide (b.nsid = nsid) && decide (b.obj = obj) && decide (b.lba = lba) && decide (b.course = noRef)))
      ++ [⟨nsid, obj, lba, data, len, order, stream, p, noRef, 0, noRef, 0⟩] }

/-- The write stream of a place (R246): a zone's, an object's, or the pool's general one. -/
def streamOf (s : State) (nsid obj lba : Nat) : Nat × Nat :=
  let n := Tab.get Ns.zero s.nvme.ns nsid
  if obj ≠ 0 then (nsid, obj) else if n.set = 2 then (nsid, 1 + lba / 2 ^ 16) else (0, 0)

/-- Copy one sub-block of a way into pallets and clear its dirty bit; a line with none left dirty is VALID. -/
def destageSub (s : State) (w sub : Nat) : State :=
  let l := s.way w
  let obj := l.line / 2 ^ 32
  let base := l.line % 2 ^ 32 * 256 + sub * 16
  let s1 := (List.range 16).foldl (fun (s : State) i =>
    s.toPallets l.nsid obj (base + i) (s.wayBrick w (sub * 16 + i)) 4096 l.since (s.streamOf l.nsid obj (base + i))) s
  s1.setWay w { l with dirty := bitClear l.dirty sub, copying := bitClear l.copying sub }

/-- Sub-blocks of a way that touch a run of bricks. -/
def subsTouched (lo n : Nat) : List Nat := (List.range 16).filter fun i => decide (lo < 16 * i + 16) && decide (16 * i < lo + n)

/-- A sub-block is no longer valid; a line with none valid is INVALID. -/
def dropSub (s : State) (w sub : Nat) : State :=
  let l := s.way w
  let l' := { l with valid := bitClear l.valid sub, dirty := bitClear l.dirty sub, unread := bitClear l.unread sub
                     copying := bitClear l.copying sub }
  s.setWay w (if l'.valid = 0 ∧ l'.filling = 0 then Line.zero else l')

/-- Every line of a namespace (none: of all) is invalidated, its dirty data discarded (R342). -/
def dropLines (s : State) (nsid : Option Nat) : State :=
  s.onBuf fun b => { b with lines := b.lines.filter fun kv => match nsid with | some n => decide (kv.2.nsid ≠ n) | none => false }

/-- The newest data of a place that has not reached the media: from the cache, or from a pallet (R335). -/
def newest (s : State) (nsid obj lba : Nat) : Option Nat :=
  match s.findWay nsid (lineNo obj lba) with
  | some w =>
    if bitOf (s.way w).valid (lba % 256 / 16) then some (s.wayBrick w lba)
    else (s.mason.bricks.reverse.find? fun b => decide (b.nsid = nsid) && decide (b.obj = obj) && decide (b.lba = lba)).map (·.data)
  | none => (s.mason.bricks.reverse.find? fun b => decide (b.nsid = nsid) && decide (b.obj = obj) && decide (b.lba = lba)).map (·.data)

/-! ### Owner actions (R328) -/

/-- What the owner of a region does about a line found uncorrectable. `brick` names, for a line of PALLET, the host brick
it holds, by its place among the bricks in pallets. -/
def ownerAction (s : State) (r line : Nat) (brick : Option Nat) : State :=
  let addr := line * 64
  let off := addr - s.rgnBase r
  let o := s.rgnOwner r
  if o = 2 ∨ o = 3 then
    s.onMason fun m => { m with poisoned := m.poisoned.filter (fun x => decide (x ≠ (o, off / 2 ^ 26))) ++ [(o, off / 2 ^ 26)] }
  else if o = 5 then
    if off ≥ s.rgnSize r - 2 ^ 23 then s.setPoison line 0
    else
      let w := off / 2 ^ 20
      let sub := off % 2 ^ 20 / 65536
      let l := s.way w
      if bitOf l.valid sub then
        if bitOf l.dirty sub then
          let first := l.line % 2 ^ 32 * 256 + sub * 16
          let obj := l.line / 2 ^ 32
          let e : UnrecEnt := if obj = 0 then ⟨l.nsid, 1, first, 16, 3, noRef, s.io.hst.hours⟩ else ⟨l.nsid, 2, obj, 1, 3, noRef, s.io.hst.hours⟩
          (((s.dropSub w sub).unrecAdd [e]).raise 0x14 5 0).breach 2
        else s.dropSub w sub
      else s
  else if o = 6 then
    match brick.bind fun i => s.mason.bricks[i]? with
    | some b =>
      if b.course = noRef then
        let e : UnrecEnt := if b.obj = 0 then ⟨b.nsid, 1, b.lba, 1, 4, noRef, s.io.hst.hours⟩ else ⟨b.nsid, 2, b.obj, 1, 4, noRef, s.io.hst.hours⟩
        ((s.onMason fun m => { m with bricks := m.bricks.erase b }).unrecAdd [e]).breach 2
      else s
    | none => s
  else if o = 7 then
    let u := off / 65536
    let rec_ := Tab.get Record.zero s.rc.store u
    if rec_ = Record.zero then s else (s.freeUnits u).reportRec .unretried rec_ 0
  else if o = 8 then
    match (List.range 128).find? fun a => decide (s.paramAddr a ≤ addr) && decide (addr < s.paramAddr a + 12288) with
    | some a =>
      let b := (addr - s.paramAddr a) / 256 * 256
      s.restoreBlock a (s.paramAddr a + b) (0x1000 + b)
    | none => s
  else s

/-- An uncorrectable finding (R324, R327, R328): the line is poisoned, counted and named, and its owner acts. -/
def uncorrectable (s : State) (r line source : Nat) (brick : Option Nat) : State :=
  let s1 := ((((s.setPoison line 255).bump (pgRgn r) MPS.RGN_UE.UE).set 0x13 MPS.ERR_INFO.REGION r).set
    0x13 MPS.ERR_INFO.SOURCE source).set 0x13 MPS.ERR_ADDR.LINE line
  (s1.raise 0x13 (if source = 2 then 3 else 1) r).ownerAction r line brick

/-- A correction (R324): counted; the line is written back later. -/
def corrected (s : State) (r line : Nat) : State :=
  ((s.bump (pgRgn r) MPS.RGN_CE.CE).raise 0x13 0 r).onBuf fun b => { b with fixes := b.fixes.filter (fun x => decide (x ≠ line)) ++ [line] }

end Sys2Proof.Machine.State
end

