-- ==== Sys2Proof/Machine/Buffer.lean ====
section
/-! DEFINITION. The commands of the buffer memory (R316-R330, R343) and of the Segment Cache (R331-R345). -/

namespace Sys2Proof.Machine

namespace State

/-! ### Regions -/

/-- Two spans overlap. -/
def overlaps (a n b m : Nat) : Bool := decide (a < b + m) && decide (b < a + n)

/-- Why setting VALID is refused (R317). -/
def rgnBad (s : State) (r : Nat) : Bool :=
  let raw := fun x => s.fld (pgRgn x) MPS.RGN_RAW.RAW_BASE
  decide (s.rgnSize r = 0) || decide (raw r + s.rgnRaw r > 65536) ||
    (List.range 16).any fun x => decide (x ≠ r) && s.rgnValid x &&
      (overlaps (s.rgnBase r) (s.rgnSize r) (s.rgnBase x) (s.rgnSize x) || overlaps (raw r) (s.rgnRaw r) (raw x) (s.rgnRaw x))

/-- A region's span reads as zero, with nothing poisoned (R318). -/
def wipeSpan (s : State) (r : Nat) : State :=
  let inside := fun (a : Nat) => decide (s.rgnBase r ≤ a) && decide (a < s.rgnBase r + s.rgnSize r)
  s.onBuf fun b => { b with
    dram := Tab.keep (fun a => !inside a) b.dram
    poison := Tab.keep (fun l => !inside (l * 64)) b.poison
    fixes := b.fixes.filter fun l => !inside (l * 64) }

/-- A refused change of a descriptor. -/
def rgnRefuse (s : State) (r : Nat) : State := s.setB (pgRgn r) MPS.RGN_STAT.REFUSED true

/-- VALID is set: refused, or the wipe starts. -/
def rgnValidate (s : State) (r : Nat) : State :=
  if s.rgnBad r then (s.rgnRefuse r).raise 0x13 6 r
  else (((s.setB (pgRgn r) MPS.RGN_CFG.VALID true).set (pgRgn r) MPS.RGN_STAT.RAW_MIB (s.rgnRaw r)).setB
    (pgRgn r) MPS.RGN_STAT.WIPING true).wipeSpan r

/-- A line's bytes count in DMC_BYTES. -/
def moved (s : State) (r n : Nat) : State := s.addTo 0x12 DMC.DMC_BYTES.BYTES (Config.rawBytes (s.rgnCode r) n)

/-- A line written since its correction needs no write-back (R324). -/
def unfix (s : State) (line : Nat) : State := s.onBuf fun b => { b with fixes := b.fixes.filter fun x => decide (x ≠ line) }

/-- A demand read of a line with its outcome: 0 clean, 1 corrected, 2 uncorrectable (R322, R324, R329). -/
def readLine (s : State) (r line outcome : Nat) (brick : Option Nat) : State :=
  let s1 := s.moved r 64
  if s1.rgnCode r = 0 then s1
  else if s1.poisonedLine line then s1.raise 0x13 7 r
  else if outcome = 1 ∨ s1.injects 0x13 0 then s1.corrected r line
  else if outcome ≥ 2 ∨ s1.injects 0x13 1 then (s1.uncorrectable r line 0 brick).raise 0x13 7 r
  else s1

/-- Write bytes within one line by read-modify-write (R325). -/
def rmwLine (s : State) (r addr : Nat) (bytes : List Nat) (outcome : Nat) (brick : Option Nat) : State :=
  let line := addr / 64
  let s1 := (((s.moved r 64).bump 0x12 DMC.DMC_RMW.COUNT).unfix line)
  let put := fun (x : State) => x.dramWrite addr bytes
  let spoil := fun (x : State) => ((x.setPoison line 255).bump (pgRgn r) MPS.RGN_UE.POISONED).raise 0x13 2 r
  if s1.poisonedLine line then spoil (put s1)
  else if outcome ≥ 2 then spoil (put (s1.uncorrectable r line 1 brick))
  else if outcome = 1 then put ((s1.bump (pgRgn r) MPS.RGN_CE.CE).raise 0x13 0 r)
  else put s1

/-- The unit a region's code checks: a line (STRONG) or a word (LIGHT). -/
def codeUnit (s : State) (r : Nat) : Nat := if s.rgnCode r = 2 then 64 else if s.rgnCode r = 1 then 8 else 1

/-- Bytes from an address on stay in one line and in a region. -/
def inLine (addr n : Nat) : Bool := decide (0 < n) && decide (addr % 64 + n ≤ 64)

/-- A write of any bytes within one line: whole units are written, the rest is read first (R325). -/
def writeLine (s : State) (r addr : Nat) (bytes : List Nat) : State :=
  let u := s.codeUnit r
  if addr % u = 0 ∧ bytes.length % u = 0 then
    (((s.moved r bytes.length).unfix (addr / 64)).dramWrite addr bytes).cleanWrite addr bytes.length
  else s.rmwLine r addr bytes 0 none

end State

open State (pgRgn inLine subsTouched lineNo)

/-- REGION_VALID_SET (R317, R318): VALID set by an accessor, where it was clear. -/
def execRegionValidSet (acc : Accessor) (r : Nat) (s : State) : Out :=
  okIf (decide (r < 16) && !s.rgnValid r) s (s.rwl acc 0x13 (s.rgnValidate r))

/-- REGION_WIPE_DONE (R318). -/
def execRegionWipeDone (r : Nat) (s : State) : Out :=
  okIf (s.rgnWiping r) s (s.setB (pgRgn r) MPS.RGN_STAT.WIPING false)

/-- REGION_VALID_CLEAR (R318): at any time for CAPTURE, else only while MPS is disabled. -/
def execRegionValidClear (acc : Accessor) (r : Nat) (s : State) : Out :=
  okIf (decide (r < 16) && s.rgnValid r) s (s.rwl acc 0x13
    (if s.rgnOwner r = 10 ∨ !s.enabled 0x13 then
      ((s.setB (pgRgn r) MPS.RGN_CFG.VALID false).setB (pgRgn r) MPS.RGN_STAT.WIPING false)
    else s.rgnRefuse r))

/-- DRAM_READ (R317, R324, R328, R329): one line, read by an agent. In no region it returns zeros. A region being wiped
makes it wait. -/
def execDramRead (addr outcome : Nat) (brick : Option Nat) (s : State) : Out :=
  match s.rgnOf addr with
  | none => okIf true s (s.raise 0x13 5 0)
  | some r => okIf (!s.rgnWiping r) s (s.readLine r (addr / 64) outcome brick)

/-- CORRECTED_WRITE_BACK (R324): unless the line has been written in the meantime. -/
def execCorrectedWriteBack (line : Nat) (s : State) : Out :=
  okIf (s.buf.fixes.contains line) s (s.unfix line)

/-- DRAM_PARTIAL_WRITE (R325). -/
def execDramPartialWrite (addr : Nat) (bytes : List Nat) (outcome : Nat) (brick : Option Nat) (s : State) : Out :=
  match s.rgnOf addr with
  | none => okIf true s (s.raise 0x13 5 0)
  | some r =>
    let u := s.codeUnit r
    okIf (inLine addr bytes.length && !s.rgnWiping r && !(decide (addr % u = 0) && decide (bytes.length % u = 0))) s
      (s.rmwLine r addr bytes outcome brick)

/-- DRAM_FULL_WRITE (R323): whole code units within one line. -/
def execDramFullWrite (addr : Nat) (bytes : List Nat) (s : State) : Out :=
  match s.rgnOf addr with
  | none => okIf true s (s.raise 0x13 5 0)
  | some r =>
    let u := s.codeUnit r
    okIf (inLine addr bytes.length && !s.rgnWiping r && decide (addr % u = 0) && decide (bytes.length % u = 0)) s
      (s.writeLine r addr bytes)

namespace State

/-- A region put in its place by logical base. -/
def rgnInsert (s : State) (r : Nat) : List Nat → List Nat
  | [] => [r]
  | x :: xs => if s.rgnBase r ≤ s.rgnBase x then r :: x :: xs else x :: s.rgnInsert r xs

/-- The regions whose lines the scrubber reads in a lap: every valid STRONG and LIGHT region, by logical address. -/
def scrubRgns (s : State) : List Nat :=
  let rs := (List.range 16).filter fun r => s.rgnValid r && decide (s.rgnCode r ≠ 0)
  rs.foldr s.rgnInsert []

/-- The line at a place in the lap, with its region. -/
def scrubAt (s : State) : List Nat → Nat → Option (Nat × Nat)
  | [], _ => none
  | r :: rs, n =>
    let len := s.rgnSize r / 64
    if n < len then some (r, s.rgnBase r / 64 + n) else s.scrubAt rs (n - len)

/-- Lines in a lap. -/
def lapLines (s : State) : Nat := s.scrubRgns.foldl (fun n r => n + s.rgnSize r / 64) 0

/-- The scrubber moves on; a lap that ends is counted, with its minutes. -/
def scrubNext (s : State) (lapMin : Nat) : State :=
  let n := s.buf.scrubbed + 1
  if n ≥ s.lapLines then
    ((((s.onBuf fun b => { b with scrubbed := 0 }).bump 0x13 MPS.SCRUB_LAPS.LAPS).set 0x13 MPS.SCRUB_STAT.LAST_LAP (min lapMin 0xFFFF)).setB
      0x13 MPS.SCRUB_STAT.LATE false).set 0x13 MPS.SCRUB_STAT.PROGRESS 0
  else (s.onBuf fun b => { b with scrubbed := n }).set 0x13 MPS.SCRUB_STAT.PROGRESS (100 * n / max 1 s.lapLines)

end State

/-- SCRUB_LINE (R327): the next line of the lap, with its outcome; `late` says that the lap has fallen behind its target,
and `lapMin` how many minutes of scrubbing the lap has taken. -/
def execScrubLine (outcome : Nat) (late : Bool) (lapMin : Nat) (brick : Option Nat) (s : State) : Out :=
  match s.scrubAt s.scrubRgns s.buf.scrubbed with
  | none => ok s
  | some rl =>
    let on := s.enabled 0x13 && s.flag 0x13 MPS.SCRUB_CFG.EN && !s.flag 0x12 DMC.DMC_STAT.SELF_REFRESH && !s.rgnWiping rl.1
    let s1 := s.moved rl.1 64
    let s2 :=
      if s1.poisonedLine rl.2 then s1
      else if outcome = 1 ∨ s1.injects 0x13 0 then (s1.corrected rl.1 rl.2).unfix rl.2
      else if outcome ≥ 2 ∨ s1.injects 0x13 3 then s1.uncorrectable rl.1 rl.2 2 brick
      else s1
    let s3 := if late && !s2.flag 0x13 MPS.SCRUB_STAT.LATE then (s2.setB 0x13 MPS.SCRUB_STAT.LATE true).raise 0x13 4 0 else s2
    okIf on s (s3.scrubNext lapMin)

/-! ### The DRAM view (R330) -/

namespace State

/-- The address DV_DATA works at. -/
def dvAddr (s : State) : Nat := s.fld 0x13 MPS.DV_ADDR.ADDR * 4

/-- The access moves on by 4. -/
def dvNext (s : State) : State := s.set 0x13 MPS.DV_ADDR.ADDR (s.fld 0x13 MPS.DV_ADDR.ADDR + 1)

/-- The region through which an accessor's DV_DATA access is performed. -/
def dvRgn (s : State) (acc : Accessor) : Option Nat := s.viewOf s.dvAddr acc.isPf1

end State

/-- DV_DATA_READ (R330). -/
def execDvDataRead (acc : Accessor) (s : State) : Out :=
  match s.dvRgn acc with
  | none => okIf true s ((s.lockedWrite 0x13).gave acc 0).dvNext
  | some r => okIf true s ((s.readLine r (s.dvAddr / 64) 0 none).gave acc (ofLe (s.dramRead s.dvAddr 4))).dvNext

/-- DV_DATA_WRITE (R330, R325). -/
def execDvDataWrite (acc : Accessor) (value : Word) (s : State) : Out :=
  match s.dvRgn acc with
  | none => okIf true s (s.lockedWrite 0x13).dvNext
  | some r => okIf true s (s.writeLine r s.dvAddr (leBytes 4 value.toNat)).dvNext

/-! ### Destage (R338) -/

namespace State

/-- Start the copy of a dirty sub-block into pallets. -/
def startCopy (s : State) (w sub : Nat) : State := s.setWay w { s.way w with copying := bitSet (s.way w).copying sub }

/-- A dirty sub-block whose copy has not started. -/
def copyable (s : State) (w sub : Nat) : Bool :=
  decide (sub < 16) && bitOf (s.way w).dirty sub && !bitOf (s.way w).copying sub

/-- The dirty total exceeds START per cent of the ceiling; above 100 acts as 100. -/
def aboveStart (s : State) : Bool := decide (s.dirtyTotal * 100 > s.ceiling * min 100 (s.fld 0x14 SCC.SCC_DESTAGE.START))

/-- A Flush, a write with FUA or in write-through, or a shutdown notification waits for data to leave the cache. -/
def flushWaits (s : State) : Bool :=
  (s.nvme.flights.any fun f => decide (f.kind = .flush) || f.fua || !s.covered f.cmd.ctl) || s.nvme.ctrls.any fun kv => decide (kv.2.shst = 1)

/-- The line waiting longest: no other way has an older dirty sub-block. -/
def oldestDirty (s : State) (w : Nat) : Bool :=
  s.buf.lines.all fun kv => decide (kv.2.dirty = 0) || decide ((s.way w).since ≤ kv.2.since)

end State

/-- DESTAGE_START (R338): oldest first, above START, in a drain, for an eviction, and for Flush and FUA. -/
def execDestageStart (w sub : Nat) (s : State) : Out :=
  okIf (s.copyable w sub && ((s.way w).evicting || s.flushWaits || (s.oldestDirty w && (s.aboveStart || decide (s.cacheState = 2))))) s
    (s.startCopy w sub)

/-- SUB_BLOCK_AGE_EXPIRY (R338): AGE 0 sets no age limit. -/
def execSubBlockAgeExpiry (w sub : Nat) (s : State) : Out :=
  okIf (s.copyable w sub && decide (s.fld 0x14 SCC.SCC_DESTAGE.AGE ≠ 0)) s (s.startCopy w sub)

/-- DESTAGE_COPY_DONE (R338, R339). -/
def execDestageCopyDone (w sub : Nat) (s : State) : Out :=
  okIf (decide (sub < 16) && bitOf (s.way w).copying sub) s (s.destageSub w sub).syncCache

/-- EVICTION_DONE (R338): every dirty sub-block has been copied. -/
def execEvictionDone (w : Nat) (s : State) : Out :=
  let l := s.way w
  okIf (l.evicting && decide (l.dirty = 0)) s
    ((s.bumpN 0x14 SCC.SCC_PF_CNT.UNUSED (State.ones16 l.unread)).setWay w Line.zero)

/-- SUB_BLOCK_FILL_DONE (R335): the 65,536 data bytes of a FILLING sub-block arrive, 16 bricks of 4,096. -/
def execSubBlockFillDone (w sub : Nat) (data : List Nat) (s : State) : Out :=
  let l := s.way w
  let s1 := (data.take 16).zipIdx.foldl (fun (s : State) di => s.putWayBrick w (16 * sub + di.2) di.1) s
  okIf (decide (sub < 16) && bitOf l.filling sub && decide (data.length = 16)) s
    (s1.setWay w { l with filling := bitClear l.filling sub, valid := bitSet l.valid sub })

/-- CACHE_DISABLE_WRITE (R339, R345): SCC_CTL.DISABLE. -/
def execCacheDisableWrite (_ : Accessor) (value : Bool) (s : State) : Out :=
  okIf true s (s.setB 0x14 SCC.SCC_CTL.DISABLE value).syncCache

/-- TEMP_DERATE (R343): package p reports refresh-rate code `code`. -/
def execTempDerate (p code : Nat) (s : State) : Out :=
  okIf (decide (p < 4)) s
    ((s.set 0x12 DMC.DMC_TREF.TREF0_3 (s.fld 0x12 DMC.DMC_TREF.TREF0_3 - (bitsOf (s.fld 0x12 DMC.DMC_TREF.TREF0_3) (8 * p + 7) (8 * p)) * 2 ^ (8 * p)
      + code % 256 * 2 ^ (8 * p))).raise 0x12 3 p)

end Sys2Proof.Machine
end

