-- ==== Sys2Proof/Machine/FifoOps.lean ====
section
/-! DEFINITION. The operations over the hardware FIFOs: widths and idle items (R367, R368), a post in each mode (R370, R371),
commit, rewind (R371, R372), and what a hardware reader does with an item. -/

namespace Sys2Proof.Machine

/-- GF0-GF15. -/
def isGf (n : Nat) : Bool := decide (0xC0 ≤ n) && decide (n < 0xD0)

/-- The 32-bit words of an item of a FIFO whose width is fixed (R367). -/
def fixedWords (n : Nat) : Nat :=
  if n < 0x88 then 4 else if n < 0x98 then 2 else if n < 0xA0 then 4 else if n < 0xA8 then 2 else if n = 0xA8 then 4
  else if n < 0xAB then 1 else if n < 0xAD then 2 else if n < 0xAF then 1 else 0

/-- The FIFOs that software may pop, GF FIFOs apart (R369). -/
def softPops (n : Nat) : Bool :=
  (decide (0x98 ≤ n) && decide (n < 0xA0)) || (decide (0xA8 ≤ n) && decide (n < 0xAF))

/-- A writer of the FIF page: its agent code, CPX's cores apart (R369, R376). -/
def writerOf (acc : Accessor) (core : Nat) : Nat := agentOf acc + (if acc = .cpx then 256 * (core % 8) else 0)

namespace State

open Io (fifoPg fifoDepth fifoUsed)

/-- The 32-bit words of an item. -/
def fifoWords (s : State) (n : Nat) : Nat :=
  if isGf n then (match s.fld (fifoPg n) FIF.FIFO_CFG.WIDTH with | 0 => 1 | 1 => 2 | _ => 4) else fixedWords n

/-- MODE of a FIFO: 0 ITEM, 1 LENGTH, 2 COMMIT; 3 acts as 0 (R376). -/
def fifoMode (s : State) (n : Nat) : Nat := if isGf n then s.fld (fifoPg n) FIF.FIFO_CFG.MODE % 3 else 0

/-- The idle item (R368). -/
def idleItem (s : State) (n : Nat) : Nat :=
  if isGf n then ofLe ((List.range (s.fifoWords n)).flatMap fun _ => leBytes 4 (s.fld (fifoPg n) FIF.FIFO_IDLE.IDLE))
  else 2 ^ (32 * s.fifoWords n) - 1

/-- Count a refusal and raise its event: FULL, CLAIMED or OVERSIZE. -/
def refuseItem (s : State) (n bit : Nat) : State := (s.bump (fifoPg n) FIF.FIFO_CNT.REFUSED).raise 0xC bit 0

/-- Change a FIFO's contents. -/
def onFifo (s : State) (n : Nat) (f : Fifo → Fifo) : State := s.onIo fun i => i.setFifo n (f (i.fifo n))

/-- The held items become readable together, and the claim ends (R370, R371). -/
def releaseItems (s : State) (n : Nat) : State :=
  s.onFifo n fun f => { f with items := f.items ++ f.held, held := [], reserved := 0, missing := 0, claimer := none }

/-- The held items and the reserved stages are discarded, and the claim ends (R371, R372). -/
def rewindItems (s : State) (n : Nat) : State :=
  s.onFifo n fun f => { f with held := [], reserved := 0, missing := 0, claimer := none }

/-- An item of a packet that its writer has opened (R370). -/
def packetItem (s : State) (n item : Nat) : State :=
  let s1 := s.onFifo n fun f => { f with held := f.held ++ [item], reserved := f.reserved - 1, missing := f.missing - 1 }
  if (s1.io.fifo n).missing = 0 then s1.releaseItems n else s1

/-- A length word opens a packet (R370). -/
def openPacket (s : State) (n writer item : Nat) : Bool × State :=
  let len := item % 256
  if len + 1 > fifoDepth n then (false, s.refuseItem n 4)
  else if fifoUsed (s.io.fifo n) + len + 1 > fifoDepth n then (false, s.refuseItem n 0)
  else
    let s1 := s.onFifo n fun f => { f with held := [item], reserved := len, missing := len, claimer := some writer }
    (true, if len = 0 then s1.releaseItems n else s1)

/-- A post to a GF FIFO (R368, R370, R371). -/
def gfPost (s : State) (n writer item : Nat) : Bool × State :=
  let f := s.io.fifo n
  if !s.enabled 0xC then (false, s.bump (fifoPg n) FIF.FIFO_CNT.REFUSED)
  else if item = s.idleItem n then (false, s.raise 0xC 2 0)
  else if f.claimer.isSome && decide (f.claimer ≠ some writer) then (false, s.refuseItem n 3)
  else
    match s.fifoMode n with
    | 0 => if fifoUsed f < fifoDepth n then (true, s.onIo fun i => i.fifoPush n item) else (false, s.refuseItem n 0)
    | 1 => if f.claimer.isSome then (true, s.packetItem n item) else s.openPacket n writer item
    | _ =>
      if fifoUsed f < fifoDepth n then
        (true, s.onFifo n fun f => { f with held := f.held ++ [item], claimer := some writer })
      else (false, s.refuseItem n 0)

/-- COMMIT by a writer: its held items become readable (R371). -/
def commitItems (s : State) (n writer : Nat) : State :=
  if s.fifoMode n = 2 ∧ (s.io.fifo n).claimer = some writer then s.releaseItems n else s

/-- REWIND by a writer: its held items are discarded (R371). -/
def rewindBy (s : State) (n writer : Nat) : State :=
  if s.fifoMode n = 2 ∧ (s.io.fifo n).claimer = some writer then s.rewindItems n else s

/-- A writer that stops with claims has them rewound, with REWOUND (R372). -/
def rewindAll (s : State) (writer : Nat) : State :=
  (s.io.fifos.filter fun kv => decide (kv.2.claimer = some writer)).foldl
    (fun (s : State) kv => (s.rewindItems kv.1).raise 0xC 1 0) s

/-- A post to a FIFO whose items a hardware agent or a processor reads. RETRY_POST, SEEK and VOID items pass to their
readers at once; a full job FIFO shows in FSQc too (R137). -/
def fixedPost (s : State) (n item : Nat) : Bool × State :=
  let ok := s.io.fifoRoom n
  let pass := s.onIo fun i => i.fifoPass n item
  if !ok then
    let s1 := s.post n item
    (false, if n < 0x80 then s1.raise (pgFsq (clOf n)) 6 n else s1)
  else if n < 0x80 then (true, (s.post n item).enqueue n 0)
  else if n < 0x88 then
    let (u, urgent) := Config.retryItem item
    let r := s.stored u
    (decide ((s.pool (n - 0x80)).queue.length < 32), if (Tab.find? s.rc.store u).isSome then pass.postRetry (n - 0x80) ⟨r.tag, u, r.act, urgent, r.level, 0, false⟩ else pass)
  else if n < 0x98 then
    let (k, track) := Config.seekItem item
    (true, pass.seekRequest (8 * (n - 0x88) + k % 8) (track % 2 ^ 24))
  else if 0xA0 ≤ n ∧ n < 0xA8 then
    let (tile, slot) := Config.voidOf item
    (true, pass.recordVoid tile slot)
  else (true, s.post n item)

/-- A post to any FIFO; a reserved number takes nothing (R367). -/
def postItem (s : State) (n writer item : Nat) : Bool × State :=
  if fifoDepth n = 0 then (false, s)
  else
    let v := item % 2 ^ (32 * s.fifoWords n)
    if isGf n then s.gfPost n writer v else s.fixedPost n v

end State

end Sys2Proof.Machine
end

