-- ==== Sys2Proof/Machine/Fifo.lean ====
section
/-! DEFINITION. The commands of the FIFOs and of the exchange between CPX and MGP (R366-R373). -/

namespace Sys2Proof.Machine

open Io (fifoPg fifoDepth)

/-- The FIFO that FIFO_SEL shows. -/
def State.fifoSel (s : State) : Nat := s.fld 0xC FIF.FIFO_SEL.FIFO

/-- FIFO_POST (R368): a hardware agent posts; with COMMIT the items it holds become readable. Hardware agents are the codes
other than CPX's, MGP's and PF1's. -/
def execFifoPost (n agent item : Nat) (commit : Bool) (s : State) : Out :=
  okIf ((accOf agent).isNone && decide (agent < 256)) s
    (let s1 := (s.postItem n agent item).2
     if commit then s1.commitItems n agent else s1)

/-- Whether an accessor may post to a FIFO, and command a GF FIFO, through the FIF page (R369). -/
def State.fifoMay (s : State) (acc : Accessor) (n : Nat) : Bool :=
  if isGf n then !acc.isPf1 || s.flag (fifoPg n) FIF.FIFO_CFG.PF1 else decide (n ≤ 0xAE) && decide (fifoDepth n ≠ 0) && !acc.isPf1

/-- FIFO_DATA_WRITE (R369): word `i` of an item of the selected FIFO; the item's last word posts it. -/
def execFifoDataWrite (acc : Accessor) (core i : Nat) (value : Word) (s : State) : Out :=
  let n := s.fifoSel
  let k := s.fifoWords n
  okIf (decide (i < 4)) s <|
    if !s.fifoMay acc n then s.lockedWrite 0xC
    else if i ≥ k then s
    else
      let slot := writerOf acc core * 1024 + n
      let ws := (List.range 4).map fun j => if j = i then value.toNat else (Tab.get [] s.io.fifoBufs slot).getD j 0
      let s1 := s.onIo fun io => { io with fifoBufs := Tab.put [] io.fifoBufs slot ws }
      if i + 1 = k then (s1.postItem n (writerOf acc core) (ofLe ((ws.take k).flatMap (leBytes 4)))).2 else s1

/-- Whether an accessor's read of FIFO_DATA0 pops (R369). -/
def State.mayPop (s : State) (acc : Accessor) (n : Nat) : Bool :=
  if isGf n then !acc.isPf1 || s.flag (fifoPg n) FIF.FIFO_CFG.PF1 else softPops n && !acc.isPf1

/-- FIFO_POP (R368, R369): a read of FIFO_DATA0 gives the head's first word and latches the others for the reader; where
nothing is popped it gives the idle item. -/
def execFifoPop (acc : Accessor) (core : Nat) (s : State) : Out :=
  let n := s.fifoSel
  let give := fun (s : State) (x : Nat) =>
    let at_ := (acc.num + 4 * (core % 8)) * 2 ^ 20 + key 0xC 0x050
    let rest := [x / 2 ^ 32 % 2 ^ 32, x / 2 ^ 64 % 2 ^ 32, x / 2 ^ 96]
    (s.onIo fun i => { i with wordLatches := Tab.put [] i.wordLatches at_ rest }).gave acc (x % 2 ^ 32)
  if s.enabled 0xC && s.mayPop acc n then
    match (s.io.fifo n).items with
    | [] => okIf true s (give (s.bump (fifoPg n) FIF.FIFO_CNT.EMPTY_READS) (s.idleItem n))
    | x :: xs => okIf true s (give (s.onFifo n fun f => { f with items := xs }) x)
  else okIf true s (give s (s.idleItem n))

/-- FIFO_COMMIT (R371). -/
def execFifoCommit (acc : Accessor) (core : Nat) (s : State) : Out :=
  okIf true s (if s.fifoMay acc s.fifoSel then s.commitItems s.fifoSel (writerOf acc core) else s.lockedWrite 0xC)

/-- FIFO_REWIND (R371). -/
def execFifoRewind (acc : Accessor) (core : Nat) (s : State) : Out :=
  okIf true s (if s.fifoMay acc s.fifoSel then s.rewindBy s.fifoSel (writerOf acc core) else s.lockedWrite 0xC)

/-- CLAIM_TIMEOUT (R372): a claim not ended within CLAIM_TO µs. -/
def execClaimTimeout (n : Nat) (s : State) : Out :=
  okIf (s.io.fifo n).claimer.isSome s ((s.rewindItems n).raise 0xC 1 0)

/-- A doorbell: posted to the receiver's MBX FIFO, with the slot noted as held by the receiver, or refused. -/
def State.doorbell (s : State) (fifo : Nat) (cnt : RF) (slot : Nat) : State :=
  let (took, s1) := s.postItem fifo (if fifo = 0xAD then 1 else 2) (slot % 16)
  if took then (s1.bump 0xB cnt).onHod fun h => { h with exchanges := h.exchanges.filter (fun x => decide (x ≠ slot % 16)) ++ [slot % 16] }
  else s1.raise 0xB 0 0

/-- MBX_C2M_DOORBELL (R373): CPX only; ignored from MGP; from PF1 it sets LOCKED_WRITE. -/
def execMbxC2mDoorbell (acc : Accessor) (slot : Nat) (s : State) : Out :=
  okIf true s (if acc.isPf1 then s.lockedWrite 0xB else if acc = .cpx then s.doorbell 0xAD MBX.MBX_CNT.C2M slot else s)

/-- MBX_M2C_DOORBELL (R373): MGP only; ignored from CPX; from PF1 it sets LOCKED_WRITE. -/
def execMbxM2cDoorbell (acc : Accessor) (slot : Nat) (s : State) : Out :=
  okIf true s (if acc.isPf1 then s.lockedWrite 0xB else if acc = .mgp then s.doorbell 0xAE MBX.MBX_CNT.M2C slot else s)

/-- EXCHANGE_LATE (R373): the receiver has held a slot for more than 1 s. -/
def execExchangeLate (slot : Nat) (s : State) : Out :=
  okIf (s.hod.exchanges.contains slot) s (s.raise 0xB 1 0)

end Sys2Proof.Machine
end

