-- ==== Sys2Proof/Machine/HodOps.lean ====
section
/-! DEFINITION. The operations of Hod: instructions and their fetch (R356-R358), the checks of every access (R354, R362,
R363), domains (R364), the moves in their byte order (R359, R395), faults and notices (R360, R363). -/

namespace Sys2Proof.Machine

/-- A Hod channel's register at its place for channel n (R375). -/
def chanReg (n : Nat) (f : RF) : RF := f.at (0x20 * n)

/-- The agent code of a Hod channel. -/
def hodAgent (n : Nat) : Nat := 0x40 + n

/-- A signed 32-bit value. -/
def sgn32 (v : Nat) : Int := (BitVec.ofNat 32 v).toInt

/-- The fields of an instruction's 32 bytes (R357). -/
def hodParse (bs : List Nat) : HodI :=
  let w := fun (k o : Nat) => ofLe ((bs.drop o).take k)
  ⟨w 1 0, w 1 1 % 16, w 1 1 / 16, w 1 2 % 128, w 1 3 % 128, w 1 4, w 1 5, w 2 6, w 8 8, w 8 16, w 4 24, w 4 28⟩

/-- The domains in the order of DOM_BUSY (R374): AON, MGP, CPX, HIF, NOC, MEM, SVE, CL0-CL7. The domain of a space. -/
def spaceDom (sp : Nat) : Nat := if sp = 0 then 5 else if sp = 1 then 4 else 3

/-- The domains an instruction touches, its fetch apart (R364). -/
def hodTouch (i : HodI) : List Nat :=
  if i.op = 1 then spaceDom i.spA :: spaceDom i.spB :: (if bitOf i.flags 2 then [7 + bitsOf i.flags 5 3] else [])
  else if i.op = 2 then [spaceDom i.spB]
  else if i.op = 3 then [spaceDom i.spA, spaceDom i.spB]
  else if i.op = 4 then (if i.arg8 = 1 then [spaceDom i.spA] else [])
  else if i.op = 5 then [spaceDom i.spA]
  else []

/-- How far a data instruction has come: the state, the bytes done, and the fault that has stopped it (cause, address). -/
structure HodRun where
  s : State
  done : Nat
  stop : Option (Nat × Nat)

namespace State

/-- A channel's field. -/
def hfld (s : State) (n : Nat) (f : RF) : Nat := s.fld 0x1B (chanReg n f)
/-- Set a channel's field. -/
def hset (s : State) (n : Nat) (f : RF) (v : Nat) : State := s.set 0x1B (chanReg n f) v
/-- CH_STAT.STATE: 0 IDLE, 1 RUNNING, 2 WAITING, 3 BLOCKED, 4 ERROR. -/
def hodSt (s : State) (n : Nat) : Nat := s.hfld n HOD.CH_STAT.STATE
/-- The space a channel's program lies in. -/
def pcSpace (s : State) (n : Nat) : Nat := s.hfld n HOD.CH_PC.SPACE
/-- The address of a channel's next instruction. -/
def pcAddr (s : State) (n : Nat) : Nat := s.hfld n HOD.CH_PC.ADDR * 32
/-- CH_PC moves to another instruction of the program's space. -/
def setPc (s : State) (n addr : Nat) : State := s.hset n HOD.CH_PC.ADDR (addr / 32)
/-- The instruction is done: on to the next. -/
def hodNext (s : State) (n : Nat) : State := s.setPc n (s.pcAddr n + 32)
/-- The instruction at CH_PC, whatever may be said against fetching it. -/
def hodAt (s : State) (n : Nat) : HodI := hodParse (s.memRead (s.pcSpace n) (s.pcAddr n) 32)

/-- Whether a domain's sleep is in effect or has been agreed, or the part has no such cluster (R25, R364). -/
def domAsleep (s : State) (d : Nat) : Bool :=
  s.pwr.asleep.contains d || (decide (7 ≤ d) && !clOk s.part (d - 7))
    || s.sys.lostClusters.any fun c => decide (d = 7 + c)

/-- The domains that a channel touches with the instruction it is in or about to begin. -/
def hodDomains (s : State) (n : Nat) : List Nat := spaceDom (s.pcSpace n) :: hodTouch (s.hodAt n)

/-- A channel that is inside an instruction. -/
def hodInside (s : State) (n : Nat) : Bool := decide (s.hodSt n = 1) || decide (s.hodSt n = 2)

/-- Whether Hod is busy with a domain (R364): some channel inside an instruction touches it; NOC while any channel is
RUNNING, WAITING or BLOCKED. -/
def hodBusy (s : State) (d : Nat) : Bool :=
  (List.range 32).any fun n =>
    (s.hodInside n && (s.hodDomains n).contains d) || (decide (d = 4) && decide (s.hodSt n ∈ [1, 2, 3]))

/-- CH_ACTIVE and DOM_BUSY show the channels. -/
def syncHod (s : State) : State :=
  let mask := fun (k : Nat) (f : Nat → Bool) => (List.range k).foldl (fun m i => bitPut m i (f i)) 0
  (s.set 0x1B HOD.CH_ACTIVE.ACTIVE (mask 32 fun n => decide (s.hodSt n ∈ [1, 2, 3]))).set
    0x1B HOD.DOM_BUSY.DOM (mask 15 fun d => s.hodBusy d)

/-- Set a channel's state. -/
def toHod (s : State) (n st : Nat) : State := s.hset n HOD.CH_STAT.STATE st

/-- Set a channel's bit in a pending register and raise the event. -/
def hodPend (s : State) (n : Nat) (f : RF) (ev : Nat) : State :=
  (s.set 0x1B f (bitSet (s.fld 0x1B f) n)).raise 0x1B ev n

/-- A channel stops: its claims are rewound, and what it held of an instruction is gone (R365, R372). -/
def hodLeave (s : State) (n : Nat) : State :=
  (s.rewindAll (hodAgent n)).onChan n fun c => { c with stride := none, blocked := false, wait := none, woken := false }

/-- A fault (R363): ERROR with its cause and the address concerned, in Hod form. -/
def hodFault (s : State) (n cause addr : Nat) : State :=
  let s1 := (((s.hodLeave n).toHod n 4).hset n HOD.CH_STAT.CAUSE cause).hset n HOD.CH_FAULT.ADDR addr
  let s2 := if cause = 6 then s1.raise 0x1B 4 n else if cause = 9 then s1.raise 0x1B 5 n
    else if cause = 3 then s1.raise 0x1B 7 n else s1
  s2.hodPend n HOD.ERR_PEND.CH 3

/-! ### Accesses -/

/-- An address in Hod's form (R363). -/
def hodAddr (space addr : Nat) : Nat := space * 2 ^ 60 + addr % 2 ^ 60

/-- Why a byte may not be accessed (R358, R362, R363): 0 none, 1 a space that does not exist, 2 no such address, 4 the host
does not answer, 10 outside the channel's grant. -/
def hodBar (s : State) (n space addr func : Nat) : Nat :=
  if space > 3 ∨ (space = 3 ∧ !s.flag 0x10 PCX.PCX_MODE.BIF) ∨ (space ≥ 2 ∧ func > 65) then 1
  else match (s.chan n).by1 with
    | some p =>
      if space = 0 then (if (s.viewOf addr true).isSome then 0 else 10)
      else if space = 1 then 10
      else if func = 65 ∧ space = 2 + p then 0 else 10
    | none =>
      if space = 0 then (if (s.rgnOf addr).isSome then 0 else 2)
      else if space = 1 then (if addr < sramEnd then 0 else 2)
      else if s.flag 0x10 (if space = 2 then PCX.P0_LINK.DL_UP else PCX.P1_LINK.DL_UP) then 0 else 4

/-- Why a byte may not be read: as above, or 3 where its line is poisoned. -/
def hodRead? (s : State) (n space addr func : Nat) : Nat :=
  let c := s.hodBar n space addr func
  if c ≠ 0 then c else if space < 2 ∧ s.memPoison space addr then 3 else 0

/-- Whether the Common Window bars a channel from a byte. -/
def hodBarred (s : State) (n space addr : Nat) : Bool := decide (space = 1) && (s.cwBars (hodAgent n) addr).isSome

/-- A byte as a channel reads it: memory, 0 where the Common Window refuses it, or what the host gave. -/
def hodByte (s : State) (n space addr k : Nat) (host : List Nat) : Nat :=
  if space ≥ 2 then host.getD k 0 % 256 else if s.hodBarred n space addr then 0 else s.memByte space addr

/-- A channel writes a byte: to memory unless the Common Window refuses it, or towards the host. A written byte takes its
poison away only as R323 has it. -/
def hodPut (s : State) (n space addr func b : Nat) : State :=
  if space ≥ 2 then
    s.onHod fun h =>
      match h.hostOut.getLast? with
      | some w =>
        if w.port = space - 2 ∧ w.func = func ∧ w.addr + w.bytes.length = addr ∧ w.bytes.length % 4096 ≠ 0 then
          { h with hostOut := h.hostOut.dropLast ++ [{ w with bytes := w.bytes ++ [b] }] }
        else { h with hostOut := h.hostOut ++ [⟨space - 2, func, addr, [b]⟩] }
      | none => { h with hostOut := [⟨space - 2, func, addr, [b]⟩] }
  else if s.hodBarred n space addr then s
  else s.setMemByte space addr b

/-- The address of byte j of row r, A or B. -/
def rowAddr (base : Nat) (stride : Int) (r j : Nat) : Nat := ((base : Int) + r * stride + j).toNat % 2 ^ 64

/-- One refusal of the Common Window in an instruction is recorded per slot that refuses (R354). -/
def cwRefusals (s : State) (n : Nat) (addrs : List Nat) : State :=
  let hits := (addrs.filterMap fun a => s.cwBars (hodAgent n) a).eraseDups
  hits.foldl (fun (s : State) wb => s.flagRefused (hodAgent n) wb.1 5) s

/-! ### Data instructions (R359, R360, R395) -/

/-- The rows and strides that a data instruction takes: those of the STRIDE before it, or one row. -/
def strideOf (s : State) (n : Nat) : Stride := (s.chan n).stride.getD ⟨1, 0, 0⟩

/-- Copy byte k of a MOVE or FILL: `src` gives the byte and the reason it cannot be had. -/
def copyByte (n len spB fB b : Nat) (dst : Int) (src : State → Nat → Nat × Nat × Nat) (m : HodRun) (k : Nat) : HodRun :=
  if m.stop.isSome then m
  else
    let ad := rowAddr b dst (k / len) (k % len)
    let (bar, from_, v) := src m.s k
    let barB := m.s.hodBar n spB ad fB
    if bar ≠ 0 then { m with stop := some (bar, from_) }
    else if barB ≠ 0 then { m with stop := some (barB, hodAddr spB ad) }
    else { m with s := m.s.hodPut n spB ad fB v, done := m.done + 1 }

/-- The bytes written by a MOVE or FILL take the poison of the lines they cover (R323). -/
def rowsClean (s : State) (spB b len rows : Nat) (dst : Int) (done : Nat) : State :=
  if spB = 0 then
    (List.range rows).foldl (fun (s : State) r =>
      if r * len < done then s.cleanWrite (rowAddr b dst r 0) (min len (done - r * len)) else s) s
  else s

/-- What an ended or faulted data instruction shows: CH_DONE, BYTES, HALF with its notice, then FULL or the fault (R360,
R363, R374). -/
def dataEnd (s : State) (n : Nat) (i : HodI) (total done : Nat) (stop : Option (Nat × Nat)) : State :=
  let note := fun (s : State) (k bytes : Nat) => s.post 0xAB (n * 2 ^ 56 + k * 2 ^ 48 + bytes % 2 ^ 32)
  let s1 := (s.hset n HOD.CH_DONE.BYTES (min 0xFFFFFFFF done)).addTo 0x1B HOD.BYTES.V done
  let s2 := if bitOf i.flags 0 ∧ done ≥ total / 2 then note (s1.hodPend n HOD.HALF_PEND.CH 1) 1 (total / 2) else s1
  match stop with
  | some (cause, addr) => s2.hodFault n cause addr
  | none =>
    let s3 := if bitOf i.flags 1 then note (s2.hodPend n HOD.FULL_PEND.CH 2) 2 total else s2
    (s3.onChan n fun c => { c with stride := none }).hodNext n

/-- The XTS descriptor of a MOVE with XF: its 32 bytes (R395). -/
def xfDesc (s : State) (i : HodI) : List Nat :=
  s.dramRead (s.fld (pgXtc (bitsOf i.flags 5 3)) XTC.XD_BASE.BASE * 32 + 32 * (i.arg16 % 4096)) 32

/-- The domain, direction and flags, tile, brick and generation of a descriptor. -/
def xfFields (d : List Nat) : Nat × Nat × Nat × Nat × Nat × Nat :=
  let w := fun (k o : Nat) => ofLe ((d.drop o).take k)
  (w 2 0, w 1 2, w 1 3, w 4 4, w 2 8, w 4 12)

/-- A descriptor that may be used (R395). -/
def xfOk (s : State) (i : HodI) : Bool :=
  let d := s.xfDesc i
  let (kdom, dir, fl, _, _, _) := xfFields d
  decide (i.arg16 < 4096) && decide (i.len = 4096) && decide (kdom ≤ 1023) && decide (dir ≤ 1) && decide (fl < 2)
    && decide ((d.drop 10).take 2 = [0, 0]) && (d.drop 16).all (fun b => decide (b = 0))
    && (decide (s.domSt kdom = 1) || (decide (dir = 1) && decide (s.domSt kdom = 2)))

/-- A row of 4,096 bytes through an XTS engine, as one brick (R390, R395). -/
def xfRow (s : State) (i : HodI) (r v : Nat) : Nat :=
  let (kdom, dir, fl, tile, brick, gen) := xfFields (s.xfDesc i)
  let k := s.domKeys kdom
  let tw := tweakOf tile ((if fl = 1 then brick + r else brick) % 65536) gen
  if dir = 0 then Config.xtsEnc k.xk1 k.xk2 tw v else Config.xtsDec k.xk1 k.xk2 tw v

/-- The source of byte k of a MOVE without XF. -/
def moveSrc (n : Nat) (i : HodI) (src : Int) (host : List Nat) (s : State) (k : Nat) : Nat × Nat × Nat :=
  let a := rowAddr i.a src (k / i.len) (k % i.len)
  (s.hodRead? n i.spA a i.fA, hodAddr i.spA a, s.hodByte n i.spA a k host)

/-- One row of a MOVE with XF: the whole row is read and passed through the engine, then written. -/
def xfMove (n : Nat) (i : HodI) (st : Stride) (host : List Nat) (m : HodRun) (r : Nat) : HodRun :=
  if m.stop.isSome then m
  else
    let e := bitsOf i.flags 5 3
    let at_ := fun (j : Nat) => rowAddr i.a st.src r j
    match (List.range 4096).find? fun j => decide (m.s.hodRead? n i.spA (at_ j) i.fA ≠ 0) with
    | some j => { m with stop := some (m.s.hodRead? n i.spA (at_ j) i.fA, hodAddr i.spA (at_ j)) }
    | none =>
      let v := m.s.xfRow i r (ofLe ((List.range 4096).map fun j => m.s.hodByte n i.spA (at_ j) (r * 4096 + j) host))
      let out := leBytes 4096 v
      let m' := (List.range 4096).foldl (fun (x : HodRun) j =>
        copyByte n 4096 i.spB i.fB i.b st.dst (fun _ _ => (0, 0, out.getD j 0)) x (r * 4096 + j)) m
      let (_, dir, _, _, _, _) := xfFields (m.s.xfDesc i)
      { m' with s := m'.s.bump (pgXtc e) (if dir = 0 then XTC.XTC_ENC.BRICKS else XTC.XTC_DEC.BRICKS) }

/-- The Common Window bytes that a data instruction's rows touch. -/
def cwTouched (space base : Nat) (stride : Int) (rows len : Nat) : List Nat :=
  if space = 1 then (List.range (rows * len)).map fun k => rowAddr base stride (k / len) (k % len) else []

/-- The length of a data instruction that may run (R358). -/
def lenOk (i : HodI) : Bool := decide (1 ≤ i.len) && decide (i.len ≤ 0x1000000)

/-- The whole of a MOVE (R358, R359, R395); `host` is what the host gave for a read of it, none where it failed. -/
def hodMove (s : State) (n : Nat) (i : HodI) (host : Option (List Nat)) : State :=
  let st := s.strideOf n
  let here := hodAddr (s.pcSpace n) (s.pcAddr n)
  if !lenOk i || decide (i.spA > 3) || decide (i.spB > 3) then s.hodFault n 1 here
  else if bitOf i.flags 2 && !s.xfOk i then (s.raise (pgXtc (bitsOf i.flags 5 3)) 4 0).hodFault n 1 here
  else
    let s0 := (s.cwRefusals n (cwTouched i.spA i.a st.src st.rows i.len)).cwRefusals n (cwTouched i.spB i.b st.dst st.rows i.len)
    let start : HodRun := ⟨s0, 0, if i.spA ≥ 2 ∧ host.isNone ∧ s0.hodBar n i.spA i.a i.fA = 0 then some (4, hodAddr i.spA i.a) else none⟩
    let bytes := host.getD []
    let m := if bitOf i.flags 2 then (List.range st.rows).foldl (fun (m : HodRun) r => xfMove n i st bytes m r) start
      else (List.range (st.rows * i.len)).foldl
        (fun (m : HodRun) k => copyByte n i.len i.spB i.fB i.b st.dst (moveSrc n i st.src bytes) m k) start
    (m.s.rowsClean i.spB i.b i.len st.rows st.dst m.done).dataEnd n i (st.rows * i.len) m.done m.stop

/-- The whole of a FILL (R358). -/
def hodFill (s : State) (n : Nat) (i : HodI) : State :=
  let st := s.strideOf n
  if !lenOk i || decide (i.spB > 3) then s.hodFault n 1 (hodAddr (s.pcSpace n) (s.pcAddr n))
  else
    let s0 := s.cwRefusals n (cwTouched i.spB i.b st.dst st.rows i.len)
    let m := (List.range (st.rows * i.len)).foldl (fun (m : HodRun) k =>
      copyByte n i.len i.spB i.fB i.b st.dst (fun _ k => (0, 0, i.arg32 >>> (8 * (k % i.len % 4)) % 256)) m k) ⟨s0, 0, none⟩
    (m.s.rowsClean i.spB i.b i.len st.rows st.dst m.done).dataEnd n i (st.rows * i.len) m.done m.stop

/-- The end of a COMPARE's scan: the offset reached and why it ended there: 0 a difference, or a fault's cause with its
address. -/
def compareScan (s : State) (n : Nat) (i : HodI) (st : Stride) (hA hB : List Nat) : Option (Nat × Nat × Nat) :=
  (List.range (st.rows * i.len)).findSome? fun k =>
    let a := rowAddr i.a st.src (k / i.len) (k % i.len)
    let b := rowAddr i.b st.dst (k / i.len) (k % i.len)
    let ca := s.hodRead? n i.spA a i.fA
    let cb := s.hodRead? n i.spB b i.fB
    if ca ≠ 0 then some (k, ca, hodAddr i.spA a)
    else if cb ≠ 0 then some (k, cb, hodAddr i.spB b)
    else if s.hodByte n i.spA a k hA ≠ s.hodByte n i.spB b k hB then some (k, 0, 0)
    else none

/-- The whole of a COMPARE (R358); the host gives what is read of it. -/
def hodCompare (s : State) (n : Nat) (i : HodI) (hA hB : Option (List Nat)) : State :=
  let st := s.strideOf n
  let total := st.rows * i.len
  let s1 := (s.cwRefusals n (cwTouched i.spA i.a st.src st.rows i.len)).cwRefusals n (cwTouched i.spB i.b st.dst st.rows i.len)
  let fin := fun (s : State) (eq : Bool) (k : Nat) =>
    (((s.hset n HOD.CH_STAT.EQ (b2n eq)).hset n HOD.CH_DONE.BYTES (min 0xFFFFFFFF k)).onChan n fun c => { c with stride := none }).hodNext n
  if !lenOk i || decide (i.spA > 3) || decide (i.spB > 3) then s.hodFault n 1 (hodAddr (s.pcSpace n) (s.pcAddr n))
  else if i.spA ≥ 2 ∧ hA.isNone ∧ s1.hodBar n i.spA i.a i.fA = 0 then (s1.hset n HOD.CH_DONE.BYTES 0).hodFault n 4 (hodAddr i.spA i.a)
  else if i.spB ≥ 2 ∧ hB.isNone ∧ s1.hodBar n i.spB i.b i.fB = 0 then (s1.hset n HOD.CH_DONE.BYTES 0).hodFault n 4 (hodAddr i.spB i.b)
  else
    match s1.compareScan n i st (hA.getD []) (hB.getD []) with
    | none => fin s1 true total
    | some (k, 0, _) => fin s1 false k
    | some (k, c, a) => (s1.hset n HOD.CH_DONE.BYTES (min 0xFFFFFFFF k)).hodFault n c a

/-! ### The course of an instruction -/

/-- What stops the fetch at CH_PC: the cause, or 0. -/
def fetchBar (s : State) (n : Nat) : Nat :=
  if s.pcSpace n > 1 then 1
  else ((List.range 32).map fun k => s.hodRead? n (s.pcSpace n) (s.pcAddr n + k) 0).find? (· ≠ 0) |>.getD 0

/-- Whether the next instruction must wait for a domain (R364). -/
def hodHeld (s : State) (n : Nat) : Bool := (s.hodDomains n).any fun d => s.domAsleep d

/-- Hold a channel at the boundary: BLOCKED, with DOMAIN_BLOCKED once. -/
def hodBlock (s : State) (n : Nat) : State :=
  let s1 := s.toHod n 3
  if (s.chan n).blocked then s1 else (s1.raise 0x1B 6 n).onChan n fun c => { c with blocked := true }

/-- The cipher engine of a MOVE with XF takes a message (R413: not while its page is disabled;
R453: not while the key slots are wiped). -/
def hodEngine (s : State) (i : HodI) : Bool := !(decide (i.op = 1) && bitOf i.flags 2) || (s.enabled (pgXtc (bitsOf i.flags 5 3)) && !s.sys.keysGone)

/-- A RUNNING channel executes the instruction at CH_PC, where it is one of `ops`. A program fetch or a domain that stands
in its way is dealt with first; a channel with another instruction next is not concerned. -/
def hodStep (s : State) (n : Nat) (ops : Nat → Bool) (f : HodI → State → State) : Out :=
  let i := s.hodAt n
  okIf (decide (n < 32) && decide (s.hodSt n = 1)) s <|
    if s.pcSpace n ≤ 1 ∧ s.hodHeld n then (s.hodBlock n).syncHod
    else if s.fetchBar n ≠ 0 then (s.hodFault n (s.fetchBar n) (hodAddr (s.pcSpace n) (s.pcAddr n))).syncHod
    else if ops i.op && s.hodEngine i then (f i s).syncHod
    else s

/-- An instruction other than a data instruction ends: a STRIDE before it is discarded (R359). -/
def hodPlain (s : State) (n : Nat) : State := (s.onChan n fun c => { c with stride := none }).hodNext n

/-- ILLEGAL at the present instruction. -/
def hodIllegal (s : State) (n : Nat) : State := s.hodFault n 1 (hodAddr (s.pcSpace n) (s.pcAddr n))

end State

end Sys2Proof.Machine
end

