-- ==== Sys2Proof/Machine/Hod.lean ====
section
/-! DEFINITION. The commands of Hod's channels (R356-R365, R375). -/

namespace Sys2Proof.Machine

open State (hodAddr)

/-- HOD_NOP. -/
def execHodNop (n : Nat) (s : State) : Out := s.hodStep n (· == 0) fun _ s => s.hodPlain n

/-- HOD_MOVE (R358, R359, R395): `host` is what a host source gave, none where the read failed. -/
def execHodMove (n : Nat) (host : Option (List Nat)) (s : State) : Out :=
  s.hodStep n (· == 1) fun i s => s.hodMove n i host

/-- HOD_FILL (R358). -/
def execHodFill (n : Nat) (s : State) : Out := s.hodStep n (· == 2) fun i s => s.hodFill n i

/-- HOD_COMPARE (R358). -/
def execHodCompare (n : Nat) (hostA hostB : Option (List Nat)) (s : State) : Out :=
  s.hodStep n (· == 3) fun i s => s.hodCompare n i hostA hostB

namespace State

/-- The condition of a WAIT sampled (R361): whether it holds, and the state after the sampling. -/
def waitHolds (s : State) (i : HodI) : Bool × State :=
  if i.arg8 = 0 then (bitOf (s.fld 0x1B HOD.EVF.FLAGS) i.arg16, s)
  else if i.arg8 = 1 then
    let r := s.flagRead i.spA i.a
    (decide (r.1 / 2 ^ 24 % 256 = i.arg16 % 256), r.2)
  else (decide (i.arg32 = 0), s)

/-- A WAIT is satisfied: the channel goes on after it, and is never asked again (R361). -/
def waitDone (s : State) (n : Nat) : State :=
  ((s.toHod n 1).onChan n fun c => { c with wait := none, woken := false }).hodPlain n

/-- A WAIT whose encoding is undefined, or that reads a flag where none can be read. -/
def waitBad (i : HodI) : Bool :=
  decide (i.arg8 > 2) || (decide (i.arg8 = 0) && decide (i.arg16 > 63)) || (decide (i.arg8 = 1) && decide (i.spA > 1))

/-- A RUNNING channel reaches a WAIT (R361). -/
def hodWait (s : State) (n : Nat) (i : HodI) : State :=
  if waitBad i then s.hodIllegal n
  else if i.arg8 = 1 ∧ s.hodBar n i.spA i.a 0 ≠ 0 then s.hodFault n (s.hodBar n i.spA i.a 0) (hodAddr i.spA i.a)
  else
    let (holds, s1) := s.waitHolds i
    if holds then
      (if i.arg8 = 0 ∧ bitOf i.flags 0 then s1.clearFlags (2 ^ i.arg16) else s1).waitDone n
    else (s1.toHod n 2).onChan n fun c => { c with wait := some i, woken := false, stride := none }

end State

/-- HOD_WAIT (R361). -/
def execHodWait (n : Nat) (s : State) : Out := s.hodStep n (· == 4) fun i s => s.hodWait n i

/-- HOD_WAIT_SATISFIED (R361): an event flag has been set since, the flag word is re-read, or the time has passed. -/
def execHodWaitSatisfied (n : Nat) (s : State) : Out :=
  match (s.chan n).wait with
  | none => ok s
  | some i =>
    let r := s.waitHolds i
    okIf (decide (n < 32) && decide (s.hodSt n = 2)) s <|
      if i.arg8 = 0 then (if (s.chan n).woken then (s.waitDone n).syncHod else s)
      else if i.arg8 = 1 then (if r.1 then (r.2.waitDone n).syncHod else r.2)
      else (s.waitDone n).syncHod

/-- HOD_WAIT_TIMEOUT (R361). -/
def execHodWaitTimeout (n : Nat) (s : State) : Out :=
  match (s.chan n).wait with
  | none => ok s
  | some i =>
    okIf (decide (n < 32) && decide (s.hodSt n = 2) && decide (i.arg8 < 2) && decide (i.arg32 ≠ 0) && !(s.chan n).woken) s
      (s.hodFault n 6 (hodAddr (s.pcSpace n) (s.pcAddr n))).syncHod

namespace State

/-- A FLIP (R358): the flag-tagged write, FLIPOK, and with STRICT a fault where it is refused. -/
def hodFlip (s : State) (n : Nat) (i : HodI) : State :=
  if i.spA > 1 then s.hodIllegal n
  else if s.hodBar n i.spA i.a 0 ≠ 0 then s.hodFault n (s.hodBar n i.spA i.a 0) (hodAddr i.spA i.a)
  else
    let (done, s1) := s.flip (hodAgent n) i.spA i.a i.arg8 (bitOf i.flags 0)
    let s2 := s1.hset n HOD.CH_STAT.FLIPOK (b2n done)
    if !done && bitOf i.flags 1 then s2.hodFault n 9 (hodAddr i.spA i.a) else s2.hodPlain n

/-- A SIGNAL (R358). -/
def hodSignal (s : State) (n : Nat) (i : HodI) : State :=
  if i.arg8 > 1 then s.hodIllegal n
  else
    let s1 := if i.arg8 = 0 then s.setFlags i.a else s.clearFlags i.a
    (if bitOf i.flags 0 then s1.hodPend n HOD.DONE_PEND.CH 0 else s1).hodPlain n

/-- Whether a POST with WAITFULL finds its FIFO full: it is retried every 1 µs instead of refused (R358). -/
def postWaits (s : State) (n : Nat) (i : HodI) : Bool :=
  let f := s.io.fifo (i.arg16 % 1024)
  let len := if s.fifoMode i.arg16 = 1 ∧ f.claimer.isNone then (i.a % 256) + 1 else 1
  bitOf i.flags 0 && !bitOf i.flags 2 && isGf i.arg16 && s.enabled 0xC
    && (f.claimer.isNone || (decide (f.claimer = some (hodAgent n)) && decide (s.fifoMode i.arg16 = 2)))
    && decide (Io.fifoUsed f + len > Io.fifoDepth i.arg16) && decide (len ≤ Io.fifoDepth i.arg16)

/-- A POST (R358, R370, R371). A channel is a permitted writer of the GF FIFOs; elsewhere its post is refused (R367). -/
def hodPost (s : State) (n : Nat) (i : HodI) : State :=
  let who := hodAgent n
  if bitOf i.flags 2 then ((s.rewindBy i.arg16 who).hset n HOD.CH_STAT.POSTOK 1).hodPlain n
  else if s.postWaits n i then s
  else
    let (done, s1) := if isGf i.arg16 then s.postItem i.arg16 who (i.a + i.b * 2 ^ 64)
      else (false, if Io.fifoDepth i.arg16 = 0 then s else s.bump (Io.fifoPg i.arg16) FIF.FIFO_CNT.REFUSED)
    let s2 := if done && bitOf i.flags 1 then s1.commitItems i.arg16 who else s1
    (s2.hset n HOD.CH_STAT.POSTOK (b2n done)).hodPlain n

/-- A BRANCH's condition (R358), with the loop counter after it. -/
def branchTaken (s : State) (n k : Nat) : Bool × State :=
  let f := fun (x : RF) => decide (s.hfld n x ≠ 0)
  let lc := s.hfld n HOD.CH_LC.LC - 1
  match k with
  | 0 => (true, s)
  | 1 => (f HOD.CH_STAT.EQ, s)
  | 2 => (!f HOD.CH_STAT.EQ, s)
  | 3 => (decide (lc ≠ 0), s.hset n HOD.CH_LC.LC lc)
  | 4 => (f HOD.CH_STAT.FLIPOK, s)
  | 5 => (!f HOD.CH_STAT.FLIPOK, s)
  | 6 => (f HOD.CH_STAT.POSTOK, s)
  | _ => (!f HOD.CH_STAT.POSTOK, s)

/-- A BRANCH (R358). -/
def hodBranch (s : State) (n : Nat) (i : HodI) : State :=
  if i.arg8 > 7 then s.hodIllegal n
  else
    let (taken, s1) := s.branchTaken n i.arg8
    if !taken then s1.hodPlain n
    else if i.a % 32 ≠ 0 ∨ i.a ≥ 2 ^ 36 then s1.hodIllegal n
    else (s1.hodPlain n).setPc n i.a

end State

/-- HOD_FLIP (R349, R358). -/
def execHodFlip (n : Nat) (s : State) : Out := s.hodStep n (· == 5) fun i s => s.hodFlip n i

/-- HOD_SIGNAL (R358). -/
def execHodSignal (n : Nat) (s : State) : Out := s.hodStep n (· == 6) fun i s => s.hodSignal n i

/-- HOD_POST (R358). -/
def execHodPost (n : Nat) (s : State) : Out := s.hodStep n (· == 7) fun i s => s.hodPost n i

/-- HOD_POST_RETRY (R358): a WAITFULL post tries again. -/
def execHodPostRetry (n : Nat) (s : State) : Out :=
  s.hodStep n (· == 7) fun i s => if bitOf i.flags 0 then s.hodPost n i else s

/-- HOD_BRANCH (R358). -/
def execHodBranch (n : Nat) (s : State) : Out := s.hodStep n (· == 8) fun i s => s.hodBranch n i

/-- HOD_SETLC (R358). -/
def execHodSetlc (n : Nat) (s : State) : Out := s.hodStep n (· == 9) fun i s => (s.hset n HOD.CH_LC.LC i.arg32).hodPlain n

/-- HOD_STOP (R358, R372): IDLE, with DONE_PEND where FLAGS[0] asks for it. -/
def execHodStop (n : Nat) (s : State) : Out :=
  s.hodStep n (· == 10) fun i s =>
    let s1 := ((s.hodPlain n).hodLeave n).toHod n 0
    if bitOf i.flags 0 then s1.hodPend n HOD.DONE_PEND.CH 0 else s1

/-- HOD_STRIDE (R359). -/
def execHodStride (n : Nat) (s : State) : Out :=
  s.hodStep n (· == 11) fun i s =>
    (s.hodNext n).onChan n fun c => { c with stride := some ⟨i.arg16 + 1, sgn32 i.a, sgn32 i.b⟩ }

/-- HOD_ILLEGAL (R358, R363): an opcode of 0x0C-0xFF. -/
def execHodIllegal (n : Nat) (s : State) : Out := s.hodStep n (fun op => decide (op ≥ 12)) fun _ s => s.hodIllegal n

/-- HOD_UNBLOCK (R364): every domain that a BLOCKED channel's next instruction touches is awake. -/
def execHodUnblock (n : Nat) (s : State) : Out :=
  okIf (decide (n < 32) && decide (s.hodSt n = 3) && !s.hodHeld n) s
    ((s.toHod n 1).onChan n fun c => { c with blocked := false }).syncHod

/-- HOD_CHANNEL_START (R356, R362, R365, R374). -/
def execHodChannelStart (acc : Accessor) (n : Nat) (s : State) : Out :=
  okIf (decide (n < 32)) s <|
    if acc.isPf1 && !bitOf (s.fld 0x1B HOD.CH_GRANT.GRANT) n then s.lockedWrite 0x1B
    else if !s.enabled 0x1B ∨ (s.hodSt n ≠ 0 ∧ s.hodSt n ≠ 4) then s
    else
      let port := match acc with | .pf1p0 => some 0 | .pf1p1 => some 1 | _ => none
      (((s.toHod n 1).hset n HOD.CH_STAT.CAUSE 0).onChan n fun _ => { Chan.zero with by1 := port }).syncHod

/-- A channel is stopped with ABORTED (R363, R365). -/
def State.hodAbort (s : State) (n : Nat) : State := s.hodFault n 8 (hodAddr (s.pcSpace n) (s.pcAddr n))

/-- HOD_CHANNEL_ABORT (R365). -/
def execHodChannelAbort (acc : Accessor) (n : Nat) (s : State) : Out :=
  okIf (decide (n < 32)) s <|
    if acc.isPf1 && !bitOf (s.fld 0x1B HOD.CH_GRANT.GRANT) n then s.lockedWrite 0x1B
    else if s.hodSt n ∈ [1, 2, 3] then (s.hodAbort n).syncHod
    else s

/-- Whether the instruction a channel is in touches a function of a host port (R363). -/
def State.hodOnHost (s : State) (n port fn : Nat) : Bool :=
  let i := s.hodAt n
  decide (s.hodSt n = 1) &&
    ((decide (i.op ∈ [1, 3]) && decide (i.spA = 2 + port) && decide (i.fA = fn))
      || (decide (i.op ∈ [1, 2, 3]) && decide (i.spB = 2 + port) && decide (i.fB = fn)))

/-- Every channel with host transactions of a function outstanding faults with HOST_DISABLED (R363). -/
def State.hostDisabled (s : State) (port fn : Nat) : State :=
  ((List.range 32).filter fun n => s.hodOnHost n port fn).foldl (fun (s : State) n =>
    s.hodFault n 5 (if (s.hodAt n).spA = 2 + port then hodAddr (s.hodAt n).spA (s.hodAt n).a else hodAddr (s.hodAt n).spB (s.hodAt n).b)) s
    |>.syncHod

/-- BUS_MASTER_ENABLE_CLEAR (R363): of a function: 0 PF0, 1-64 a VF, 65 PF1. -/
def execBusMasterEnableClear (port fn : Nat) (s : State) : Out :=
  okIf (decide (port < 2) && decide (fn ≤ 65)) s (s.hostDisabled port fn)

/-- Every channel inside an instruction that touches a domain which has lost its power faults with DOMAIN_LOST (R363). -/
def State.domainLost (s : State) (d : Nat) : State :=
  ((List.range 32).filter fun n => s.hodInside n && (s.hodDomains n).contains d).foldl (fun (s : State) n =>
    s.hodFault n 7 (hodAddr (s.pcSpace n) (s.pcAddr n))) s |>.syncHod

/-- Hod's answer to ENABLE = 0 (R365): its channels stop with ABORTED. -/
def State.hodDisable (s : State) : State :=
  ((List.range 32).filter fun n => decide (s.hodSt n ∈ [1, 2, 3])).foldl (fun (s : State) n => s.hodAbort n) s |>.syncHod

end Sys2Proof.Machine
end

