-- ==== Sys2Proof/Machine/Servo.lean ====
section
/-! DEFINITION. The commands of the servo control engines: the wedge update, seek, head load and unload, coefficient and
trace memories (R161-R188, R504). -/

namespace Sys2Proof.Machine

namespace State

/-! ### Trace (R185, R186) -/

/-- An engine's trace. -/
def trace (s : State) (e : Nat) : Trace := Tab.get Trace.zero s.servo.traces e

/-- Store an engine's trace. -/
def setTrace (s : State) (e : Nat) (t : Trace) : State :=
  { s with servo := { s.servo with traces := Tab.put Trace.zero s.servo.traces e t } }

/-- A spindle's speed reference minus its speed, in 1/256 rpm (R208). -/
def speedErr (s : State) (slot : Nat) : Int :=
  satS 32 ((Tab.get Spin.zero s.spin.chans slot).ref - signed 32 (s.fld (pgSpm (slot / 4)) (spk slot SPM.SPk_SPEED.SPEED)))

/-- One signal of an actuator (R185). -/
def signal (s : State) (a n : Nat) : Int :=
  let l := s.loop a
  let slot := slotOf a
  match n with
  | 1 => l.pes
  | 2 => signed 32 (unsigned 32 (l.pos.getD 0))
  | 3 => l.uVcm
  | 4 => l.uFb
  | 5 => l.uMa
  | 6 => l.coup
  | 7 => l.bias
  | 8 => signed 32 (s.fld (pgAct a) ACT.SV_VEL.V)
  | 9 => l.delta
  | 10 => l.wedgeWord
  | 11 => (s.lk a).vcmI
  | 12 => signed 32 (unsigned 32 (l.target * 65536 + signed 32 (s.fld (pgAct a) ACT.SV_TOFS.OFS)))
  | 13 => satS 32 l.dist
  | 14 => (s.svState a + s.svSet a * 8 + s.winhCause a * 32 : Nat)
  | 15 => s.speedErr slot
  | 16 => signed 16 (s.fld (pgSpm (slot / 4)) (spk slot SPM.SPk_IQD.IQ))
  | 17 => signed 16 (s.fld (pgSpm (slot / 4)) (spk slot SPM.SPk_IQD.ID))
  | 18 => (Tab.get Sect.zero l.sects (s.fld (pgSve (engOf a)) SVE.TR_SEC.VSEC)).y1
  | 19 => (Tab.get Sect.zero l.sects (16 + s.fld (pgSve (engOf a)) SVE.TR_SEC.MSEC)).y1
  | _ => 0

/-- The source byte of trace channel i: ACT in [2:0], SIG in [7:3]. -/
def traceSrc (s : State) (e i : Nat) : Nat :=
  if i < 4 then bitsOf (s.fld (pgSve e) SVE.TR_SRC_LO.SRC0_3) (8 * i + 7) (8 * i)
  else bitsOf (s.fld (pgSve e) SVE.TR_SRC_HI.SRC4_7) (8 * (i - 4) + 7) (8 * (i - 4))

/-- The eight channels' samples at one tick. -/
def traceRow (s : State) (e : Nat) : List Int :=
  (List.range 8).map fun i => s.signal (8 * e + s.traceSrc e i % 8) (s.traceSrc e i / 8)

/-- Whether the trigger fires at this tick (R186). -/
def traceFires (s : State) (e : Nat) (row : List Int) : Bool :=
  let v := row.getD (s.fld (pgSve e) SVE.TR_TRIG.CH) 0
  let th := signed 32 (s.fld (pgSve e) SVE.TR_THRESH.THRESH)
  match s.fld (pgSve e) SVE.TR_TRIG.KIND with
  | 1 => (match (s.trace e).prev with | some p => decide (p < th) && decide (v ≥ th) | none => false)
  | 2 => (match (s.trace e).prev with | some p => decide (p ≥ th) && decide (v < th) | none => false)
  | 3 => decide (|v| > th)
  | 4 => (s.trace e).fired
  | _ => true

/-- The last `n` entries of a list. -/
def lastN {α : Type} (n : Nat) (l : List α) : List α := l.drop (l.length - n)

/-- Keep a trace row: a roll capture or an armed one overwrites the oldest, a filling one counts down (R186). -/
def traceKeep (s : State) (e : Nat) (row : List Int) : State :=
  let t := s.trace e
  let pg := pgSve e
  let pre := s.fld pg SVE.TR_CTL.PRE
  if s.fld pg SVE.TR_STAT.STATE = 1 then
    if s.fld pg SVE.TR_CTL.MODE = 1 then
      let rows := lastN 4096 (t.rows ++ [row])
      (s.setTrace e { t with rows := rows }).set pg SVE.TR_STAT.COUNT rows.length
    else if s.traceFires e row then
      let rows := lastN pre t.rows ++ [row]
      let t' : Trace := ⟨t.ticks, rows, some (rows.length - 1), 4096 - pre - 1, some (row.getD (s.fld pg SVE.TR_TRIG.CH) 0), t.fired⟩
      ((((s.setTrace e t').set pg SVE.TR_STAT.STATE 2).set
        pg SVE.TR_STAT.TRIG_IDX (rows.length - 1)).set pg SVE.TR_STAT.COUNT rows.length).set pg SVE.TR_TIME.INDEX
        (s.fld (pgAct (8 * e + s.fld pg SVE.TR_CTL.CLK_ACT)) ACT.SAMPLE_INDEX.V)
    else
      let rows := lastN 4096 (t.rows ++ [row])
      (s.setTrace e { t with rows := rows, prev := some (row.getD (s.fld pg SVE.TR_TRIG.CH) 0) }).set
        pg SVE.TR_STAT.COUNT rows.length
  else if s.fld pg SVE.TR_STAT.STATE = 2 ∧ t.left > 0 then
    (s.setTrace e { t with rows := t.rows ++ [row], left := t.left - 1 }).set pg SVE.TR_STAT.COUNT (t.rows.length + 1)
  else s

/-- A clocking update: every 2^DECIM-th is a trace tick (R185). -/
def traceClock (s : State) (e : Nat) : State :=
  let t := s.trace e
  if s.fld (pgSve e) SVE.TR_STAT.STATE = 1 ∨ s.fld (pgSve e) SVE.TR_STAT.STATE = 2 then
    let n := t.ticks + 1
    if n ≥ 2 ^ s.fld (pgSve e) SVE.TR_CTL.DECIM then
      (s.setTrace e { t with ticks := 0 }).traceKeep e (s.traceRow e)
    else s.setTrace e { t with ticks := n }
  else s

/-- The trace clock of an update of an actuator. -/
def traceUpdate (s : State) (a : Nat) : State :=
  let e := engOf a
  if s.fld (pgSve e) SVE.TR_CTL.CLK_SPM = 0 ∧ s.fld (pgSve e) SVE.TR_CTL.CLK_ACT = a % 8 then s.traceClock e else s

/-- The trace clock of a current tick of a slot. -/
def traceCurrent (s : State) (slot : Nat) : State :=
  let e := slot / 4
  if s.fld (pgSve e) SVE.TR_CTL.CLK_SPM = 1 ∧ s.fld (pgSve e) SVE.TR_CTL.CLK_ACT / 2 = slot % 4 then s.traceClock e else s

/-! ### Position (R163-R167) -/

/-- The earlier wedge a span is taken from: the one 16 wedge numbers back when it was valid, otherwise the nearest valid
one among the 32 kept, with its distance in wedge numbers. `sams` is newest first. -/
def earlier (sams : List SamAt) (wedge wedges : Nat) : Option (SamAt × Nat) :=
  let back := fun (x : SamAt) => (wedge + wedges - x.wedge) % wedges
  match sams.find? (fun x => x.ok && decide (back x = 16 % wedges)) with
  | some x => some (x, 16)
  | none => (sams.find? (fun x => x.ok)).map (fun x => (x, back x))

/-- Take a wedge into the speed ratio (R163). -/
def takeSam (f : Format) (l : Loop) (w : WedgeRec) : Loop :=
  let valid := w.valid
  let n := if f.wedges = 0 then 1 else f.wedges
  let seen := l.intervals + (match l.sams.head? with | some x => (w.wedge + n - x.wedge) % n | none => 0)
  let r := if valid then
      match earlier l.sams w.wedge n with
      | some (x, k) =>
        if seen < 16 then 2 ^ 30
        else if k = 0 then l.r
        else speedRatio (w.sam - x.sam) k f.rpm f.wedges
      | none => l.r
    else l.r
  { l with r := r, intervals := seen, sams := (⟨w.wedge, w.sam, valid⟩ :: l.sams).take 32 }

/-- The position of a valid record: P in 1/65,536 track (R163, R164); in LOADING and LOST no prediction exists. -/
def position (s : State) (a : Nat) (w : WedgeRec) (r : Nat) : Int :=
  let y := finePos (Config.divFree ((w.delta : Int) * 2 ^ 30) (if r = 0 then 1 else r))
  let l := s.loop a
  let n : Int := match l.pos with
    | some p => if s.svState a = 2 then nearTrack w.track y (p + signed 32 (s.fld (pgAct a) ACT.SV_VEL.V)) else w.track
    | none => w.track
  signed 40 (unsigned 40 (n * 65536 + y + if s.flag (pgAct a) ACT.SV_CTL.RRO_EN then 16 * w.rro else 0))

/-- The target in 1/65,536 track. -/
def targetPos (s : State) (a : Nat) : Int := (s.loop a).target * 65536 + signed 32 (s.fld (pgAct a) ACT.SV_TOFS.OFS)

/-- An invalid wedge: no law, cause INVALID, and LOST from CLOSED after MISS_MAX in a row (R166). -/
def invalidWedge (s : State) (a : Nat) : State :=
  let m := min 15 (s.fld (pgAct a) ACT.SV_STAT.MISS + 1)
  let s1 := ((s.set (pgAct a) ACT.SV_STAT.MISS m).onLoop a
    (fun l => { l with hist := [], shockRun := 0, limitRun := 0, predRun := 0, followRun := 0 })).setCause a 2 true
  s1.missLimit a m

/-- A waiting seek request takes effect (R177): a request for the present target in FOLLOW changes nothing; otherwise the
loop seeks, or settles when it starts within SETTLE_DIST. -/
def applySeek (s : State) (a : Nat) : State :=
  match (s.loop a).asked with
  | none => s
  | some t =>
    if t = (s.loop a).target ∧ s.inFollow a then s.onLoop a (fun l => { l with asked := none })
    else
      let s1 := ((s.onLoop a (fun l => { l with asked := none, target := t, sinceAsk := some l.intervals, followRun := 0 })).bump
        (pgAct a) ACT.SV_CNT_C.SEEKS).setB (pgAct a) ACT.SV_CTL.SEEK_DONE false
      let d := s1.targetPos a - (s1.loop a).pos.getD 0
      if |d| > (s.fld (pgAct a) ACT.SV_SETTLE.SETTLE_DIST : Int) * 256 then s1.toSet a 0 else s1.toSet a 1

/-- Seek, settle and follow (R177) at a valid wedge; the set in use changes at the next update (R173). -/
def followSeek (s : State) (a : Nat) : State :=
  let l := s.loop a
  let d := l.dist
  let v := signed 32 (s.fld (pgAct a) ACT.SV_VEL.V)
  match s.svSet a with
  | 0 =>
    if |d| ≤ (s.fld (pgAct a) ACT.SV_SETTLE.SETTLE_DIST : Int) * 256 ∧ |v| ≤ s.fld (pgAct a) ACT.SV_SETTLE.SETTLE_VEL then
      (s.onLoop a (fun l => { l with followRun := 0 })).toSet a 1
    else s
  | 1 =>
    let run := if |l.pes| ≤ s.fld (pgAct a) ACT.SV_FOLLOW.FOLLOW_LIM then l.followRun + 1 else 0
    let s := s.onLoop a (fun l => { l with followRun := run })
    if run ≥ max 1 (s.fld (pgAct a) ACT.SV_FOLLOW.FOLLOW_CNT) then
      ((s.onLoop a (fun l => { l with sinceAsk := none })).toSet a 2).setB (pgAct a) ACT.SV_CTL.SEEK_DONE true
    else s
  | _ => s

/-- The limit causes at a valid wedge (R179): PES_LIMIT and PRED set; PES_LIMIT, INVALID, PRED and LATE_INVALID clear after
WI_REL consecutive valid wedges within WI_LIM. -/
def limitCauses (s : State) (a : Nat) (prev : Int) : State :=
  let l := s.loop a
  let lim : Int := s.fld (pgAct a) ACT.SV_LIM.WI_LIM
  let rel := max 1 (s.fld (pgAct a) ACT.SV_LIM.WI_REL)
  let pred := s.flag (pgAct a) ACT.SV_CTL.WI_PRED && decide (|2 * l.pes - prev| > lim)
  let run := if |l.pes| > lim then 0 else l.limitRun + 1
  let predRun := if |l.pes| > lim ∨ pred then 0 else l.predRun + 1
  let s := s.onLoop a (fun l => { l with limitRun := run, predRun := predRun })
  let c := s.winhCause a
  let c := if |l.pes| > lim then bitSet c 1 else c
  let c := if run ≥ rel then bitClear (bitClear (bitClear c 1) 2) 5 else c
  let c := if pred then bitSet c 4 else if predRun ≥ rel then bitClear c 4 else c
  s.setCauses a c

/-- The position test for shock (R180), in FOLLOW on three consecutive valid wedges. -/
def shockTest (s : State) (a : Nat) : State :=
  let l := s.loop a
  let acc : Int := s.fld (pgAct a) ACT.SV_SHOCK.SHOCK_ACC
  match l.hist with
  | p0 :: p1 :: p2 :: _ =>
    if s.inFollow a && decide (acc ≠ 0) && decide (|p0 - 2 * p1 + p2| > acc) then
      let s := s.onLoop a (fun l => { l with shockRun := l.shockRun + 1 })
      if l.shockRun + 1 ≥ 3 then s.shock a else s.shockTick a
    else (s.onLoop a (fun l => { l with shockRun := 0 })).shockTick a
  | _ => (s.onLoop a (fun l => { l with shockRun := 0 })).shockTick a

/-! ### The laws (R168-R175) -/

/-- Take over to the set in use: with KEEP of the new set, sections of the old set's count keep their state; every other
section starts from zero (R173). -/
def changeSet (s : State) (a : Nat) : State :=
  let l := s.loop a
  let n := s.svSet a
  if n = l.setUsed then s
  else
    let keepOn := bitOf (s.coefWord a (256 * n)).toNat 13
    let oldV := s.nsecVcm a l.setUsed
    let oldM := s.nsecMa a l.setUsed
    let stay := fun q => decide (q ≥ 24) || (keepOn && ((decide (q < 16) && decide (q < oldV)) ||
      (decide (16 ≤ q) && decide (q < 24) && decide (q - 16 < oldM))))
    s.onLoop a (fun l => { l with setUsed := n, sects := Tab.keep stay l.sects })

/-- A table read in which one entry is lost to an uncorrectable error and reads 0 (R184). -/
def holed (t : Nat → Int) (bad : Option Nat) (i : Nat) : Int := if bad = some i then 0 else t i

/-- The bias term (R175). -/
def biasTerm (s : State) (a : Nat) (p : Int) (bad : Option Nat) : Int :=
  if s.flag (pgAct a) ACT.SV_SEEKCFG.BIAS_EN then
    let sh := 16 + min 14 (s.fld (pgAct a) ACT.SV_SEEKCFG.BIAS_SH)
    let t := holed (fun i => (s.biasWord a i).toInt) bad
    if p < 0 then t 0 else interpTab t 1023 p.toNat sh
  else 0

/-- The reference velocity of a seek (R177). -/
def refVel (s : State) (a : Nat) (d : Int) (bad : Option Nat) : Int :=
  let sh := 16 + min 16 (s.fld (pgAct a) ACT.SV_SEEKCFG.DSHIFT)
  let v := interpTab (holed (fun i => (s.profWord a i).toInt) bad) 255 d.natAbs sh
  if d < 0 then -v else v

/-- A shift with its rounding term, none for a shift of 0 (R169). -/
def shiftRound (v : Int) (n : Nat) : Int := if n = 0 then v else asr (v + 2 ^ (n - 1)) n

/-- A saturation to `w` bits and whether it clipped. -/
def clip (w : Nat) (v : Int) : Int × Nat := (satS w v, if satS w v = v then 0 else 1)

/-- The sibling's command as this actuator's coupling input (R170). -/
def sibCommand (s : State) (a : Nat) : Int :=
  let st := s.svState (sibOf a)
  if st = 0 ∨ st = 4 ∨ st = 5 then 0 else (s.loop (sibOf a)).uVcm

/-- Run the laws of one update in CLOSED and send the OUT flit (R169, R170). -/
def runLaws (s : State) (a wedge : Nat) (badBias badProf : Option Nat) : State :=
  let n := s.svSet a
  let l := s.loop a
  let cfg := (s.coefWord a (256 * n)).toNat
  let maEn := bitOf cfg 12
  let (uMa, sects, c1, _) := if maEn then cascade (s.maSecs a n) l.sects l.pes
    else (0, Tab.keep (fun q => !(decide (16 ≤ q) && decide (q < 24))) l.sects, 0, [])
  let (vin, c2) := if n = 0 then clip 32 (s.refVel a l.dist badProf - signed 32 (s.fld (pgAct a) ACT.SV_VEL.V))
    else clip 32 (l.pes + shiftRound (uMa * s.coefInt a (256 * n + 1)) (bitsOf (s.coefWord a (256 * n + 2)).toNat 4 0))
  let (uFb, sects, c3, _) := cascade (s.vcmSecs a n) sects vin
  let (c0, sects, c4, _) := cascade (s.cpSecs a) sects (s.sibCommand a)
  let coup := if s.nsecCp a = 0 then 0 else c0
  let b := s.biasTerm a (l.pos.getD 0) badBias
  let (uVcm, c5) := clip 32 (uFb + b + coup)
  let (vcm, c6) := clip 18 (shiftRound uVcm (bitsOf cfg 20 16))
  let (ma, c7) := clip 16 (shiftRound uMa (bitsOf cfg 28 24))
  let sat := c1 + c2 + c3 + c4 + c5 + c6 + c7
  let s1 := (((((s.onLoop a (fun l => { l with sects := sects, uVcm := uVcm, uFb := uFb, uMa := uMa, coup := coup, bias := b })).sendDn
    a (.out true true false vcm ma wedge 0 0 0 0)).set (pgAct a) ACT.SV_OUT.VCM (unsigned 18 vcm)).set
    (pgAct a) ACT.SV_MA.MA (unsigned 16 ma)).set (pgAct a) ACT.SV_MA.WEDGE wedge).bumpN (pgAct a) ACT.SV_CNT_D.SAT sat
  if sat = 0 then s1 else s1.raise (pgSve (engOf a)) 12 a

/-- The output of LOST at a valid wedge: VCM = B + C, MA = 0, sections frozen but for the coupling's (R166, R170, R176). -/
def lostOutput (s : State) (a wedge : Nat) (badBias : Option Nat) : State :=
  let l := s.loop a
  let (c0, sects, c1, _) := cascade (s.cpSecs a) l.sects (s.sibCommand a)
  let coup := if s.nsecCp a = 0 then 0 else c0
  let b := s.biasTerm a (l.pos.getD 0) badBias
  let (u, c2) := clip 32 (b + coup)
  let (vcm, c3) := clip 18 (shiftRound u (bitsOf (s.coefWord a (256 * s.svSet a)).toNat 20 16))
  let s1 := ((((s.onLoop a (fun l => { l with sects := sects, uVcm := u, coup := coup, bias := b })).sendDn
    a (.out true true false vcm 0 wedge 0 0 0 0)).set (pgAct a) ACT.SV_OUT.VCM (unsigned 18 vcm)).set
    (pgAct a) ACT.SV_MA.MA 0).set (pgAct a) ACT.SV_MA.WEDGE wedge
  let s2 := s1.bumpN (pgAct a) ACT.SV_CNT_D.SAT (c1 + c2 + c3)
  if c1 + c2 + c3 = 0 then s2 else s2.raise (pgSve (engOf a)) 12 a

/-- Take the position of a valid wedge: P, PES, V and the registers that show them (R163, R165, R188). -/
def takePosition (s : State) (a : Nat) (p : Int) : State :=
  let l := s.loop a
  let pes := satS 32 (p - s.targetPos a)
  let v := match l.pos with
    | some q => satS 32 (roundAway (p - q) (max 1 (l.intervals - l.posAt) : Nat))
    | none => 0
  (((((s.onLoop a (fun l =>
    { l with
      wasPos := l.pos
      wasAt := l.posAt
      wasMiss := s.fld (pgAct a) ACT.SV_STAT.MISS
      pos := some p
      posAt := l.intervals
      pes := pes
      hist := (p :: l.hist).take 3 })).set
    (pgAct a) ACT.SV_POS.P (unsigned 64 p)).set (pgAct a) ACT.SV_PES.PES (unsigned 32 pes)).set
    (pgAct a) ACT.SV_VEL.V (unsigned 32 v))).set (pgAct a) ACT.SV_STAT.MISS 0

/-- One update in CLOSED with a valid wedge (R162's order). -/
def closedUpdate (s : State) (a : Nat) (w : WedgeRec) (badBias badProf : Option Nat) : State :=
  let prev := (s.loop a).pes
  let s := s.takePosition a (s.position a w (s.loop a).r)
  let s := s.applySeek a
  let t := s.targetPos a
  let s := s.onLoop a (fun l => { l with pes := satS 32 (l.pos.getD 0 - t), dist := t - l.pos.getD 0 })
  let s := s.set (pgAct a) ACT.SV_PES.PES (unsigned 32 (s.loop a).pes)
  let s := s.limitCauses a prev
  let s := s.shockTest a
  let s := s.changeSet a
  (s.runLaws a w.wedge badBias badProf).followSeek a

/-- A servo bit in samples times 2^0, scaled by NOM_RPM over the slot's measured speed: the bound of 16 servo bits and one
nominal interval, both in samples (R182). The first is the tolerance, the second the interval, as numerator over the
common denominator. -/
def acqScale (s : State) (a : Nat) : Int × Int × Int :=
  let slot := slotOf a
  let f := s.fmt a
  let nom : Int := s.fld (pgSpm (slot / 4)) (spk slot SPM.SPk_TARGET.NOM_RPM)
  let spd := signed 32 (s.fld (pgSpm (slot / 4)) (spk slot SPM.SPk_SPEED.SPEED))
  -- tolerance = 16 * bitFs * 1e-15 * 4.7e9 * nom / (spd / 256); interval = 4.7e9 * 60 / (rpm * wedges) * nom / (spd / 256)
  (16 * f.bitFs * 4700 * nom * 256 * (f.rpm * f.wedges), 4700000000 * 60 * nom * 256 * 1000000000,
    spd * (f.rpm * f.wedges) * 1000000000)

/-- Whether a candidate follows the one before within ±16 servo bits and with the next wedge number (R182). -/
def acqFollows (s : State) (a : Nat) (w : WedgeRec) (prev : Nat × Nat) : Bool :=
  let n := (s.fmt a).wedges
  let (tol, ivl, den) := s.acqScale a
  decide (n ≠ 0) && decide (w.wedge = (prev.1 + 1) % (if n = 0 then 1 else n)) && decide (den > 0)
    && decide (|((w.sam : Int) - prev.2) * den - ivl| ≤ tol)

/-- A wedge in LOADING or LOST: a candidate seeds or continues the count (R182). -/
def acquire (s : State) (a : Nat) (w : WedgeRec) : State :=
  if w.samErrs ≤ 2 ∧ w.dibits then
    let n := match (s.loop a).acqPrev with
      | some p => if s.acqFollows a w p then (s.loop a).acq + 1 else 1
      | none => 1
    s.onLoop a (fun l => { l with acq := n, acqPrev := some (w.wedge, w.sam), landed := w.track })
  else s

/-- An uncorrectable word of the set or coupling block in use (R184). -/
def coefLost (s : State) (a ue : Nat) : State :=
  let s := (s.bump (pgSve (engOf a)) SVE.MEM_ECC.UE).raise (pgSve (engOf a)) 8 a
  match ue with
  | 1 => (s.set (pgAct a) ACT.SV_CTL.SET_VALID (bitClear (s.fld (pgAct a) ACT.SV_CTL.SET_VALID) (s.svSet a))).unloadLoaded a
  | 2 => (s.setB (pgAct a) ACT.SV_CTL.CP_VALID false).unloadLoaded a
  | _ => s

/-- The memory errors of one update: `ce` corrected words; `ue` is 0 none, 1 a word of the set in use, 2 a word of the
coupling block, 3 a bias entry, 4 a profile entry (R171, R184). -/
def updateErrs (s : State) (a ce ue : Nat) : State :=
  let s := if ce = 0 then s else (s.bumpN (pgSve (engOf a)) SVE.MEM_ECC.CE ce).raise (pgSve (engOf a)) 7 a
  if ue = 0 then s else s.coefLost a ue

/-- The next record of a pipeline, taken from its queue. -/
def takeRecord (s : State) (e pipe : Nat) : Option (Nat × WedgeRec × State) :=
  match Tab.get [] s.servo.queue (2 * e + pipe) with
  | [] => none
  | (a, w) :: rest =>
    some (a, w, { s with servo := { s.servo with queue := Tab.put [] s.servo.queue (2 * e + pipe) rest } })

/-- One update of an actuator with its record. -/
def update (s : State) (a : Nat) (w : WedgeRec) (lat ce ue ueIdx : Nat) : State :=
  let e := engOf a
  let badBias := if ue = 3 then some ueIdx else none
  let badProf := if ue = 4 then some ueIdx else none
  let s := s.set (pgSve e) SVE.MAX_LAT.CYCLES (max (s.fld (pgSve e) SVE.MAX_LAT.CYCLES) (min lat 0xFFFF))
  let s := s.set (pgAct a) ACT.SV_STAT.WEDGE w.wedge
  let word := w.wedge % 1024 + min 7 w.samErrs * 1024 + b2n w.valid * 8192
  let s := s.onLoop a (fun l => { takeSam (s.fmt a) l w with delta := w.delta, wedgeWord := word })
  let s := s.updateErrs a ce ue
  let s := match s.svState a with
    | 1 => (if w.valid then (s.takePosition a (s.position a w (s.loop a).r)).shockTick a else s.invalidWedge a).acquire a w
    | 2 => if w.valid then s.closedUpdate a w badBias badProf else s.invalidWedge a
    | 3 =>
      if w.valid then (((s.takePosition a (s.position a w (s.loop a).r)).shockTick a).acquire a w).lostOutput a w.wedge badBias
      else (s.invalidWedge a).acquire a w
    | _ => s
  s.traceUpdate a

end State

/-! ### Commands -/

/-- SERVO_UPDATE (R162). -/
def execServoUpdate (e pipe lat ce ue ueIdx : Nat) (s : State) : Out :=
  match s.takeRecord e pipe with
  | none => ok s
  | some (a, w, s1) => okIf true s (s1.update a w lat ce ue ueIdx)

/-- TRACE_DONE (R186): the post-trigger samples are kept. -/
def execTraceDone (e : Nat) (s : State) : Out :=
  okIf (s.fld (pgSve e) SVE.TR_STAT.STATE = 2 && (s.trace e).left = 0) s
    ((s.set (pgSve e) SVE.TR_STAT.STATE 3).raise (pgSve e) 10 0)

/-- LOOP_ACQUIRED (R182): CLOSED in SETTLE on the stored target, or on the landed track; section states are zeroed,
the coupling's apart (R170). -/
def execLoopAcquired (a : Nat) (s : State) : Out :=
  let l := s.loop a
  okIf ((s.svState a = 1 || s.svState a = 3) && decide (l.acq ≥ max 2 (s.fld (pgAct a) ACT.SV_LIM.ACQ_N))) s
    ((((s.onLoop a fun l =>
      { l with
        acq := 0
        acqPrev := none
        followRun := 0
        hist := []
        setUsed := 1
        sects := Tab.keep (fun q => decide (q ≥ 24)) l.sects
        target := l.asked.getD (l.landed : Int)
        sinceAsk := none }).set (pgAct a) ACT.SV_CTL.SET 1).set (pgAct a) ACT.SV_STAT.MISS 0).toState a 2)

/-- LOADING_OUTPUT_TICK (R176): LOAD_CMD at a nominal wedge interval, MA = 0. -/
def execLoadingOutputTick (a : Nat) (s : State) : Out :=
  let v := s.fld (pgAct a) ACT.SV_LOAD.LOAD_CMD
  okIf (s.svState a = 1) s
    (((s.sendDn a (.out true true false (signed 18 v) 0 (s.fld (pgAct a) ACT.SV_STAT.WEDGE) 0 0 0 0)).set
      (pgAct a) ACT.SV_OUT.VCM v).set (pgAct a) ACT.SV_MA.MA 0)

/-- LOAD_TIMEOUT (R182). -/
def execLoadTimeout (a : Nat) (s : State) : Out :=
  okIf (s.svState a = 1) s ((s.sendUnload a).raise (pgSve (engOf a)) 3 a)

/-- LOST_TIMEOUT (R176). -/
def execLostTimeout (a : Nat) (s : State) : Out :=
  okIf (s.svState a = 3) s ((s.sendUnload a).raise (pgSve (engOf a)) 2 a)

/-- SETTLE_TIMEOUT (R177): SETTLE_FAIL is raised and counted, and the loop continues. -/
def execSettleTimeout (a : Nat) (s : State) : Out :=
  let lim := s.fld (pgAct a) ACT.SV_SEEKCFG.SETTLE_TO
  okIf (s.svState a = 2 && decide (lim ≠ 0) && (s.loop a).sinceAsk.any (fun n => decide ((s.loop a).intervals - n ≥ lim))) s
    (((s.onLoop a (fun l => { l with sinceAsk := none })).bump (pgAct a) ACT.SV_CNT_C.SETTLE_FAIL).raise (pgSve (engOf a)) 5 a)

/-- LOAD_REQUEST (R181), from SV_CTL.LOAD or from a thread. -/
def execLoadRequest (a : Nat) (s : State) : Out :=
  okIf (actOk s.part a) s (s.loadRequest a)

/-- UNLOAD_REQUEST (R183, R188): ignored in OPEN and FAULT; a sequencer's sends assist level 0 first (R212). -/
def execUnloadRequest (a : Nat) (byThread : Bool) (s : State) : Out :=
  okIf (actOk s.part a && decide (s.svState a ≠ 0) && decide (s.svState a ≠ 5)) s
    ((if byThread then s.assistSet a 0 else s).sendUnload a)

/-- RETRACT_LOOP_UNLOAD (R183): RETRACT_n has been low for 1 µs. -/
def execRetractLoopUnload (a : Nat) (s : State) : Out :=
  okIf (actOk s.part a && s.retractLow (clOf a)) s (s.retractLoop a)

/-- LOOP_CLEAR (R176): FAULT to OPEN while STATUS shows HEADS_PARKED. -/
def execLoopClear (a : Nat) (s : State) : Out :=
  okIf (actOk s.part a && decide (s.svState a = 5) && !s.headsLoaded a) s (s.toState a 0)

/-- SET_WRITE (R173, R188): acts only in CLOSED; 3 is ignored. -/
def execSetWrite (a n : Nat) (s : State) : Out :=
  okIf (actOk s.part a && decide (s.svState a = 2) && decide (n < 3)) s
    (((s.onLoop a fun l => { l with followRun := 0, sinceAsk := if n = 2 then none else l.sinceAsk }).toSet a n).setB
      (pgAct a) ACT.SV_CTL.SEEK_DONE (decide (n = 2) && ((s.loop a).asked.getD (s.loop a).target == (s.loop a).target)))

/-- SEEK_REQUEST (R177): SV_SEEK.GO. -/
def execSeekRequest (a track : Nat) (s : State) : Out :=
  okIf (actOk s.part a) s (s.seekRequest a (track % 2 ^ 24))

namespace State

/-- Advance MEM_ADDR.INDEX, which wraps from 0xFFF to 0 (R187). -/
def nextIndex (s : State) (e : Nat) : State :=
  s.set (pgSve e) SVE.MEM_ADDR.INDEX (s.fld (pgSve e) SVE.MEM_ADDR.INDEX + 1)

/-- A write to an actuator's coefficient memory in OPEN clears the valid bit of what it writes (R172). -/
def coefWrite (s : State) (a i : Nat) (v : Word) : State :=
  if i < 796 then
    let s := { s with servo := { s.servo with coef := Tab.put 0#32 s.servo.coef (a * 1024 + i) v } }
    if i < 768 then
      s.set (pgAct a) ACT.SV_CTL.SET_VALID (bitClear (s.fld (pgAct a) ACT.SV_CTL.SET_VALID) (i / 256))
    else s.setB (pgAct a) ACT.SV_CTL.CP_VALID false
  else s

end State

/-- COEF_MEM_WRITE (R172, R174, R187): a MEM_DATA write. -/
def execCoefMemWrite (e : Nat) (value : Word) (s : State) : Out :=
  let i := s.fld (pgSve e) SVE.MEM_ADDR.INDEX
  let a := 8 * e + s.fld (pgSve e) SVE.MEM_ADDR.ACT
  okIf (engOk s.part e) s <|
    match s.fld (pgSve e) SVE.MEM_ADDR.MEM with
    | 0 =>
      if s.svState a = 0 then (s.coefWrite a i value).nextIndex e
      else (s.bump (pgAct a) ACT.SV_CNT_D.COEF_REFUSED).raise (pgSve e) 6 a
    | 1 =>
      (if i < 1024 then { s with servo := { s.servo with bias := Tab.put 0#32 s.servo.bias (a * 1024 + i) value } } else s).nextIndex e
    | 2 =>
      (if i < 256 then { s with servo := { s.servo with prof := Tab.put 0#32 s.servo.prof (a * 256 + i) value } } else s).nextIndex e
    | _ => s.nextIndex e

/-- The word a MEM_DATA read returns (R186, R187). -/
def State.servoMemWord (s : State) (e : Nat) : Nat :=
  let i := s.fld (pgSve e) SVE.MEM_ADDR.INDEX
  let k := s.fld (pgSve e) SVE.MEM_ADDR.ACT
  let a := 8 * e + k
  match s.fld (pgSve e) SVE.MEM_ADDR.MEM with
  | 0 => if i < 796 then (s.coefWord a i).toNat else 0
  | 1 => if i < 1024 then (s.biasWord a i).toNat else 0
  | 2 => if i < 256 then (s.profWord a i).toNat else 0
  | 3 =>
    if s.fld (pgSve e) SVE.TR_STAT.STATE = 0 ∨ s.fld (pgSve e) SVE.TR_STAT.STATE = 3 then
      unsigned 32 (((s.trace e).rows.getD i []).getD k 0)
    else 0
  | _ => 0

/-- SERVO_MEM_READ (R186, R187). -/
def execServoMemRead (acc : Accessor) (e : Nat) (s : State) : Out :=
  okIf (engOk s.part e) s
    ((s.onIo (fun i => { i with readData := Tab.put 0 i.readData acc.num (s.servoMemWord e) })).nextIndex e)

/-- The fields a TR_CTL write stores (R187). -/
def State.storeTrCtl (s : State) (e : Nat) (v : Word) : State :=
  ((((s.set (pgSve e) SVE.TR_CTL.MODE (bitsOf v.toNat 2 2)).set (pgSve e) SVE.TR_CTL.CLK_ACT (bitsOf v.toNat 5 3)).set
    (pgSve e) SVE.TR_CTL.CLK_SPM (bitsOf v.toNat 6 6)).set (pgSve e) SVE.TR_CTL.DECIM (bitsOf v.toNat 11 8)).set
    (pgSve e) SVE.TR_CTL.PRE (bitsOf v.toNat 27 16)

/-- TRACE_ARM (R186): a capture starts, from any state of the trace; KIND 0 fires at the first tick. -/
def execTraceArm (e : Nat) (value : Word) (s : State) : Out :=
  okIf (engOk s.part e) s
    (((((s.storeTrCtl e value).setTrace e Trace.zero).set (pgSve e) SVE.TR_STAT.STATE 1).set
      (pgSve e) SVE.TR_STAT.COUNT 0).set (pgSve e) SVE.TR_STAT.TRIG_IDX 0)

/-- TRACE_STOP (R186): ARMED or roll goes to DONE. -/
def execTraceStop (e : Nat) (value : Word) (s : State) : Out :=
  let s1 := s.storeTrCtl e value
  okIf (engOk s.part e) s (if s.fld (pgSve e) SVE.TR_STAT.STATE = 1 then s1.set (pgSve e) SVE.TR_STAT.STATE 3 else s1)

end Sys2Proof.Machine
end

