-- ==== Sys2Proof/Machine/Link.lean ====
section
/-! DEFINITION. The commands of the Koraetar Links: training, flits, leaving ACTIVE, DOZE and RETRACT_n (R41-R80). -/

namespace Sys2Proof.Machine

namespace State

/-- A slot's spindle page field SPIN_OWNER of a link: it carries the spindle. -/
def showOwner (s : State) (n : Nat) : State :=
  let o := Tab.get 0 s.link.owner n
  let up := fun a => decide (s.lkState a = 2) || decide (s.lkState a = 3)
  (s.setB (pgAct (2 * n)) ACT.LK_STAT.SPIN_OWNER (decide (o = 0) && up (2 * n))).setB
    (pgAct (2 * n + 1)) ACT.LK_STAT.SPIN_OWNER (decide (o = 1) && up (2 * n + 1))

/-- SPIN_CFG: 40,000 Hz and SPIN_TIMEOUT (R56, R189). -/
def spinCfg (s : State) (a : Nat) : State :=
  s.sendCmd a 8 (40000 * 2 ^ 8 + max 1 (s.fld (pgKlc (clOf a)) KLC.KLC_CFG.SPIN_TIMEOUT))

/-- Spindle ownership of a slot moves when its owner is in neither ACTIVE nor DOZE and the sibling is (R73). -/
def settleOwner (s : State) (n : Nat) : State :=
  let o := Tab.get 0 s.link.owner n
  let up := fun a => decide (s.lkState a = 2) || decide (s.lkState a = 3)
  let own := 2 * n + o
  let sib := sibOf own
  if !up own && up sib then
    let s1 := ((s.sendCmd sib 7 0).spinCfg sib)
    showOwner { s1 with link := { s1.link with owner := Tab.put 0 s1.link.owner n (1 - o) } } n
  else s.showOwner n

/-- Abandon what a detector has open over samples that the link did not deliver (R65, R66). -/
def gapHits (s : State) (a : Nat) : State :=
  let s1 := s.abandonWin a .gap
  if (s1.det a).wedgeTgt.isSome then s1.onDet a fun d => { d with wedgeGap := true } else s1

/-- A wedge that its group's check invalidates after its update has run (R167): it counts towards MISS_MAX and is left out of
the velocity estimate, the speed ratio and the shock test. -/
def lateInvalid (s : State) (a : Nat) : State :=
  if 1 ≤ s.svState a ∧ s.svState a ≤ 3 then
    let m := min 15 ((s.loop a).wasMiss + 1)
    let s1 := (((s.setCause a 5 true).bump (pgAct a) ACT.SV_CNT_B.LATE_INV).raise (pgSve (engOf a)) 13 a).set (pgAct a) ACT.SV_STAT.MISS m
    let s2 := s1.onLoop a fun l =>
      { l with
        pos := l.wasPos
        posAt := l.wasAt
        hist := []
        shockRun := 0
        limitRun := 0
        predRun := 0
        followRun := 0
        sams := match l.sams with | [] => [] | x :: xs => { x with ok := false } :: xs }
    s2.missLimit a m
  else s

/-- A check group has failed: every brick and wedge whose samples it covers (R66). Samples from `lo` on are covered. -/
def groupFails' (s : State) (a lo hi : Nat) : State :=
  let hit := fun (r : Record) => decide (r.start < hi) && decide (lo < r.start + r.n)
  let c := clOf a
  let s1 := s.gapHits a
  let p := s1.pool c
  let dead := p.live.filter fun j => decide (j.act = a) && hit (s1.ringRec a j.unit)
  let s2 := dead.foldl (fun s j => s.reportRec .gap (s.ringRec a j.unit) 0)
    (s1.setPool c { p with live := p.live.filter fun j => !dead.contains j })
  let s2 := ((s2.det a).pend.filter fun w => hit (s2.ringRec a w.unit)).foldl (fun (s : State) w => s.reportRec .gap (s.ringRec a w.unit) 0)
    (s2.onDet a fun d => { d with pend := d.pend.filter fun w => !hit (s2.ringRec a w.unit) })
  let heldDead := s2.rc.held.filter fun h => decide (h.act = a) && decide (h.upTo > lo)
  let s3 : State := { s2 with rc := { s2.rc with held := s2.rc.held.filter fun h => !heldDead.contains h } }
  let s4 := heldDead.foldl (fun s h => s.report ⟨.gap, a, h.tile, h.slot, 0, h.tag, 0, 0⟩) s3
  let t := s4.thr a
  if t.wedgeValid ∧ lo ≤ t.lastSam ∧ t.lastSam < hi then
    let k := engOf a * 2 + a % 2
    let q := Tab.get [] s4.servo.queue k
    if q.any (fun ar => decide (ar.1 = a) && decide (ar.2.sam = t.lastSam)) then
      let q' := q.map fun ar => if ar.1 = a ∧ ar.2.sam = t.lastSam then (ar.1, { ar.2 with valid := false }) else ar
      { s4 with servo := { s4.servo with queue := Tab.put [] s4.servo.queue k q' } }
    else s4.lateInvalid a
  else s4

/-- A sample gap: raised and counted only while a window of the actuator is open (R65). -/
def sampleGap (s : State) (a : Nat) : State :=
  if (s.det a).win.isSome ∨ (s.det a).wedgeTgt.isSome then
    ((s.raise (pgKlc (clOf a)) 3 a).bump (pgAct a) ACT.GAP_CNT.V).gapHits a
  else s

/-- What a link that leaves ACTIVE leaves open: a window open is a sample gap, and the groups whose CHECK flit never comes fail
(R49, R65, R66). -/
def cutSamples (s : State) (a : Nat) : State :=
  let s1 := s.sampleGap a
  let cut := fun (s : State) (n : Lane) => let l := s.lane a n; if l.checkedTo < l.idx then s.groupFails' a l.checkedTo l.idx else s
  cut (cut s1 .up0) .up1

/-- A link enters a state: what the KLC page shows, its events, its gates, its spindle (R61, R79). -/
def moveLink (s : State) (a st : Nat) : State :=
  let was := s.lkState a
  let c := clOf a
  let s := if was = 2 ∧ st ≠ 2 then (s.abandonChecks a).cutSamples a else s
  let s1 := ((s.set (pgAct a) ACT.LK_STAT.STATE st).setLinkBit a KLC.ACTIVE.V (decide (st = 2))).setLinkBit
    a KLC.FAULTED.V (decide (st = 4))
  let s2 := if st = 1 then s1
    else (s1.set (pgAct a) ACT.LK_STAT.PHASE 0).setB (pgAct a) ACT.LK_STAT.FULL_RATE (decide (st = 2))
  let s3 := if was = 2 ∧ st ≠ 2 then (s2.gatesLost a).raise (pgKlc c) 1 a else s2
  let s4 := if st = 2 ∧ was ≠ 2 then s3.raise (pgKlc c) 0 a else s3
  let s5 := (s4.settleOwner (slotOf a)).noLink (slotOf a)
  if st = 0 ∨ st = 4 then s5.loseActuator a else s5

/-- A training attempt starts at a phase (R61, R62). -/
def startTrain (s : State) (a phase attempt : Nat) : State :=
  ((((s.moveLink a 1).set (pgAct a) ACT.LK_STAT.PHASE phase).set (pgAct a) ACT.LK_STAT.ATTEMPT (min 7 attempt)).setB
    (pgAct a) ACT.LK_STAT.FULL_RATE (decide (phase ≥ 3))).bump (pgAct a) ACT.TRAIN_CNT.V

/-- The slot's bridge has gone when both its links are DOWN: BRIDGE_REMOVED, unless its link has just raised it (R61, R74,
R235). -/
def bridgeGone (s : State) (a : Nat) (told : Bool) : State :=
  if s.lkState a = 0 ∧ s.lkState (sibOf a) = 0 ∧ s.bridgeHere (slotOf a) then
    let s1 := (s.setLinkBit a KLC.PRESENT.V false).setLinkBit (sibOf a) KLC.PRESENT.V false
    let s1 := if told then s1 else s1.raise (pgKlc (clOf a)) 14 a
    let n := slotOf a
    let s2 := if s1.slotSt n = 4 then s1.toSlot n 0 else s1
    s2.tryExclude n
  else s

/-- The link takes up the state it was leaving ACTIVE for. -/
def finishLeave (s : State) (a target : Nat) : State :=
  let s1 := s.onLk a fun l => { l with leave := none, fails := 0 }
  if target = 1 then s1.startTrain a 1 1
  else if target = 0 then ((s1.moveLink a 0).dropLoop a).bridgeGone a false
  else s1.moveLink a target

/-- A link leaves ACTIVE: with loaded heads GATE_KILL and an UNLOAD go out first, and the ACK is awaited (R72). -/
def leaveActive (s : State) (a target : Nat) : State :=
  if s.lkState a = 2 ∧ s.headsLoaded a then
    if (s.lk a).leave.isSome then s.onLk a fun l => { l with leave := l.leave.map fun x => { x with target := target } }
    else
      let s1 := (s.sendDn a .kill).killGates a
      let seq := (s1.lk a).pseq
      let s2 := if s1.svState a = 1 ∨ s1.svState a = 2 ∨ s1.svState a = 3 then s1.sendUnload a else s1.sendCmd a 5 0
      s2.onLk a fun l => { l with leave := some ⟨target, seq, false⟩ }
  else s.finishLeave a target

/-- Replay exhaustion sends the link to TRAIN (R55). -/
def resendOr (s : State) (a : Nat) (ps : List Pkt) : State :=
  if ps.isEmpty then s
  else if s.exhausted a ps then (s.raise (pgKlc (clOf a)) 7 a).leaveActive a 1
  else s.resend a ps

/-- The KLC page operates. -/
def klcOn (s : State) (a : Nat) : Bool := actOk s.part a && s.enabled (pgKlc (clOf a))

/-- An IDENT that the H7128 refuses: the wrong side, no or too many heads, or a value below its minimum (R63). -/
def identBad (a : Nat) (i : Ident) : Bool :=
  decide (i.side ≠ a % 2) || decide (i.heads = 0) || decide (i.heads > 12) || decide (i.adcRate < 4700) || decide (i.wfifo < 32)
    || decide (i.maxrate < 4400)

/-- Keep what IDENT reports (R80). -/
def keepIdent (s : State) (a : Nat) (i : Ident) : State :=
  let p := pgAct a
  ((((((((((s.set p ACT.BR_ID.MAKER i.maker).set p ACT.BR_ID.PRODUCT i.product).set p ACT.BR_CAP.REV i.rev).set
    p ACT.BR_CAP.WFIFO i.wfifo).set p ACT.BR_CAP.SIDE i.side).set p ACT.BR_CAP.ASSIST i.assist).set
    p ACT.BR_CAP.HEADS i.heads).set p ACT.BR_RATE.ADC_RATE i.adcRate).set p ACT.BR_RATE.MAXRATE i.maxrate).set
    p ACT.BR_SERIAL.V i.serial).onLk a fun l => { l with identified := true }

/-- The two links of the slot report different SERIAL values. -/
def serialsDiffer (s : State) (a : Nat) (i : Ident) : Bool :=
  (s.lk (sibOf a)).identified && decide (s.fld (pgAct (sibOf a)) ACT.BR_SERIAL.V ≠ i.serial)

/-- A check failure is counted: CHECK_FAIL, and the fourth failed group in a row on a lane retrains the link (R61). -/
def checkFails (s : State) (a : Nat) (n : Lane) (whole : Bool) : State :=
  let l := s.lane a n
  let s1 := (s.bump (pgAct a) ACT.CHECK_CNT.V).raise (pgKlc (clOf a)) 5 a
  if whole then
    let s2 := (s1.onLane a n fun l => { l with failed := l.failed + 1, checkedTo := l.idx }).groupFails' a l.checkedTo l.idx
    if l.failed + 1 ≥ 4 then s2.leaveActive a 1 else s2
  else s1

/-- Write bytes' samples of a flit into the open window's record (R119). -/
def keepSamples (s : State) (a : Nat) (n : Lane) (start : Nat) (xs : List Int) : State :=
  match (s.det a).win with
  | none => s
  | some w =>
    let r := s.ringRec a w.unit
    if start + 40 > r.start ∧ start < r.start + r.n ∧ s.enabled (pgFdc (clOf a)) then
      s.setRingRec a w.unit (match n with
        | .up0 => { r with samples0 := r.samples0 ++ [xs] }
        | .up1 => { r with samples1 := r.samples1 ++ [xs] })
    else s

/-! ### STATUS (R48, R79) -/

/-- The KLC event of each bridge event bit: UNKNOWN_OP, DOZE_REFUSED, RETRACT, WRITE_KILLED, WRITE_LATE, WRITE_CRC,
WRITE_UNDERRUN for bits 0 to 6. -/
def bridgeEvents : List (Nat × Nat) := [(6, 9), (5, 10), (4, 11), (3, 12), (2, 16), (1, 17), (0, 18)]

/-- The bits that are new occurrences: not shown before, or shown again after the EVT_CLEAR that names them is covered. -/
def newEvents (l : Link) (acked : Bool) (ev : Nat) : Nat :=
  ((List.range 7).filter fun b => bitOf ev b && (!bitOf l.shown b || (acked && bitOf l.clearMask b))).foldl (fun m b => m + 2 ^ b) 0

/-- Raise the bridge events a STATUS flit first shows, and answer with an EVT_CLEAR of exactly those (R79). -/
def statusEvents (s : State) (a ev : Nat) : State :=
  let l := s.lk a
  let acked := match l.clearSeq with | some q => !s.awaits a q | none => false
  let fresh := newEvents l acked ev
  let s1 := s.onLk a fun l => { l with shown := ev, clearSeq := if acked then none else l.clearSeq }
  if fresh = 0 then s1
  else
    let s2 := bridgeEvents.foldl (fun s be => if bitOf fresh be.1 then s.raise (pgKlc (clOf a)) be.2 a else s) s1
    let s3 := if bitOf fresh 4 then s2.raise (pgFsq (clOf a)) 7 a else s2
    let s4 := if fresh / 8 % 16 ≠ 0 then s3.bump (pgAct a) ACT.WGATE_CNT.V else s3
    let seq := (s4.lk a).pseq
    (s4.sendCmd a 0x0A fresh).onLk a fun l => { l with clearSeq := some seq, clearMask := fresh }

/-- The acknowledgement part: ACK, then NAK with its resend (R54, R55). -/
def statusAck (s : State) (a : Nat) (st : Status) : State :=
  let s1 := s.takeAck a st.ackSeq
  if st.nak then ((s1.bump (pgAct a) ACT.NAK_CNT.V).raise (pgKlc (clOf a)) 6 a).resendOr a (fromSeq st.nakSeq (s1.outstanding a))
  else s1

/-- The current pair on the owning link runs the slot's current tick (R190). -/
def statusCurrent (s : State) (a : Nat) (st : Status) (ce ue : Nat) : State :=
  let n := slotOf a
  if st.curValid && decide (s.ownerAct n = a) && s.enabled (pgSpm (n / 4)) then
    (s.currentTick n st.iu st.iv ce ue).traceCurrent n
  else s

/-- HEADS_PARKED as the flit shows it: UNLOADING ends, UNLOAD_UNACKED is settled, a leave ends (R72, R76, R176). -/
def statusParked (s : State) (a : Nat) (parked : Bool) : State :=
  let s1 := s.setB (pgAct a) ACT.LK_STAT.HEADS_PARKED parked
  let s2 := s1.onLk a fun l => { l with leave := l.leave.map fun x => { x with acked := x.acked || !(ackHits x.seq l.replay) } }
  if parked then
    let s3 := ((s2.parkedLoop a).settleUnacked a).stopGoesOn (slotOf a)
    match (s3.lk a).leave with
    | some x => if x.acked then s3.finishLeave a x.target else s3
    | none => s3
  else s2

/-- DOZE_ENTER has been accepted (R56, R61): acknowledged without DOZE_REFUSED. -/
def statusDoze (s : State) (before : List Pkt) (a ev : Nat) : State :=
  let sent := before.any fun p => decide (p.op = 0x0B) && !((s.lk a).replay.any fun q => decide (q.seq = p.seq))
  if sent ∧ bitOf ev 1 = false ∧ s.lkState a = 2 then s.moveLink a 3 else s

/-- With DOZE_REQ = 1 DOZE_ENTER goes out once the heads are parked and no gate is armed (R80). -/
def dozeWanted (s : State) (a ev : Nat) : State :=
  let sent := (s.lk a).replay.any fun p => decide (p.op = 0x0B)
  if s.flag (pgAct a) ACT.LK_CTL.DOZE_REQ ∧ s.lkState a = 2 ∧ s.headsLoaded a = false ∧ s.gateOn a = false ∧ sent = false
      ∧ bitOf ev 1 = false then s.sendCmd a 0x0B 0
  else s

/-- The sensor value of a flit, and the sensor test for shock (R180). -/
def statusSensor (s : State) (a : Nat) (st : Status) : State :=
  let s1 := s.onLk a fun l =>
    { l with
      sensorId := st.sensorId
      sensorVal := st.sensorVal
      vcmI := st.vcmI
      curIndex := st.curIndex
      lastTag := st.lastTag
      bitsWritten := st.bitsWritten }
  let thr := s1.fld (pgAct a) ACT.SV_SENS.SENS_THR
  if s1.svState a ≠ 0 ∧ thr ≠ 0 ∧ st.sensorId = s1.fld (pgAct a) ACT.SV_SHOCK.SENS_ID ∧ |st.sensorVal| > thr then s1.shock a else s1

/-- The OUT flits that the bridge has discarded since the last flit. -/
def statusOutCrc (s : State) (a cnt : Nat) : State :=
  let d := (cnt + 256 - (s.lk a).outCrc) % 256
  let s1 := s.onLk a fun l => { l with outCrc := cnt }
  if d = 0 then s1 else (s1.bumpN (pgAct a) ACT.OUT_CRC_CNT.V d).raise (pgKlc (clOf a)) 8 a

/-- An HDA or actuator that was lost is back on its own slot (R263). -/
def actReturns (s : State) (a : Nat) : State :=
  if s.slotSt (slotOf a) = 1 ∧ Tab.find? s.mason.serials (slotOf a) = some (s.fld (pgAct a) ACT.BR_SERIAL.V)
      ∧ s.mason.lostActs.contains a then s.takeBack a
  else s

end State

/-- WAKE_PATTERN_DETECTED (R61); the links of a cluster asleep ignore it (R425). -/
def execWakePatternDetected (a : Nat) (s : State) : Out :=
  okIf (s.klcOn a && decide (s.lkState a = 0) && !s.flag (pgAct a) ACT.LK_CTL.FORCE_DOWN && !s.pwr.asleep.contains (7 + clOf a)) s
    (((s.setB (pgAct a) ACT.LK_STAT.LOS false).onLk a fun l => { l with fails := 0, identified := false }).startTrain a 1 1)

/-- TRAIN_T1_PASS (R62, R74): the bridge is present; a bridge fresh from its reset has side A as spindle owner (R73). -/
def execTrainT1Pass (a : Nat) (s : State) : Out :=
  let fresh := !s.bridgeHere (slotOf a)
  let s1 := (s.set (pgAct a) ACT.LK_STAT.PHASE 2).setLinkBit a KLC.PRESENT.V true
  okIf (s.klcOn a && decide (s.lkState a = 1) && decide (s.lkPhase a = 1)) s
    (if fresh then
      ({ s1 with link := { s1.link with owner := Tab.put 0 s1.link.owner (slotOf a) 0 } } : State).raise (pgKlc (clOf a)) 13 a
     else s1)

/-- CONFIG_SEND (R64). -/
def execConfigSend (a : Nat) (s : State) : Out :=
  okIf (s.klcOn a && decide (s.lkState a = 1) && decide (s.lkPhase a = 2)) s
    (s.sendDn a (.config (inCl a) (clOf a) (a % 2) 40000 (max 1 (s.fld (pgKlc (clOf a)) KLC.KLC_CFG.SPIN_TIMEOUT)) (s.fullRate a)))

/-- IDENT_RECEIVED (R62, R63). -/
def execIdentReceived (a : Nat) (i : Ident) (s : State) : Out :=
  let s1 := s.keepIdent a i
  let klc := pgKlc (clOf a)
  okIf (s.klcOn a && decide (s.lkState a = 1) && decide (s.lkPhase a = 2)) s <|
    if State.identBad a i then (s1.raise klc 15 a).finishLeave a 4
    else if s.serialsDiffer a i then ((s1.raise klc 15 a).finishLeave a 4).leaveActive (sibOf a) 4
    else if s.fullRate a then (s1.set (pgAct a) ACT.LK_STAT.PHASE 3).setB (pgAct a) ACT.LK_STAT.FULL_RATE true
    else s1.moveLink a 3

/-- EQ_ADAPTED (R62): phase T4 opens with SENSOR_SEL of sensor 0 under PSEQ 0. -/
def execEqAdapted (a : Nat) (s : State) : Out :=
  okIf (s.klcOn a && decide (s.lkState a = 1) && decide (s.lkPhase a = 3)) s
    (((s.set (pgAct a) ACT.LK_STAT.PHASE 4).onLk a fun l =>
      { l with pseq := 0, replay := [], up0 := LaneRx.zero, up1 := LaneRx.zero, clearSeq := none, shown := 0 }).sendCmd a 9 0)

/-- TRAIN_T4_PASS (R62, R189): ACTIVE, with the first packet acknowledged. -/
def execTrainT4Pass (a : Nat) (s : State) : Out :=
  okIf (s.klcOn a && decide (s.lkState a = 1) && decide (s.lkPhase a = 4)) s
    (((((s.takeAck a 0).onLk a fun l => { l with fails := 0 }).moveLink a 2).spinCfg a).actReturns a)

/-- TRAIN_PHASE_TIMEOUT (R62): the next attempt starts at T1, or FAULT with TRAIN_FAIL after TRAIN_MAX. -/
def execTrainPhaseTimeout (a : Nat) (s : State) : Out :=
  let n := (s.lk a).fails + 1
  let c := clOf a
  okIf (s.klcOn a && decide (s.lkState a = 1)) s <|
    if n ≥ max 1 (s.fld (pgKlc c) KLC.KLC_CFG.TRAIN_MAX) then
      ((s.onLk a fun l => { l with fails := 0 }).raise (pgKlc c) 2 a).moveLink a 4
    else (s.onLk a fun l => { l with fails := n }).startTrain a 1 (n + 1)

/-- LOS_TIMEOUT (R61, R74): 1 ms without signal on both UP lanes: DOWN, BRIDGE_REMOVED. -/
def execLosTimeout (a : Nat) (s : State) : Out :=
  okIf (s.klcOn a && decide (s.lkState a ≠ 0)) s
    ((((((((s.setB (pgAct a) ACT.LK_STAT.LOS true).onLk a fun l => { l with leave := none, identified := false, replay := [] }).raise
      (pgKlc (clOf a)) 14 a).moveLink a 0).dropLoop a).settleUnacked a).stopGoesOn (slotOf a)).bridgeGone a true)

/-- INVALID_BLOCK_HEADER (R44): the sixteenth in a row loses block lock. -/
def execInvalidBlockHeader (a : Nat) (n : Lane) (s : State) : Out :=
  okIf (actOk s.part a) s
    (s.onLane a n fun l => { l with bad := l.bad + 1, good := 0, locked := l.locked && decide (l.bad + 1 < 16) })

/-- SAMPLE_FLIT (R46, R65, R68, R119). -/
def execSampleFlit (a : Nat) (n : Lane) (sseq : Nat) (samples : List Int) (s : State) : Out :=
  let l := s.lane a n
  let skip := match l.sseq with | some q => (sseq + 4096 - q) % 4096 | none => 0
  let start := l.idx + 40 * skip
  let s1 := if skip ≠ 0 then s.sampleGap a else s
  let s2 := (s1.onLane a n fun l => { l with sseq := some ((sseq + 1) % 4096), idx := start + 40, bad := 0 }).keepSamples a n start samples
  okIf (actOk s.part a && decide (s.lkState a = 2) && l.locked) s
    (if n = .up0 then s2.set (pgAct a) ACT.SAMPLE_INDEX.V (start + 39) else s2)

/-- TIME_FLIT (R47): the next SAMPLE flit's index and SSEQ; one that disagrees with the count is a sample gap. -/
def execTimeFlit (a : Nat) (n : Lane) (index sseq : Nat) (s : State) : Out :=
  let l := s.lane a n
  let agrees := match l.sseq with
    | some q => decide (index = l.idx + 40 * ((sseq + 4096 - q) % 4096))
    | none => true
  let s1 := if agrees then s else s.sampleGap a
  okIf (actOk s.part a && decide (s.lkState a = 2) && l.locked) s
    (s1.onLane a n fun l => { l with sseq := some sseq, idx := index, bad := 0 })

/-- STATUS_FLIT (R48, R54, R72, R79, R150, R190). `ce` and `ue` are the errors met by the current tick's cogging reads (R207). -/
def execStatusFlit (a : Nat) (st : Status) (ce ue : Nat) (s : State) : Out :=
  let before := (s.lk a).replay
  let s1 := (s.statusAck a st).statusOutCrc a st.outCrcCnt
  let drop := decide (State.newEvents (s1.lk a) (match (s1.lk a).clearSeq with | some q => !s1.awaits a q | none => false) st.events
    / 8 % 16 ≠ 0)
  let s2 := ((s1.statusEvents a st.events).gateEnd a st.lastTag st.bitsWritten drop).statusSensor a st
  let s3 := (s2.statusCurrent a st ce ue).statusParked a st.headsParked
  okIf (actOk s.part a && (decide (s.lkState a = 2) || decide (s.lkState a = 3) || (decide (s.lkState a = 1) && decide (s.lkPhase a = 4)))) s
    ((s3.statusDoze before a st.events).dozeWanted a st.events)

/-- CHECK_FLIT (R49, R66). -/
def execCheckFlit (a : Nat) (n : Lane) (group : Nat) (crcOk : Bool) (s : State) : Out :=
  let l := s.lane a n
  let inNumber := match l.group with | some g => decide (group = (g + 1) % 4096) | none => true
  let s1 := s.onLane a n fun l => { l with group := some group, bad := 0 }
  okIf (actOk s.part a && decide (s.lkState a = 2)) s <|
    if crcOk && inNumber then s1.onLane a n fun l => { l with failed := 0, checkedTo := l.idx }
    else s1.checkFails a n true

/-- RESERVED_TYPE_FLIT (R45): discarded and counted as a check failure. -/
def execReservedTypeFlit (a : Nat) (n : Lane) (s : State) : Out :=
  okIf (actOk s.part a && decide (s.lkState a = 2)) s (s.checkFails a n false)

/-- SAMPLE_GAP_DETECTED (R65). -/
def execSampleGapDetected (a : Nat) (_n : Lane) (s : State) : Out :=
  okIf (actOk s.part a && decide (s.lkState a = 2)) s (s.sampleGap a)

/-- LONG_STALL (R67): the link goes to TRAIN, under R72 with loaded heads. -/
def execLongStall (a : Nat) (_n : Lane) (s : State) : Out :=
  okIf (actOk s.part a && decide (s.lkState a = 2)) s ((s.raise (pgKlc (clOf a)) 4 a).leaveActive a 1)

/-- ACK_TIMEOUT (R55): every outstanding packet is resent. -/
def execAckTimeout (a : Nat) (s : State) : Out :=
  okIf (actOk s.part a && (decide (s.lkState a = 2) || decide (s.lkState a = 3))) s (s.resendOr a (s.outstanding a))

/-- LINK_RETRAIN (R80): training at T1 from any state but DOWN. -/
def execLinkRetrain (_acc : Accessor) (a : Nat) (s : State) : Out :=
  okIf (s.klcOn a && decide (s.lkState a ≠ 0)) s (s.leaveActive a 1)

/-- DOZE_REQUEST (R56, R61, R80): 1 sends DOZE_ENTER with the heads parked and no gate armed; 0 leaves DOZE, training from
T3, where full rate is allowed. -/
def execDozeRequest (_acc : Accessor) (a : Nat) (value : Bool) (s : State) : Out :=
  let s1 := s.setB (pgAct a) ACT.LK_CTL.DOZE_REQ value
  okIf (actOk s.part a) s <|
    if value then
      if s.lkState a = 2 ∧ s.headsLoaded a = false ∧ s.gateOn a = false then s1.sendCmd a 0x0B 0 else s1
    else if s.lkState a = 3 ∧ s.fullRate a then s1.startTrain a 3 1
    else s1

/-- FORCE_DOWN (R80): 1 holds the link DOWN and ignores the wake pattern; an exit with loaded heads first runs R72. -/
def execForceDown (_acc : Accessor) (a : Nat) (value : Bool) (s : State) : Out :=
  let s1 := s.setB (pgAct a) ACT.LK_CTL.FORCE_DOWN value
  okIf (actOk s.part a) s <|
    if value ∧ s.lkState a ≠ 0 then s1.leaveActive a 0 else s1

/-- RETRACT_SW_WRITE (R76, R79). -/
def execRetractSwWrite (_acc : Accessor) (c : Nat) (value : Bool) (s : State) : Out :=
  let was := s.drives c
  let s1 := (s.setB (pgKlc c) KLC.RETRACT.SW_ASSERT value).syncRetract c
  okIf (clOk s.part c) s (if value ∧ ¬ was then s1.set (pgKlc c) KLC.RETRACT.CAUSE 2 else s1)

/-- RETRACT_HW_RELEASE (R76, R79): ends causes 0x01 and 0x03; from MGP only. -/
def execRetractHwRelease (acc : Accessor) (c : Nat) (s : State) : Out :=
  okIf (clOk s.part c) s <|
    if acc ≠ .mgp then s.lockedWrite (pgKlc c)
    else s.onRetract c fun r => { r with poweron := false, unacked := false, links := [] }

/-- RETRACT_HOLD_EXPIRY (R76): 500 ms after its last assertion UNLOAD_UNACKED ends. -/
def execRetractHoldExpiry (c : Nat) (s : State) : Out :=
  okIf (decide (c < 8) && (s.retract c).unacked) s (s.onRetract c fun r => { r with unacked := false, links := [] })

/-- UNLOAD_ACK_TIMEOUT (R72): no ACK in 20 µs; RETRACT_n is asserted unless both UP lanes have lost signal. -/
def execUnloadAckTimeout (a : Nat) (signalLost : Bool) (s : State) : Out :=
  match (s.lk a).leave with
  | some x => okIf (!x.acked) s ((if signalLost then s else s.assertUnacked a).finishLeave a x.target)
  | none => ok s

/-- PARK_WAIT_TIMEOUT (R72): 500 ms after the ACK the link moves without HEADS_PARKED. -/
def execParkWaitTimeout (a : Nat) (s : State) : Out :=
  match (s.lk a).leave with
  | some x => okIf x.acked s (s.finishLeave a x.target)
  | none => ok s

/-- UNLOAD_TIMEOUT (R176, R204, R260): FAULT with UNLOAD_FAIL; the actuator is lost, and a stop under way is withdrawn. -/
def execUnloadTimeout (a : Nat) (s : State) : Out :=
  okIf (actOk s.part a && decide (s.svState a = 4)) s
    ((((s.toState a 5).raise (pgSve (engOf a)) 4 a).loseActuator a).stopGoesOn (slotOf a))

/-- BLOCK_LOCK_REGAINED (R44): after 8 consecutive valid sync headers the lane has block lock again. -/
def execBlockLockRegained (a : Nat) (n : Lane) (s : State) : Out :=
  okIf (actOk s.part a) s (s.onLane a n fun l => { l with locked := true, bad := 0, good := 0 })

end Sys2Proof.Machine
end

