-- ==== Sys2Proof/Machine/Mason.lean ====
section
/-! DEFINITION. The meanings of the commands of Mason, the Map Walker and the mortar engines (R234-R273, R328). -/

namespace Sys2Proof.Machine

open State (pgMsn tileAct tileNum ofSlot)

/-- POOL_SLOTS_WRITE (R234): refused where a slot stands in another pool, or a slot in service would leave this one. -/
def execPoolSlotsWrite (acc : Accessor) (p slots : Nat) (s : State) : Out :=
  okIf (decide (p < 8)) s <|
    let v := slots % 2 ^ 64
    let old := s.fld (pgMsn p) MSN.POOL_SLOTS.SLOTS
    let taken := (List.range 8).any fun q => decide (q ≠ p) && decide (v &&& s.fld (pgMsn q) MSN.POOL_SLOTS.SLOTS ≠ 0)
    let leaves := (List.range 64).any fun n => bitOf old n && !bitOf v n && decide (s.slotSt n = 1 ∨ s.slotSt n = 2 ∨ s.slotSt n = 3)
    s.rwl acc 0x18 <|
      if taken || leaves then s.setB (pgMsn p) MSN.POOL_STAT.REFUSED true
      else
        let s1 := s.set (pgMsn p) MSN.POOL_SLOTS.SLOTS v
        let s2 := (List.range 64).foldl (fun (s : State) n =>
          if bitOf v n then (s.setB (pgMsn n) MSN.SLOT_STAT.IN_POOL true).set (pgMsn n) MSN.SLOT_STAT.POOL p
          else if bitOf old n then (s.setB (pgMsn n) MSN.SLOT_STAT.IN_POOL false).set (pgMsn n) MSN.SLOT_STAT.POOL 0
          else s) s1
        s2.showPool p

/-- A slot starts to drain: DRAINED at once where nothing refers to it (R235). -/
def State.drainSlot (s : State) (n : Nat) : State :=
  if s.slotSt n ≠ 1 then s
  else if s.slotReferenced n then s.toSlot n 3 else (((s.toSlot n 3).toSlot n 4).raise 0x18 4 n).tryExclude n

/-- SLOT_DRAIN (R235, R264): from ACCEPTED only; a slot with nothing referenced is drained at once. -/
def execSlotDrain (n : Nat) (s : State) : Out :=
  okIf (slotOk s.part n && decide (s.slotSt n = 1)) s <|
    s.drainSlot n

/-- SLOT_CANCEL (R235). -/
def execSlotCancel (n : Nat) (s : State) : Out :=
  okIf (slotOk s.part n) s <|
    if s.slotSt n = 3 then (s.toSlot n 1).tryExclude n
    else if s.slotSt n = 4 ∧ !(s.mason.lostActs.contains (2 * n) && s.mason.lostActs.contains (2 * n + 1)) then
      ((s.renewTiles n false).toSlot n 1).tryExclude n
    else s

/-- SLOT_EXCLUDE (R235). -/
def execSlotExclude (acc : Accessor) (n : Nat) (value : Bool) (s : State) : Out :=
  okIf (slotOk s.part n) s <|
    s.rwl acc 0x18 <|
      let s1 := s.setB (pgMsn n) MSN.SLOT_CTL.EXCLUDE value
      if value then s1.tryExclude n else if s1.slotSt n = 5 then s1.toSlot n 0 else s1

/-- COURSE_OPEN (R238, R245, R259, R271): only compaction, rebuild and drain (`background`) open below RESERVE_PCT. -/
def execCourseOpen (p kind kdom number stNs stId : Nat) (cands : List Cand) (background : Bool) (s : State) : Out :=
  let g := if kind = 1 then s.poolGeom p else if kind = 2 then (if s.fld (pgMsn p) MSN.POOL_CFG.REPL_GEOM = 6 then 6 else 5) else 6
  let (k, m) := (geomK g, geomM g)
  let max_ := min 16 (max 1 (s.fld (pgMsn p) MSN.POOL_CFG.OPEN_MAX))
  let open_ := (s.mason.courses.filter fun kv => decide (kv.2.st = 1) && decide (kv.2.pool = p) && decide (kv.2.kind = kind)).length
  okIf (decide (p < 8) && decide (1 ≤ kind ∧ kind ≤ 3) && s.enabled 0x18 && decide ((s.course number).geom = 0)
      && decide (number < min 0x400000 (s.fld 0x19 MAP.CT_COURSES.N)) && decide (open_ < max_)) s <|
    if !background && decide (s.poolFree p * 4 < 100 * s.fld (pgMsn p) MSN.POOL_CFG.RESERVE_PCT) then s.raise 0x18 5 p
    else
      let picks := s.choose p kind k m [] cands
      if picks.length < k + m then s.raise 0x18 6 p
      else
        let s1 := (picks.zipIdx).foldl (fun (s : State) xn => s.reserveTile xn.1 number xn.2) s
        (s1.setCourse number { Course.zero with
          geom := g, pool := p, st := 1, kind := kind, kdom := if kind = 3 then noKdom else kdom
          seqOpen := s1.mason.seq, hoursOpen := s1.io.hst.hours, members := picks.map (·.tile), stream := (stNs, stId) }).showPool p

/-- MORTAR_ROW_ENCODE (R20, R239, R246, R247): the next row of an OPEN course from the stream's waiting bricks, encrypted
for their places; empty positions take fillers where a row must be written early (`fill`). An uncorrectable row-buffer
error abandons the row, whose bricks go on waiting (R240, R273). A head of the course that is being recalibrated takes no new bricks (R221). -/
def execMortarRowEncode (course : Nat) (fill sramUe : Bool) (s : State) : Out :=
  let c := s.course course
  let (k, m) := (geomK c.geom, geomM c.geom)
  let row := c.encoded
  let waiting := (s.mason.bricks.filter fun b => decide (b.course = noRef) && decide (b.pool = c.pool) && decide (b.stream = c.stream)).take k
  let due := waiting.zipIdx.foldl (fun (l : List HostBrick) bn => l ++ [s.identify l { bn.1 with course := course, cb := row * k + bn.2 }]) []
  let kept := s.mason.bricks.filter fun b => !waiting.contains b
  let calm := c.members.all fun id => !(s.headWork (tileAct id) (s.tile id).head).recal
  okIf (decide (c.st = 1) && decide (c.kind = 1) && s.enabled 0x1A && decide (row < 65536) && decide (due.length > 0) && calm
      && (decide (due.length = k) || fill) && (!s.sys.keysGone || decide (c.kdom = noKdom))) s <|
    if sramUe then s.raise 0x1A 1 0
    else
      let seq := s.mason.seq
      let data := (due.zipIdx).map fun bn =>
        let id := c.members.getD bn.2 0
        (⟨s.cipherOf c.kdom id row (s.tile id).gen bn.1.data,
          { carriedOf 0 with twTile := id, twBrick := row, twGen := (s.tile id).gen, kdom := c.kdom, extent := bn.1.ext, extBrick := bn.1.extBrick
                             seq := seq + bn.2 + 1, nsid := bn.1.nsid, validLen := bn.1.len }⟩ : Brick)
      let full := data ++ List.replicate (k - due.length) fillerBrick
      let nums := full.map rowNum
      let all := full ++ (List.range m).map fun p => brickOfRow (mortarRow k p nums)
      let s1 := (due.zipIdx).foldl (fun (s : State) bn =>
        if c.kdom = noKdom then s else s.bump (pgXtc (clOf (tileAct (c.members.getD bn.2 0)))) XTC.XTC_ENC.BRICKS) s
      ((s1.onMason fun ms => { ms with
        seq := seq + due.length
        bricks := kept ++ due
        made := ms.made ++ [⟨course, row, all⟩] }).putCourse course { c with encoded := row + 1 }).addTo 0x1A MOR.ENC_ROWS.ROWS 1

/-- ROW_COMPLETE (R240, R246, R268): every brick of the row is committed; its bricks enter the map in one journal group
with the course's row count. -/
def execRowComplete (course row : Nat) (s : State) : Out :=
  let c := s.course course
  let (k, m) := (geomK c.geom, geomM c.geom)
  let all := (List.range (k + m)).all fun n => bitOf (Tab.get 0 c.flight row) n
  okIf (decide (c.geom ≠ 0) && decide (row = c.rows) && decide (c.rows < 65536) && all && !s.jrnFull) s <|
    let mine := s.mason.bricks.filter fun b => decide (b.course = course) && decide (b.cb / max 1 k = row)
    let s1 := s.setCourse course { c with rows := row + 1, flight := Tab.erase c.flight row }
    let s2 := State.journal (s1.onMason fun ms => { ms with
      bricks := ms.bricks.filter fun b => !mine.contains b
      made := ms.made.filter fun r => !(decide (r.course = course) && decide (r.row = row)) }) [.rows course (row + 1)]
    let s3 := mine.foldl (fun (s : State) b => s.mapBrick b (Tab.get Ns.zero s.nvme.ns b.nsid).pinned) s2
    let s4 := mine.foldl (fun (s : State) b =>
      if b.obj = 0 then s.unrecCut b.nsid b.lba 1
      else s) s3
    (if row + 1 = 65536 then s4.closeCourse course else s4).settle

/-- COURSE_CLOSE (R247, R248): full, or early for its reasons, with footers on the members still writable. -/
def execCourseClose (course : Nat) (s : State) : Out := okIf (decide ((s.course course).st = 1)) s (s.closeCourse course)

/-- RECONSTRUCTION_READ (R125, R251, R258, R273): the bricks read of the row, by position, each having passed its checks; a
brick rebuilt is decrypted and delivered where its carried place is the one asked for. `waits`: the members missing are
so only for the time being. `sramUe`: both tries met an uncorrectable row-buffer error. -/
def execReconstructionRead (ix i : Nat) (got : List (Nat × Brick)) (waits sramUe : Bool) (s : State) : Out :=
  let e := s.extent ix
  let c := s.course e.course
  let k := geomK c.geom
  let cb := e.start + i
  let d := cb % max 1 k
  let id := c.members.getD d 0
  okIf (decide (e.st ≠ 0) && decide (i < e.len) && s.enabled 0x1A) s <|
    if sramUe then (s.raise 0x1A 1 0).brickLost ix i 1
    else if got.length < k then
      if waits then s.onMason fun m => { m with waits := m.waits ++ [⟨ix, i⟩] }
      else (s.raise 0x1A 0 0).brickLost ix i (if maskCount c.lost > geomM c.geom then 2 else 1)
    else match reconstruct k d (got.map fun pb => (pb.1, rowNum pb.2)) with
      | none => (s.raise 0x1A 0 0).brickLost ix i 1
      | some v =>
        let b := brickOfRow v
        let s1 := s.addTo 0x1A MOR.DEC_ROWS.ROWS 1
        if b.trailer.extent = e.wIx ∧ b.trailer.extBrick = e.wOff + i then
          match s1.decrypt (clOf (tileAct id)) b with
          | (some p, s2) => { s2 with rc := { s2.rc with delivered := s2.rc.delivered ++
              [⟨tileAct id, s.slotOfBrick id (cb / max 1 k), id, 0, 0, 0, { b with data := p }⟩] } }
          | (none, s2) => s2
        else (s1.raise 0x1A 0 0).brickLost ix i 1

/-- RECONSTRUCTION_WAIT_END (R251): a waiting read resumes. -/
def execReconstructionWaitEnd (ix i : Nat) (s : State) : Out :=
  okIf (s.mason.waits.contains ⟨ix, i⟩) s (s.onMason fun m => { m with waits := m.waits.erase ⟨ix, i⟩ })

/-- How a brick came back (R252): 0 RETRY_EXHAUSTED, 1 abandoned before the ladder, 2 STALE, 3 MISPLACED, 4 UNRETRIED. -/
def isStale (kind : Nat) : Bool := decide (kind = 2)

/-- BRICK_DECISION (R252, R255, R455): re-read, rebuild or the Unrecovered List; times in 10 µs. -/
def execBrickDecision (ix i kind : Nat) (urgentBg rebuildOk : Bool) (tRr tRb : Nat) (s : State) : Out :=
  let e := s.extent ix
  let c := s.course e.course
  let k := geomK c.geom
  let id := c.members.getD ((e.start + i) % max 1 k) 0
  let key := (id, (e.start + i) / max 1 k)
  let n := ((s.mason.rereads.find? fun x => decide (x.1 = key)).map (·.2)).getD 0
  let lim := s.fld 0x18 MSN.MSN_CFG.REREAD_MAX
  let bias := max 1 (s.fld 0x18 MSN.MSN_CFG.RB_BIAS)
  let done := decide (n ≥ lim) || isStale kind
  let reread := fun (s : State) => (s.onMason fun m => { m with
    rereads := m.rereads.filter (fun x => decide (x.1 ≠ key)) ++ [(key, n + 1)] }).bump 0x18 MSN.DECIDE_CNT.REREADS
  let slot := s.slotOfBrick id ((e.start + i) / max 1 k)
  let rebuild := fun (s : State) => (s.releaseKept id slot).bump 0x18 MSN.DECIDE_CNT.REBUILDS
  okIf (decide (e.st ≠ 0) && decide (i < e.len)) s <|
    let hk := tileAct id * 12 + (s.tile id).head
    let now := s.io.hst.hours
    let s1 := if kind = 0 then s.onMason fun m => { m with
        exhausted := (m.exhausted.filter fun x => decide (x.2.2 + 16 ≥ now)) ++ [(hk, id, now)] } else s
    let mine := s1.mason.exhausted.filter fun x => decide (x.1 = hk)
    let s2 := if decide (kind = 0) && decide (mine.length ≥ 64) && decide ((mine.map fun x => x.2.1).eraseDups.length ≥ 4) then
      s1.loseHead (tileAct id) ((s.tile id).head) else s1
    if rebuildOk then
      if done then rebuild s2
      else if urgentBg then reread s2
      else if tRb * bias < 16 * tRr then rebuild s2 else reread s2
    else if done then (s2.releaseKept id slot).brickLost ix i 1
    else reread s2

/-- The pool's capacity in bricks, and the replica bricks it holds (R256). -/
def replicaRoom (s : State) (p len : Nat) : Bool :=
  let held := s.mason.extents.foldl (fun n kv => if kv.2.hot ∧ kv.2.pool = p then n + kv.2.len else n) 0
  decide (400 * (held + len) ≤ s.fld (pgMsn p) MSN.POOL_CFG.REPL_PCT * ((s.poolTiles p).1 * 65536))

/-- Replicas beyond the pool's share are dropped, the coldest first (R257). -/
def shedReplicas (p : Nat) : Nat → State → State
  | 0, s => s
  | n + 1, s =>
    if replicaRoom s p 0 then s
    else
      let hot := s.mason.extents.filter fun kv => kv.2.hot && decide (kv.2.pool = p)
      match hot.foldl (fun (b : Option (Nat × Extent)) kv => match b with
        | none => some kv
        | some q => if kv.2.heat < q.2.heat then some kv else some q) none with
      | none => s
      | some kv => shedReplicas p n (s.dropReplica kv.1)

/-- HEAT_SWEEP (R244, R256, R257): replicas begun and dropped, every HEAT halved, emptied replica courses released. -/
def execHeatSweep (s : State) : Out :=
  let on := s.fld 0x18 MSN.MSN_HOT.HOT_ON
  let off := if s.fld 0x18 MSN.MSN_HOT.HOT_OFF ≥ on then on / 2 else s.fld 0x18 MSN.MSN_HOT.HOT_OFF
  let live := (s.mason.extents.filter fun kv => decide (kv.2.st ≠ 0)).map (·.1)
  let step := fun (s : State) (ix : Nat) =>
    let e := s.extent ix
    let s1 :=
      if e.hot && decide (e.heat < off) && s.mason.cold.contains ix then s.dropReplica ix
      else if decide (e.heat ≥ on) && decide (e.st = 1) && !e.hot && decide (e.len ≤ 65536) && s.flag 0x18 MSN.MSN_CFG.REPL_EN
          && s.background && replicaRoom s e.pool e.len then s.beginMove ix
      else s
    let s2 := s1.onMason fun m => { m with
      cold := if e.heat < off then m.cold.filter (fun x => decide (x ≠ ix)) ++ [ix] else m.cold.filter (fun x => decide (x ≠ ix)) }
    let e2 := s2.extent ix
    let s3 := s2.putExtent ix { e2 with heat := e2.heat / 2 }
    s3.onMason fun m => { m with moving := m.moving.map fun kv => if kv.1 = ix then (ix, { kv.2 with heat := kv.2.heat / 2 }) else kv }
  let s0 := live.foldl step s
  let s1 := (List.range 8).foldl (fun (s : State) p => shedReplicas p (s.mason.extents.length) s) s0
  let thin := s1.mason.courses.filter fun kv =>
    decide (kv.2.kind = 2) && decide (kv.2.st ≠ 1) && decide (kv.2.geom ≠ 0) && decide (4 * kv.2.live ≤ kv.2.rows)
  okIf true s (thin.foldl (fun (s : State) (kv : Nat × Course) =>
    ((s.mason.extents.filter fun x => decide (x.2.replCourse = kv.1)).foldl (fun s x => s.dropReplica x.1) s).freeCourse kv.1) s1)

/-- REPLICA_COMMIT (R256): the copy counts only if the entry image is unchanged since it began. -/
def execReplicaCommit (ix course row : Nat) (s : State) : Out :=
  let c := s.course course
  okIf ((s.mason.moving.any fun kv => decide (kv.1 = ix)) && decide (c.kind = 2) && decide (c.geom ≠ 0)
      && decide (row + (s.extent ix).len ≤ 65536)) s <|
    if s.unchanged ix then
      let e := s.extent ix
      (((s.setExtent ix { e with st := 1, hot := true, replCourse := course, replRow := row }).endMove ix).addLive course e.len).bump
        0x18 MSN.REPL_CNT.CREATED
    else s.endMove ix

/-- The course compaction takes next (R259): CLOSED, HOME, with no PINNED extent, of the least LIVE ÷ (k × ROWS). -/
def compactNext (s : State) (p : Nat) : Option Nat :=
  let cs := s.mason.courses.filter fun kv =>
    decide (kv.2.geom ≠ 0) && decide (kv.2.pool = p) && decide (kv.2.kind = 1) && decide (kv.2.st = 2) && decide (kv.2.rows > 0)
      && !(s.mason.extents.any fun x => decide (x.2.course = kv.1) && decide (x.2.st ≠ 0) && x.2.pinned)
  let less := fun (x y : Course) => decide (x.live * (geomK y.geom * y.rows) < y.live * (geomK x.geom * x.rows))
  (cs.foldl (fun (b : Option (Nat × Course)) kv => match b with
    | none => some kv
    | some q => if less kv.2 q.2 then some kv else some q) none).map (·.1)

/-- STOP: at or below START it acts as START + 1 (R271). -/
def State.compactStopPct (s : State) (p : Nat) : Nat :=
  let a := s.fld (pgMsn p) MSN.POOL_COMPACT.START
  let b := s.fld (pgMsn p) MSN.POOL_COMPACT.STOP
  if b ≤ a then a + 1 else b

/-- COMPACTION_START (R259): below START, and from then on until above STOP. LOW_SPACE and COMPACT_URGENT come at their marks; the
next course is emptied, or freed where nothing lives in it. -/
def execCompactionStart (p : Nat) (s : State) : Out :=
  let free := s.poolFree p
  let start := s.fld (pgMsn p) MSN.POOL_COMPACT.START
  let goes := s.mason.compacting.contains p && decide (free ≤ 100 * State.compactStopPct s p)
  okIf (decide (p < 8) && s.background && s.flag 0x18 MSN.MSN_CFG.COMPACT_EN && (decide (free < 100 * start) || goes)) s <|
    let s1 := if free < 100 * s.fld (pgMsn p) MSN.POOL_COMPACT.URGENT then s.raise 0x18 9 p else s
    let s2 := if 4 * free < 100 * s.fld (pgMsn p) MSN.POOL_CFG.RESERVE_PCT then s1.raise 0x18 5 p else s1
    let s3 := s2.onMason fun m => { m with compacting := m.compacting.filter (fun x => decide (x ≠ p)) ++ [p] }
    match compactNext s3 p with
    | none => s3
    | some n => if (s3.course n).live = 0 then s3.freeCourse n else s3.retireCourse n

/-- A pool whose free space has risen above COMPACT_STOP stops compacting. -/
def compactStop (s : State) (p : Nat) : State :=
  if s.poolFree p > 100 * s.compactStopPct p then s.onMason fun m => { m with compacting := m.compacting.filter fun x => decide (x ≠ p) }
  else s

/-- EXTENT_MOVE_COMMIT (R259, R265, R267): up to 1 MiB of a moved extent changes its place in one group, if its image is
unchanged; a course emptied so is released. -/
def execExtentMoveCommit (ix course start : Nat) (s : State) : Out :=
  let e := s.extent ix
  let old := s.course e.course
  let c := s.course course
  let n := min 256 e.len
  let kd := ((s.mason.rekeying.find? fun dd => decide (dd.1 = old.kdom)).map (·.2)).getD old.kdom
  okIf ((s.mason.moving.any fun kv => decide (kv.1 = ix)) && decide (c.geom ≠ 0) && decide (c.kind = old.kind) && decide (c.kdom = kd)
      && decide (course ≠ e.course) && decide (start + n ≤ geomK c.geom * c.rows)) s <|
    if !s.unchanged ix then s.endMove ix
    else
      let j := if n = e.len then ix else s.freeEntry
      let moved := { State.part' e 0 n with
        st := 1, course := course, start := start, pool := c.pool
        wIx := if kd = old.kdom then e.wIx else j, wOff := if kd = old.kdom then e.wOff else 0 }
      let s1 := s.endMove ix
      let s2 := if n = e.len then s1.setExtent ix moved
        else
          ((s1.setExtent j { moved with hot := false, replCourse := noRef, replRow := 0 }).setExtent ix (State.part' e n (e.len - n))).beginMove ix
      let s3 := ((s2.addLive e.course (-(n : Int))).addLive course n).addTo 0x18 MSN.MOVED.BRICKS n
      let s4 := if (s3.course e.course).live = 0 ∧ (s3.course e.course).st = 4 then s3.freeCourse e.course else s3
      compactStop s4 old.pool

/-- A course waits for its rebuild or its compaction, whichever costs fewer brick transfers (R261). -/
def rebuildOne (repl : List (Nat × Nat × Cand)) (s : State) (n : Nat) : State :=
  let c := s.course n
  let (k, m) := (geomK c.geom, geomM c.geom)
  let l := maskCount c.lost
  if c.live = 0 then s.freeCourse n
  else if 2 * c.live * (k - l) + (k + 1) * c.live * l < k * ((k + l) * c.rows) then s.retireCourse n
  else
    ((List.range (k + m)).filter fun j => bitOf c.lost j && !bitOf c.rebuild j).foldl (fun (s : State) j =>
      let c := s.course n
      let standing := ((c.members.zipIdx).filter fun tn => !bitOf c.lost tn.2).map (fun tn => tileAct tn.1) ++ c.copies.map (fun x => tileAct x.2)
      let mine := (repl.filter fun x => decide (x.1 = n) && decide (x.2.1 = j)).map fun x => x.2.2
      match (pickMembers (capOf s.part c.kind k m) (standing.length + 1) standing
          (Scored.sort ((mine.filter (s.candOk c.pool)).map fun x => ⟨x, s.scoreOf x⟩))) with
      | x :: _ =>
        (s.reserveTile x n j).setCourse n { c with rebuild := bitSet c.rebuild j, copies := c.copies ++ [(j, x.tile)] }
      | [] => s.raise 0x18 6 c.pool) s

/-- REBUILD_START (R261, R262): the DEGRADED courses with a member on the slot, by lost members and then LIVE, highest
first; the candidates for each replacement come with the command. Under the power cap only courses at L = m go on (R457). -/
def execRebuildStart (n : Nat) (repl : List (Nat × Nat × Cand)) (s : State) : Out :=
  okIf (slotOk s.part n && s.urgentWork && s.flag 0x18 MSN.MSN_CFG.REBUILD_EN) s <|
    let cs := s.mason.courses.filter fun kv => (s.background || decide (maskCount kv.2.lost = geomM kv.2.geom)) &&
      decide (kv.2.geom ≠ 0) && decide (kv.2.lost ≠ 0) && decide (kv.2.st = 3) && decide (kv.2.kind ≠ 2) && kv.2.members.any (ofSlot n)
    let ranked := Scored.sort (cs.map fun kv => ⟨⟨kv.1, 0, 0, 0⟩, (20 - maskCount kv.2.lost) * 2 ^ 24 + (2 ^ 21 - kv.2.live)⟩)
    let s1 := s.onMason fun m => { m with rebuilding := m.rebuilding.filter (fun x => decide (x ≠ n)) ++ [n] }
    (ranked.foldl (fun (s : State) x => rebuildOne repl s x.cand.act) s1).rebuildCheck n

/-- REBUILD_MEMBER_SWITCH (R261, R262): the replacement tile closes and takes the member's place. -/
def execRebuildMemberSwitch (course member : Nat) (s : State) : Out :=
  let c := s.course course
  match c.copies.find? fun mt => decide (mt.1 = member) with
  | none => ok s
  | some mt =>
    okIf (bitOf c.lost member && bitOf c.rebuild member) s <|
      let old := c.members.getD member 0
      let lost := bitClear c.lost member
      let s1 := s.setTile mt.2 { s.tile mt.2 with st := 2, course := course, pos := member, bricks := c.rows }
      let s2 := ((s1.setCourse course { c with
        members := c.members.set member mt.2, lost := lost, rebuild := bitClear c.rebuild member
        copies := c.copies.erase mt, st := if lost = 0 ∧ c.st = 3 then 2 else c.st }).addTo 0x18 MSN.REBUILT.BRICKS c.rows).showPool c.pool
      s2.rebuildCheck (slotOf (tileAct old))

/-- DRAIN_MEMBER_SWITCH (R235, R264): the copy closes and takes the member's place; the slot with nothing more referenced is
DRAINED. A weak head's old tile is reset. -/
def execDrainMemberSwitch (course member : Nat) (x : Cand) (s : State) : Out :=
  let c := s.course course
  let old := c.members.getD member 0
  let n := slotOf (tileAct old)
  let (k, m) := (geomK c.geom, geomM c.geom)
  let standing := ((c.members.zipIdx).filter fun tn => decide (tn.2 ≠ member)).map fun tn => tileAct tn.1
  let weak := (s.headRec (tileAct old) (s.tile old).head).weak
  okIf (decide (c.geom ≠ 0) && decide (c.kind ≠ 2) && decide (member < k + m) && (decide (s.slotSt n = 3) || weak) && s.background
      && s.candOk c.pool x && decide ((pickMembers (capOf s.part c.kind k m) (k + m) standing [⟨x, 0⟩]).length = 1)) s <|
    let s1 := ((s.reserveTile x course member).setTile x.tile
      { s.tile x.tile with st := 2, course := course, pos := member, head := x.head, bricks := c.rows })
    let s2 := (s1.setCourse course { c with members := c.members.set member x.tile }).addTo 0x18 MSN.MOVED.BRICKS c.rows
    let s3 := if s.slotSt n = 3 then s2.setTile old { s2.tile old with course := noRef, pos := 0xFF } else s2.resetTile old
    if s3.slotSt n = 3 ∧ !s3.slotReferenced n then ((s3.toSlot n 4).raise 0x18 4 n).tryExclude n else s3.tryExclude n

/-- REKEY_START (R265, R389, R393): the successor domain is made, the namespace goes over to it, and every course of the old
domain is to be emptied. -/
def execRekeyStart (d : Nat) (w0 w1 : Bool) (s : State) : Out :=
  match s.firstFree with
  | none => ok s
  | some d2 =>
    okIf (s.sec.rekeyWait.contains d && decide (s.domSt d = 1) && s.background) s <|
      let nsid := s.fld (pgDom d) SEC.DOM_STAT.NSID
      match s.makeKeys d2 nsid w0 w1 with
      | (false, s1) => s1
      | (true, s1) =>
        let s2 := (s1.set (pgDom d) SEC.DOM_STAT.STATE 2).onSec fun x => { x with rekeyWait := x.rekeyWait.erase d }
        let s3 := { s2 with nvme := { s2.nvme with ns := Tab.upd Ns.zero s2.nvme.ns nsid fun n => { n with kdom := d2 } } }
        let s4 := s3.onMason fun m => { m with rekeying := m.rekeying ++ [(d, d2)] }
        ((s4.mason.courses.filter fun kv => decide (kv.2.geom ≠ 0) && decide (kv.2.kdom = d)).foldl
          (fun (s : State) kv => if (s.course kv.1).live = 0 then s.freeCourse kv.1 else s.retireCourse kv.1) s4).rekeyCheck

/-- JOURNAL_PAGE_PERSIST (R268): the page's records, up to a JSEQ, are persisted. -/
def execJournalPagePersist (jseq : Nat) (s : State) : Out :=
  let p := s.fld 0x19 MAP.JSEQ_PERSISTED.JSEQ
  okIf (decide (p < jseq) && decide (jseq ≤ s.fld 0x19 MAP.JSEQ_APPENDED.JSEQ)) s (s.set 0x19 MAP.JSEQ_PERSISTED.JSEQ jseq).settle

/-- CHECKPOINT_START (R269): a CKPT start record fixes S. -/
def execCheckpointStart (s : State) : Out :=
  okIf s.mason.ckptStart.isNone s <|
    let n := s.fld 0x19 MAP.JSEQ_APPENDED.JSEQ + 1
    (State.journal s [.ckpt false n]).onMason fun m => { m with ckptStart := some n }

/-- CHECKPOINT_END (R269, R476): the CKPT end record, the root record with the boot-slot mask in both NOR devices, and the
release of the older journal. -/
def execCheckpointEnd (bootSlots : Nat) (s : State) : Out :=
  match s.mason.ckptStart with
  | none => ok s
  | some n =>
    let s1 := State.journal s [.ckpt true n]
    let s2 := (s1.onMason fun m => { m with
      ckptStart := none, ckpt := some ⟨n, m.tiles, m.courses, m.extents⟩
      roots := (if m.roots.length ≥ 1024 then m.roots.tail else m.roots) ++ [n]
      journal := m.journal.filter fun r => decide (r.jseq ≥ n) }).onNor fun x => { x with bootSlots := bootSlots % 2 ^ 64 }
    okIf true s ((s2.set 0x19 MAP.CKPT_JSEQ.S n).raise 0x19 1 0)

/-- SEEK_TABLE_ACCESS (R271): INDEX advances; entries 25-31 read 0 and take no write. -/
def execSeekTableAccess (acc : Accessor) (write : Bool) (value : Nat) (s : State) : Out :=
  let i := s.fld 0x18 MSN.SEEK_ADDR.INDEX
  let s1 := s.set 0x18 MSN.SEEK_ADDR.INDEX ((i + 1) % 32)
  if write then
    okIf true s (if i < 25 then s1.onMason fun m => { m with seek := Tab.put 0 m.seek i (value % 2 ^ 16) } else s1)
  else okIf true s (s1.onIo fun io => { io with readData := Tab.put 0 io.readData acc.num (if i < 25 then Tab.get 0 s.mason.seek i else 0) })

/-- TABLE_SEGMENT_REBUILD (R328): a poisoned segment is read back and replayed over; lookups of it go on. -/
def execTableSegmentRebuild (table idx : Nat) (s : State) : Out :=
  okIf (s.mason.poisoned.contains (table, idx)) s <|
    let base := ((s.rgnOwned table).map fun r => s.rgnBase r + idx * 2 ^ 26).getD 0
    ((s.onMason fun m => { m with poisoned := m.poisoned.erase (table, idx) }).onBuf fun b =>
      { b with poison := b.poison.filter fun kv => !(decide (base ≤ 64 * kv.1) && decide (64 * kv.1 < base + 2 ^ 26)) }).raise 0x19 2 0

end Sys2Proof.Machine
end

