-- ==== Sys2Proof/Machine/NvmeOps.lean ====
section
/-! DEFINITION. The operations of the NVMe engine: fetching and completing (R281, R282), what a command is checked against
(R284, R285, R297, R309), the capacity of a pool (R285), the placing of a write's data (R334, R340, R341, R441, R445),
the reading of a brick (R335), zones (R298) and the reset of a controller (R290). -/

namespace Sys2Proof.Machine

/-- A controller is a port's PF0 (R278). -/
def isPf0 (id : Nat) : Bool := decide (id % 0x80 = 1) && decide (id < 0x100)

/-- The port of a controller. -/
def portOf (id : Nat) : Nat := id / 0x80

/-- A controller identifier the module has: PF0 or VF 1-64 of a port. -/
def ctrlId (id : Nat) : Bool := decide (1 ≤ id % 0x80 ∧ id % 0x80 ≤ 65) && decide (id < 0x100)

namespace State

/-- Change the NVMe engine's state. -/
def onNvme (s : State) (f : NvmeSt → NvmeSt) : State := { s with nvme := f s.nvme }

/-! ### Fetching and completing -/

/-- A command at the head of a queue may be fetched (R281, R282, R290, R292, R294, R314). -/
def canFetch (s : State) (c : Cmd) : Bool :=
  let k := s.ctrl c.ctl
  s.enabled 0x11 && k.en && k.rdy && decide (k.shst = 0) && !s.flag 0x11 NVE.NVE_STAT.FETCH_STOPPED && !s.nvme.full &&
    !s.sys.cfs.contains c.ctl && !s.sys.cpxDown &&
    match Tab.find? k.sqs c.sq with
    | some q => decide (q.head ≠ q.tail)
    | none => false

/-! ### Power states (R429) -/

/-- The state a controller requires: what its APST table has reached, or what it set. -/
def requires (s : State) (id : Nat) : Nat := max (Tab.get 0 s.pwr.required id) (Tab.get 0 s.pwr.apst id)

/-- The state the module is to take: the lowest operational one that an enabled PF0 controller requires, or the lowest of
all where each requires a non-operational one. -/
def psTarget (s : State) : Nat :=
  let on := (s.nvme.ctrls.filter fun kv => kv.2.en && isPf0 kv.1).map fun kv => s.requires kv.1
  match on with
  | [] => 0
  | x :: xs =>
    let ops := (x :: xs).filter fun p => decide (p ≤ 2)
    match ops with
    | [] => xs.foldl min x
    | y :: ys => ys.foldl min y

/-- PS_TARGET follows; asking for PS3 or PS4 is the cache's cause POWER (R339). -/
def retarget (s : State) : State :=
  let t := s.psTarget
  let s1 := s.set 2 PWC.PWC_STAT.PS_TARGET t
  { s1 with pwr := { s1.pwr with leaving := decide (t ≥ 3) } }.syncCache

/-- DOM_STAT shows the domains that have power: not asleep, of the part, their cluster not lost, their rail not failed
(R422, R425, R437). -/
def showDomains (s : State) : State :=
  let rail := fun (d : Nat) => if d = 0 then 0 else if d = 1 ∨ d = 3 ∨ d = 4 then 1 else if d = 5 then 2 else if d = 2 then 3 else if d = 6 then 4
    else if d < 11 then 5 else 6
  let gone := fun (d : Nat) => (decide (7 ≤ d) && (s.sys.lostClusters.contains (d - 7) || !clOk s.part (d - 7)))
    || bitOf (s.fld 2 PWC.RAIL_STAT.FAILED) (rail d)
  let s1 := s.set 2 PWC.DOM_STAT.POWERED ((List.range 15).foldl (fun m d => bitPut m d (!s.pwr.asleep.contains d && !gone d)) 0)
  s1.onIo fun i => Io.syncPin Io.up { i with off := (List.range 15).filter fun d => gone d || (s.pwr.asleep.contains d && decide (d ≠ 5)) }

/-- CPX wakes (R430, R481): its watchdog is armed with a full period. -/
def wakeCpx (s : State) : State :=
  if s.pwr.asleep.contains 2 then
    (({ s with pwr := { s.pwr with asleep := s.pwr.asleep.erase 2 } }.showDomains.set 0xE WDG.WDG_STAT.CPX_ARMED 0xFF).set
      0xE WDG.WDG_STAT.CPX_LEFT (max 1 (s.fld 0xE WDG.WDG_CFG.CPX_TO))).raise 2 11 2
  else s

/-- A controller with a command outstanding is no longer idle: what APST took it to ends (R429). -/
def apstEnds (s : State) (id : Nat) : State :=
  if Tab.get 0 s.pwr.apst id = 0 then s else ({ s with pwr := { s.pwr with apst := Tab.erase s.pwr.apst id } } : State).retarget

/-- The command is fetched: CPX wakes for it (R430), the queue's head advances, and the fetch order with it. -/
def fetch (s : State) (c : Cmd) : State :=
  let s := s.wakeCpx.apstEnds c.ctl
  let k := s.ctrl c.ctl
  (s.setCtrl c.ctl { k with sqs := k.sqs.map fun kv =>
    if kv.1 = c.sq then (kv.1, { kv.2 with head := (kv.2.head + 1) % max 1 kv.2.size }) else kv }).onNvme fun n =>
      { n with fetched := n.fetched + 1, orderly := false }

/-- A command completes. -/
def doneWith (s : State) (c : Cmd) (sc : Sc) (dw0 data : Nat) : State :=
  s.complete ⟨c.ctl, c.sq, c.cid, sc, dw0, if sc = .namespaceNotReady then some false else none, data⟩

/-- A command completes with a status alone. -/
def done (s : State) (c : Cmd) (sc : Sc) : State := s.doneWith c sc 0 0

/-- A namespace. -/
def nsOf (s : State) (n : Nat) : Ns := Tab.get Ns.zero s.nvme.ns n

/-- Store a namespace. -/
def setNs (s : State) (n : Nat) (x : Ns) : State := s.onNvme fun e => { e with ns := Tab.put Ns.zero e.ns n x }

/-- An admin command: fetched from queue 0; a PF0-only one sent to a VF, and one sent during a life-cycle transition,
fail (R283, R309). -/
def admin (s : State) (c : Cmd) (pf0 duringLc : Bool) (run : State → State) : Out :=
  okIf (s.canFetch c && decide (c.sq = 0)) s <|
    let s1 := s.fetch c
    if pf0 && !isPf0 c.ctl then s1.done c .invalidOpcode
    else if !duringLc && s1.flag 8 LCS.LC_STAT.BUSY then s1.done c .lifeCycle
    else run s1

/-- A sanitize runs, or has failed and left the module restricted (R301). -/
def sanitizeStatus (s : State) : Option Sc :=
  if s.nvme.sanitize.isSome then some .sanitizeInProgress else if s.nvme.restricted then some .sanitizeFailed else none

/-- What an I/O command fails with before its own checks: sanitize, its namespace, its command set, a format, readiness. -/
def ioStatus (s : State) (c : Cmd) (nsid : Nat) (sets : List Nat) : Option Sc :=
  let n := s.nsOf nsid
  match s.sanitizeStatus with
  | some x => some x
  | none =>
    if nsid = 0 ∨ !n.live ∨ !(s.ctrl c.ctl).attached.contains nsid then some .invalidNamespace
    else if !sets.contains n.set then some .invalidOpcode
    else if n.format.isSome then some .formatInProgress
    else if !n.ready then some .namespaceNotReady
    else none

/-- What the command's data pointer fails with (R285): 1 an SGL too short, 2 a PRP entry with an offset, 3 another PRP
fault. -/
def dptrStatus (d : Nat) : Option Sc :=
  if d = 0 then none else if d = 1 then some .sglLength else if d = 2 then some .prpOffset else some .invalidField

/-- The first failure of a list of checks. -/
def firstOf : List (Option Sc) → Option Sc
  | [] => none
  | some x :: _ => some x
  | none :: xs => firstOf xs

/-- A check. -/
def chk (bad : Bool) (sc : Sc) : Option Sc := if bad then some sc else none

/-- An I/O command: fetched from its queue; failing the checks it moves no data. While key slots are wiped it waits (R453); one
that passes its checks and `walks` the map waits while the Map Walker is off (R272). -/
def ioCmdAny (s : State) (walks : Bool) (c : Cmd) (checks : State → Option Sc) (run : State → State) : Out :=
  okIf (s.canFetch c && decide (c.sq ≠ 0) && !s.sys.keysGone && (!walks || s.enabled 0x19 || (checks (s.fetch c)).isSome)) s <|
    let s1 := s.fetch c
    match checks s1 with
    | some sc => s1.done c sc
    | none => run s1

/-- An I/O command that looks places up in the map. -/
def ioCmd (s : State) (c : Cmd) (checks : State → Option Sc) (run : State → State) : Out := s.ioCmdAny true c checks run

/-! ### Capacity (R285) -/

/-- The bricks a zone's tiles hold, but for header and footer. -/
def tileBricks (z : Zone) : Nat := z.spt * z.tpt - 2

/-- The zone a tile lies in. -/
def zoneOfTile (f : Format) (n : Nat) : Option Zone := (f.zones.filter fun z => decide (z.firstTile ≤ n)).getLast?

/-- Bricks of an actuator's tiles from tile 2 on. -/
def actBricks (f : Format) : Nat :=
  let ends := (f.zones.drop 1).map (·.firstTile) ++ [f.tiles]
  (f.zones.zip ends).foldl (fun n ze => n + (ze.2 - max 2 ze.1.firstTile) * tileBricks ze.1) 0

/-- The capacity of a pool in data bricks: the share k of k + m of its tiles' bricks. -/
def poolCap (s : State) (p : Nat) : Nat :=
  let g := s.poolGeom p
  (s.poolActs p).foldl (fun n a => n + actBricks (s.fmt a)) 0 * geomK g / max 1 (geomK g + geomM g)

/-- The free data bricks of a pool: the same share of its EMPTY tiles' bricks, and the rows that OPEN courses have left. -/
def poolFreeBricks (s : State) (p : Nat) : Nat :=
  let g := s.poolGeom p
  let acts := s.poolActs p
  let used := (s.mason.tiles.filter fun kv => acts.contains (tileAct kv.1) && decide (tileNum kv.1 ≥ 2) && (decide (kv.2.st ≠ 0) || decide (kv.2.course ≠ noRef))).foldl
    (fun n kv => n + match zoneOfTile (s.fmt (tileAct kv.1)) (tileNum kv.1) with | some z => tileBricks z | none => 0) 0
  let open_ := (s.mason.courses.filter fun kv => decide (kv.2.st = 1) && decide (kv.2.pool = p) && decide (kv.2.kind = 1)).foldl (fun n kv =>
    let room := kv.2.members.foldl (fun r id => min r (match zoneOfTile (s.fmt (tileAct id)) (tileNum id) with | some z => tileBricks z | none => 0)) 65536
    n + geomK kv.2.geom * (room - kv.2.encoded)) 0
  (acts.foldl (fun n a => n + actBricks (s.fmt a)) 0 - used) * geomK g / max 1 (geomK g + geomM g) + open_

/-- Bricks promised to commands already accepted: waiting in pallets, dirty in the cache, or still to be placed. -/
def promised (s : State) (p : Nat) : Nat :=
  (s.mason.bricks.filter fun b => decide (b.pool = p) && decide (b.course = noRef)).length
    + (s.buf.lines.filter fun kv => decide ((s.nsOf kv.2.nsid).pool = p)).foldl (fun n kv => n + 16 * ones16 kv.2.dirty) 0
    + (s.nvme.flights.filter fun f => decide ((s.nsOf f.nsid).pool = p) && (f.kind = .write || f.kind = .append || f.kind = .store)).foldl
        (fun n f => n + (f.total - f.got)) 0

/-- The pool's remaining capacity (R285): free bricks above RESERVE_PCT, less those promised. -/
def remaining (s : State) (p : Nat) : Nat :=
  s.poolFreeBricks p - s.poolCap p * s.fld (pgMsn p) MSN.POOL_CFG.RESERVE_PCT / 100 - s.promised p

/-! ### Placing written data (R334, R341, R441) -/

/-- The namespace's DIRTY_NS bit is set in NOR before its first dirty data (R445). -/
def dirtyNs (s : State) (nsid : Nat) : State :=
  if s.nor.dirtyNs.contains nsid then s else s.onNor fun x => { x with dirtyNs := x.dirtyNs ++ [nsid] }

/-- Some sub-block of a run is being filled, copied, or in a line being evicted: a write of it waits (R342). -/
def mustWait (s : State) (w lo n : Nat) : Bool :=
  let l := s.way w
  l.evicting || (subsTouched lo n).any fun b => bitOf l.filling b || bitOf l.copying b

/-- A run's sub-blocks that go to pallets although they are valid: dirty data is destaged first, and they are invalidated. -/
def evictSubs (s : State) (nsid obj lba n : Nat) : State :=
  match s.findWay nsid (lineNo obj lba) with
  | none => s
  | some w => (subsTouched (lba % 256) n).foldl (fun (s : State) b =>
      let s1 := if bitOf (s.way w).dirty b then s.destageSub w b else s
      s1.dropSub w b) s

/-- Bricks go to pallets. -/
def allToPallets (s : State) (nsid obj lba : Nat) (ds : List Nat) (order lastLen : Nat) : State :=
  ds.zipIdx.foldl (fun (s : State) (di : Nat × Nat) =>
    s.toPallets nsid obj (lba + di.2) di.1 (if di.2 + 1 = ds.length then lastLen else 4096) order (s.streamOf nsid obj (lba + di.2))) s

/-- Bricks of a run land in a way's line: valid and dirty (R334, R337). -/
def landIn (s : State) (w lba : Nat) (ds : List Nat) (order : Nat) : State :=
  let s1 := ds.zipIdx.foldl (fun (s : State) (di : Nat × Nat) => s.putWayBrick w (lba % 256 + di.2) di.1) s
  let l := s1.way w
  let m := (subsTouched (lba % 256) ds.length).foldl bitSet 0
  s1.setWay w { l with valid := l.valid ||| m, dirty := l.dirty ||| m, since := if l.dirty = 0 then order else l.since }

/-- Each sub-block's share: into the line where covered or valid, else to pallets. -/
def landSubs (s : State) (w nsid obj lba : Nat) (ds : List Nat) (order lastLen : Nat) : State :=
  let lo := lba % 256
  let n := ds.length
  (subsTouched lo n).foldl (fun (s : State) b =>
    let from_ := max lo (16 * b)
    let til := min (lo + n) (16 * b + 16)
    let part := (ds.drop (from_ - lo)).take (til - from_)
    if (til - from_ = 16) ∨ bitOf (s.way w).valid b then s.landIn w (lba - lo + from_) part order
    else s.allToPallets nsid obj (lba - lo + from_) part order (if til = lo + n then lastLen else 4096)) s

/-- One part of a write, within an aligned 1 MiB: to the cache where the cache is in WRITE_BACK and the sub-blocks are
covered or valid, else to pallets. `false`: it has to wait. -/
def placePart (s : State) (nsid obj lba : Nat) (ds : List Nat) (order lastLen : Nat) : Bool × State :=
  let l := lineNo obj lba
  let lo := lba % 256
  let n := ds.length
  let s := s.dirtyNs nsid
  let found := s.findWay nsid l
  match found with
  | some w =>
    if s.mustWait w lo n then (false, s)
    else if s.cacheState ≠ 1 then (true, (s.evictSubs nsid obj lba n).allToPallets nsid obj lba ds order lastLen)
    else (true, s.landSubs w nsid obj lba ds order lastLen)
  | none =>
    if s.cacheState ≠ 1 ∨ !(subsTouched lo n).any (fun b => decide (lo ≤ 16 * b) && decide (16 * b + 16 ≤ lo + n)) then
      (true, s.allToPallets nsid obj lba ds order lastLen)
    else match s.allocate nsid l with
      | (some w, s1) => (true, s1.landSubs w nsid obj lba ds order lastLen)
      | (none, s1) => (false, s1)

/-- Where a write may not exceed the ceiling (R341): the dirty total after it is above a ceiling that is not 0. -/
def overCeiling (s : State) : Bool := decide (s.fld 0x14 SCC.SCC_CEIL.MIB ≠ 0) && decide (s.dirtyTotal > s.ceiling)

/-- A write waits for room under the ceiling: WRITE_WAIT once per wait. -/
def waitRoom (s : State) (f : Flight) : State :=
  if f.waits then s else (s.setB 0x14 SCC.SCC_STAT.WAITING true).raise 0x14 2 0

/-- The valid bytes of a value's last brick. -/
def lastLenOf (f : Flight) : Nat :=
  match f.new with
  | some o => if o.size % 4096 = 0 then 4096 else o.size % 4096
  | none => 4096

/-- Place what has been fetched, part by part; a part not wholly fetched, and for an Append or a Store any part before
the whole is there, is left (R441). The first argument bounds the parts. -/
def place : Nat → State → Flight → State
  | 0, s, f => s.setFlight f
  | k + 1, s, f =>
    let at_ := f.slba + f.got
    let n := min (256 - at_ % 256) (f.total - f.got)
    if f.got = f.total ∨ f.part.length < n ∨ (f.kind ≠ .write ∧ f.got + f.part.length < f.total) then s.setFlight f
    else
      let ds := f.part.take n
      let s0 := s.setFlight { f with got := f.got + n }
      match s0.placePart f.nsid f.obj at_ ds f.order (if f.got + n = f.total then lastLenOf f else 4096) with
      | (false, s1) => s1.setFlight { f with waits := true }
      | (true, s1) =>
        if s1.overCeiling then (s.waitRoom f).setFlight { f with waits := true }
        else place k s1 { f with got := f.got + n, part := f.part.drop n, waits := false, started := true }

/-- How many parts a command can have: 4 GiB in parts of 1 MiB. -/
def partsMax : Nat := 4200

/-- WAITING shows whether a write waits (R345). -/
def showWaiting (s : State) : State := s.setB 0x14 SCC.SCC_STAT.WAITING (s.nvme.flights.any (·.waits))

/-- A command that does not wait has started once data of it has been fetched (R290); one that waits has fetched nothing
beyond what is placed. -/
def markStarted (s : State) (c : Cmd) : State :=
  match s.flightOf c with
  | some f => if f.waits ∨ (f.got = 0 ∧ f.part.isEmpty) then s else s.setFlight { f with started := true }
  | none => s

/-- A Store's object takes the place of the one its key had. -/
def putObj (s : State) (nsid : Nat) (o : KvObj) : State :=
  let n := s.nsOf nsid
  s.setNs nsid { n with objs := n.objs.filter (fun x => decide (x.key ≠ o.key)) ++ [o] }

/-- A Store wholly held is visible (R441). -/
def showStore (s : State) (c : Cmd) : State :=
  match s.flightOf c with
  | some f => match f.new with
    | some o => if f.kind = .store ∧ f.got = f.total then s.putObj f.nsid o else s
    | none => s
  | none => s

/-- A write starts its flight with the blocks fetched so far. -/
def startFlight (s : State) (f : Flight) : State :=
  ((((place partsMax (s.setFlights (s.nvme.flights ++ [f])) f).markStarted f.cmd).showStore f.cmd).showWaiting).settle

/-- A write in flight goes on: more blocks have been fetched, or room has been found. -/
def goOnFlight (s : State) (f : Flight) (more : List Nat) : State :=
  let f' := { f with part := f.part ++ more }
  ((((place partsMax (s.setFlight f') f').markStarted f.cmd).showStore f.cmd).showWaiting).settle

/-- A new flight. -/
def newFlight (s : State) (c : Cmd) (k : FlightKind) (nsid slba total : Nat) (fua : Bool) (part : List Nat) : Flight :=
  { cmd := c, kind := k, nsid := nsid, obj := 0, slba := slba, total := total, fua := fua, started := false
    waits := false, order := s.nvme.fetched, jseq := none, dw0 := 0, got := 0, part := part, new := none, old := none, range := (0, 0) }

/-- A write is safe to acknowledge (R444): held under the ceiling, or on the media with its journal. -/
def writeSafe (s : State) (f : Flight) : Bool :=
  decide (f.got = f.total) && ((s.covered f.cmd.ctl && !f.fua) || (s.flightClean f && s.flightPersisted f))

/-- An earlier write not wholly placed overlaps a range: what addresses it waits (R286, R287). -/
def behindWrite (s : State) (nsid lba n : Nat) : Bool :=
  s.nvme.flights.any fun f => decide (f.nsid = nsid) && decide (f.obj = 0) && decide (f.got < f.total) && (f.kind = .write || f.kind = .append) &&
    decide (f.slba + f.got < lba + n) && decide (lba < f.slba + f.total)

/-- A change of the map alone completes when its journal group is appended, or in write-through when it is persisted
(R444): then it goes on in flight. -/
def mapDone (s : State) (c : Cmd) (nsid dw0 : Nat) : State :=
  if s.covered c.ctl then s.doneWith c .success dw0 0
  else
    let f := { s.newFlight c .dealloc nsid 0 0 false [] with started := true, jseq := some (s.fld 0x19 MAP.JSEQ_APPENDED.JSEQ), dw0 := dw0 }
    s.setFlights (s.nvme.flights ++ [f])

/-- The cached and the waiting data of a run is given up (R342): dirty data outside the run is destaged, every sub-block
touched is invalidated, bricks of the run leave the pallets. -/
def dropRun (s : State) (nsid lba n : Nat) : State :=
  let hits := s.buf.lines.filter fun kv => decide (kv.2.nsid = nsid) && decide (kv.2.line < 2 ^ 32) &&
    decide (kv.2.line * 256 < lba + n) && decide (lba < kv.2.line * 256 + 256)
  let s1 := hits.foldl (fun (s : State) (kv : Nat × Line) =>
    let base := kv.2.line * 256
    (List.range 16).foldl (fun (s : State) b =>
      if base + 16 * b < lba + n ∧ lba < base + 16 * b + 16 then
        let s1 := if bitOf (s.way kv.1).dirty b then s.destageSub kv.1 b else s
        s1.dropSub kv.1 b
      else s) s) s
  s1.onMason fun m => { m with bricks := m.bricks.filter fun b =>
    !(decide (b.nsid = nsid) && decide (b.obj = 0) && decide (lba ≤ b.lba) && decide (b.lba < lba + n)) }

/-- Blocks are deallocated: their data is given up, their extents leave the map in journal groups, and they leave the
Unrecovered List (R285, R297, R448). -/
def deallocate (s : State) (nsid lba n : Nat) : State := ((s.dropRun nsid lba n).unmapRange nsid lba n).unrecCut nsid lba n

/-- Every extent of a namespace leaves the map. -/
def unmapAll (s : State) (nsid : Nat) : State :=
  (s.mason.extents.filter fun kv => decide (kv.2.st ≠ 0) && decide (kv.2.nsid = nsid)).foldl
    (fun (s : State) (kv : Nat × Extent) => s.cutExtent kv.1 0 kv.2.len) s

/-- Every extent of an object leaves the map. -/
def unmapObj (s : State) (nsid obj : Nat) : State :=
  (s.mason.extents.filter fun kv => decide (kv.2.st ≠ 0) && decide (kv.2.nsid = nsid) && kv.2.kv && decide (kv.2.lbase / 2 ^ 32 = obj)).foldl
    (fun (s : State) (kv : Nat × Extent) => s.cutExtent kv.1 0 kv.2.len) s

/-- All data of an object is given up. -/
def dropObj (s : State) (nsid obj : Nat) : State :=
  ((s.onBuf fun b => { b with lines := b.lines.filter fun kv => !(decide (kv.2.nsid = nsid) && decide (kv.2.line / 2 ^ 32 = obj)) }).onMason fun m =>
    { m with bricks := m.bricks.filter fun b => !(decide (b.nsid = nsid) && decide (b.obj = obj)) }).unmapObj nsid obj

/-- All data of a namespace is given up (R342, R448). -/
def dropNs (s : State) (nsid : Nat) : State :=
  (((s.dropLines (some nsid)).onMason fun m => { m with bricks := m.bricks.filter fun b => decide (b.nsid ≠ nsid) }).unmapAll nsid).unrecDrop
    fun e => decide (e.nsid = nsid)

/-! ### Reading (R287, R335, R336, R447) -/

/-- A brick's way, where its sub-block is valid. -/
def hitWay (s : State) (nsid obj lba : Nat) : Option Nat :=
  (s.findWay nsid (lineNo obj lba)).filter fun w => bitOf (s.way w).valid (lba % 256 / 16)

/-- One brick is read: from the cache or a pallet (`some`), from media as the world brings it, or zeros where the map has
nothing. `none`: it could not be read. A poisoned clean sub-block is read from media again; a dirty one is lost (R342). -/
def readBrick (s : State) (nsid obj lba : Nat) (media : List (Nat × Brick)) : Option Nat × State :=
  let fromMedia := fun (s : State) =>
    match s.lookup nsid obj lba with
    | none => (some 0, s.addTo 0x19 MAP.WALK_CNT.LOOKUPS 1)
    | some (ix, i) =>
      let e := s.extent ix
      let c := s.course e.course
      let cl := clOf (tileAct (c.members.getD ((e.start + i) % max 1 (geomK c.geom)) 0))
      let s1 := ((s.putExtent ix { e with heat := satAdd 16 e.heat 1 }).addTo 0x19 MAP.WALK_CNT.LOOKUPS 1).addTo 0x14 SCC.SCC_MISSES.BRICKS 1
      match Tab.find? media lba with
      | none => (none, s1)
      | some b => match s1.plainOf b with
        | some d => (some d, if b.trailer.kdom = noKdom then s1 else s1.bump (pgXtc cl) XTC.XTC_DEC.BRICKS)
        | none => (none, s1.keyMiss cl)
  match s.hitWay nsid obj lba with
  | some w =>
    let sub := lba % 256 / 16
    if s.poisonedRange (s.wayAddr w lba) 4096 then
      let s1 := s.raise 0x13 7 ((s.rgnOwned 5).getD 0)
      match s1.rgnOwned 5 with
      | some r =>
        let dirty := bitOf (s1.way w).dirty sub
        let s2 := s1.ownerAction r (s1.wayAddr w lba / 64) none
        if dirty then (none, s2) else fromMedia s2
      | none => fromMedia (s1.dropSub w sub)
    else
      let l := s.way w
      (some (s.wayBrick w lba), (s.setWay w { l with unread := bitClear l.unread sub }).addTo 0x14 SCC.SCC_HITS.BRICKS 1)
  | none =>
    match s.mason.bricks.reverse.find? fun b => decide (b.nsid = nsid) && decide (b.obj = obj) && decide (b.lba = lba) with
    | some b => (some b.data, s.addTo 0x14 SCC.SCC_MISSES.BRICKS 1)
    | none => fromMedia s

/-- The line of an extent's entry, or one of its course's, is poisoned (R241, R242, R328). -/
def entryPoisoned (s : State) (ix : Nat) : Bool :=
  let ct := 4096 * s.fld 0x19 MAP.CT_BASE.BASE + 128 * (s.extent ix).course
  s.poisonedLine ((4096 * s.fld 0x19 MAP.MAP_BASE.BASE + 32 * ix) / 64) || s.poisonedLine (ct / 64) || s.poisonedLine (ct / 64 + 1)

/-- The first entry on a poisoned line that reading a run would look up: its lookup waits (R270, R328). -/
def walkPoison (s : State) (nsid obj lba n : Nat) : Option Nat :=
  (List.range n).findSome? fun i =>
    let held := (s.hitWay nsid obj (lba + i)).isSome ||
      s.mason.bricks.any fun b => decide (b.nsid = nsid) && decide (b.obj = obj) && decide (b.lba = lba + i)
    if held then none
    else match s.lookup nsid obj (lba + i) with
      | some (ix, _) => if s.entryPoisoned ix then some ix else none
      | none => none

/-- A run is read, brick by brick; listed and unreadable blocks give no data. -/
def readRun (s : State) (nsid obj lba n : Nat) (media : List (Nat × Brick)) : List (Option Nat) × State :=
  (List.range n).foldl (fun (r : List (Option Nat) × State) i =>
    if (obj = 0 ∧ r.2.unrecHas nsid (lba + i)) then (r.1 ++ [none], r.2)
    else
      let x := r.2.readBrick nsid obj (lba + i) media
      (r.1 ++ [x.1], x.2)) ([], s)

/-- The host buffer's bytes: blocks without data are zero (R447). -/
def bufferOf (ds : List (Option Nat)) : Nat := (ds.zipIdx).foldl (fun n di => n + di.1.getD 0 * 2 ^ (32768 * di.2)) 0

/-- Sub-blocks that a read covers wholly and that missed are allocated, and become valid and clean with its data (R335). -/
def fillRead (s : State) (nsid obj lba : Nat) (ds : List (Option Nat)) : State :=
  if s.cacheState ≠ 1 then s
  else
    (List.range (ds.length / 16 + 2)).foldl (fun (s : State) i =>
      let at_ := (lba / 16 + i) * 16
      let mine := (ds.drop (at_ - lba)).take 16
      if lba ≤ at_ ∧ at_ + 16 ≤ lba + ds.length ∧ mine.all Option.isSome ∧ (s.hitWay nsid obj at_).isNone ∧ (s.lookup nsid obj at_).isSome then
        match s.wayFor nsid (lineNo obj at_) with
        | (some w, s1) =>
          let sub := at_ % 256 / 16
          if bitOf (s1.way w).filling sub then s1
          else
            let s2 := mine.zipIdx.foldl (fun (s : State) (di : Option Nat × Nat) => s.putWayBrick w (at_ % 256 + di.2) (di.1.getD 0)) s1
            s2.setWay w { s2.way w with valid := bitSet (s2.way w).valid sub }
        | (none, s1) => s1
      else s) s

/-- MAX_STRIDE: 0 acts as 1, above 64 as 64. -/
def maxStride (s : State) : Nat := min 64 (max 1 (s.fld 0x14 SCC.SCC_PF.MAX_STRIDE))

/-- The tracker a read meets, changed for it (R336): `first` and `last` are the sub-blocks the read begins and ends with. -/
def trackerFor (s : State) (nsid first last : Nat) : Tracker :=
  match s.buf.trackers.find? fun t => decide (t.nsid = nsid) && decide (t.last + t.stride = first) with
  | some t => { t with last := last, conf := min 3 (t.conf + 1) }
  | none =>
    match s.buf.trackers.find? fun t => decide (t.nsid = nsid) && decide (t.last < first) && decide (first ≤ t.last + s.maxStride) with
    | some t => ⟨nsid, last, first - t.last, 0⟩
    | none => ⟨nsid, last, 1, 0⟩

/-- The tracker the read replaces. -/
def trackerOld (s : State) (nsid first : Nat) : Option Tracker :=
  match s.buf.trackers.find? fun t => decide (t.nsid = nsid) && decide (t.last + t.stride = first) with
  | some t => some t
  | none => s.buf.trackers.find? fun t => decide (t.nsid = nsid) && decide (t.last < first) && decide (first ≤ t.last + s.maxStride)

/-- One sub-block is prefetched: FILLING until its data arrives. -/
def prefetchSub (s : State) (nsid sub : Nat) : State :=
  let lba := sub * 16
  if (s.lookup nsid 0 lba).isNone ∨ lba + 16 > (s.nsOf nsid).nsze ∨ s.cacheState ≠ 1 then s
  else match s.wayFor nsid (lineNo 0 lba) with
    | (none, s1) => s1
    | (some w, s1) =>
      let b := sub % 16
      let l := s1.way w
      if bitOf l.valid b || bitOf l.filling b then s1
      else (s1.setWay w { l with filling := bitSet l.filling b, unread := bitSet l.unread b }).bump 0x14 SCC.SCC_PF_CNT.ISSUED

/-- A read trains its tracker, and at confidence 2 or more starts the fills along the stride (R336). -/
def track (s : State) (nsid lba n : Nat) : State :=
  let first := lba / 16
  let last := (lba + n - 1) / 16
  let t := s.trackerFor nsid first last
  let rest := match s.trackerOld nsid first with | some o => s.buf.trackers.erase o | none => s.buf.trackers
  let s1 := s.onBuf fun b => { b with trackers := (t :: rest).take 1024 }
  if t.conf ≥ 2 then
    (List.range (s.fld 0x14 SCC.SCC_PF.PF_DEPTH)).foldl (fun (s : State) i => s.prefetchSub nsid (t.last + (i + 1) * t.stride)) s1
  else s1

/-- A FILLING sub-block lies in a run: what reads it waits (R342). -/
def fillingIn (s : State) (nsid obj lba n : Nat) : Bool :=
  s.buf.lines.any fun kv => decide (kv.2.nsid = nsid) && (List.range 16).any fun b =>
    bitOf kv.2.filling b && decide (kv.2.line * 256 + 16 * b < (if obj = 0 then lba else obj * 2 ^ 40 + lba) + n) &&
      decide ((if obj = 0 then lba else obj * 2 ^ 40 + lba) < kv.2.line * 256 + 16 * b + 16)

/-- Dirty sub-blocks of a run are written back (R289). -/
def writeBack (s : State) (nsid lba n : Nat) : State :=
  (List.range (n / 16 + 2)).foldl (fun (s : State) i =>
    let at_ := (lba / 16 + i) * 16
    if at_ < lba + n then
      match s.hitWay nsid 0 at_ with
      | some w => if bitOf (s.way w).dirty (at_ % 256 / 16) then s.destageSub w (at_ % 256 / 16) else s
      | none => s
    else s) s

/-! ### Zones (R298) -/

/-- A zone's blocks. -/
def zoneSize : Nat := 65536

/-- A zone of a namespace. -/
def zoneAt (s : State) (nsid z : Nat) : ZoneSt := Tab.get ⟨0, 0⟩ (s.nsOf nsid).zones z

/-- Store a zone. -/
def setZone (s : State) (nsid z : Nat) (x : ZoneSt) : State :=
  s.setNs nsid { s.nsOf nsid with zones := Tab.put ⟨0, 0⟩ (s.nsOf nsid).zones z x }

/-- Open zones of a namespace. -/
def openZones (s : State) (nsid : Nat) : Nat := ((s.nsOf nsid).zones.filter fun kv => decide (kv.2.st = 1 ∨ kv.2.st = 2)).length

/-- Active zones of a namespace. -/
def activeZones (s : State) (nsid : Nat) : Nat := ((s.nsOf nsid).zones.filter fun kv => decide (1 ≤ kv.2.st ∧ kv.2.st ≤ 3)).length

/-- Active zones of the module. -/
def activeAll (s : State) : Nat := s.nvme.ns.foldl (fun n kv => n + s.activeZones kv.1) 0

/-- Whether a zone may be opened: 256 open and 256 active per namespace, 4,096 active across the module. -/
def openStatus (s : State) (nsid z : Nat) : Option Sc :=
  let st := (s.zoneAt nsid z).st
  if st = 1 ∨ st = 2 then none
  else if s.openZones nsid ≥ 256 then some .tooManyOpen
  else if st = 0 ∧ (s.activeZones nsid ≥ 256 ∨ s.activeAll ≥ 4096) then some .tooManyActive
  else none

/-- What a write of n blocks at an LBA of a zoned namespace fails with. -/
def zoneWriteStatus (s : State) (nsid lba n : Nat) (append : Bool) : Option Sc :=
  let z := lba / zoneSize
  let x := s.zoneAt nsid z
  firstOf [chk (decide (x.st = 4)) .zoneFull,
    chk (append && decide (lba % zoneSize ≠ 0)) .invalidField,
    chk (decide ((if append then x.wp else lba % zoneSize) + n > zoneSize)) .zoneBoundary,
    chk (!append && decide (lba % zoneSize ≠ x.wp)) .zoneInvalidWrite,
    s.openStatus nsid z]

/-- A write moves the zone's write pointer: an Empty or Closed zone is implicitly opened, a full one is Full. -/
def zoneWritten (s : State) (nsid z n : Nat) : State :=
  let x := s.zoneAt nsid z
  let wp := x.wp + n
  s.setZone nsid z ⟨if wp = zoneSize then 4 else if x.st = 2 then 2 else 1, wp⟩

/-! ### Controller reset (R290) -/

/-- One fetched part of a write reaches the pallets. -/
def fetchedPart (s : State) (g : Flight) : State × Flight :=
  let at_ := g.slba + g.got
  let n := min (256 - at_ % 256) (g.total - g.got)
  if n = 0 ∨ g.part.length < n then (s, g)
  else
    (((s.dirtyNs g.nsid).evictSubs g.nsid g.obj at_ n).allToPallets g.nsid g.obj at_ (g.part.take n) g.order
      (if g.got + n = g.total then lastLenOf g else 4096),
      { g with got := g.got + n, part := g.part.drop n })

/-- An object being stored that is now all there is shown under its key. -/
def showFetched (s : State) (f : Flight) (new : Option KvObj) : State :=
  match new with
  | some o => if f.got = f.total then s else s.putObj f.nsid o
  | none => s

/-- All fetched parts of a write reach the pallets. -/
def fetchedParts (s : State) (f : Flight) : State × Flight :=
  (List.range partsMax).foldl (fun (r : State × Flight) _ => r.1.fetchedPart r.2) (s, f)

/-- What a reset leaves of a started write: every part wholly fetched is applied; of an Append or a Store all or nothing
(R441). Parts that could not land in the cache go to pallets. -/
def applyFetched (s : State) (f : Flight) : State :=
  if !f.started ∨ f.waits ∨ f.kind = .flush ∨ f.kind = .format ∨ f.kind = .deleteSq ∨ f.kind = .retrieve then s
  else if f.kind ≠ .write ∧ f.got + f.part.length < f.total then s
  else (s.fetchedParts f).1.showFetched f (s.fetchedParts f).2.new

/-- All data of an object that no key names any longer is given up: the object a Store replaced, or one never shown. -/
def endStore (s : State) (f : Flight) : State :=
  let named := fun (o : KvObj) => (s.nsOf f.nsid).objs.any fun x => decide (x.obj = o.obj)
  let gone := (if f.kind = .store then f.new.toList ++ f.old.toList else []).filter fun o => !named o
  gone.foldl (fun s o => s.dropObj f.nsid o.obj) s

/-- A controller is reset: its commands end without completion, what it wrote and wholly fetched is applied, its queues
are deleted, and its features return to their defaults. -/
def resetCtrl (s : State) (id : Nat) : State :=
  let k := s.ctrl id
  let mine := s.nvme.flights.filter fun f => decide (f.cmd.ctl = id)
  let s1 := mine.foldl (fun (s : State) f => (s.applyFetched f).endStore f) s
  let s2 := (s1.setFlights (s1.nvme.flights.filter fun f => decide (f.cmd.ctl ≠ id))).setCtrl id
    { Ctrl.zero with attached := k.attached }
  let s3 := { s2 with pwr := { s2.pwr with required := Tab.erase s2.pwr.required id, apst := Tab.erase s2.pwr.apst id } }
  let s4 := if isPf0 id then s3.setB 0x11 (if portOf id = 0 then NVE.NVE_STAT.RDY0 else NVE.NVE_STAT.RDY1) false else s3
  if k.en then ((s4.raise 0x11 0 id).settle.showWaiting).retarget else s4

/-- Every controller of a port. -/
def portCtrls (s : State) (port : Nat) (pf0 : Bool) : List Nat :=
  (s.nvme.ctrls.map Prod.fst).filter fun id => decide (portOf id = port) && (pf0 || !isPf0 id)

/-! ### Namespaces (R297) -/

/-- The controllers a namespace is attached to. -/
def attachedTo (s : State) (nsid : Nat) : List Nat := (s.nvme.ctrls.filter fun kv => kv.2.attached.contains nsid).map Prod.fst

/-- Namespace Attribute Changed, on the controllers named (R308). -/
def nsChanged (s : State) (nsid : Nat) (ids : List Nat) : State :=
  ids.foldl (fun (s : State) id =>
    let k := s.ctrl id
    let s1 := s.setCtrl id { k with changedNs := k.changedNs.filter (fun x => decide (x ≠ nsid)) ++ [nsid] }
    if bitOf (Tab.get 0 k.feats 0x0B) 8 then s1.asyncTo id (2, 0, 4) else s1) s

/-- A member may be read: its slot ACCEPTED or DRAINING, its loop CLOSED, its spindle at speed, its cluster powered (R250). -/
def readable (s : State) (id : Nat) : Bool :=
  let a := tileAct id
  decide (s.slotSt (slotOf a) = 1 ∨ s.slotSt (slotOf a) = 3) && decide (s.fld (pgAct a) ACT.SV_CTL.STATE = 2) && !s.clusterDown (clOf a)
    && s.spB (slotOf a) SPM.SPk_CTL.AT_SPEED

/-- Every HOME course of a pool has k readable members (R297). -/
def poolReady (s : State) (p : Nat) : Bool :=
  s.mason.courses.all fun kv => decide (kv.2.geom = 0) || decide (kv.2.kind ≠ 1) || decide (kv.2.pool ≠ p) ||
    decide (((intact kv.2).filter s.readable).length ≥ geomK kv.2.geom)

end State

end Sys2Proof.Machine
end

