-- ==== Sys2Proof/Machine/ImageOps.lean ====
section
/-! DEFINITION. Firmware images (R402, R403), the boot record (R478, R479), tokens (R383), the life cycle (R380, R381) and
the attestation key (R404-R407). -/

namespace Sys2Proof.Machine

/-- A slice of bytes. -/
def slice (bs : List Nat) (from_ n : Nat) : List Nat := (bs.drop from_).take n

/-- A number from bytes, the first the most significant. -/
def ofBe (bs : List Nat) : Nat := bs.foldl (fun n b => n * 256 + b % 256) 0

/-- Bytes of a number, the most significant first. -/
def beBytes (n v : Nat) : List Nat := (leBytes n v).reverse

/-- ASCII codes of a string. -/
def ascii (x : String) : List Nat := x.toList.map Char.toNat

/-- The largest image a NOR slot takes: 48 MiB (R15). -/
def imageMax : Nat := 50331648

/-- A section's digest matches (R402). -/
def sectionOk (img : List Nat) (i : Nat) : Bool :=
  let d := slice img (32 + 48 * i) 48
  decide (Config.sha256 (slice img (ofLe (slice d 4 4)) (ofLe (slice d 8 4))) = ofBe (slice d 16 32))

/-- The digest of an image's format sequencer microcode; none where it has no such section. -/
def microcodeOf (img : List Nat) : Option Nat :=
  ((List.range (ofLe (slice img 20 4))).find? fun i => decide (ofLe (slice img (32 + 48 * i) 4) = 3)).map fun i =>
    ofBe (slice img (32 + 48 * i + 16) 32)

/-- An image's security version. -/
def svnOf (img : List Nat) : Nat := ofLe (slice img 12 2)

/-- Why an image is not valid (R403), as RCV_CTL.RESULT codes it: 1 valid, 2 signature, 3 digest, 4 SVN, 5 too long. -/
def imageResult (svnMin : Nat) (img : List Nat) : Nat :=
  let key := slice img 800 56
  let n := ofLe (slice img 20 4)
  if img.length > imageMax then 5
  else if Config.sha256 key ≠ Config.vendorFw ∨ !Config.lmsVerify key (slice img 856 1772) (slice img 0 856) then 2
  else if n = 0 ∨ n > 16 ∨ !(List.range n).all (sectionOk img) then 3
  else if svnOf img < svnMin then 4
  else 1

namespace State

/-! ### Images and the boot record -/

/-- The image a NOR device holds in a slot (1 A, 2 B). -/
def imageAt (s : State) (dev slot : Nat) : List Nat := Tab.get [] s.nor.images (dev * 2 + (slot - 1))

/-- The image is valid on this module. -/
def imageOk (s : State) (img : List Nat) : Bool := decide (imageResult (s.fld 8 LCS.SVN_MIN.SVN) img = 1)

/-- The running image. -/
def runningImage (s : State) : List Nat := s.imageAt (s.fld 0 DEV.BOOT_IMG.RUN_DEV) (s.fld 0 DEV.BOOT_IMG.RUN_SLOT)

/-- TRIES of a slot. -/
def triesOf (slot : Nat) : RF := if slot = 2 then DEV.BOOT_IMG.TRIES_B else DEV.BOOT_IMG.TRIES_A

/-- FAILED of a slot. -/
def failedOf (slot : Nat) : RF := if slot = 2 then DEV.BOOT_IMG.FAILED_B else DEV.BOOT_IMG.FAILED_A

/-- An image goes into a slot of the devices that take it, and the slot's TRIES and FAILED are cleared (R479). -/
def writeImage (s : State) (slot : Nat) (img : List Nat) (w0 w1 : Bool) : State :=
  let put := fun (dev : Nat) (ok : Bool) (t : List (Nat × List Nat)) => if ok then Tab.put [] t (dev * 2 + (slot - 1)) img else t
  ((((s.norWrite w0 w1).onNor fun x => { x with images := put 1 w1 (put 0 w0 x.images) }).set 0 (triesOf slot) 0).setB 0 (failedOf slot) false)

/-- An image runs for the first time after its activation or start: with RAISE_SVN, SVN_MIN rises to its SVN, at most 64
(R403). -/
def raiseSvn (s : State) (img : List Nat) : State :=
  let v := min 64 (svnOf img)
  if bitOf (img.getD 14 0) 0 ∧ s.fld 8 LCS.SVN_MIN.SVN < v then (s.set 8 LCS.SVN_MIN.SVN v).raise 8 3 0 else s

/-- The staged image's bytes: up to the last byte staged. -/
def stagedImage (s : State) : List Nat :=
  (List.range (s.nvme.staged.foldl (fun n kv => max n (kv.1 + 1)) 0)).map fun i => Tab.get 0 s.nvme.staged i

/-! ### Tokens (R383) -/

/-- A fresh NONCE. -/
def newNonce (s : State) : State :=
  let v := Config.trng s.free
  (List.range 8).foldl (fun (s : State) i => s.set 8 (LCS.NONCE0.NONCE.at (4 * i)) (v / 2 ^ (32 * i) % 2 ^ 32)) { s with free := s.free + 1 }

/-- NONCE's 32 bytes. -/
def nonceBytes (s : State) : List Nat := (List.range 8).flatMap fun i => leBytes 4 (s.fld 8 (LCS.NONCE0.NONCE.at (4 * i)))

/-- A token's result (R383, R410): 1 accepted, 2 bad hash, 3 bad signature, 4 serial or nonce; 5 where its command is not
allowed in the present state through this path. -/
def tokenResult (s : State) (tok : List Nat) (allowed : List Nat) : Nat :=
  let cmd := tok.getD 10 0
  let key := slice tok 88 56
  let want := if cmd = 1 then Config.vendorLc else s.sec.owner
  if tok.length ≠ 1916 ∨ slice tok 0 8 ≠ ascii "HAYTHTOK" ∨ ofLe (slice tok 8 2) ≠ 1 ∨ !allowed.contains cmd then 5
  else if Config.sha256 key ≠ want then 2
  else if !Config.lmsVerify key (slice tok 144 1772) (slice tok 0 144) then 3
  else if ofLe (slice tok 12 8) ≠ s.fld 8 LCS.DEV_SERIAL.SERIAL ∨ slice tok 20 32 ≠ s.nonceBytes then 4
  else 1

/-- A presentation's result is shown, the buffer emptied, and a fresh NONCE drawn. -/
def tokenShown (s : State) (r : Nat) : State :=
  let s1 := ((s.set 8 LCS.TOK_STAT.RESULT r).set 8 LCS.TOK_STAT.BYTES 0).onSec fun x => { x with tok := [] }
  (if r = 1 then s1 else s1.raise 8 2 r).newNonce

end State

end Sys2Proof.Machine
end

