-- ==== Sys2Proof/Machine/NvmeAdmin.lean ====
section
/-! DEFINITION. The admin commands (R281, R283, R291-R297, R301-R309) but for the two vendor commands (see Security). -/

namespace Sys2Proof.Machine

/-- Queue pairs a controller grants (R281). -/
def grantMax (id : Nat) : Nat := if isPf0 id then 1024 else 64

/-- The queues a controller grants: submission and completion. -/
def grantedOf (id : Nat) (k : Ctrl) : Nat × Nat := k.granted.getD (grantMax id, grantMax id)

namespace State

/-! ### Queues (R281, R291) -/

/-- A queue is created or the command fails: an identifier of 0, above the granted count or in use; a size above MQES; a
PRP to a queue that is not contiguous. -/
def queueStatus (have_ : Bool) (qid size granted : Nat) (contiguous : Bool) : Option Sc :=
  firstOf [chk (decide (qid = 0) || decide (qid > granted) || have_) .invalidQueueId, chk (decide (size > 16383)) .invalidQueueSize,
    chk (!contiguous) .invalidField]

end State

open State (queueStatus firstOf chk)

/-- CREATE_IO_COMPLETION_QUEUE (R281): `size` is QSIZE, zero-based. -/
def execCreateIoCompletionQueue (c : Cmd) (qid size vector : Nat) (contiguous : Bool) (s : State) : Out :=
  s.admin c false false fun s =>
    let k := s.ctrl c.ctl
    match queueStatus (Tab.find? k.cqs qid).isSome qid size (grantedOf c.ctl k).2 contiguous with
    | some e => s.done c e
    | none => (s.setCtrl c.ctl { k with cqs := Tab.place k.cqs qid ⟨size + 1, vector, 0, 0⟩ }).done c .success

/-- CREATE_IO_SUBMISSION_QUEUE (R281): its completion queue has to exist. -/
def execCreateIoSubmissionQueue (c : Cmd) (qid size cqid prio : Nat) (contiguous : Bool) (s : State) : Out :=
  s.admin c false false fun s =>
    let k := s.ctrl c.ctl
    match queueStatus (Tab.find? k.sqs qid).isSome qid size (grantedOf c.ctl k).1 contiguous with
    | some e => s.done c e
    | none =>
      if cqid = 0 ∨ (Tab.find? k.cqs cqid).isNone then s.done c .cqInvalid
      else ((s.setCtrl c.ctl { k with sqs := Tab.place k.sqs qid ⟨size + 1, cqid, prio, 0, 0⟩ }).showQueues).done c .success

/-- DELETE_IO_SUBMISSION_QUEUE (R291): unstarted commands end with Command Aborted due to SQ Deletion; the deletion
completes once the started ones have. -/
def execDeleteIoSubmissionQueue (c : Cmd) (qid : Nat) (s : State) : Out :=
  s.admin c false false fun s =>
    let k := s.ctrl c.ctl
    if qid = 0 ∨ (Tab.find? k.sqs qid).isNone then s.done c .invalidQueueId
    else
      let mine := fun (f : Flight) => decide (f.cmd.ctl = c.ctl) && decide (f.cmd.sq = qid)
      let gone := s.nvme.flights.filter fun f => mine f && !f.started
      let s1 := gone.foldl (fun (s : State) f => s.done f.cmd .abortedSqDeletion)
        (s.setFlights (s.nvme.flights.filter fun f => !(mine f && !f.started)))
      let f := { s1.newFlight c .deleteSq 0 0 0 false [] with obj := qid, started := true }
      (s1.setFlights (s1.nvme.flights ++ [f])).settle.showWaiting

/-- DELETE_IO_COMPLETION_QUEUE (R283): it has to exist, with no submission queue left that uses it. -/
def execDeleteIoCompletionQueue (c : Cmd) (qid : Nat) (s : State) : Out :=
  s.admin c false false fun s =>
    let k := s.ctrl c.ctl
    if qid = 0 ∨ (Tab.find? k.cqs qid).isNone then s.done c .invalidQueueId
    else if k.sqs.any (fun q => decide (q.2.cq = qid)) then s.done c .queueDeletion
    else (s.setCtrl c.ctl { k with cqs := Tab.erase k.cqs qid }).done c .success

/-! ### Identify and log pages (R279, R280, R304-R306) -/

namespace State

/-- Bytes 3,072 to 4,095 of Identify Controller (R280): the bytes from 3,072 to 3,091. -/
def vendorArea (s : State) (ctl : Nat) : List Nat :=
  [s.io.dieRev, if s.io.grade = .ea then 1 else 0, clustersOf s.part, portOf ctl]
    ++ leBytes 4 (s.fld (pgFsq 0) FSQ.IMG_ID.ID) ++ leBytes 4 (s.fld 4 CAL.HU_E.E) ++ [b2n (s.flag 4 CAL.CAL_STAT.HU_VALID), 0, 0, 0]
    ++ leBytes 4 (s.fld 0x14 SCC.SCC_CEIL.MIB)

/-- The cache mode of page 0xC1 (R339): 0 write-back, 1 write-through set by the host or software, 2 because HU_VALID = 0,
3 DRAINING. -/
def cacheMode (s : State) : Nat :=
  if s.cacheState = 1 then 0 else if s.cacheState = 2 then 3 else if bitOf (s.fld 0x14 SCC.SCC_STAT.CAUSE) 1 then 2 else 1

/-- Critical Warning (R305). -/
def critWarn (s : State) : Nat :=
  let spare := (List.range 8).any fun p => (s.nvme.ns.any fun kv => kv.2.live && decide (kv.2.pool = p)) && decide (s.poolFree p / 100 < 10)
  let lost := s.mason.courses.any fun kv => decide (kv.2.geom ≠ 0) && decide (maskCount kv.2.lost ≥ geomM kv.2.geom)
  b2n spare + 2 * b2n (decide (signed 8 (s.fld 3 THM.THM_STAT.HOT) ≥ 100)) + 4 * b2n (lost || !s.mason.unrec.isEmpty)
    + 16 * b2n (!s.flag 4 CAL.CAL_STAT.HU_VALID)

/-- Available Spare: the least FREE_PCT of any pool that holds a namespace. -/
def spare (s : State) : Nat :=
  ((List.range 8).filter fun p => s.nvme.ns.any fun kv => kv.2.live && decide (kv.2.pool = p)).foldl (fun m p => min m (s.poolFree p / 100)) 100

/-- The values of the SMART / Health page (R305), in its table's order. -/
def smartValues (s : State) : List Nat :=
  [s.critWarn, s.fld 3 THM.THM_STAT.HOT, s.spare, 10, min 255 (s.io.hst.hours / 16 / 3506), s.nvme.unrecTotal, s.nvme.unsafeStarts,
    s.io.hst.hours, s.io.hst.pcyc]

/-- Ranges of the Unrecovered List as page 0xC0 shows them (R306): adjacent or overlapping ranges of a namespace form one
entry, in order of entry. -/
def mergeUnrec : Nat → List UnrecEnt → List UnrecEnt
  | 0, es => es
  | _ + 1, [] => []
  | n + 1, e :: es =>
    match es.find? fun x => decide (e.kind = 1) && decide (x.kind = 1) && decide (x.nsid = e.nsid) &&
        decide (x.first ≤ e.first + e.count) && decide (e.first ≤ x.first + x.count) with
    | some x =>
      let lo := min e.first x.first
      let hi := max (e.first + e.count) (x.first + x.count)
      mergeUnrec n ({ e with first := lo, count := hi - lo } :: es.erase x)
    | none => e :: mergeUnrec n es

/-- A merged range as entries of at most 0xFFFF_FFFF blocks. -/
def splitUnrec : Nat → UnrecEnt → List UnrecEnt
  | 0, e => [e]
  | n + 1, e => if e.kind = 1 ∧ e.count > 0xFFFFFFFF then
      { e with count := 0xFFFFFFFF } :: splitUnrec n { e with first := e.first + 0xFFFFFFFF, count := e.count - 0xFFFFFFFF }
    else [e]

/-- One 32-byte entry of page 0xC0. -/
def unrecBytes (s : State) (e : UnrecEnt) : List Nat :=
  let key := if e.kind = 2 ∧ e.count ≠ 0 then
      match (s.nsOf e.nsid).objs.find? fun o => decide (o.obj = e.first) with
      | some o => o.key
      | none => []
    else []
  if e.kind = 2 then leBytes 4 e.nsid ++ [2, key.length, 0, 0] ++ key ++ List.replicate (16 - key.length) 0 ++ leBytes 4 e.hours ++ [0, 0, 0, 0]
  else leBytes 4 e.nsid ++ [1, 0, 0, 0] ++ leBytes 8 e.first ++ leBytes 4 e.count ++ [0, 0, 0, 0] ++ leBytes 4 e.hours ++ [0, 0, 0, 0]

/-- Page 0xC0 (R306). -/
def pageC0 (s : State) : List Nat :=
  let all := (mergeUnrec (2 * s.mason.unrec.length) s.mason.unrec).flatMap (splitUnrec 8192)
  let shown := all.take 1048576
  leBytes 8 shown.length ++ leBytes 8 s.nvme.unrecChanges ++ [b2n (decide (all.length > shown.length))] ++ List.replicate 47 0
    ++ shown.flatMap s.unrecBytes

/-- Page 0xC1 (R306). -/
def pageC1 (s : State) : List Nat :=
  let pool := fun (p : Nat) =>
    let on := decide (s.fld (pgMsn p) MSN.POOL_SLOTS.SLOTS ≠ 0)
    [s.poolGeom p, b2n on + 2 * b2n (s.flag (pgMsn p) MSN.POOL_STAT.CLUSTER_LOSS_COVERED), s.poolFree p / 100, 0]
      ++ leBytes 4 (s.fld (pgMsn p) MSN.POOL_COURSES.DEGRADED) ++ leBytes 8 (s.poolFreeBricks p) ++ leBytes 8 (s.poolCap p) ++ List.replicate 8 0
  let weak := fun (n : Nat) => (List.range 12).any fun h => (s.headRec (2 * n) h).weak || (s.headRec (2 * n + 1) h).weak
  let slot := fun (n : Nat) =>
    [s.slotSt n, if s.inPool n then s.fld (pgMsn n) MSN.SLOT_STAT.POOL else 0xFF, s.lkState (2 * n), s.lkState (2 * n + 1), s.spState n,
      b2n (s.bridgeHere n) + 2 * b2n (weak n), 0, 0] ++ leBytes 8 (s.fld (pgAct (2 * n)) ACT.BR_SERIAL.V)
  [s.io.dieRev, if s.io.grade = .ea then 1 else 0, clustersOf s.part, s.cacheMode] ++ leBytes 4 (s.fld 4 CAL.HU_E.E)
    ++ leBytes 4 (s.fld 0x14 SCC.SCC_CEIL.MIB) ++ leBytes 4 ((s.dirtyTotal + 1048575) / 1048576) ++ leBytes 4 s.io.hst.hours
    ++ leBytes 4 s.io.hst.pcyc ++ List.replicate 40 0 ++ (List.range 8).flatMap pool ++ List.replicate 192 0
    ++ (List.range 64).flatMap (fun n => if slotOk s.part n then slot n else List.replicate 16 0) ++ List.replicate 2560 0

/-- Bytes of a page from an offset on; beyond its end zeros (R304). -/
def pageAt (bs : List Nat) (ofs n : Nat) : Nat := ofLe ((bs ++ List.replicate (ofs + n) 0).drop ofs |>.take n)

/-- Sanitize progress x 65,536: the recorded per cent (R303). -/
def sprog (s : State) : Nat := Tab.get 0 s.nor.erasing 0 * 65536 / 100

end State

open State (pageAt)

/-- IDENTIFY (R279, R280, R283): a supported CNS returns its structure; the vendor area and the fields the spec gives are
in the values, the layout is NVMe Base's. -/
def State.identifyData (s : State) (ctl cns nsid : Nat) : List Nat :=
  let n := s.nsOf nsid
  if cns = 1 then
    Config.nvmeData "identify" ([cns, ctl, 16383, 10, 3, 7, 20, 20000000, 5000000, 4, 1, 373, 383, 1024, 0x66, 0x44, 7, 255, 255] ++ s.vendorArea ctl)
  else Config.nvmeData "identify" ([cns, ctl, nsid, b2n n.live, n.set, n.nsze, n.nmic, n.pool, b2n n.strict + 2 * b2n n.pinned, n.kdom, n.maxValue]
    ++ (s.ctrl ctl).attached ++ (s.nvme.ns.filter fun kv => kv.2.live).map Prod.fst)

/-- IDENTIFY (R279, R280, R283). -/
def execIdentify (c : Cmd) (cns nsid : Nat) (s : State) : Out :=
  s.admin c false true fun s =>
    if cns ∈ [0, 1, 2, 3, 5, 6, 7, 8, 0x10, 0x11, 0x12, 0x13, 0x15, 0x1C] then s.doneWith c .success 0 (ofLe (s.identifyData c.ctl cns nsid))
    else s.done c .invalidField

namespace State

/-- A snapshot of the recorder for one reader: log page 0xC2 is rendered from it until its next read at offset 0 (R470). -/
def snapshot (s : State) (reader : Nat) : State :=
  s.onIo fun i => { i with hst := { i.hst with snaps := Tab.upd ⟨RecMem.zero, 0, false, 0, 0⟩ i.hst.snaps reader fun _ =>
    ⟨i.hst.mem, i.hst.missed, i.flag 6 HST.HST_CTL.FREEZE, i.hst.hours, i.hst.pcyc⟩ } }

/-- The bytes of a supported log page for a controller (R304); none: no such page. Page 0xC2 is what `rec` gives. -/
def logPage (s : State) (ctl lid nsid : Nat) (rec_ : List Nat) : Option (List Nat) :=
  let k := s.ctrl ctl
  if lid = 1 then some (Config.nvmeData "log" (1 :: (s.nvme.errLog.flatMap fun e => [e.ctl, e.sq, e.cid])))
  else if lid = 2 then some (Config.nvmeData "log" (2 :: s.smartValues))
  else if lid = 3 then some (Config.nvmeData "log" ([3, s.fld 0 DEV.BOOT_IMG.RUN_SLOT, s.fld 0 DEV.BOOT_IMG.NEXT]
    ++ ofLe (slice (s.imageAt 0 1) 8 4) :: [ofLe (slice (s.imageAt 0 2) 8 4)]))
  else if lid = 4 then some (Config.nvmeData "log" (4 :: k.changedNs))
  else if lid = 5 then some (Config.nvmeData "log" [5])
  else if lid = 0x81 then some (Config.nvmeData "log" [0x81, s.nvme.sanitize.getD 0, s.sprog, b2n s.nvme.restricted, s.nvme.sanitizes])
  else if lid = 0xBF then some (Config.nvmeData "log" (0xBF :: (k.changedZones.filter fun z => decide (z.1 = nsid)).map Prod.snd))
  else if lid = 0xC0 then some s.pageC0
  else if lid = 0xC1 then some s.pageC1
  else if lid = 0xC2 then some rec_
  else none

/-- Reading the Changed Namespace or Changed Zone list empties it. -/
def afterLog (s : State) (ctl lid nsid : Nat) (rae : Bool) : State :=
  let k := s.ctrl ctl
  if rae then s
  else if lid = 4 then s.setCtrl ctl { k with changedNs := [] }
  else if lid = 0xBF then s.setCtrl ctl { k with changedZones := k.changedZones.filter fun z => decide (z.1 ≠ nsid) }
  else s

end State

/-- SET_FEATURES' identifiers (R307). -/
def featIds : List Nat := [1, 2, 4, 5, 6, 7, 8, 9, 0xA, 0xB, 0xC, 0xE, 0xC0]

/-- A feature a controller supports: APST is PF0's only. -/
def featOk (id fid : Nat) : Bool := featIds.contains fid && (decide (fid ≠ 0xC) || isPf0 id)

/-- SET_FEATURES (R307): `value` is DW11, `data` what the feature's data structure holds. -/
def execSetFeatures (c : Cmd) (fid nsid value data : Nat) (s : State) : Out :=
  s.admin c false false fun s =>
    let k := s.ctrl c.ctl
    let put := fun (v : Nat) => s.setCtrl c.ctl { k with feats := Tab.place (Tab.erase k.feats fid) fid v }
    if !featOk c.ctl fid then s.done c .invalidField
    else if fid = 2 then
      if value % 32 > 4 then s.done c .invalidField
      else
        let s1 := put value
        ({ s1 with pwr := { s1.pwr with required := Tab.put 0 s1.pwr.required c.ctl (value % 32) } }.retarget).done c .success
    else if fid = 6 then ((put (value % 2)).syncCache).done c .success
    else if fid = 7 then
      if k.sqs.any (fun q => decide (q.1 ≠ 0)) ∨ k.cqs.any (fun q => decide (q.1 ≠ 0)) then s.done c .cmdSequence
      else if value % 65536 = 65535 ∨ value / 65536 % 65536 = 65535 then s.done c .invalidField
      else
        let g := (min (grantMax c.ctl) (value % 65536 + 1), min (grantMax c.ctl) (value / 65536 % 65536 + 1))
        (s.setCtrl c.ctl { k with granted := some g }).doneWith c .success ((g.1 - 1) + (g.2 - 1) * 65536) 0
    else if fid = 0xC then
      let s1 := put (value % 2 + 2 * data)
      ({ s1 with pwr := { s1.pwr with apst := if value % 2 = 0 then Tab.erase s1.pwr.apst c.ctl else s1.pwr.apst } }.retarget).done c .success
    else if fid = 0xE then ((put data).onNvme fun n => { n with timestamp := data }).done c .success
    else if fid = 0xC0 then
      let n := s.nsOf nsid
      if nsid = 0 ∨ !n.live ∨ n.set ≠ 1 then s.done c .invalidNamespace
      else (s.setNs nsid { n with strict := decide (value % 2 = 1) }).done c .success
    else (put value).done c .success

/-- GET_FEATURES (R281, R307, R311): DW0 is the value in force; a VF's Power Management reports the module's state (R429). -/
def State.featValue (s : State) (ctl fid nsid : Nat) : Nat :=
  let k := s.ctrl ctl
  if fid = 2 ∧ !isPf0 ctl then s.fld 2 PWC.PWC_STAT.PS_NOW
  else if fid = 6 then Tab.get 1 k.feats 6
  else if fid = 7 then (grantedOf ctl k).1 - 1 + ((grantedOf ctl k).2 - 1) * 65536
  else if fid = 0xC then Tab.get 0 k.feats fid % 2
  else if fid = 0xC0 then b2n (s.nsOf nsid).strict
  else Tab.get 0 k.feats fid

/-- GET_FEATURES (R307). -/
def execGetFeatures (c : Cmd) (fid nsid : Nat) (s : State) : Out :=
  s.admin c false false fun s =>
    if !featOk c.ctl fid then s.done c .invalidField
    else if fid = 0xC0 ∧ (!(s.nsOf nsid).live ∨ (s.nsOf nsid).set ≠ 1) then s.done c .invalidNamespace
    else s.doneWith c .success (s.featValue c.ctl fid nsid)
      (if fid = 0xE then s.nvme.timestamp else if fid = 0xC then Tab.get 0 (s.ctrl c.ctl).feats fid / 2 else 0)

/-- ASYNCHRONOUS_EVENT_REQUEST (R308): a waiting event completes it at once; beyond 8 outstanding it fails (AERL). -/
def execAsynchronousEventRequest (c : Cmd) (s : State) : Out :=
  s.admin c false false fun s =>
    let k := s.ctrl c.ctl
    if k.aers.length ≥ 8 then s.done c .asyncLimit
    else match k.events with
      | e :: es => (s.setCtrl c.ctl { k with events := es }).doneWith c .success (State.asyncDw0 e) 0
      | [] => s.setCtrl c.ctl { k with aers := k.aers ++ [c.cid] }

/-- ABORT (R295, R311): `others` Aborts are outstanding already. -/
def execAbort (c : Cmd) (sqid cid others : Nat) (s : State) : Out :=
  s.admin c false false fun s =>
    let k := s.ctrl c.ctl
    let t : Cmd := ⟨c.ctl, sqid, cid⟩
    if others ≥ 4 then s.done c .abortLimit
    else if sqid = 0 ∧ k.aers.contains cid then
      (((s.setCtrl c.ctl { k with aers := k.aers.erase cid }).done t .abortRequested).bump 0x11 NVE.NVE_ERR.ABORTS).doneWith c .success 0 0
    else match s.flightOf t with
      | some f =>
        if f.started then s.doneWith c .success 1 0
        else (((s.finish f .abortRequested 0).showWaiting).bump 0x11 NVE.NVE_ERR.ABORTS).doneWith c .success 0 0
      | none => s.doneWith c .success 1 0

/-! ### Namespaces (R296, R297) -/

/-- NAMESPACE_CREATE (R296, R386, R393): `set` 0 NVM, 1 Key Value, 2 Zoned; `w0`, `w1`: whether each NOR device takes the new
domain's blob. -/
def execNamespaceCreate (c : Cmd) (set nsze ncap flbas nmic pool flags maxValue : Nat) (w0 w1 : Bool) (s : State) : Out :=
  s.admin c true false fun s =>
    let ids := ((List.range 1025).drop 1).filter fun n => !(s.nsOf n).live
    let free := (s.domainsIn [0]).length
    match State.firstOf [s.sanitizeStatus, State.chk (decide (nsze ≠ ncap) || decide (flbas ≠ 0) || decide (pool > 7) || decide (set > 2)
          || (decide (set = 1) && decide (maxValue = 0 ∨ maxValue > 0xFFFFFFFF))) .invalidField,
        State.chk (decide (s.fld (State.pgMsn pool) MSN.POOL_SLOTS.SLOTS = 0)) .poolNotConfigured,
        State.chk (decide (nsze > s.remaining pool)) .nsCapacity,
        State.chk (ids.isEmpty || decide (free ≤ s.sec.rekeyWait.length)) .nsIdUnavailable] with
    | some e => s.done c e
    | none =>
      match ids.head?, s.firstFree with
      | some nsid, some d =>
        match s.makeKeys d nsid w0 w1 with
        | (false, s1) => s1.done c .internalError
        | (true, s1) =>
          (s1.setNs nsid { Ns.zero with
            live := true, set := set, nsze := nsze, nmic := nmic, pool := pool, strict := bitOf flags 0, pinned := bitOf flags 1
            kdom := d, maxValue := maxValue, ready := s1.poolReady pool }).doneWith c .success nsid 0
      | _, _ => s.done c .nsIdUnavailable

namespace State

/-- A namespace goes: its data is given up, its domain's keys destroyed at once, its controllers told (R297, R385, R386). -/
def removeNs (s : State) (nsid : Nat) : State :=
  let n := s.nsOf nsid
  let ids := s.attachedTo nsid
  let s1 := ids.foldl (fun (s : State) id => s.setCtrl id { s.ctrl id with attached := (s.ctrl id).attached.erase nsid }) s
  let s2 := (s1.dropNs nsid).setNs nsid Ns.zero
  let s3 := if n.kdom < 1024 then s2.freeDomain n.kdom else s2
  ((s3.onNor fun x => { x with erasing := Tab.erase x.erasing nsid }).nsChanged nsid ids).rekeyCheck.settle

end State

/-- NAMESPACE_DELETE (R297): of one namespace, or of all (0xFFFF_FFFF). -/
def execNamespaceDelete (c : Cmd) (nsid : Nat) (s : State) : Out :=
  s.admin c true false fun s =>
    match s.sanitizeStatus with
    | some e => s.done c e
    | none =>
      if nsid = 0xFFFFFFFF then (((s.nvme.ns.filter fun kv => kv.2.live).map Prod.fst).foldl State.removeNs s).done c .success
      else if !(s.nsOf nsid).live then s.done c .invalidNamespace
      else (s.removeNs nsid).done c .success

/-- NAMESPACE_ATTACH (R283): a private namespace goes to one controller. -/
def execNamespaceAttach (c : Cmd) (nsid : Nat) (ids : List Nat) (s : State) : Out :=
  s.admin c true false fun s =>
    let n := s.nsOf nsid
    match State.firstOf [State.chk (decide (nsid = 0) || !n.live) .invalidNamespace, State.chk (ids.isEmpty || !ids.all ctrlId) .ctrlListInvalid,
        State.chk (ids.any fun id => (s.ctrl id).attached.contains nsid) .nsAttached,
        State.chk (decide (n.nmic % 2 = 0) && decide ((s.attachedTo nsid).length + ids.length > 1)) .nsPrivate] with
    | some e => s.done c e
    | none =>
      ((ids.foldl (fun (s : State) id => s.setCtrl id { s.ctrl id with attached := (s.ctrl id).attached ++ [nsid] }) s).nsChanged nsid
        (ids.filter fun id => decide (id ≠ c.ctl))).done c .success

/-- NAMESPACE_DETACH (R297): started commands complete. -/
def execNamespaceDetach (c : Cmd) (nsid : Nat) (ids : List Nat) (s : State) : Out :=
  s.admin c true false fun s =>
    match State.firstOf [State.chk (decide (nsid = 0) || !(s.nsOf nsid).live) .invalidNamespace, State.chk (ids.isEmpty || !ids.all ctrlId) .ctrlListInvalid,
        State.chk (ids.any fun id => !(s.ctrl id).attached.contains nsid) .nsNotAttached] with
    | some e => s.done c e
    | none =>
      ((ids.foldl (fun (s : State) id => s.setCtrl id { s.ctrl id with attached := (s.ctrl id).attached.erase nsid }) s).nsChanged nsid
        (ids.filter fun id => decide (id ≠ c.ctl))).done c .success

/-! ### Firmware (R293, R294) -/

/-- FIRMWARE_IMAGE_DOWNLOAD (R293): bytes of the staged image from an offset on. -/
def execFirmwareImageDownload (c : Cmd) (ofs : Nat) (bytes : List Nat) (s : State) : Out :=
  s.admin c true false fun s =>
    (s.onNvme fun n => { n with staged := bytes.zipIdx.foldl (fun t bi => Tab.put 0 t (ofs + bi.2) (bi.1 % 256)) n.staged }).done c .success

/-- FIRMWARE_COMMIT_REPLACE (R293, R311, R479): CA 0 or 1; slot 0 leaves the choice to the module. -/
def execFirmwareCommitReplace (c : Cmd) (slot : Nat) (next : Bool) (w0 w1 : Bool) (s : State) : Out :=
  s.admin c true false fun s =>
    let run := s.fld 0 DEV.BOOT_IMG.RUN_SLOT
    let t := if slot = 0 then (if run = 1 then 2 else 1) else slot
    let img := s.stagedImage
    match State.firstOf [State.chk s.nvme.sanitize.isSome .sanitizeInProgress, State.chk (decide (t > 2) || decide (t = run)) .fwSlot,
        State.chk (!s.imageOk img) .fwImage] with
    | some e => (if e = .fwImage then s.raise 9 5 0 else s).done c e
    | none =>
      if !w0 && !w1 then (s.norWrite w0 w1).done c .internalError
      else
        let s1 := s.writeImage t img w0 w1
        (if next then s1.set 0 DEV.BOOT_IMG.NEXT t else s1).done c .success

/-- FIRMWARE_COMMIT_NEXT_BOOT (R293, R484): refused before BOOT_DONE, or where the slot holds no valid image. -/
def execFirmwareCommitNextBoot (c : Cmd) (slot : Nat) (s : State) : Out :=
  s.admin c true false fun s =>
    match State.firstOf [State.chk s.nvme.sanitize.isSome .sanitizeInProgress,
        State.chk (decide (slot = 0 ∨ slot > 2) || !s.flag 0 DEV.BOOT_STAT.DONE) .fwSlot,
        State.chk (!s.imageOk (s.imageAt 0 slot) && !s.imageOk (s.imageAt 1 slot)) .fwImage] with
    | some e => s.done c e
    | none => (s.set 0 DEV.BOOT_IMG.NEXT slot).done c .success

/-- The valid copy of a slot's image, by its device. -/
def State.slotImage (s : State) (slot : Nat) : Option (List Nat × Nat) :=
  if s.imageOk (s.imageAt 0 slot) then some (s.imageAt 0 slot, 0)
  else if s.imageOk (s.imageAt 1 slot) then some (s.imageAt 1 slot, 1)
  else none

/-- FIRMWARE_COMMIT_ACTIVATE (R294): CA 3. -/
def execFirmwareCommitActivate (c : Cmd) (slot : Nat) (s : State) : Out :=
  s.admin c true false fun s =>
    match s.nvme.sanitize, s.slotImage slot with
    | some _, _ => s.done c .sanitizeInProgress
    | none, none => s.done c (if slot = 0 ∨ slot > 2 then .fwSlot else .fwImage)
    | none, some (img, _) =>
      if slot = 0 ∨ slot > 2 ∨ s.nvme.activating.isSome then s.done c .fwSlot
      else if microcodeOf img ≠ microcodeOf s.runningImage then (s.set 0 DEV.BOOT_IMG.NEXT slot).done c .fwConventionalReset
      else
        let s1 := s.async 9 (2, 1, 3)
        let s2 := (s1.setB 0x11 NVE.NVE_STAT.FETCH_STOPPED true).setB 0x11 NVE.NVE_STAT.FW_ACT true
        (s2.onNvme fun n => { n with activating := some (c, slot) }).raise 0x11 2 0

namespace State

/-- An activation ends, after `ms` of quiesce: fetching resumes, the commit completes. -/
def endActivation (s : State) (c : Cmd) (ms bit : Nat) (sc : Sc) : State :=
  let s1 := ((s.setB 0x11 NVE.NVE_STAT.FETCH_STOPPED false).setB 0x11 NVE.NVE_STAT.FW_ACT false).set 0x11 NVE.NVE_QUIESCE.LAST_MS (min ms 0xFFFF)
  let s2 := s1.set 0x11 NVE.NVE_QUIESCE.MAX_MS (max (s1.fld 0x11 NVE.NVE_QUIESCE.MAX_MS) (min ms 0xFFFF))
  let s3 := (s2.onNvme fun n => { n with activating := none }).raise 0x11 bit 0
  if (s3.ctrl c.ctl).en then s3.done c sc else s3

end State

/-- ACTIVATION_QUIESCED (R294): no command is in flight any more. -/
def execActivationQuiesced (ms : Nat) (s : State) : Out :=
  match s.nvme.activating with
  | none => ok s
  | some (c, slot) =>
    okIf (s.nvme.flights.all fun f => decide (f.kind = .format)) s
      (match s.slotImage slot with
      | none => s.endActivation c ms 4 .fwImage
      | some (img, dev) =>
        let s1 := (((s.set 0 DEV.BOOT_IMG.RUN_SLOT slot).set 0 DEV.BOOT_IMG.RUN_DEV dev).set 0 DEV.BOOT_IMG.NEXT slot).set 0 DEV.BOOT_VER.VERSION
          (ofLe (slice img 8 4))
        (s1.raiseSvn img).endActivation c ms 3 .success)

/-- ACTIVATION_QUIESCE_TIMEOUT (R294): 1.8 s after fetching stopped, commands are still in flight. -/
def execActivationQuiesceTimeout (s : State) : Out :=
  match s.nvme.activating with
  | none => ok s
  | some (c, slot) => okIf true s ((s.set 0 DEV.BOOT_IMG.NEXT slot).endActivation c 1800 4 .fwMaxTime)

/-! ### Format and sanitize (R301-R303, R311) -/

namespace State

/-- A namespace is formatted: its data is given up, its zones are Empty and its keys gone, and with a replacement its
domain's keys are new. -/
def formatNs (s : State) (nsid : Nat) (ses : Nat) (w0 w1 : Bool) : Bool × State :=
  let n := s.nsOf nsid
  let s1 := (s.dropNs nsid).setNs nsid { n with zones := [], objs := [], format := some ses }
  let s2 := s1.onNor fun x => { x with erasing := Tab.place (Tab.erase x.erasing nsid) nsid 0 }
  if ses = 0 ∨ n.kdom ≥ 1024 then (true, s2)
  else
    let r := s2.makeKeys n.kdom nsid w0 w1
    (r.1, r.2.spentCheck)

/-- Namespaces a Format names. -/
def formatTargets (s : State) (nsid : Nat) : List Nat :=
  if nsid = 0xFFFFFFFF then (s.nvme.ns.filter fun kv => kv.2.live).map Prod.fst else [nsid]

end State

/-- FORMAT_NVM (R302, R303): the command goes on until FORMAT_DONE. -/
def execFormatNvm (c : Cmd) (nsid ses : Nat) (w0 w1 : Bool) (s : State) : Out :=
  s.admin c true false fun s =>
    let ts := s.formatTargets nsid
    match State.firstOf [s.sanitizeStatus, State.chk (s.nvme.ns.any fun kv => kv.2.format.isSome) .formatInProgress,
        State.chk (ts.any fun n => !(s.nsOf n).live) .invalidNamespace, State.chk (decide (ses > 2)) .invalidField] with
    | some e => s.done c e
    | none =>
      let r := ts.foldl (fun (r : Bool × State) n => let x := r.2.formatNs n ses w0 w1; (r.1 && x.1, x.2)) (true, s)
      if r.1 then
        let f := { r.2.newFlight c .format nsid 0 0 false [] with started := true }
        (r.2.setFlights (r.2.nvme.flights ++ [f])).settle
      else
        (ts.foldl (fun (s : State) n =>
          (s.setNs n { s.nsOf n with format := none }).onNor fun x => { x with erasing := Tab.erase x.erasing n }) r.2).done c .internalError

/-- FORMAT_DONE (R302): every namespace of the format is done; progress leaves NOR. -/
def execFormatDone (s : State) : Out :=
  let ts := (s.nvme.ns.filter fun kv => kv.2.format.isSome).map Prod.fst
  let s1 := ts.foldl (fun (s : State) n =>
    (s.setNs n { s.nsOf n with format := none }).onNor fun x => { x with erasing := Tab.erase x.erasing n }) s
  okIf (!ts.isEmpty) s
    ((match s.nvme.flights.find? fun (f : Flight) => decide (f.kind = FlightKind.format) with
      | some f => s1.finish f .success 0
      | none => s1).raise 0x11 8 0)

namespace State

/-- Every pool tile is reset, the map, the Course Table and the journal are free (R301). -/
def freeTables (s : State) : State :=
  let s1 := (s.dropLines none).onMason fun m => { m with
    genBase := m.serials.foldl (fun t kv => Tab.upd 0 t kv.1 (· + 1)) m.genBase
    extents := [], courses := [], journal := [], bricks := [], made := [], moving := [], waits := [], cold := [], rekeying := []
    compacting := [], rebuilding := [], ckpt := none, ckptStart := none }
  let s2 := (s1.mason.tiles.filter fun kv => decide (tileNum kv.1 ≥ 2)).foldl (fun (s : State) (kv : Nat × TileRec) =>
    (s.putTile kv.1 { kv.2 with course := noRef, pos := 0xFF }).resetTile kv.1) s1
  let s3 := s2.nvme.ns.foldl (fun (s : State) (kv : Nat × Ns) => s.setNs kv.1 { kv.2 with zones := [], objs := [] }) s2
  s3.unrecDrop fun _ => true

/-- Every key domain is replaced (R301, R386); false: one could not be. Retiring domains become FREE. -/
def replaceAll (s : State) (w0 w1 : Bool) : Bool × State :=
  let s0 := (s.domainsIn [2]).foldl freeDomain s
  let r := (s0.domainsIn [1, 3]).foldl (fun (r : Bool × State) d =>
    let x := r.2.makeKeys d (r.2.fld (pgDom d) SEC.DOM_STAT.NSID) w0 w1
    (r.1 && x.1, x.2)) (true, s0)
  (r.1, (r.2.onSec fun x => { x with rekeyWait := [] }).spentCheck)

/-- A sanitize starts (R301, R303, R342): dirty data is discarded, every key domain replaced; where one cannot be, it has
failed and the module is restricted. -/
def startSanitize (s : State) (c : Cmd) (how : Nat) (w0 w1 : Bool) : State :=
  match firstOf [chk (s.nvme.ns.any fun kv => kv.2.format.isSome) .formatInProgress, chk s.nvme.sanitize.isSome .sanitizeInProgress] with
  | some e => s.done c e
  | none =>
    let s1 := (((s.dropLines none).onMason fun m => { m with bricks := [] }).onNvme fun n => { n with sanitize := some how, restricted := false }).setB
      0x11 NVE.NVE_STAT.SANITIZE true
    let s2 := (s1.onNor fun x => { x with erasing := Tab.place (Tab.erase x.erasing 0) 0 0 }).raise 0x11 6 how
    let r := s2.replaceAll w0 w1
    if r.1 then (r.2.freeTables).done c .success
    else
      ((r.2.onNvme fun n => { n with sanitize := none, restricted := true }).onNor fun x => { x with erasing := Tab.erase x.erasing 0 }).done c .success

end State

/-- SANITIZE_CRYPTO_ERASE (R301). -/
def execSanitizeCryptoErase (c : Cmd) (w0 w1 : Bool) (s : State) : Out := s.admin c true false fun s => s.startSanitize c 1 w0 w1

/-- SANITIZE_BLOCK_ERASE (R301): as crypto erase. -/
def execSanitizeBlockErase (c : Cmd) (w0 w1 : Bool) (s : State) : Out := s.admin c true false fun s => s.startSanitize c 2 w0 w1

/-- SANITIZE_OVERWRITE (R301): the passes over the tiles of the ACCEPTED slots end with SANITIZE_DONE. -/
def execSanitizeOverwrite (c : Cmd) (w0 w1 : Bool) (s : State) : Out := s.admin c true false fun s => s.startSanitize c 3 w0 w1

/-- SANITIZE_DONE (R301): after an overwrite the tiles of ACCEPTED slots are reset again; each slot's record of its last
accepted HDA is cleared. -/
def execSanitizeDone (s : State) : Out :=
  match s.nvme.sanitize with
  | none => ok s
  | some how =>
    let s1 := if how = 3 then
        (s.mason.tiles.filter fun kv => decide (State.tileNum kv.1 ≥ 2) && decide (s.slotSt (State.tileAct kv.1 / 2) = 1)).foldl (fun (s : State) kv => s.resetTile kv.1) s
      else s
    let s2 := (s1.onMason fun m => { m with serials := [] }).onNvme fun n => { n with sanitize := none, sanitizes := n.sanitizes + 1 }
    okIf true s (((s2.onNor fun x => { x with erasing := Tab.erase x.erasing 0 }).setB 0x11 NVE.NVE_STAT.SANITIZE false).raise 0x11 7 how)

/-- UNSUPPORTED_COMMAND (R283, R284): of the admin queue or of an I/O queue. -/
def execUnsupportedCommand (c : Cmd) (s : State) : Out :=
  okIf (s.canFetch c) s <|
    let s1 := s.fetch c
    s1.done c (if c.sq = 0 ∧ s1.flag 8 LCS.LC_STAT.BUSY then .lifeCycle else .invalidOpcode)

end Sys2Proof.Machine
end

