-- ==== Sys2Proof/Machine/Recorder.lean ====
section
/-! DEFINITION. The event recorder (R462-R472): a record's bytes, log page 0xC2, tracked quantities, saving to NOR, freezing,
clearing; and the commands that read it. -/

namespace Sys2Proof.Machine

/-! ### Bytes (R463, R470) -/

/-- A record's bytes with its CRC (R463). -/
def Rec.bytes (r : Rec) : List Nat :=
  let body := leBytes 2 r.evt ++ [r.kind, r.flags] ++ leBytes 2 r.rep ++ [r.page, r.bit] ++ leBytes 4 r.hours ++ leBytes 4 r.pcyc
    ++ leBytes 4 r.hoursLast ++ leBytes 4 r.ctx ++ leBytes 4 r.rseq ++ [0, 0]
  body ++ leBytes 2 (crc16 (body.flatMap byteBits))

/-- Up to 512 records, the unused ones zero. -/
def recArea (rs : List Rec) : List Nat := rs.flatMap Rec.bytes ++ List.replicate (32 * (512 - rs.length)) 0

/-- A quantity's 96 bytes. -/
def Qty.bytes (q : Qty) : List Nat :=
  (List.range 16).flatMap (fun i => leBytes 4 (Tab.get 0 q.bins i)) ++ leBytes 4 (unsigned 32 q.min) ++ leBytes 4 q.minHours ++ leBytes 4 q.minPcyc
    ++ leBytes 4 (unsigned 32 q.max) ++ leBytes 4 q.maxHours ++ leBytes 4 q.maxPcyc ++ leBytes 8 q.count

/-- Log page 0xC2 (R470). -/
def RecSnap.bytes (x : RecSnap) : List Nat :=
  ascii "HAYTHREC" ++ leBytes 2 1 ++ leBytes 2 x.mem.first.length ++ leBytes 2 x.mem.last.length ++ leBytes 2 x.missed ++ [b2n x.frozen, 0, 0, 0]
    ++ leBytes 4 x.mem.rseq ++ leBytes 4 x.hours ++ leBytes 4 x.pcyc ++ leBytes 4 x.mem.clears ++ List.replicate 28 0
    ++ recArea x.mem.first ++ recArea x.mem.last ++ (List.range 64).flatMap fun q => (Tab.get Qty.zero x.mem.qty q).bytes

/-! ### Tracked quantities (R467) -/

/-- LO and STEP of a quantity. -/
def qtyScale (q : Nat) : Int × Int :=
  if q ≤ 15 then (20, 6) else if q ≤ 17 then (30, 3) else if q = 18 then (0, 16) else if q = 19 then (-20, 8) else if q = 20 then (0, 1)
  else if q = 21 then (0, 7) else if q = 22 then (0, 4096) else if q = 23 then (96, 10) else if q ≤ 31 then (0, 2) else if q ≤ 39 then (0, 64)
  else if q ≤ 47 then (0, 16) else if q = 48 then (0, 4096) else if q = 49 then (0, 7) else if q ≤ 51 then (0, 256) else if q = 52 then (0, 64)
  else if q = 53 then (0, 1) else if q = 54 then (0, 16) else if q = 55 then (0, 30) else if q = 56 then (0, 1024) else if q = 57 then (0, 7)
  else if q = 58 then (0, 10) else if q ≤ 60 then (0, 4) else if q = 61 then (20, 6) else if q = 62 then (-40, 5) else (0, 2)

/-- The bin of a sample: the outer bins take what lies beyond them. -/
def qtyBin (q : Nat) (v : Int) : Nat := (min 15 (max 0 ((v - (qtyScale q).1) / (qtyScale q).2))).toNat

/-- One sample: its bin, the extremes and the count. -/
def Qty.sample (x : Qty) (q : Nat) (v : Int) (hours pcyc : Nat) : Qty :=
  let fresh := x.count = 0
  let x1 := if fresh ∨ v < x.min then { x with min := v, minHours := hours, minPcyc := pcyc } else x
  let x2 := if fresh ∨ x.max < v then { x1 with max := v, maxHours := hours, maxPcyc := pcyc } else x1
  { x2 with now := v, bins := Tab.upd 0 x2.bins (qtyBin q v) (satAdd 32 · 1), count := (x2.count + 1) % 2 ^ 64 }

namespace State

/-- Change the recorder. -/
def onHst (s : State) (f : Recorder → Recorder) : State := s.onIo fun i => i.setHst (f i.hst)

/-- Sample one quantity and show it in Q_NOW. -/
def sampleQty (s : State) (q : Nat) (v : Int) : State :=
  (s.onHst fun h => { h with mem := { h.mem with
    qty := Tab.place (Tab.erase h.mem.qty q) q ((Tab.get Qty.zero h.mem.qty q).sample q v h.hours h.pcyc) } }).set (bank 6 q) HST.Q_NOW.VALUE (unsigned 32 v)

/-- A quantity's value as its register or state gives it; what a minute's count or rate is, the minute brings. -/
def qtyNow (s : State) (minute : List (Nat × Int)) (q : Nat) : Int :=
  let sixteenth := fun (p : Nat) (f : RF) => Config.divFree (signed 16 (s.fld p f)) 16
  let pct := fun (a b : Nat) => if b = 0 then 0 else Config.divFree (100 * a) b
  if q ≤ 15 then sixteenth (bank 3 q) THM.NODE_T.NODE
  else if q = 16 then Config.divFree (s.fld 2 PWC.VIN_MEAS.VIN) 100
  else if q = 17 then Config.divFree (s.fld 2 PWC.VIN_MEAS.VHOLD) 100
  else if q = 18 then Config.divFree (s.fld 2 PWC.PIN_MEAS.PIN) 10
  else if q = 19 then sixteenth 3 THM.CASE_T.CASE
  else if q = 20 then Config.divFree (s.fld 4 CAL.HU_E.E) 1000
  else if q = 21 then pct s.dirtyTotal s.ceiling
  else if q = 22 then s.fld 0x11 NVE.NVE_INFLIGHT.COUNT
  else if q = 23 then s.fld 2 PWC.CAP_EFF.CAP_W
  else if 24 ≤ q ∧ q ≤ 31 then
    s.fld (pgLdp (q - 24)) LDP.LDP_STAT.LIVE_BUSY + s.fld (pgLdp (q - 24)) LDP.LDP_STAT.RETRY_BUSY + s.fld (pgLdp (q - 24)) LDP.LDP_STAT.BORROWED
  else if q = 48 then (List.range 8).foldl (fun n p => n + s.fld (pgMsn p) MSN.POOL_COURSES.DEGRADED) 0
  else if q = 49 then (((List.range 8).filter fun p => decide (s.fld (pgMsn p) MSN.POOL_SLOTS.SLOTS ≠ 0)).map fun p => s.poolFree p / 100).foldl min 100
  else if q = 52 then ((List.range 16).map fun e => s.fld (pgSve e) SVE.MAX_LAT.CYCLES).foldl max 0
  else if q = 55 then s.fld 0x13 MPS.SCRUB_STAT.LAST_LAP
  else if q = 56 then s.rc.store.foldl (fun n kv => n + kv.2.units) 0
  else if q = 57 then pct s.unpersisted (s.jrnMib * 2 ^ 20)
  else if q = 61 then ((List.range 4).map fun i => sixteenth (bank 3 (24 + i)) THM.SENS_T.USED).foldl max (-128)
  else if q = 62 then signed 16 (s.fld 4 CAL.XTAL_PPM.PPM)
  else Tab.get 0 minute q

/-- Pending records go to both NOR devices (R466); a write that one device refuses raises NOR_FAIL. -/
def saveRecords (s : State) (w0 w1 : Bool) : State :=
  let s1 := if w0 || w1 then s.onHst fun h => { h with nor := h.mem } else s
  if w0 && w1 then s1 else s1.raise 6 5 0

/-- Freeze the recorder (R468). -/
def freeze (s : State) : State := s.onIo fun i => Io.freezeRec (fun p b i => i.up p b) i

/-- Thaw it. -/
def thaw (s : State) : State := s.onIo fun i => Io.thawRec (fun p b i => i.up p b) i

/-- Make a record of a kind. -/
def record (s : State) (kind ctx : Nat) : State :=
  s.onIo fun i => Io.makeRec (fun p b i => i.up p b) i (i.newRec 0xFFFF kind 0 0 0 ctx)

/-- An accepted CLEAR_RECORDER token (R469): LAST, the freeze buffer and the statistics are emptied, the freeze ended, and a
CLEAR record written with the signer's key identifier. -/
def clearRecorder (s : State) (tok : List Nat) : State :=
  let s1 := (s.setB 6 HST.HST_CTL.FREEZE false).setB 6 HST.HST_STAT.FROZEN false
  let s2 := s1.onHst fun h => { h with
    held := [], missed := 0, mem := { h.mem with last := [], qty := [], clears := satAdd 16 h.mem.clears 1 } }
  let s3 := (List.range 64).foldl (fun (s : State) q => s.set (bank 6 q) HST.Q_NOW.VALUE 0) s2
  (s3.record 3 (ofLe (slice tok 96 4))).raise 6 4 0

/-- A CLEAR_RECORDER token is allowed once an owner is fused (R469). -/
def clearAllowed (s : State) : List Nat := if s.flag 8 LCS.LC_STAT.OWNER_SET then [0x10] else []

/-- The bytes of page 0xC2 for a reader, with the snapshot it reads from (R470): one taken at offset 0, or at its first read. -/
def recorderPage (s : State) (reader ofs : Nat) : List Nat × State :=
  let s1 := if ofs = 0 ∨ (Tab.find? s.io.hst.snaps reader).isNone then s.snapshot reader else s
  ((Tab.get ⟨RecMem.zero, 0, false, 0, 0⟩ s1.io.hst.snaps reader).bytes, s1)

/-- A log page read by a reader (a controller; 0x1000 and up for the sideband's endpoints); page 0xC2 is there once the
tables are loaded (R483). -/
def readLog (s : State) (reader ctl lid nsid ofs len : Nat) (rae : Bool) : Option Nat × State :=
  let r := if lid = 0xC2 ∧ s.fld 0 DEV.BOOT_STAT.STAGE > 10 then s.recorderPage reader ofs else ([], s)
  if lid = 0xC2 ∧ s.fld 0 DEV.BOOT_STAT.STAGE ≤ 10 then (none, s)
  else match s.logPage ctl lid nsid r.1 with
    | some bs => (some (pageAt bs ofs len), r.2.afterLog ctl lid nsid rae)
    | none => (none, s)

end State

/-- GET_LOG_PAGE (R304-R306, R470): `len` bytes from a dword-aligned offset. -/
def execGetLogPage (c : Cmd) (lid nsid ofs len : Nat) (rae : Bool) (s : State) : Out :=
  s.admin c false true fun s =>
    if ofs % 4 ≠ 0 then s.done c .invalidField
    else match s.readLog c.ctl c.ctl lid nsid ofs len rae with
      | (some v, s1) => s1.doneWith c .success 0 v
      | (none, s1) => s1.done c .invalidLogPage

/-- CLEAR_EVENT_RECORDER (R310, R469): the token comes with the command. -/
def execClearEventRecorder (c : Cmd) (tok : List Nat) (s : State) : Out :=
  s.admin c true false fun s =>
    let r := s.tokenResult tok s.clearAllowed
    let s1 := s.tokenShown r
    if r = 1 then (s1.clearRecorder tok).done c .success else s1.done c .invalidField

/-- RECORD_NOR_WRITE (R466): within 100 ms of their making. -/
def execRecordNorWrite (w0 w1 : Bool) (s : State) : Out := okIf (decide (s.io.hst.nor ≠ s.io.hst.mem)) s (s.saveRecords w0 w1)

/-- OPERATING_HOUR_TICK (R462): the counter advances and is saved; HU_AGE follows it (R230). -/
def execOperatingHourTick (s : State) : Out :=
  let s1 := s.onHst fun h => { h with hours := satAdd 32 h.hours 1, norHours := satAdd 32 h.hours 1 }
  let age := s1.fld 4 CAL.HU_AGE.HOURS
  okIf (decide (s.pwr.phase = .run)) s
    (if age = 0xFFFF then s1 else s1.set 4 CAL.HU_AGE.HOURS (min 0xFFFF ((s1.io.hst.hours - s1.asc.huAt) / 16)))

/-- QUANTITY_SAMPLE (R467): quantities 0 to 62, not while MGP restarts; `minute` brings the counts and rates of the minute. -/
def execQuantitySample (minute : List (Nat × Int)) (s : State) : Out :=
  okIf (!s.sys.mgpDown) s ((List.range 63).foldl (fun (t : State) q => t.sampleQty q (s.qtyNow minute q)) s)

/-- RECORDER_FREEZE (R468, R472): under R33 PF1 cannot freeze in SECURED, RETURNED and SCRAPPED. -/
def execRecorderFreeze (acc : Accessor) (s : State) : Out :=
  if acc.isPf1 && decide (s.lifeCycle ≥ 2) then okIf true s (s.lockedWrite 6) else okIf true s s.freeze

/-- RECORDER_THAW (R468). -/
def execRecorderThaw (acc : Accessor) (s : State) : Out :=
  if acc.isPf1 && decide (s.lifeCycle ≥ 2) then okIf true s (s.lockedWrite 6) else okIf true s s.thaw

namespace State

/-- The record that REC_SEL names: FIRST or LAST, oldest first. -/
def recSelected (s : State) (acc : Accessor) : Option Rec :=
  let n := s.fld 6 HST.REC_SEL.INDEX
  let _ := acc
  if n < 512 then s.io.hst.mem.first[n]? else s.io.hst.mem.last[n - 512]?

end State

/-- RECORD_READ (R472): REC_DATA0 gives the first four bytes and latches the other seven words for this accessor; an unused
index reads 0. -/
def execRecordRead (acc : Accessor) (s : State) : Out :=
  let bs := match s.recSelected acc with | some r => r.bytes | none => List.replicate 32 0
  let w := fun (i : Nat) => ofLe (slice bs (4 * i) 4)
  okIf true s ((s.onIo fun i => { i with wordLatches := Tab.put [] i.wordLatches (acc.num * 2 ^ 20 + key 6 0x050) ((List.range 7).map fun i => w (i + 1)) }).gave acc (w 0))

end Sys2Proof.Machine
end

