-- ==== Sys2Proof/Machine/NvmeCtl.lean ====
section
/-! DEFINITION. Doorbells, controller enable, resets and shutdown (R281, R282, R290, R292, R297), NVMe-MI in band and on the
sideband (R283, R312, R315), and the PCIe ports (R274, R277, R313). -/

namespace Sys2Proof.Machine

namespace State

/-- A controller the host can reach: of port 0, or of port 1 where the strap made two ports (R274). -/
def reachable (s : State) (ctl : Nat) : Bool := ctrlId ctl && (decide (portOf ctl = 0) || s.sys.twoPorts)

/-- NVMe service has started: a life-cycle state that gives it, the engines up, no stage failed, not in RECOVERY (R379, R475,
R480, R483), VR_MEM and VR_CPX in service (R422). -/
def serves (s : State) : Bool :=
  decide (s.lifeCycle = 1 ∨ s.lifeCycle = 2) && decide (s.fld 0 DEV.BOOT_STAT.STAGE ≥ 7) && decide (s.fld 0 DEV.BOOT_STAT.FAIL_STAGE = 0)
    && !s.flag 0 DEV.BOOT_STAT.RECOVERY && !s.sys.cpxDown && decide (s.pwr.phase = .run)
    && decide (bitsOf (s.fld 2 PWC.RAIL_STAT.FAILED) 3 2 = 0)

/-- CSTS.CFS of controllers clears; CPX_STAT.CFS shows whether any still reads 1 (R452). -/
def clearCfs (s : State) (ids : List Nat) : State :=
  let left := s.sys.cfs.filter fun x => !ids.contains x
  { s with sys := { s.sys with cfs := left } }.setB 0x1D CPX.CPX_STAT.CFS (!left.isEmpty)

/-- NVE_VFS of a port. -/
def vfsOf (port : Nat) : RF := if port = 0 then NVE.NVE_VFS.VF0 else NVE.NVE_VFS.VF1

/-- NVE_STAT.RDY of a port. -/
def rdyOf (port : Nat) : RF := if port = 0 then NVE.NVE_STAT.RDY0 else NVE.NVE_STAT.RDY1

/-- The link, error and uncorrectable registers of a port (P1's stand 4 bytes further). -/
def portReg (port : Nat) (f : RF) : RF := f.at (4 * port)

/-- Every controller of a port is reset, PF0 and the VFs (R290). -/
def resetPort (s : State) (port : Nat) : State :=
  ((s.portCtrls port true).foldl resetCtrl s).set 0x11 (vfsOf port) 0

/-- A port's reset (R274, R290, R473): its controllers, PCX and NVE fields, and PF1's MSI-X state on it. -/
def portReset (s : State) (port : Nat) : State :=
  let s1 := (s.resetPort port).setB 0x11 (rdyOf port) false
  let s2 := [PCX.P0_LINK.DL_UP, PCX.P0_LINK.SPEED, PCX.P0_LINK.WIDTH, PCX.P0_LINK.PM, PCX.P0_LINK.LTSSM, PCX.P0_ERR.CORR, PCX.P0_ERR.RECOV,
    PCX.P0_UNC.UNCORR].foldl (fun (s : State) f => s.set 0x10 (portReg port f) 0) s1
  s2.onIo fun i => { i with msixOpen := i.msixOpen.filter fun v => decide (v / 128 ≠ port) }

end State

/-! ### Doorbells (R281, R282) -/

/-- SQ_DOORBELL_WRITE (R281): a value beyond the queue's size is discarded, with the event and DOORBELL_INVALID. -/
def execSqDoorbellWrite (ctl q value : Nat) (s : State) : Out :=
  let k := s.ctrl ctl
  match Tab.find? k.sqs q with
  | none => ok s
  | some x =>
    if value ≥ x.size then okIf true s ((s.asyncTo ctl (0, 1, 1)).raise 0x11 9 0)
    else okIf k.en s (s.setCtrl ctl { k with sqs := k.sqs.map fun kv => if kv.1 = q then (q, { kv.2 with tail := value }) else kv })

/-- CQ_DOORBELL_WRITE (R281). -/
def execCqDoorbellWrite (ctl q value : Nat) (s : State) : Out :=
  let k := s.ctrl ctl
  match Tab.find? k.cqs q with
  | none => ok s
  | some x =>
    if value ≥ x.size then okIf true s ((s.asyncTo ctl (0, 1, 1)).raise 0x11 9 0)
    else okIf k.en s (s.setCtrl ctl { k with cqs := k.cqs.map fun kv => if kv.1 = q then (q, { kv.2 with head := value }) else kv })

/-- FETCH_RESUME (R282). -/
def execFetchResume (s : State) : Out :=
  okIf (s.nvme.full && decide (s.nvme.flights.length < 65536)) s (s.onNvme fun n => { n with full := false })

/-! ### Enable, reset, shutdown -/

/-- CC_EN_SET (R278, R290, R339, R379, R482): the admin queues are as AQA gives them; `numVfs` VFs of the port are enabled.
CSTS.RDY follows where NVMe service has started, and CFS clears with it (R452). -/
def execCcEnSet (ctl asq acq numVfs : Nat) (s : State) : Out :=
  let k := s.ctrl ctl
  let vf := ctl % 0x80 - 1
  okIf (s.reachable ctl && !k.en && (isPf0 ctl || decide (vf ≤ numVfs))) s <|
    let up := s.serves
    let k' := { Ctrl.zero with en := true, rdy := up, attached := k.attached, sqs := [(0, ⟨asq, 0, 0, 0, 0⟩)], cqs := [(0, ⟨acq, 0, 0, 0⟩)] }
    let s1 := (s.setCtrl ctl k').set 0x11 (State.vfsOf (portOf ctl)) (min 64 numVfs)
    let s2 := if isPf0 ctl then s1.setB 0x11 (State.rdyOf (portOf ctl)) up else s1
    (if up then s2.clearCfs [ctl] else s2).retarget

/-- CC_EN_CLEAR (R290). -/
def execCcEnClear (ctl : Nat) (s : State) : Out := okIf (s.ctrl ctl).en s (s.resetCtrl ctl)

/-- FUNCTION_LEVEL_RESET (R290): function 0 is PF0, 1-64 a VF, 65 PF1, whose configuration and MSI-X state alone is reset. -/
def execFunctionLevelReset (port fn : Nat) (s : State) : Out :=
  okIf (decide (port < 2) && decide (fn ≤ 65)) s <|
    if fn = 0 then ((List.range 65).foldl (fun (s : State) f => s.hostDisabled port f) s).resetPort port
    else if fn = 65 then
      (s.hostDisabled port 65).onIo fun i => { i with msixOpen := i.msixOpen.filter fun v => decide (v / 128 ≠ port) }
    else (s.hostDisabled port fn).resetCtrl (1 + 0x80 * port + fn)

/-- PORT_RESET (R274, R290, R473): `cause` 0 PERST# asserted, 1 hot reset, 2 link-down. -/
def execPortReset (port cause : Nat) (s : State) : Out :=
  okIf (decide (port < 2)) s <|
    let s1 := ((List.range 66).foldl (fun (s : State) f => s.hostDisabled port f) s).portReset port
    if cause = 0 then { s1 with sys := { s1.sys with perst := s1.sys.perst.filter fun p => decide (p ≠ port) } } else s1

/-- VF_ENABLE_CLEAR (R278). -/
def execVfEnableClear (port : Nat) (s : State) : Out :=
  okIf (decide (port < 2)) s (((s.portCtrls port false).foldl State.resetCtrl s).set 0x11 (State.vfsOf port) 0)

namespace State

/-- A shutdown notification starts (R292): fetching stops for the controller, and everything fetched so far must reach the
media. -/
def startShutdown (s : State) (ctl : Nat) : State :=
  (s.setCtrl ctl { s.ctrl ctl with shst := 1, shutOrder := s.nvme.fetched, shutMark := none }).settle

end State

/-- CC_SHN_NORMAL (R292). -/
def execCcShnNormal (ctl : Nat) (s : State) : Out :=
  okIf ((s.ctrl ctl).en && decide ((s.ctrl ctl).shst = 0)) s (s.startShutdown ctl)

/-- CC_SHN_ABRUPT (R292): commands not yet started are discarded. -/
def execCcShnAbrupt (ctl : Nat) (s : State) : Out :=
  okIf ((s.ctrl ctl).en && decide ((s.ctrl ctl).shst ≤ 1)) s
    (((s.setFlights (s.nvme.flights.filter fun f => decide (f.cmd.ctl ≠ ctl) || f.started)).showWaiting).startShutdown ctl)

/-- NAMESPACE_READY (R297, R422, R485): every HOME course of its pool has k readable members; never with VR_SVE failed. The
time, `sec` seconds after the start, is shown once all namespaces are ready. -/
def execNamespaceReady (nsid sec : Nat) (s : State) : Out :=
  let n := s.nsOf nsid
  let s1 := s.setNs nsid { n with ready := true }
  okIf (n.live && !n.ready && s.poolReady n.pool && s.flag 0 DEV.BOOT_STAT.DONE && decide (s.fld 2 PWC.PWC_STAT.PS_NOW ≤ 2)
      && !bitOf (s.fld 2 PWC.RAIL_STAT.FAILED) 4) s
    (if (s1.nvme.ns.all fun kv => !kv.2.live || kv.2.ready) && decide (s.fld 0 DEV.BOOT_T.NS_READY_S = 0xFFFF) then
      s1.set 0 DEV.BOOT_T.NS_READY_S (min 0xFFFE sec)
     else s1)

/-! ### NVMe-MI (R283, R312) -/

namespace State

/-- The answer to an NVMe-MI request and what it changes; `reader` names who asks for a log page. -/
def miAnswer (s : State) (r : MiReq) (reader : Nat) : Sc × Nat × State :=
  let data := fun (name : String) (vs : List Nat) => (Sc.success, ofLe (Config.nvmeData name vs), s)
  if r.kind = 0 then data "mi-structure" [r.a, r.b]
  else if r.kind = 1 then data "mi-subsystem" ([b2n (s.flag 0x11 NVE.NVE_STAT.RDY0), b2n (s.flag 0x11 NVE.NVE_STAT.RDY1), b2n (!s.sys.cfs.isEmpty)] ++ s.smartValues)
  else if r.kind = 2 then
    let k := s.ctrl r.ctl
    data "mi-controller" ([r.ctl, b2n k.en, b2n k.rdy, k.shst, b2n (s.sys.cfs.contains r.ctl)] ++ s.smartValues)
  else if r.kind = 3 then (.success, Tab.get 0 s.nvme.miConf r.a, s)
  else if r.kind = 4 then (.success, 0, s.onNvme fun n => { n with miConf := Tab.put 0 n.miConf r.a r.b })
  else if r.kind = 5 then data "vpd" [s.fld 8 LCS.DEV_SERIAL.SERIAL]
  else if r.kind = 6 ∧ r.op = 6 then
    if r.a ∈ [0, 1, 2, 3, 5, 6, 7, 8, 0x10, 0x11, 0x12, 0x13, 0x15, 0x1C] then (.success, ofLe (s.identifyData r.ctl r.a r.b), s) else (.invalidField, 0, s)
  else if r.kind = 6 ∧ r.op = 2 then
    match s.readLog reader r.ctl r.a r.b r.ofs r.len true with
    | (some v, s1) => (.success, v, s1)
    | (none, s1) => (.invalidLogPage, 0, s1)
  else if r.kind = 6 ∧ r.op = 0xA then
    if featOk r.ctl r.a then (.success, s.featValue r.ctl r.a r.b, s) else (.invalidField, 0, s)
  else (.invalidOpcode, 0, s)

/-- A sideband request arrives (R312, R315): on a binding that is on (`i3c`), with a good PEC where one is asked for;
otherwise it is discarded. In RECOVERY only the subsystem poll is answered (R480). -/
def sideband (s : State) (i3c pecOk : Bool) (r : MiReq) : State :=
  let on := if i3c then s.flag 7 SBI.SBI_CFG.I3C_EN && s.flag 7 SBI.SBI_STAT.DA_VALID else s.flag 7 SBI.SBI_CFG.SMB_EN
  if !on then s
  else if !i3c && s.flag 7 SBI.SBI_CFG.PEC_REQ && !pecOk then (s.bump 7 SBI.SBI_MSG.DROPPED).raise 7 1 0
  else if s.flag 0 DEV.BOOT_STAT.RECOVERY ∧ r.kind ≠ 1 then s.bump 7 SBI.SBI_MSG.DROPPED
  else
    let x := s.miAnswer r (if i3c then 0x1001 else 0x1000)
    (((x.2.2.onNvme fun n => { n with miOut := n.miOut ++ [(r.kind, x.1, x.2.1)] }).bump 7 SBI.SBI_MSG.MSGS).raise 7 0 0)

end State

/-- NVME_MI_SEND (R283): the same set in band; PF0 only. -/
def execNvmeMiSend (c : Cmd) (r : MiReq) (s : State) : Out :=
  s.admin c true false fun s =>
    let x := s.miAnswer r c.ctl
    if x.1 = .invalidOpcode then s.done c .invalidOpcode
    else (x.2.2.onNvme fun n => { n with miAsked := some (x.1, x.2.1) }).done c .success

/-- NVME_MI_RECEIVE (R283): the answer to the last request. -/
def execNvmeMiReceive (c : Cmd) (s : State) : Out :=
  s.admin c true false fun s =>
    match s.nvme.miAsked with
    | some (sc, v) => (s.onNvme fun n => { n with miAsked := none }).doneWith c sc 0 v
    | none => s.done c .cmdSequence

/-- MI_READ_DATA_STRUCTURE (R312). -/
def execMiReadDataStructure (i3c pecOk : Bool) (kind portOrCtl : Nat) (s : State) : Out := okIf true s (s.sideband i3c pecOk ⟨0, 0, 0, kind, portOrCtl, 0, 0⟩)

/-- MI_SUBSYSTEM_HEALTH_POLL (R312, R480). -/
def execMiSubsystemHealthPoll (i3c pecOk : Bool) (s : State) : Out := okIf true s (s.sideband i3c pecOk ⟨1, 0, 0, 0, 0, 0, 0⟩)

/-- MI_CONTROLLER_HEALTH_POLL (R312). -/
def execMiControllerHealthPoll (i3c pecOk : Bool) (ctl : Nat) (s : State) : Out := okIf true s (s.sideband i3c pecOk ⟨2, 0, ctl, 0, 0, 0, 0⟩)

/-- MI_CONFIGURATION_GET (R312). -/
def execMiConfigurationGet (i3c pecOk : Bool) (cid : Nat) (s : State) : Out := okIf true s (s.sideband i3c pecOk ⟨3, 0, 0, cid, 0, 0, 0⟩)

/-- MI_CONFIGURATION_SET (R312). -/
def execMiConfigurationSet (i3c pecOk : Bool) (cid value : Nat) (s : State) : Out := okIf true s (s.sideband i3c pecOk ⟨4, 0, 0, cid, value, 0, 0⟩)

/-- MI_VPD_READ (R312). -/
def execMiVpdRead (i3c pecOk : Bool) (ofs len : Nat) (s : State) : Out := okIf true s (s.sideband i3c pecOk ⟨5, 0, 0, 0, 0, ofs, len⟩)

/-- MI_TUNNELLED_ADMIN (R312): Identify (6), Get Log Page (2) or Get Features (0xA); any other opcode fails. -/
def execMiTunnelledAdmin (i3c pecOk : Bool) (op ctl a b ofs len : Nat) (s : State) : Out := okIf true s (s.sideband i3c pecOk ⟨6, op, ctl, a, b, ofs, len⟩)

/-- SMBUS_TIMEOUT (R315): the endpoint releases the bus. -/
def execSmbusTimeout (s : State) : Out :=
  okIf (s.flag 7 SBI.SBI_CFG.SMB_EN) s ((s.setB 7 SBI.SBI_STAT.BUSY false).raise 7 2 0)

/-- I3C_ADDRESS_ASSIGNED (R315); address 0 stands for the I3C controller's reset procedure, which clears it. -/
def execI3cAddressAssigned (da : Nat) (s : State) : Out :=
  okIf (s.flag 7 SBI.SBI_CFG.I3C_EN) s <|
    let s1 := (s.set 7 SBI.SBI_STAT.DA da).setB 7 SBI.SBI_STAT.DA_VALID (decide (da ≠ 0))
    if da = 0 then s1 else s1.raise 7 3 0

/-! ### PCIe (R274, R277, R313, R482) -/

/-- PCIE_LINK_UP (R274, R313, R482): the data link comes up at the trained speed, no higher than PCX_TARGET allows, and
width; less than the target or the port's lanes raises SPEED_DROP or WIDTH_DROP. A port with SRIS does not train on the
ring oscillator (R424). -/
def execPcieLinkUp (port speed width : Nat) (s : State) : Out :=
  let t := s.fld 0x10 PCX.PCX_TARGET.MAX_SPEED
  let top := if 1 ≤ t ∧ t ≤ 5 then t else 5
  let lanes := if s.sys.twoPorts then 8 else 16
  let pr := State.portReg port
  okIf (decide (port = 0 ∨ (port = 1 ∧ s.sys.twoPorts)) && s.sys.perst.contains port && decide (1 ≤ speed ∧ speed ≤ top)
      && decide (width ∈ [1, 2, 4, 8, 16] ∧ width ≤ lanes) && !(s.sys.sris && s.flag 1 CLKG.CLK_STAT.RING)) s <|
    let s1 := ((((s.setB 0x10 (pr PCX.P0_LINK.DL_UP) true).set 0x10 (pr PCX.P0_LINK.SPEED) speed).set 0x10 (pr PCX.P0_LINK.WIDTH) width).set
      0x10 (pr PCX.P0_LINK.PM) 0).set 0x10 (pr PCX.P0_LINK.LTSSM) 4
    let s2 := s1.raise 0x10 0 0
    let s3 := if speed < top then s2.raise 0x10 4 0 else s2
    if width < lanes then s3.raise 0x10 5 0 else s3

/-- PCIE_LINK_DOWN (R290, R313). -/
def execPcieLinkDown (port : Nat) (s : State) : Out :=
  okIf (decide (port < 2) && s.flag 0x10 (State.portReg port PCX.P0_LINK.DL_UP)) s ((s.portReset port).raise 0x10 1 0)

/-- PERST_DEASSERT (R274, R482, R493): the straps are sampled with port 0's first deassertion after a module start, and hold
until the next. -/
def execPerstDeassert (port : Nat) (two sris : Bool) (s : State) : Out :=
  okIf (decide (port < 2) && !s.sys.perst.contains port) s <|
    let s1 : State := { s with sys := { s.sys with perst := s.sys.perst ++ [port] } }
    if port = 0 ∧ !s.sys.strapped then
      ((({ s1 with sys := { s1.sys with strapped := true, twoPorts := two, sris := sris } } : State).setB 0x10 PCX.PCX_MODE.BIF two).setB
        0x10 PCX.PCX_MODE.SRIS sris)
    else s1

/-- PCIE_ERROR_DETECTED (R313, R451): `kind` 0 a correctable error, 1 a link recovery, 2 an uncorrectable error. -/
def execPcieErrorDetected (port kind : Nat) (s : State) : Out :=
  let pr := State.portReg port
  okIf (decide (port = 0 ∨ (port = 1 ∧ s.sys.twoPorts)) && decide (kind ≤ 2)) s <|
    if kind = 0 then (s.bump 0x10 (pr PCX.P0_ERR.CORR)).raise 0x10 2 0
    else if kind = 1 then s.bump 0x10 (pr PCX.P0_ERR.RECOV)
    else (s.bump 0x10 (pr PCX.P0_UNC.UNCORR)).raise 0x10 3 0

/-- COMPLETION_TIMEOUT (R277, R363): a host read completes with a timeout, poisoned or Unsupported Request. It is a command's
fetch or the fetch of its write data, which ends the command with Data Transfer Error, none of its chunks not wholly fetched
applied; or, with no command, the read of Hod channel `n`. -/
def execCompletionTimeout (c : Option Cmd) (n : Nat) (s : State) : Out :=
  match c with
  | some c =>
    let pr := State.portReg (portOf c.ctl)
    let failed := fun (s : State) => (s.bump 0x10 (pr PCX.P0_UNC.UNCORR)).raise 0x10 3 0
    match s.flightOf c with
    | some f =>
      okIf (decide (f.kind ∈ [FlightKind.write, .append, .store]) && decide (f.got + f.part.length < f.total)) s
        (((failed ((s.applyFetched f).endStore f)).finish f .transferError 0).showWaiting)
    | none => okIf (s.canFetch c) s ((failed (s.fetch c)).done c .transferError)
  | none =>
    let i := s.hodAt n
    okIf (decide (n < 32) && decide (s.hodSt n = 1) && decide (i.op ∈ [1, 3]) && (decide (i.spA ∈ [2, 3]) || (decide (i.op = 3) && decide (i.spB ∈ [2, 3])))) s
      (s.hodFault n 4 (if i.spA ∈ [2, 3] then State.hodAddr i.spA i.a else State.hodAddr i.spB i.b)).syncHod

/-- MSIX_VECTOR_UNMASK (R461): a PF1 vector is unmasked on a port; pages whose signal is 1 on that vector send. -/
def execMsixVectorUnmask (port v : Nat) (s : State) : Out :=
  okIf (decide (port < 2) && decide (v < 128) && !s.io.msixOpen.contains (port * 128 + v)) s <|
    s.onIo fun i =>
      let hits := (List.range 256).filter fun pg => present i.part pg && i.signals pg && i.flag pg HDR.EV_ROUTE.MSIX && decide (i.msixVector pg = v)
      { i with
        msixOpen := i.msixOpen ++ [port * 128 + v]
        msixSent := i.msixSent ++ (if i.enabled 5 then hits.map fun _ => port * 128 + v else []) }

end Sys2Proof.Machine
end

