-- ==== Sys2Proof/Machine/PwrOps.lean ====
section
/-! DEFINITION. The operations of supply and power: the power-loss shutdown (R417-R420), the emergency flush and the FAULT#
hold (R454), lost clusters and rails (R422, R423, R456), sleep (R425-R427), power states (R428-R430), the cap (R431). -/

namespace Sys2Proof.Machine

/-- A place that a host brick gets in a shutdown: a course and the number of its data brick in it. -/
abbrev BrickPlace := Nat × Nat

/-- The power domain of a cluster, in the order of HOD.DOM_BUSY. -/
def domOfCl (c : Nat) : Nat := 7 + c

namespace State

/-- Change power's state. -/
def onPwr (s : State) (f : PwrSt → PwrSt) : State := { s with pwr := f s.pwr }

/-- Change the start's state. -/
def onSys (s : State) (f : SysSt → SysSt) : State := { s with sys := f s.sys }

/-! ### The shutdown (R418-R420) -/

/-- The data link of a controller's port is up. -/
def portUp (s : State) (ctl : Nat) : Bool := s.flag 0x10 (portReg (portOf ctl) PCX.P0_LINK.DL_UP)

/-- The command's write data was wholly fetched. -/
def wholly (f : Flight) : Bool :=
  !f.waits && (f.kind = .write || f.kind = .append || f.kind = .store) && decide (f.got + f.part.length ≥ f.total)

/-- Commands in flight at a shutdown (R419): what was wholly fetched is applied, and its command completes where the host
link still can carry it; started writes apply their whole chunks; the rest is abandoned without completion. -/
def endFlights (s : State) : State :=
  let fs := s.nvme.flights
  let s1 := fs.foldl (fun (s : State) (f : Flight) =>
    let s1 := s.applyFetched { f with started := f.started || wholly f }
    if wholly f then
      (if s1.portUp f.cmd.ctl then s1.complete ⟨f.cmd.ctl, f.cmd.sq, f.cmd.cid, .success, f.dw0, none, 0⟩ else s1)
    else s1.endStore f) s
  (s1.setFlights []).showWaiting

/-- Step 1 of R418: the marker, no more fetching, the cap lifted. -/
def shutStop (s : State) : State :=
  ((s.onNor fun x => { x with plsStart := true, plsDone := false }).setB 0x11 NVE.NVE_STAT.FETCH_STOPPED true).onPwr
    (fun p => { p with lever := 0 }) |>.endFlights

/-- Every dirty sub-block goes to pallets. -/
def destageAll (s : State) : State :=
  s.buf.lines.foldl (fun (s : State) kv =>
    (List.range 16).foldl (fun (s : State) b => if bitOf (s.way kv.1).dirty b then s.destageSub kv.1 b else s) s) s

/-- The host bricks that no course has a place for yet. -/
def unplaced (s : State) : List HostBrick := s.mason.bricks.filter fun b => decide (b.course = noRef)

/-- The places given are data bricks of HOME courses in use. -/
def placesOk (s : State) (ps : List BrickPlace) : Bool :=
  ps.all fun p => decide ((s.course p.1).geom ≠ 0) && decide ((s.course p.1).kind = 1) && decide (p.2 < geomK (s.course p.1).geom * 65536)

/-- The bricks with their places, oldest first: those of rows already made keep theirs. -/
def placed : List HostBrick → List BrickPlace → List HostBrick
  | [], _ => []
  | b :: bs, ps =>
    if b.course ≠ noRef then b :: placed bs ps
    else match ps with
      | p :: rest => { b with course := p.1, cb := p.2 } :: placed bs rest
      | [] => placed bs []

/-- Host bricks are destaged to their places (R240, R247, R418): their rows are complete, with fillers where needed, and the
map takes them in journal groups. Bricks for which no place is given stay behind. -/
def destageBricks (s : State) (ps : List BrickPlace) : State :=
  let bs := placed s.mason.bricks ps
  let left := s.unplaced.drop ps.length
  let s1 := bs.foldl (fun (s : State) b0 =>
    let b := if b0.ext = noRef then s.identify [] b0 else b0
    let c := s.course b.course
    let rows := b.cb / max 1 (geomK c.geom) + 1
    let s1 := if rows ≤ c.rows then s
      else State.journal (s.setCourse b.course { c with rows := rows, encoded := max c.encoded rows, flight := [] }) [.rows b.course rows]
    let s2 := s1.mapBrick b (Tab.get Ns.zero s1.nvme.ns b.nsid).pinned
    if b.obj = 0 then s2.unrecCut b.nsid b.lba 1 else s2) s
  s1.onMason fun m => { m with bricks := left, made := [] }

/-- Step 4 of R418: the journal is persisted to its end. -/
def persistAll (s : State) : State := s.set 0x19 MAP.JSEQ_PERSISTED.JSEQ (s.fld 0x19 MAP.JSEQ_APPENDED.JSEQ)

/-- All eight RETRACT_n lines are asserted with cause 0x04; loaded loops follow (R79, R183). -/
def retractAll (s : State) : State :=
  let s1 := (List.range 8).foldl (fun (s : State) c =>
    (s.onRetract c fun r => { r with shutdown := true }).set (pgKlc c) KLC.RETRACT.CAUSE 4) s
  (List.range (16 * clustersOf s.part)).foldl retractLoop s1

/-- Step 5 of R418: every actuator not OPEN is unloaded, the lines fall, the spindles coast. -/
def parkAll (s : State) : State :=
  let s1 := (List.range (16 * clustersOf s.part)).foldl (fun (s : State) a => if s.svState a = 0 then s else s.sendUnload a) s
  (List.range (8 * clustersOf s.part)).foldl spinFree s1.retractAll

/-- Step 6 of R418: hours, pending records (a freeze is thawed first, R468) and the PLS_DONE record go to NOR; PLS_DONE is raised. `dur` is in 10 µs, `vend`
in 10 mV. -/
def shutDone (s : State) (dur vend : Nat) : State :=
  let s1 := ((s.raise 2 1 0).sampleQty 63 (dur / 100)).thaw
  let s2 := s1.onHst fun h => { h with norHours := h.hours, nor := h.mem }
  s2.onNor fun x => { x with plsDone := true, plsLast := (min 0xFFFF dur, min 0xFFFF vend) }

/-- Steps 1 to 6 of R418. -/
def shutdown (s : State) (ps : List BrickPlace) (dur vend : Nat) : State :=
  ((((s.shutStop.destageAll).destageBricks ps).persistAll).parkAll).shutDone dur vend

/-- Every host brick gets a place in the shutdown. -/
def shutFits (s : State) (ps : List BrickPlace) : Bool :=
  s.placesOk ps && decide (s.shutStop.destageAll.unplaced.length ≤ ps.length)

/-- A shutdown that VHOLD falling below 31.0 V cuts short (R420): the places given are those that were reached, and the
journal is persisted up to `jseq`. The lines are asserted, and the module stops. -/
def shutdownCut (s : State) (ps : List BrickPlace) (jseq : Nat) : State :=
  let s1 := (s.shutStop.destageAll).destageBricks (ps.take s.shutStop.destageAll.unplaced.length)
  let s2 := s1.set 0x19 MAP.JSEQ_PERSISTED.JSEQ
    (max (s1.fld 0x19 MAP.JSEQ_PERSISTED.JSEQ) (min jseq (s1.fld 0x19 MAP.JSEQ_APPENDED.JSEQ)))
  s2.retractAll

/-- The module is held: every domain but AON in reset (R418, R435). -/
def toPhase (s : State) (p : Phase) : State := s.onPwr fun x => { x with phase := p }

/-! ### Emergency flush and FAULT# (R454) -/

/-- FAULT# and all eight RETRACT_n lines are asserted, and the module is held in reset until VIN is cycled. -/
def faultHold (s : State) : State :=
  (((s.retractAll).onSys fun x => { x with fault := true, resetReq := none }).onNor fun x => { x with recStat := bitSet x.recStat 6, dirtyLost := true }).toPhase .faultHold

/-- The emergency flush of R454: EFL_START, steps 1 to 6 of R418 with the FET kept closed, EFL_DONE, and the request of a
module reset that will report `kind`. -/
def emergencyFlush (s : State) (kind : Nat) (ps : List BrickPlace) (dur vend : Nat) : State :=
  let s1 := (s.onNor fun x => { x with eflStart := true, eflDone := false }).setB 0x1D CPX.CPX_STAT.EFL true
  let s2 := (s1.shutdown ps dur vend).onNor fun x => { x with eflDone := true }
  (((s2.setB 0x1D CPX.CPX_STAT.EFL false).raise 0x1D 4 0).onSys fun x => { x with resetReq := some kind }).toPhase .held

/-- Before a reset a freeze of the recorder is thawed, and the records pending are written (R466, R468). -/
def closeRecords (s : State) : State := s.thaw.onHst fun h => { h with norHours := h.hours, nor := h.mem }

/-- A module reset that the device itself requests: preceded by the emergency flush, but before BOOT_DONE, when no dirty data
exists (R473). -/
def requestReset (s : State) (kind : Nat) (ps : List BrickPlace) (dur vend : Nat) : State :=
  if s.flag 0 DEV.BOOT_STAT.DONE then s.emergencyFlush kind ps dur vend
  else (s.closeRecords.onSys fun x => { x with resetReq := some kind }).toPhase .held

/-- The places given to a reset's flush are enough. -/
def resetFits (s : State) (ps : List BrickPlace) : Bool := !s.flag 0 DEV.BOOT_STAT.DONE || s.shutFits ps

/-! ### Lost clusters and rails -/

/-- START_DEGRADED: a rail, cluster or oscillator failure (R485). -/
def degraded (s : State) : State := (s.setB 0 DEV.BOOT_STAT.DEGRADED true).raise 0 3 0

/-- Retry jobs of a pool, and what its decoders hold of them, start again elsewhere at their level (R130). -/
def moveJobs (s : State) (c dest : Nat) : State :=
  let p := s.pool c
  let js := p.queue ++ p.running.map (·.job) ++ p.boundary
  let s1 := s.setPool c { p with queue := [], running := [], boundary := [], replays := [], live := [] }
  if js.isEmpty then s1 else (s1.setPool dest { s1.pool dest with queue := (s1.pool dest).queue ++ js }).settlePool dest

/-- XTS work of an engine moves to another (R456). -/
def moveXts (s : State) (c dest : Nat) : State :=
  let g := s.engine c
  if g = Engine.zero then s
  else
    let d := s.engine dest
    (s.setEngine c Engine.zero).setEngine dest { d with waiting := d.waiting ++ g.running.toList ++ g.suspended ++ g.waiting }

/-- The pages of a cluster. -/
def clPages (c : Nat) : List Nat := [pgKlc c, pgFdc c, pgLdp c, pgFsq c, pgXtc c]

/-- A cluster is lost (R456): its domain is switched off, RETRACT_n asserted with cause 0x02, its links are DOWN and their
actuators lost; its retry jobs and XTS work go to cluster `dest`. -/
def loseCluster (s : State) (c dest : Nat) : State :=
  if s.sys.lostClusters.contains c ∨ !clOk s.part c then s
  else
    let s1 := (s.moveJobs c dest).moveXts c dest
    let s2 := (((s1.setB (pgKlc c) KLC.RETRACT.SW_ASSERT true).syncRetract c).set (pgKlc c) KLC.RETRACT.CAUSE 2)
    let s3 := (List.range 16).foldl (fun (s : State) i => (s.abandonWin (16 * c + i) .gap).finishLeave (16 * c + i) 0) s2
    let s4 := s3.onSys fun x => { x with lostClusters := x.lostClusters ++ [c] }
    let s5 := (clPages c).foldl (fun (s : State) pg => s.setB pg HDR.PG_CTL.ENABLE false) s4
    ((s5.showDomains).domainLost (domOfCl c)).degraded

/-- No NVMe service (R422): fetching stops and CSTS.CFS reads 1 on every controller. -/
def noService (s : State) : State :=
  ((s.setB 0x11 NVE.NVE_STAT.FETCH_STOPPED true).onSys fun x =>
    { x with cfs := (s.nvme.ctrls.filter fun kv => kv.2.en).map Prod.fst }).setB 0x1D CPX.CPX_STAT.CFS true

/-- The servo domain has no power (R422): no head is loaded, and namespaces are not ready. -/
def noServo (s : State) : State :=
  let s1 := (List.range (16 * clustersOf s.part)).foldl unloadLoaded s
  let s2 := (List.range (2 * clustersOf s.part)).foldl (fun (s : State) e => (s.set (pgSve e) SVE.LOOP_CTL.STATE 0).syncEngine e) s1
  s2.onNvme fun n => { n with ns := n.ns.map fun kv => (kv.1, { kv.2 with ready := false }) }

/-- A rail has failed for good (R422, R423): RAIL_FAIL, RAIL_STAT, and what its domains are. -/
def railFails (s : State) (r dest : Nat) : State :=
  let s1 := ((s.set 2 PWC.RAIL_STAT.FAILED (bitSet (s.fld 2 PWC.RAIL_STAT.FAILED) r)).set 2 PWC.RAIL_STAT.PG
    (bitClear (s.fld 2 PWC.RAIL_STAT.PG) r)).raise 2 7 r
  let s2 := s1.degraded.showDomains
  if r ≤ 1 then s2.faultHold
  else if r = 2 then (s2.noService).domainLost 5
  else if r = 3 then s2.noService
  else if r = 4 then (s2.noServo).domainLost 6
  else (List.range 4).foldl (fun (s : State) i => s.loseCluster (4 * (r - 5) + i) dest) s2

/-! ### Sleep (R425-R427) -/

/-- The links of a cluster that keep KLCc busy: in ACTIVE or TRAIN. -/
def klcBusy (s : State) (c : Nat) : Bool := (List.range 16).any fun i => decide (s.lkState (16 * c + i) = 1 ∨ s.lkState (16 * c + i) = 2)

/-- A pool that holds a job (R130). -/
def ldpBusy (s : State) (c : Nat) : Bool :=
  let p := s.pool c
  !p.queue.isEmpty || !p.running.isEmpty || !p.live.isEmpty || !p.boundary.isEmpty

/-- A thread with a gate armed or open, or a window open (R154). -/
def fsqBusy (s : State) (c : Nat) : Bool :=
  (List.range 16).any fun i => !(s.thr (16 * c + i)).gates.isEmpty || (s.det (16 * c + i)).win.isSome
    || !(s.det (16 * c + i)).pend.isEmpty

/-- A message running or suspended (R401). -/
def xtcBusy (s : State) (c : Nat) : Bool := (s.engine c).running.isSome || !(s.engine c).suspended.isEmpty

/-- The blocks of a domain that have work of their own to refuse for, in the order asked, and whether each is busy; Hod is
asked last (R425). -/
def answers (s : State) (d : Nat) : List (Nat × Bool) :=
  let own := if d ≥ 7 then
      [(pgKlc (d - 7), s.klcBusy (d - 7)), (pgFdc (d - 7), false), (pgLdp (d - 7), s.ldpBusy (d - 7)), (pgFsq (d - 7), s.fsqBusy (d - 7)),
       (pgXtc (d - 7), s.xtcBusy (d - 7))]
    else if d = 6 then
      ((List.range (2 * clustersOf s.part)).map fun e => (pgSve e, (List.range 8).any fun k => decide (s.svState (8 * e + k) ≠ 0)))
        ++ (List.range (2 * clustersOf s.part)).map fun e => (pgSpm e, (List.range 4).any fun k => decide (s.spState (4 * e + k) ≠ 0 ∧ s.spState (4 * e + k) ≠ 9))
    else []
  own ++ [(0x1B, s.hodBusy d)]

/-- The first block that answers BUSY. -/
def refuser (s : State) (d : Nat) : Option Nat := ((s.answers d).find? (·.2)).map (·.1)

/-- A domain's sleep is wanted: a cluster by DOM_CTL.CL_SLEEP; SVE, MEM and the clusters in PS4; CPX in PS3 and PS4 (R428,
R430, R437). -/
def sleepWanted (s : State) (d : Nat) : Bool :=
  let ps := s.fld 2 PWC.PWC_STAT.PS_NOW
  if d ≥ 7 then decide (ps = 4) || (s.enabled 2 && bitOf (s.fld 2 PWC.DOM_CTL.CL_SLEEP) (d - 7))
  else if d = 5 ∨ d = 6 then decide (ps = 4)
  else decide (d = 2) && decide (ps ≥ 3)

/-- A domain that can be asked to sleep: awake, of the part and powered. -/
def sleepable (s : State) (d : Nat) : Bool := decide (d < 15) && !s.domAsleep d && s.sleepWanted d

/-- A refusal (R426): the refuser, TIMEOUT, the event, and the back-off, doubled from 10 ms to at most 1,280 ms. -/
def refused (s : State) (d pg : Nat) (timeout : Bool) : State :=
  let b := min 128 (if Tab.get 0 s.pwr.backoff d = 0 then 1 else 2 * Tab.get 0 s.pwr.backoff d)
  ((((s.onPwr fun p => { p with backoff := Tab.put 0 p.backoff d b }).set 2 PWC.SLP_STAT.REFUSER pg).setB 2 PWC.SLP_STAT.TIMEOUT timeout).set
    2 PWC.SLP_STAT.BACKOFF b).bump 2 PWC.SLP_CNT.REFUSALS |>.raise 2 8 d

/-- A domain that is entered, or asked for no longer, backs off no more (R426). -/
def backoffEnds (s : State) (d : Nat) : State :=
  let s1 := s.onPwr fun p => { p with backoff := Tab.erase p.backoff d }
  s1.set 2 PWC.SLP_STAT.BACKOFF (s1.pwr.backoff.foldl (fun m kv => max m kv.2) (if s1.pwr.backoff.isEmpty then 1 else 0))

/-- A link held in DOWN by its cluster's sleep (R425): its actuator is not lost by it. -/
def sleepLink (s : State) (a : Nat) : State :=
  let s1 := (((s.set (pgAct a) ACT.LK_STAT.STATE 0).setLinkBit a KLC.ACTIVE.V false).setLinkBit a KLC.FAULTED.V false)
  ((s1.set (pgAct a) ACT.LK_STAT.PHASE 0).settleOwner (slotOf a)).noLink (slotOf a)

/-- The whole domain is asleep. -/
def enterSleep (s : State) (d : Nat) : State :=
  let s1 := (s.backoffEnds d).onPwr fun p => { p with asleep := p.asleep ++ [d] }
  let s2 := (s1.bump 2 PWC.SLP_CNT.ENTRIES).showDomains
  if d ≥ 7 then (List.range 16).foldl (fun (s : State) i => s.sleepLink (16 * (d - 7) + i)) s2
  else if d = 2 then (s2.set 0xE WDG.WDG_STAT.CPX_ARMED 0).set 0xE WDG.WDG_STAT.CPX_LEFT 0
  else s2

/-- PWC asks a domain's blocks in turn; all of them agree, or the first that is busy wakes the others (R425, R426). -/
def askSleep (s : State) (d : Nat) : State :=
  match s.refuser d with
  | some pg => s.refused d pg false
  | none => s.enterSleep d

/-- What shows the state of a link and of its line, whatever its page holds (R503). -/
def liveLines (f : RF) : Bool :=
  decide (f ∈ [ACT.LK_STAT.LOS, ACT.LK_STAT.SPIN_OWNER, ACT.LK_STAT.FULL_RATE, ACT.LK_STAT.STREAMING, ACT.LK_STAT.HEADS_PARKED, ACT.LK_STAT.ATTEMPT,
    ACT.LK_STAT.PHASE, ACT.LK_STAT.STATE])

/-- The part of an ACT page whose block has been without power, the offsets `lo` to `hi`, holds its reset values. -/
def actPartBack (s : State) (a lo hi : Nat) : State :=
  s.onIo fun i => i.resetRegs (pgAct a) fun _ f => decide (f.off < lo) || decide (f.off > hi) || liveLines f

/-- What a cluster's blocks hold beyond registers, memories apart, is as reset leaves it. -/
def clusterBack (s : State) (c : Nat) : State :=
  let s1 := (List.range 16).foldl (fun (s : State) i =>
    let a := 16 * c + i
    ({ s with
      link := { s.link with links := Tab.erase s.link.links a }
      rc := { s.rc with dets := Tab.erase s.rc.dets a }
      seq := { s.seq with threads := Tab.put Thread.zero s.seq.threads a { Thread.zero with pallets := (s.thr a).pallets, zone := (s.thr a).zone } } } : State).actPartBack a 0x40 0x13F) s
  (({ s1 with
    rc := { s1.rc with pools := Tab.erase s1.rc.pools c }
    seq := { s1.seq with digest := Tab.erase s1.seq.digest c, csData := Tab.keep (fun k => decide (k / 8 ≠ c)) s1.seq.csData } } : State).setEngine c Engine.zero).syncRetract c

/-- The same for the servo domain. -/
def servoBack (s : State) : State :=
  (List.range (16 * clustersOf s.part)).foldl (fun (s : State) a => s.actPartBack a 0x140 0x1BF)
    { s with
      servo := { s.servo with loops := [], queue := [], traces := [] }
      spin := { s.spin with chans := [] } }

/-- A domain has power again: its pages hold their reset values (R461), but for LOCK (R37) and what shows lines and bridges. -/
def pagesBack (s : State) (d : Nat) : State :=
  let pgs := (List.range 0x68).filter fun pg => decide (domOfPage pg = d) && present s.part pg
  let kept := fun (pg : Nat) (f : RF) => decide (f = HDR.PG_CTL.LOCK) || (decide (pageKind pg = some .klc) && decide (f.off ≥ 0x40) && decide (f.acc = .ro))
  let s1 := s.onIo fun i => Io.syncPin Io.up (pgs.foldl (fun (i : Io) pg => i.resetRegs pg fun _ f => kept pg f) { i with
    frozen := Tab.keep (fun k => !pgs.contains (k / 4096 % 256)) i.frozen
    heldPages := i.heldPages.filter fun p => !pgs.contains p
    wins := Tab.keep (fun k => !pgs.contains (k / 32)) i.wins })
  if d ≥ 7 then s1.clusterBack (d - 7) else if d = 6 then s1.servoBack else s1

/-- A domain loses its power in service and has it again at once (R423): what ran there is cut, its pages hold their reset values. -/
def powerCut (s : State) (d : Nat) : State :=
  let s1 := s.domainLost d
  let s2 := if d ≥ 7 then (List.range 16).foldl (fun (s : State) i => (s.abandonWin (16 * (d - 7) + i) .gap).finishLeave (16 * (d - 7) + i) 0) s1
    else if d = 6 then s1.noServo else s1
  s2.pagesBack d

/-- A sleeping domain wakes, with WAKE; an entry that backs off is cancelled (R427). -/
def wake (s : State) (d : Nat) : State :=
  if s.pwr.asleep.contains d then
    if d = 2 then s.wakeCpx
    else
      let s1 := (s.onPwr fun p => { p with asleep := p.asleep.erase d }).showDomains
      (if d ≥ 6 then s1.pagesBack d else s1).raise 2 11 d
  else if Tab.get 0 s.pwr.backoff d ≠ 0 then s.backoffEnds d
  else s

/-! ### The cap (R431) -/

/-- The cap of thermal step n in W: (100 - 4n) per cent of 240 W (R434). -/
def stepCap (n : Nat) : Nat := (Config.divFree ((100 - 4 * n) * 240) 100).toNat

/-- The effective cap and its source: the least of the power state's, the thermal step's and the software's. -/
def capNow (s : State) : Nat × Nat :=
  let ps := s.fld 2 PWC.PWC_STAT.PS_NOW
  let c1 := if ps = 1 then 180 else if ps = 2 then 120 else 240
  let c2 := stepCap (s.fld 3 THM.THM_STAT.STEP)
  let sw := s.fld 2 PWC.CAP_SW.CAP_W
  let c3 := if sw = 0 then 240 else max 96 sw
  let c := min 240 (min c1 (min c2 c3))
  (c, if c = 240 then 0 else if c = c1 then 1 else if c = c2 then 2 else 3)

/-- CAP_EFF follows, with CAP_CHANGE where the cap changes. -/
def showCap (s : State) : State :=
  let (c, src) := s.capNow
  let s1 := (s.set 2 PWC.CAP_EFF.CAP_W c).set 2 PWC.CAP_EFF.SOURCE src
  if s.fld 2 PWC.CAP_EFF.CAP_W = c then s1 else s1.raise 2 10 0

/-! ### Power states (R428-R430) -/

/-- Some course is at L = m (R457). -/
def atLimit (s : State) : Bool := s.mason.courses.any fun kv => decide (kv.2.geom ≠ 0) && decide (maskCount kv.2.lost = geomM kv.2.geom)

/-- The state to take now: PS_TARGET, but a non-operational one is deferred while a course is at L = m, which brings the module
back to its last operational state (R457). -/
def psNext (s : State) : Nat :=
  let t := s.fld 2 PWC.PWC_STAT.PS_TARGET
  if t ≥ 3 ∧ s.atLimit then (if s.fld 2 PWC.PWC_STAT.PS_NOW ≥ 3 then s.pwr.lastOper else s.fld 2 PWC.PWC_STAT.PS_NOW) else t

/-- PS3 and PS4 may be entered: the cache has drained (R339), no sanitize or format runs, no course is at L = m (R457). -/
def mayRest (s : State) : Bool :=
  decide (s.cacheState = 0) && decide (s.dirtySubs = 0) && s.nvme.sanitize.isNone && s.nvme.ns.all (fun kv => kv.2.format.isNone)
    && !s.atLimit

/-- PS_CFG.IDLE_RPM within what SPk_TARGET.RPM accepts (R205). -/
def idleRpm (s : State) : Nat := min 7200 (max 3000 (s.fld 2 PWC.PS_CFG.IDLE_RPM))

/-- A non-operational state is entered (R428, R430): namespaces are not ready, heads are unloaded, spindles go to IDLE_RPM or
stop, links with their heads parked are asked to doze, CPX sleeps. -/
def rest (s : State) (ps : Nat) : State :=
  let acts := List.range (16 * clustersOf s.part)
  let slots := List.range (8 * clustersOf s.part)
  let s1 := acts.foldl unloadLoaded s
  let s2 := s1.onNvme fun n => { n with ns := n.ns.map fun kv => (kv.1, { kv.2 with ready := false }) }
  let s3 := slots.foldl (fun (s : State) n =>
    if s.spState n ≠ 6 then s
    else if ps = 4 then s.stopRun n 1
    else if s.bothOpen n then s.spSet n SPM.SPk_TARGET.RPM s.idleRpm
    else s) s2
  let s4 := acts.foldl (fun (s : State) a =>
    if s.lkState a = 2 ∧ s.headsLoaded a = false ∧ s.gateOn a = false then s.sendCmd a 0x0B 0 else s) s3
  if s4.pwr.asleep.contains 2 then s4 else s4.enterSleep 2

/-- An operational state is entered from a non-operational one (R430): every domain that sleeps for the power state wakes,
the spindles go back to their nominal speed, links leave DOZE, and leaving PS4 the crystal is checked again (R424). -/
def unrest (s : State) : State :=
  let was := s.fld 2 PWC.PWC_STAT.PS_NOW
  let keep := fun (d : Nat) => decide (d ≥ 7) && bitOf (s.fld 2 PWC.DOM_CTL.CL_SLEEP) (d - 7)
  let s1 := ((s.pwr.asleep ++ s.pwr.backoff.map Prod.fst).filter fun d => !keep d).foldl wake s
  let s2 := (List.range (8 * clustersOf s.part)).foldl (fun (s : State) n =>
    if s.sp n SPM.SPk_TARGET.RPM = s.idleRpm then s.spSet n SPM.SPk_TARGET.RPM 0 else s) s1
  let s3 := if was = 4 then
      ((List.range 8).foldl (fun (s : State) c => s.set (pgKlc c) KLC.RATE.V 1) ((s2.setB 1 CLKG.CLK_STAT.XTAL_OK true).setB 1 CLKG.CLK_STAT.RING false))
    else s2
  (List.range (16 * clustersOf s.part)).foldl (fun (s : State) a =>
    if s.lkState a = 3 ∧ s.fullRate a ∧ !s.flag (pgAct a) ACT.LK_CTL.DOZE_REQ then s.startTrain a 3 1 else s) s3

/-- The module takes a power state, with PS_CHANGE; cap and cache follow (R339, R431). -/
def toPs (s : State) (ps : Nat) : State :=
  let was := s.fld 2 PWC.PWC_STAT.PS_NOW
  let s1 := if ps ≥ 3 then s.rest ps else if was ≥ 3 then s.unrest else s
  let s2 := (s1.set 2 PWC.PWC_STAT.PS_NOW ps).onPwr fun p =>
    { p with leaving := decide (ps ≥ 3) && p.leaving, lastOper := if ps ≤ 2 then ps else if was ≤ 2 then was else p.lastOper }
  ((s2.raise 2 9 ps).showCap).syncCache

end State

end Sys2Proof.Machine
end

