-- ==== Sys2Proof/Machine/ReadChannel.lean ====
section
/-! DEFINITION. The commands of the front detectors and the decoder pools (R109-R133). -/

namespace Sys2Proof.Machine

namespace State

/-- The half-width of the sync window: 33-63 act as 32 (R133). -/
def syncHalf (s : State) (a : Nat) : Nat := min 32 (s.fld (pgAct a) ACT.SYNC_WIN.HALF)

/-- SHADOW_SPAN: above 16 acts as 16 (R133). -/
def shadowSpan (s : State) (a : Nat) : Nat := min 16 (s.fld (pgAct a) ACT.SYNC_WIN.SHADOW_SPAN)

/-- The accepted candidates: within the window, at most THRESH bits in error (R115). -/
def accepted (s : State) (a : Nat) (ms : List (Int × Nat)) : List (Int × Nat) :=
  ms.filter fun m => decide (|m.1| ≤ (s.syncHalf a : Int)) && decide (m.2 ≤ s.fld (pgAct a) ACT.SYNC_WIN.THRESH)

/-- SYNC_CAND's three candidates: offset in [10n+9:10n+3], bits in error in [10n+2:10n]. -/
def candWord (cs : List (Int × Nat)) : Nat :=
  (cs.zipIdx).foldl (fun w ci => w + ((unsigned 7 ci.1.1 * 8 + ci.1.2 % 8) <<< (10 * ci.2))) 0

/-- What the search shows in SYNC_RES, SYNC_CAND, FREQ_OFS and CLIP_CNT (R110, R115, R133). -/
def showSync (s : State) (a : Nat) (m : Marks) : State :=
  let ok := s.accepted a m.sync
  let rest := ok.drop 1
  let miss := ok.isEmpty || (m.split && (s.accepted a m.resume).isEmpty)
  let p := pgAct a
  let s1 := ((s.setB p ACT.SYNC_RES.MISSED miss).set p ACT.SYNC_RES.NCAND (min 3 rest.length)).setB
    p ACT.SYNC_RES.MORE (decide (rest.length > 3))
  let s2 := ((s1.set p ACT.SYNC_CAND.CAND0_2 (candWord (rest.take 3))).set p ACT.FREQ_OFS.PPM
    (unsigned 16 m.ppm)).bumpN p ACT.CLIP_CNT.COUNT m.clipped
  match ok.head? with
  | some o => (s2.set p ACT.SYNC_RES.OFFSET (unsigned 7 o.1)).set p ACT.SYNC_RES.ERRS o.2
  | none => s2

/-- SYNC_FOUND of the thread (R141). -/
def setSyncFound (s : State) (a : Nat) (b : Bool) : State :=
  let t := Tab.get Thread.zero s.seq.threads a
  { s with seq := { s.seq with threads := Tab.put Thread.zero s.seq.threads a { t with syncFound := b } } }

/-- A search ends: a missed mark goes to the ladder at level 1, an accepted one to a live decode (R115-R118, R122). -/
def searchEnds (s : State) (a : Nat) (w : RdWin) (m : Marks) : State :=
  let s := s.showSync a m
  let c := clOf a
  let ok := s.accepted a m.sync
  let res := s.accepted a m.resume
  let r := s.ringRec a w.unit
  let resOfs : Int := if m.split then ((res.head?).map Prod.fst).getD 0 else 0x7FFF
  match ok.head? with
  | none =>
    let s1 := (((s.setSyncFound a false).bump (pgAct a) ACT.SYNC_MISS.COUNT).raise (pgFdc c) 1 a).setRingRec a w.unit
      { r with syncOfs := 0x7F, cand := [], resumeOfs := resOfs, bestOfs := 0 }
    if w.ldq = 0 then s1 else s1.toLadder a w.unit 2
  | some o =>
    let r1 := { r with syncOfs := o.1, cand := (ok.drop 1).take 3 |>.map Prod.fst, resumeOfs := resOfs, bestOfs := o.1 }
    let s1 := s.setRingRec a w.unit r1
    if m.split ∧ res.isEmpty then
      let s2 := ((s1.setSyncFound a false).bump (pgAct a) ACT.SYNC_MISS.COUNT).raise (pgFdc c) 1 a
      if w.ldq = 0 then s2 else s2.toLadder a w.unit 4
    else
      let s2 := (s1.setSyncFound a true)
      if w.ldq = 0 then s2 else (s2.setDec a false false).placeLive c ⟨a, w.unit, 0, w.ldq, w.ciph⟩

/-- The quality metric counts converged live decodes on QM_CTL.HEAD (R133). -/
def countQm (s : State) (a head flips : Nat) : State :=
  if s.fld (pgAct a) ACT.QM_CTL.HEAD = head ∧ head < 12 then
    (s.addTo (pgAct a) ACT.QM_BITS.COUNT 36864).addTo (pgAct a) ACT.QM_FLIPS.COUNT flips
  else s

/-- A live decode failed: counted, LIVE_FAIL, and the ladder (R126). -/
def liveFails (s : State) (a u reason : Nat) : State :=
  (((s.bump (pgAct a) ACT.LIVE_FAIL.COUNT).raise (pgFdc (clOf a)) 0 a).setDec a true false).toLadder a u reason

/-- What the trailer says of a brick decoded live (R118, R124). -/
def liveJudged (s : State) (a : Nat) (r : Record) (unit ciph : Nat) (b : Brick) (o : Nat) : State :=
  match o with
  | 0 =>
    let s1 := ((s.bump (pgAct a) ACT.LIVE_OK.COUNT).setDec a true true).holdBrick a r ciph b
    if s.rereadOf r then (((s1.bump (pgAct a) ACT.RECOV_B.L45).reportRec .passed r 4).reportRec .realloc r 4).readOver r else s1
  | 1 => s.liveFails a unit 3
  | 2 => (s.setDec a true false).reportRec .stale r 0
  | _ => (s.setDec a true false).reportRec .misplaced r 0

/-- A live decode ends (R122, R125). -/
def liveEnds (s : State) (a : Nat) (j : LiveJob) (d : Decode) : State :=
  let c := clOf a
  let p := s.pool c
  let r := s.ringRec a j.unit
  let r := { r with best := d.unsat, bestOfs := r.syncOfs, bestSet := (if r.dsetDone = 2 then 1 else if r.dsetDone = 4 then 2 else if r.dsetDone = 8 then 3 else 0) }
  let s := (((s.setPool c { p with live := p.live.erase j }).settlePool c).bump (pgLdp c) LDP.LIVE_JOBS.COUNT).setRingRec a j.unit r
  let s := ((s.set (pgAct a) ACT.ITER_LAST.ITER d.iters).setB (pgAct a) ACT.ITER_LAST.CONV d.brick.isSome).set
    (pgAct a) ACT.ITER_LAST.UNSAT d.unsat
  match d.brick with
  | none => s.liveFails a j.unit 1
  | some b =>
    let o := trailerCheck b r.tile r.slot r.gen r.brick
    ((s.countQm a r.head d.flips).judge c a o).liveJudged a r j.unit j.ciph b o

/-! ### Retry jobs -/

/-- The level a job's pass counts under (R129, R133). -/
def countRecov (s : State) (a lv : Nat) : State :=
  match lv with
  | 1 => s.bump (pgAct a) ACT.RECOV_A.L1
  | 2 => s.bump (pgAct a) ACT.RECOV_A.L2
  | 3 => s.bump (pgAct a) ACT.RECOV_B.L3
  | _ => s.bump (pgAct a) ACT.RECOV_B.L45

/-- The framing of a job's present attempt: sync offset, resume offset and detector set. -/
def framing (s : State) (j : RetryJob) : Int × Int × Nat :=
  let r := s.stored j.unit
  if j.level = 1 then
    let o := (level1 (s.syncHalf j.act) (s.shadowSpan j.act) r).getD j.attempt (r.bestOfs, r.resumeOfs)
    (o.1, o.2, r.bestSet)
  else if j.level = 3 then (r.bestOfs, r.resumeOfs, (nextSet r).getD r.bestSet)
  else (r.bestOfs, r.resumeOfs, r.bestSet)

/-- Whether a job's level has a further attempt after the present one, in a record that shows what was tried. -/
def moreAttempts (s : State) (j : RetryJob) (r : Record) : Bool :=
  if j.level = 1 then decide (j.attempt + 1 < (level1 (s.syncHalf j.act) (s.shadowSpan j.act) r).length)
  else if j.level = 3 then (nextSet r).isSome
  else false

/-- A job leaves its decoder. -/
def leaveDec (s : State) (c : Nat) (run : Running) : State :=
  let p := s.pool c
  s.setPool c (withReplays { p with running := p.running.erase run })

/-- A level has completed: counted, RETRY_DONE (R128, R132). -/
def levelDone (s : State) (c dec : Nat) : State :=
  (s.bump (pgLdp c) LDP.RETRY_JOBS.COUNT).raise (pgLdp c) 0 dec

/-- A level ends without a pass: the report to Mason; after level 3 the job returns with RETRY_EXHAUSTED, its records kept
until Mason releases them (R128); where other records of the slot are kept, COMBINE is the next (R126). A scan decode's
ladder is limited to level 1 (R104, R142). -/
def levelFails (s : State) (c dec : Nat) (j : RetryJob) : State :=
  let r := s.stored j.unit
  let s := (s.levelDone c dec).reportRec .level r j.level
  if j.level ≥ 3 ∨ r.scan then
    let s := (((s.raise (pgLdp c) 1 dec).bump (pgAct j.act) ACT.UNREC.EXHAUSTED).reportRec .exhausted r j.level)
    let s := s.setStored j.unit { r with level := if (s.keptFor r.tile r.slot j.unit).isEmpty then r.level else 5 }
    { s with rc := { s.rc with kept := Tab.upd [] s.rc.kept j.tag (fun us => if us.contains j.unit then us else us ++ [j.unit]) } }
  else s.setPool c { s.pool c with boundary := (s.pool c).boundary ++ [j] }

/-- A brick recovered by the ladder goes on as its handling asks: through XTS, or as it stands (R125, R394). -/
def deliver (s : State) (c : Nat) (r : Record) (b : Brick) : State :=
  let give := fun (s : State) (b : Brick) =>
    ({ s with rc := { s.rc with delivered := s.rc.delivered ++ [⟨r.act, r.slot, r.tile, r.tag, 0, r.ciph, b⟩] } } : State)
  if r.ciph = 0 then
    match s.decrypt c b with
    | (some p, s2) => give s2 { b with data := p }
    | (none, s2) => s2
  else give s b

/-- A passed retry: the brick is delivered, and its level counted (R126, R129, R133). -/
def jobPassed (s : State) (c : Nat) (dec : Nat) (j : RetryJob) (r : Record) (b : Brick) : State :=
  let lv := if s.rereadOf r ∧ j.level < 4 then 4 else j.level
  let s2 := ((s.countRecov j.act lv).levelDone c dec).deliver c r b
  let s3 := ((s2.reportRec .passed r lv).readOver r).freeUnits j.unit
  (if lv ≥ 3 then s3.reportRec .realloc r lv else s3).settlePool c

/-- A retry that has met another brick than it sought: the report ends it. -/
def jobOver (s : State) (c : Nat) (dec : Nat) (j : RetryJob) (r : Record) (k : ReportKind) : State :=
  (((s.levelDone c dec).reportRec k r j.level).freeUnits j.unit).settlePool c

/-- A failed attempt: another one, or the level has failed. -/
def attemptFails (s : State) (c : Nat) (run : Running) (r : Record) : State :=
  let j := run.job
  if s.moreAttempts j r then
    let j' := { j with attempt := j.attempt + 1, replayed := decide (j.level = 1) && j.replayed }
    s.setPool c (withReplays { s.pool c with
      running := (s.pool c).running.map fun x => if x = run then { x with job := j' } else x })
  else ((s.leaveDec c run).levelFails c run.dec j).settlePool c

/-- What an attempt leaves in its stored record: its best syndrome count, and the detector set tried. -/
def attemptRec (s : State) (j : RetryJob) (d : Decode) : Record :=
  let r0 := s.stored j.unit
  let (o, ro, ds) := s.framing j
  let r := if d.unsat < r0.best then { r0 with best := d.unsat, bestOfs := o, resumeOfs := ro, bestSet := ds } else r0
  { r with dsetDone := bitSet r.dsetDone ds }

/-- A retry attempt ends: passed, abandoned at ABORT_IT or failed (R126). -/
def attemptEnds (s : State) (c : Nat) (run : Running) (d : Decode) : State :=
  let j := run.job
  let r := s.attemptRec j d
  let outcome := match d.brick with
    | some b => trailerCheck b r.tile r.slot r.gen r.brick
    | none => 4
  let s1 := (s.setStored j.unit r).judge c j.act outcome
  match outcome, d.brick with
  | 0, some b => (s1.leaveDec c run).jobPassed c run.dec j r b
  | 2, _ => (s1.leaveDec c run).jobOver c run.dec j r .stale
  | 3, _ => (s1.leaveDec c run).jobOver c run.dec j r .misplaced
  | _, _ => s1.attemptFails c run r

/-- The worst time left in the ladder after a level, in 0.1 ns steps of R126's table, as ns: levels 2 and 3 after 1, level
3 after 2. -/
def worstLeft (lv : Nat) : Nat := if lv = 1 then 44240 + 144720 else 144720

end State

/-- WEDGE_DEMODULATED (R83, R114): the record is posted to the SVE; a gap or failed group over the wedge makes it
invalid. -/
def execWedgeDemodulated (a : Nat) (rec : WedgeRec) (s : State) : Out :=
  let d := s.det a
  let good := rec.valid && !d.wedgeGap
  let r := { rec with valid := good }
  let k := engOf a * 2 + a % 2
  let s1 := s.onDet a fun d => { d with wedgeTgt := none, wedgeGap := false }
  let s2 : State := { s1 with servo := { s1.servo with queue := Tab.upd [] s1.servo.queue k (fun q => q ++ [(a, r)]) } }
  let t := Tab.get Thread.zero s2.seq.threads a
  let t' := if good then { t with wedgeValid := true, lastSam := r.sam, lastWedge := r.wedge } else { t with wedgeValid := false }
  let s3 : State := { s2 with seq := { s2.seq with threads := Tab.put Thread.zero s2.seq.threads a t' } }
  okIf (actOk s.part a && d.wedgeTgt.isSome && s.enabled (pgFdc (clOf a))) s
    (if good then s3 else (s3.bump (pgAct a) ACT.WEDGE_BAD.WEDGE).raise (pgFdc (clOf a)) 7 a)

/-- SOFT_DETECTION_DONE (R115-R118): of the oldest window that has ended, else of the open one. -/
def execSoftDetectionDone (a : Nat) (m : Marks) (s : State) : Out :=
  match (s.det a).pend, (s.det a).win with
  | w :: rest, _ => okIf true s ((s.onDet a fun d => { d with pend := rest }).searchEnds a w m)
  | [], some w =>
    okIf (!w.searched) s ((s.onDet a fun d => { d with win := some { w with searched := true } }).searchEnds a w m)
  | [], none => ok s

/-- READ_WINDOW_END (R113): the window closes; the adapted taps of set 0 are written back to the parameter block, or the
earlier ones stay with ADAPT_LIMIT. -/
def execReadWindowEnd (a : Nat) (taps0 taps1 : List Int) (s : State) : Out :=
  match (s.det a).win with
  | none => ok s
  | some w =>
    let s1 := s.onDet a fun d => { d with win := none, pend := if w.searched then d.pend else d.pend ++ [w] }
    if s.flag (pgAct a) ACT.RD_CTL.ADAPT_EN ∧ w.dset = 0 then
      if (taps0 ++ taps1).any (fun t => decide (|t| > 0x7FFF)) then okIf true s (s1.raise (pgFdc (clOf a)) 6 a)
      else
        let base := 256 * s.fld (pgAct a) ACT.PB_BASE.BASE + w.head * 4 * 256
        okIf true s (s1.dramWrite base (((taps0 ++ List.replicate 16 0).take 16 ++ (taps1 ++ List.replicate 16 0).take 16).flatMap
          fun t => leBytes 2 (unsigned 16 t)))
    else okIf true s s1

/-- LIVE_DECODE_DONE (R122, R125). -/
def execLiveDecodeDone (a : Nat) (d : Decode) (s : State) : Out :=
  match ((s.pool (clOf a)).live.find? fun j => decide (j.act = a) && decide (j.dec < 20)) with
  | some j => okIf true s (s.liveEnds a j d)
  | none => ok s

/-- RETRY_STORE_COPY_DONE (R120, R121): `unit` is the store unit taken; `sram` is 1 for a corrected ring error met on the
way, 2 for an uncorrectable one. -/
def execRetryStoreCopyDone (a u unit sram : Nat) (s : State) : Out :=
  let c := clOf a
  let r := s.ringRec a u
  let s1 := s.setPin a u false
  okIf (s.pinned a u && (decide (sram = 2) || s.placeFree unit r.units || !s.storeRoom r.units)) s <|
    if sram = 2 then ((s1.bump (pgFdc c) FDC.RS_UE.COUNT).raise (pgFdc c) 5 a).reportRec .gap r 0
    else
      let s2 := if sram = 1 then (s1.bump (pgFdc c) FDC.RS_CE.COUNT).raise (pgFdc c) 4 a else s1
      if s.placeFree unit r.units then ((s2.takeUnit unit c (decide (r.units = 2))).setStored unit r).reportRec .stored r 1
      else (s2.raise (pgFdc c) 3 a).reportRec .unretried r 0

/-- RETRY_JOB_POST (R122): a second job of the same brick joins the first, URGENT if either is (R130). -/
def execRetryJobPost (c unit : Nat) (urgent : Bool) (s : State) : Out :=
  let r := s.stored unit
  let j : RetryJob := ⟨r.tag, unit, r.act, urgent, r.level, 0, false⟩
  let same := fun (x : RetryJob) => decide ((s.stored x.unit).tile = r.tile) && decide ((s.stored x.unit).slot = r.slot)
  let p := s.pool c
  okIf (clOk s.part c && (Tab.find? s.rc.store unit).isSome) s <|
    if p.queue.any same || p.running.any (fun x => same x.job) then
      s.setPool c { p with
        queue := p.queue.map fun x => if same x then { x with urgent := x.urgent || urgent } else x
        running := p.running.map fun x => if same x.job then { x with job := { x.job with urgent := x.job.urgent || urgent } } else x }
    else s.postRetry c j

/-- RETRY_JOB_DEFERRED_POST (R254): the first job waiting in Mason is posted to the pool that can take one. -/
def execRetryJobDeferredPost (c : Nat) (s : State) : Out :=
  match s.mason.deferred with
  | [] => ok s
  | u :: rest =>
    let r := s.stored u
    okIf (clOk s.part c && decide ((s.pool c).queue.length < 32)) s
      (({ s with mason := { s.mason with deferred := rest } } : State).postRetry c ⟨r.tag, u, r.act, r.urgent, r.level, 0, false⟩)

/-- REPLAY_DONE (R126): the soft values of a record are ready for its job. -/
def execReplayDone (c unit : Nat) (s : State) : Out :=
  let p := s.pool c
  okIf (p.replays.contains unit) s
    (s.setPool c (State.withReplays { p with
      running := p.running.map fun x => if x.job.unit = unit then { x with job := { x.job with replayed := true } } else x
      replays := p.replays.erase unit }))

/-- RETRY_ATTEMPT_DONE (R126): of a job whose soft values are ready. -/
def execRetryAttemptDone (c dec : Nat) (d : Decode) (s : State) : Out :=
  match ((s.pool c).running.find? fun x => decide (x.dec = dec)) with
  | some run => okIf run.job.replayed s (s.attemptEnds c run d)
  | none => ok s

/-- LEVEL_BOUNDARY_DECISION (R128, R253): Mason cancels for a rebuild when t_rb x RB_BIAS / 16 is below the ladder's worst
remaining time; otherwise the job continues, in the pool Mason names. Times are in ns. -/
def execLevelBoundaryDecision (c tag tRb dest : Nat) (s : State) : Out :=
  let p := s.pool c
  match p.boundary.find? (fun j => decide (j.tag = tag)) with
  | none => ok s
  | some j =>
    let s1 := s.setPool c { p with boundary := p.boundary.erase j }
    let bias := max 1 (s.fld 0x18 MSN.MSN_CFG.RB_BIAS)
    let r := s.stored j.unit
    if tRb * bias < 16 * State.worstLeft j.level then
      okIf true s ((s1.freeUnits j.unit).reportRec .cancelled r j.level)
    else
      let j' := { j with level := j.level + 1, attempt := 0, replayed := decide (j.level = 1) && decide (dest = c) && j.replayed }
      okIf true s (((s1.setStored j.unit { r with level := j.level + 1 }).setPool dest
        { s1.pool dest with queue := State.putBack (s1.pool dest).queue j' }).settlePool dest)

/-- DECODER_PARITY_ERROR (R124): a live job is a live failure, a retry job restarts its attempt on another decoder; the error
is counted under the decoder, and a lasting decoder is fenced. -/
def execDecoderParityError (c dec : Nat) (s : State) : Out :=
  let p := s.pool c
  let pg := pgLdp c
  let lasts := s.io.becomesLasting pg 4 dec
  let s1 := ((s.bump pg LDP.DEC_PERR.COUNT).raise pg 4 dec)
  let s2 := if lasts then
      (s1.set pg LDP.FENCE.DEC (bitSet (s1.fld pg LDP.FENCE.DEC) dec)).raise pg 5 dec else s1
  let s3 := match p.live.find? (fun j => decide (j.dec = dec)), p.running.find? (fun x => decide (x.dec = dec)) with
    | some j, _ => (s2.setPool c { p with live := p.live.erase j }).liveFails j.act j.unit 1
    | none, some run =>
      match (s2.idleDecs c).find? (fun d => decide (d ≠ dec)) with
      | some d =>
        if s2.fencedCnt c ≥ 5 then
          s2.setPool c (State.withReplays { p with running := p.running.erase run, queue := State.putBack p.queue run.job })
        else s2.setPool c { p with running := p.running.map fun x => if x = run then { x with dec := d } else x }
      | none => s2.setPool c (State.withReplays { p with running := p.running.erase run, queue := State.putBack p.queue run.job })
    | none, none => s2.setPool c p
  okIf (clOk s.part c && decide (dec < 20)) s (s3.settlePool c)

/-- QM_CLEAR (R133). -/
def execQmClear (a : Nat) (s : State) : Out :=
  okIf (actOk s.part a) s ((s.set (pgAct a) ACT.QM_BITS.COUNT 0).set (pgAct a) ACT.QM_FLIPS.COUNT 0)

/-- FENCE_WRITE (R132). -/
def execFenceWrite (c : Nat) (value : Word) (s : State) : Out :=
  okIf (clOk s.part c) s
    (let s1 := s.set (pgLdp c) LDP.FENCE.DEC (value.toNat % 2 ^ 20)
     (s1.setPool c (s1.pool c)).settlePool c)

/-- BRICK_RELEASE (R66, R394): the oldest held brick of the actuator, once every check group covering its samples has passed
on both lanes; it goes through XTS where its handling asks for plaintext, and is not delivered where its domain has no
key. -/
def execBrickRelease (a : Nat) (s : State) : Out :=
  let done := min (s.lk a).up0.checkedTo (s.lk a).up1.checkedTo
  match s.rc.held.find? fun h => decide (h.act = a) && decide (h.upTo ≤ done) with
  | none => ok s
  | some h =>
    let s1 : State := { s with rc := { s.rc with held := s.rc.held.erase h } }
    let give := fun (s : State) (b : Brick) => ({ s with rc := { s.rc with delivered := s.rc.delivered ++ [{ h with brick := b }] } } : State)
    if h.ciph = 0 then
      match s1.decrypt (clOf a) h.brick with
      | (some p, s2) => okIf true s (give s2 { h.brick with data := p })
      | (none, s2) => okIf true s s2
    else okIf true s (give s1 h.brick)

end Sys2Proof.Machine
end

