-- ==== Sys2Proof/Machine/Sequencer.lean ====
section
/-! DEFINITION. The commands of the format sequencers: the microword's issue (R134-R145), write gates (R146, R151), thread
control and jobs (R137, R160), and the control store with its zone tables (R144, R156-R159). -/

namespace Sys2Proof.Machine

/-! ### The microword (R138) -/

/-- NXT. -/
def wNxt (w : Nat) : Nat := bitsOf w 135 123
/-- SEQ. -/
def wSeq (w : Nat) : Nat := bitsOf w 122 119
/-- CND. -/
def wCnd (w : Nat) : Nat := bitsOf w 118 113
/-- IMM. -/
def wImm (w : Nat) : Nat := bitsOf w 112 97
/-- CYC. -/
def wCyc (w : Nat) : Nat := bitsOf w 96 93
/-- SWIN. -/
def wSwin (w : Nat) : Nat := bitsOf w 90 88
/-- DSET. -/
def wDset (w : Nat) : Nat := bitsOf w 87 85
/-- LDQ. -/
def wLdq (w : Nat) : Nat := bitsOf w 84 83
/-- CIPH. -/
def wCiph (w : Nat) : Nat := bitsOf w 82 81
/-- EMIT. -/
def wEmit (w : Nat) : Nat := bitsOf w 80 77
/-- PAL. -/
def wPal (w : Nat) : Nat := bitsOf w 76 74
/-- ASST. -/
def wAsst (w : Nat) : Nat := bitsOf w 73 71
/-- FLG. -/
def wFlg (w : Nat) : Nat := bitsOf w 70 67
/-- TMR. -/
def wTmr (w : Nat) : Nat := bitsOf w 66 64
/-- OFS. -/
def wOfs (w : Nat) : Nat := bitsOf w 63 61
/-- HEAD. -/
def wHead (w : Nat) : Nat := bitsOf w 60 57
/-- HMODE. -/
def wHmode (w : Nat) : Nat := bitsOf w 56 55
/-- SVR. -/
def wSvr (w : Nat) : Nat := bitsOf w 54 52
/-- JOB. -/
def wJob (w : Nat) : Nat := bitsOf w 51 49
/-- ARG. -/
def wArg (w : Nat) : Int := signed 24 (bitsOf w 48 25)

/-- Parity group k of a word fails: its bits and P[k] do not XOR to 0 (R139). -/
def groupFails (w k : Nat) : Bool :=
  ((List.range 17).foldl (fun b i => Bool.xor b (w.testBit (17 * k + i))) (w.testBit (136 + k)))

/-- The failing parity groups as a mask. -/
def badGroups (w : Nat) : Nat := ((List.range 8).filter (groupFails w)).foldl (fun m k => m + 2 ^ k) 0

/-- A reserved action or condition code (R141, R142; HMODE 0b11, R138). -/
def reservedCode (w : Nat) : Bool :=
  decide (wCnd w % 32 ≥ 30) || decide (wSwin w ≥ 4) || decide (wLdq w = 3) || decide (wCiph w ≥ 2) || decide (wEmit w ≥ 12)
    || decide (wPal w ≥ 4) || decide (wAsst w ≥ 4) || decide (wTmr w ≥ 6) || decide (wOfs w ≥ 6) || decide (wSvr w ≥ 3)
    || decide (wJob w ≥ 3) || decide (wHmode w = 3)

namespace State

/-- A flag F1-F7. -/
def sqFlag (s : State) (a n : Nat) : Bool := bitOf (s.fld (pgAct a) ACT.T1_FLAGS.F) (n - 1)

/-- A condition code before its invert bit (R141). -/
def condition (s : State) (a code : Nat) : Bool :=
  let t := s.thr a
  if 1 ≤ code ∧ code ≤ 7 then s.sqFlag a code
  else match code with
    | 0 => true
    | 8 => s.winh a
    | 9 => s.flag (pgAct a) ACT.SV_CTL.SEEK_DONE
    | 10 => t.wedgeValid
    | 11 => t.syncFound
    | 12 => t.decDone
    | 13 => t.decPass
    | 14 => t.gateDrop
    | 15 => t.gateDone
    | 16 => t.staged.isSome
    | 17 => (t.pallets.head?).any fun p => decide (p.staged < p.count)
    | 18 => !(s.io.fifo a).items.isEmpty
    | 19 => decide (s.fld (pgAct a) ACT.T0.V = 0)
    | 20 => decide (s.fld (pgAct a) ACT.T1_FLAGS.T1 = 0)
    | 21 => decide (s.fld (pgAct a) ACT.LC.V = 0)
    | 22 => decide (s.fld (pgAct a) ACT.SAMPLE_INDEX.V ≥ s.fld (pgAct a) ACT.TGT.V)
    | 23 => (s.splitNow a).isSome
    | 24 => decide (s.lkState a = 2)
    | 25 => s.flag (pgAct a) ACT.LK_STAT.HEADS_PARKED
    | 26 => s.retractLow (clOf a)
    | 27 => s.flag (pgAct a) ACT.SQ_CTL.ABORT
    | 28 => s.cmdAcked a
    | _ => s.flag (pgAct a) ACT.SQ_CTL.EXT

/-- A word's condition: CND[5] inverts. -/
def cond (s : State) (a w : Nat) : Bool := Bool.xor (bitOf (wCnd w) 5) (s.condition a (wCnd w % 32))

/-- The slots a word takes: 2^CYC in extended timing (R145). -/
def wordSlots (s : State) (a w : Nat) : Nat := if s.flag (pgAct a) ACT.SQ_CTL.EXT then 2 ^ wCyc w else 1

/-- The timers count down, once a slot, and stop at 0 (R139). -/
def tickTimers (s : State) (a n : Nat) : State :=
  (s.set (pgAct a) ACT.T0.V (s.fld (pgAct a) ACT.T0.V - n)).set (pgAct a) ACT.T1_FLAGS.T1 (s.fld (pgAct a) ACT.T1_FLAGS.T1 - n)

/-! ### The actions (R142), in the order of R143 -/

/-- FLG. -/
def doFlg (s : State) (a w : Nat) : State :=
  let f := s.fld (pgAct a) ACT.T1_FLAGS.F
  let n := wFlg w
  if n = 0 then s
  else if n ≤ 7 then s.set (pgAct a) ACT.T1_FLAGS.F (bitSet f (n - 1))
  else if n = 8 then s.set (pgAct a) ACT.T1_FLAGS.F 0
  else s.set (pgAct a) ACT.T1_FLAGS.F (bitClear f (n - 9))

/-- TMR. -/
def doTmr (s : State) (a w : Nat) : State :=
  match wTmr w with
  | 1 => s.set (pgAct a) ACT.T0.V (wImm w)
  | 2 => s.set (pgAct a) ACT.T1_FLAGS.T1 (wImm w)
  | 3 => s.set (pgAct a) ACT.LC.V (wImm w)
  | 4 => s.set (pgAct a) ACT.T0.V (wImm w * 256)
  | 5 => s.set (pgAct a) ACT.LC.V (jobCount (s.curJob a).count)
  | _ => s

/-- OFS. -/
def doOfs (s : State) (a w : Nat) : State :=
  match wOfs w with
  | 1 => s.set (pgAct a) ACT.TGT.V (s.ofsSlot a)
  | 2 => s.set (pgAct a) ACT.TGT.V (((s.fld (pgAct a) ACT.TGT.V : Int) + s.bitsToSamples a (wArg w)) % 2 ^ 64).toNat
  | 3 => s.set (pgAct a) ACT.SLOT.V (s.nextUsable (s.curJob a).tile (s.fld (pgAct a) ACT.SLOT.V))
  | 4 => (s.set (pgAct a) ACT.SLOT.V (s.curJob a).slot).toZone a (s.zoneOf a (tileNum (s.curJob a).tile))
  | 5 => s.set (pgAct a) ACT.TGT.V (s.ofsWedge a)
  | _ => s

/-- SVR. -/
def doSvr (s : State) (a w : Nat) : State :=
  let t : Int := s.trackOf a (tileNum (s.curJob a).tile) (s.fld (pgAct a) ACT.SLOT.V)
  match wSvr w with
  | 1 => s.seekRequest a t
  | 2 => s.seekRequest a (t + wArg w)
  | _ => s

/-- JOB. POP takes the head of the thread's FIFO; DONE posts the token with IMM[7:0]. -/
def doJob (s : State) (a w : Nat) : State :=
  match wJob w with
  | 1 =>
    match (s.io.fifo a).items with
    | [] => s
    | x :: xs => (s.onIo fun i => i.setFifo a { i.fifo a with items := xs }).onThr a fun t => { t with job := some (jobOf x) }
  | 2 => s.token a (wImm w % 256)
  | _ => s

/-- PAL. -/
def doPal (s : State) (a w : Nat) : State :=
  match wPal w with
  | 1 => match (s.thr a).pallets.head? with | some p => s.stage a p.staged | none => s
  | 2 =>
    match (s.thr a).pallets.head? with
    | some p =>
      (((s.onThr a fun t => { t with
        gateDrop := false
        pallets := match t.pallets with | [] => [] | q :: qs => { q with staged := q.committed } :: qs }).stage a p.committed))
    | none => s.onThr a fun t => { t with gateDrop := false }
  | 3 =>
    match (s.thr a).pallets with
    | [] => s
    | p :: ps => (s.onThr a fun t => { t with pallets := ps, staged := none }).returnPallet a p
  | _ => s

/-- ASST. -/
def doAsst (s : State) (a w : Nat) : State :=
  match wAsst w with
  | 1 => s.assistAuto a (s.headNow a)
  | 2 => s.assistSet a 0
  | 3 => s.assistSet a (wImm w % 4096)
  | _ => s

/-- EMIT ARM: the gate tag advances, WRITE_ARM goes out with TGT and WRATE, at most MAXRATE (R80); bits already queued for it
are the gate's. -/
def emitArm (s : State) (a : Nat) : State :=
  let tag := ((s.thr a).tag + 1) % 256
  let tgt := s.fld (pgAct a) ACT.TGT.V
  let s1 := s.sendCmd a 3 (tag * 2 ^ 77 + tgt * 2 ^ 13 + min (s.fld (pgAct a) ACT.WRATE.V) (s.fld (pgAct a) ACT.BR_RATE.MAXRATE))
  (s1.onThr a fun t => { t with
    tag := tag
    gateDone := false
    gates := t.gates ++ [{ (t.pre.head?).getD ⟨0, 0, 0, 0, [], false, false⟩ with tag := tag, tile := (s.curJob a).tile, tgt := tgt }]
    pre := t.pre.tail }).syncGate a

/-- EMIT. Codes 0x1 to 0x5 are carried out only with the effective WG (R146); no gate is armed on a tile whose first write
waits for reads of an older generation (R99). -/
def doEmit (s : State) (a w : Nat) : State :=
  let e := wEmit w
  if 1 ≤ e ∧ e ≤ 5 ∧ s.wgEff a w = false then s
  else match e with
    | 1 => if (s.tile (s.curJob a).tile).held then s else s.emitArm a
    | 2 => (s.restage a).emitBrick a
    | 3 => ((s.onLk a fun l => { l with dn := closeLast l.dn }).onThr a fun t =>
        t.putGate { t.lastGate with closed := true }).syncGate a
    | 4 => (s.restage a).emitSplit a
    | 5 => s.emitResume a
    | 6 =>
      let r := s.headRec a (wHead w)
      ({ s with asc := { s.asc with head := Tab.put 0 s.asc.head a (wHead w) } } : State).sendCmd a 1
        (wHead w * 2 ^ 18 + wHmode w * 2 ^ 16 + r.cur * 2 ^ 8 + r.bias)
    | 7 => (s.sendCmd a 6 1).setB (pgAct a) ACT.LK_STAT.STREAMING true
    | 8 => (s.sendCmd a 6 0).setB (pgAct a) ACT.LK_STAT.STREAMING false
    | 9 => s.loadRequest a
    | 10 => (s.assistSet a 0).sendUnload a
    | 11 => (s.sendDn a .kill).killGates a
    | _ => s

/-- The detector set of a window: DSET[1:0] with DSET[2], RD_CTL.DSET_LIVE without (R142). -/
def windowSet (s : State) (a w : Nat) : Nat :=
  if bitOf (wDset w) 2 then wDset w % 4 else s.fld (pgAct a) ACT.RD_CTL.DSET_LIVE

/-- Whether a record of `n` units may take ring unit u. -/
def ringTaken (s : State) (a u n : Nat) : Bool := s.pinned a u || (decide (n = 2) && s.pinned a (u + 1))

/-- SWIN 1: a brick read window for SLOT at TGT, its record in the next ring unit; over a pinned unit the brick is abandoned
with RING_PINNED (R119, R120). -/
def openBrick (s : State) (a w : Nat) : State :=
  let j := s.curJob a
  let rate := s.fld (pgAct a) ACT.WRATE.V
  let units := unitsOf (max 1 rate)
  let u := s.fld (pgAct a) ACT.RING_STAT.NEXT
  let u := if units = 2 then u - u % 2 else u
  let slot := s.fld (pgAct a) ACT.SLOT.V
  let tl := s.tile j.tile
  let tgt := s.fld (pgAct a) ACT.TGT.V
  let ds := s.windowSet a w
  let rec0 : Record := { Record.zero with
    act := a, head := s.headNow a, units := units, tile := j.tile, slot := slot
    start := (((tgt : Int) - s.bitsToSamples a 32) % 2 ^ 64).toNat, n := samplesOf (max 1 rate), rate := rate
    dsetDone := bitSet 0 ds, scan := decide (wLdq w = 2), ciph := wCiph w, gen := tl.gen, brick := s.brickAt j.tile slot
    tag := j.tag, bestSet := ds }
  if s.ringTaken a u units then
    ((s.bump (pgAct a) ACT.WEDGE_BAD.RING_ABANDON).raise (pgFdc (clOf a)) 2 a).reportRec .ringPinned rec0 0
  else
    let s1 := (s.setRingRec a u rec0).onDet a fun d => { d with
      win := some ⟨slot, j.tile, wHead w, tgt, ds, wLdq w, wCiph w, u, tl.gen, rec0.brick, j.tag, false, false⟩ }
    (s1.set (pgAct a) ACT.RING_STAT.NEXT ((u + units) % 4)).setB (pgAct a) ACT.RING_STAT.DOUBLE (decide (units = 2))

/-- SWIN. A window opens only while the detector accepts windows (RD_EN) and FDC operates (R131, R133). -/
def doSwin (s : State) (a w : Nat) : State :=
  if s.flag (pgAct a) ACT.RD_CTL.RD_EN && s.enabled (pgFdc (clOf a)) then
    match wSwin w with
    | 1 => s.openBrick a w
    | 2 => s.onDet a fun d => { d with wedgeTgt := some (s.fld (pgAct a) ACT.TGT.V), wedgeGap := false }
    | 3 => s.onDet a fun d => { d with win := d.win.map fun x => { x with resumed := true, tgt := s.fld (pgAct a) ACT.TGT.V } }
    | _ => s
  else s

/-- All actions of a word, in the order of R143. -/
def doActions (s : State) (a w : Nat) : State :=
  ((((((((s.doFlg a w).doTmr a w).doOfs a w).doSvr a w).doJob a w).doPal a w).doAsst a w).doEmit a w).doSwin a w

/-! ### Sequencing (R140) -/

/-- The word a thread is to issue, as the store reads it: `upset` flips bits of the stored word. -/
def nextWord (s : State) (a upset : Nat) : Nat := s.csWord (clOf a) (s.thr a).next ^^^ (upset % 2 ^ 144)

/-- The machine-check cause of a word's sequencing, for its condition, loop counter and dispatch index (R140): 4 STACK, 5 ADDR. -/
def seqCause (s : State) (a w : Nat) (c : Bool) (lc op : Nat) : Option Nat :=
  let n := (s.thr a).next
  let depth := (s.thr a).stack.length
  if wSeq w = 3 ∧ c ∧ depth ≥ 4 then some 4
  else if wSeq w = 4 ∧ c ∧ depth = 0 then some 4
  else if wSeq w = 7 ∧ wNxt w + op > 0x1FFF then some 5
  else if n = 0x1FFF ∧ (wSeq w = 0 ∨ (wSeq w = 2 ∧ ¬ c) ∨ wSeq w = 3 ∨ (wSeq w = 4 ∧ ¬ c) ∨ (wSeq w = 6 ∧ lc ≤ 1)) then some 5
  else none

/-- The machine-check cause of a word, if any (R155): 1 CS_PARITY, 2 UNDEF_SEQ, 3 RESERVED_CODE, 4 STACK, 5 ADDR, 6 ZONE. A word
of several slots samples its condition in the last, so that its sequencing is checked there (R145). -/
def checkCause (s : State) (a w : Nat) : Option Nat :=
  if badGroups w ≠ 0 then some 1
  else if wSeq w ≥ 9 then some 2
  else if reservedCode w then some 3
  else if wOfs w = 4 ∧ (s.thr a).zone ≠ some (s.zoneOf a (tileNum (s.curJob a).tile))
      ∧ s.zoneOk a (s.zoneOf a (tileNum (s.curJob a).tile)) = false then some 6
  else if s.wordSlots a w = 1 then s.seqCause a w (s.cond a w) (s.fld (pgAct a) ACT.LC.V) (s.curJob a).op
  else none

/-- A machine check (R155): the word is not executed. -/
def machineCheck (s : State) (a w cause : Nat) : State :=
  let c := clOf a
  let s := if cause = 1 then (s.bump (pgFsq c) FSQ.CS_PERR.COUNT).raise (pgFsq c) 1 a else s
  let s := ((s.set (pgAct a) ACT.SQ_MCA.ADDR (s.thr a).next).set (pgAct a) ACT.SQ_MCA.CAUSE cause).set
    (pgAct a) ACT.SQ_MCA.PGRP (if cause = 1 then badGroups w else 0)
  let s := ((s.bump (pgAct a) ACT.MCHK_CNT.MCHK).toSq a 3).raise (pgFsq c) 0 a
  ((s.abandonWin a .gap).token a 0xFD).setB (pgAct a) ACT.SQ_STAT.WG_EFF false

/-- Where a thread goes after a word. -/
def goOn (s : State) (a w : Nat) (c : Bool) (lc : Nat) (op : Nat) : State :=
  let n := (s.thr a).next
  let go := fun (s : State) (x : Nat) => s.onThr a fun t => { t with next := x }
  match wSeq w with
  | 1 => go s (wNxt w)
  | 2 => go s (if c then wNxt w else n + 1)
  | 3 =>
    if c then
      let st := (n + 1) :: (s.thr a).stack
      (s.onThr a fun t => { t with next := wNxt w, stack := st }).set (pgAct a) ACT.SQ_STAT.DEPTH st.length
    else go s (n + 1)
  | 4 =>
    match c, (s.thr a).stack with
    | true, x :: st => (s.onThr a fun t => { t with next := x, stack := st }).set (pgAct a) ACT.SQ_STAT.DEPTH st.length
    | _, _ => go s (n + 1)
  | 5 => if c then go s (wNxt w) else s.toSq a 2
  | 6 => go s (if lc > 1 then wNxt w else n + 1)
  | 7 => go s (wNxt w + op)
  | 8 => (s.toSq a 0).raise (pgFsq (clOf a)) 2 a
  | _ => go s (n + 1)

/-- Show the word issued last (SQ_WORD0-4, R160). -/
def showWord (s : State) (a w : Nat) : State :=
  ((((s.set (pgAct a) ACT.SQ_WORD0.WORD (bitsOf w 31 0)).set (pgAct a) ACT.SQ_WORD1.WORD (bitsOf w 63 32)).set
    (pgAct a) ACT.SQ_WORD2.WORD (bitsOf w 95 64)).set (pgAct a) ACT.SQ_WORD3.WORD (bitsOf w 127 96)).set
    (pgAct a) ACT.SQ_WORD4.WORD (bitsOf w 143 128)

/-- A word's first slot: it is shown, the timers count the slot, and its actions come at its end (R135, R145). -/
def firstSlot (s : State) (a w : Nat) : State :=
  let none' := (s.thr a).job.isNone
  let s := s.tickTimers a 1
  let s := ((s.showWord a w).set (pgAct a) ACT.SQ_STAT.PC (s.thr a).next).setB (pgAct a) ACT.SQ_STAT.EXT
    (s.flag (pgAct a) ACT.SQ_CTL.EXT)
  let s := (s.setB (pgAct a) ACT.SQ_STAT.WG_EFF (s.wgEff a w)).onThr a fun t => { t with word := w }
  let s := s.doActions a w
  if none' ∧ (wSeq w = 7 ∨ wOfs w ≠ 0 ∨ wSvr w ≠ 0 ∨ wTmr w = 5 ∨ wEmit w ≠ 0 ∨ wSwin w = 1) then s.drawn else s

/-- Issue a word (R134, R135). In one slot the condition and the loop counter are taken at the start; a LOOP word's own loading
of LC comes after its count. In extended timing they are taken at the start of the last slot (R145). -/
def issue (s : State) (a w : Nat) : State :=
  let n := s.wordSlots a w
  if n = 1 then
    let c := s.cond a w
    let lc := s.fld (pgAct a) ACT.LC.V
    let op := (s.curJob a).op
    let s := if wSeq w = 6 then s.set (pgAct a) ACT.LC.V (lc - 1) else s
    (s.firstSlot a w).goOn a w c lc op
  else
    let s := (s.firstSlot a w).tickTimers a (n - 2)
    let c := s.cond a w
    let lc := s.fld (pgAct a) ACT.LC.V
    let op := (s.curJob a).op
    match s.seqCause a w c lc op with
    | some cause => s.machineCheck a w cause
    | none =>
      let s := s.tickTimers a 1
      (if wSeq w = 6 then s.set (pgAct a) ACT.LC.V (lc - 1) else s).goOn a w c lc op

/-- A slot in which a thread issues a word of SEQ operation `op`; an undefined operation is issued (and checked) as
operation 0. A word read with flipped bits leaves them flipped in the store. -/
def seqSlot (s : State) (a upset op : Nat) : State :=
  let w := s.nextWord a upset
  let inj := s.injects (pgFsq (clOf a)) 1
  let w := if inj then w ^^^ 2 ^ 136 else w
  let kind := if wSeq w ≥ 9 then 0 else wSeq w
  if actOk s.part a && s.enabled (pgFsq (clOf a)) && decide (s.sqState a = 1) && decide (kind = op) then
    let s := if upset % 2 ^ 144 = 0 then s else s.setCsWord (clOf a) (s.thr a).next (s.nextWord a upset)
    match s.checkCause a w with
    | some cause => s.machineCheck a w cause
    | none => s.issue a w
  else s

/-- A thread starts at START from HALTED or MCHK (R160). -/
def runThread (s : State) (a : Nat) : State :=
  if s.enabled (pgFsq (clOf a)) && (decide (s.sqState a = 0) || decide (s.sqState a = 3)) then
    (s.onThr a fun t => { t with next := s.fld (pgAct a) ACT.SQ_CTL.START }).toSq a 1
  else s

/-- CS_DIGEST: the SHA-256 of the words committed, in address order (R159); 0x068 holds the first 32 bits. -/
def showDigest (s : State) (c : Nat) : State :=
  let h := Config.sha256 ((Tab.get [] s.seq.digest c).flatMap fun w => leBytes 18 w)
  [FSQ.CS_DIGEST0.DIGEST, FSQ.CS_DIGEST1.DIGEST, FSQ.CS_DIGEST2.DIGEST, FSQ.CS_DIGEST3.DIGEST, FSQ.CS_DIGEST4.DIGEST,
    FSQ.CS_DIGEST5.DIGEST, FSQ.CS_DIGEST6.DIGEST, FSQ.CS_DIGEST7.DIGEST].zipIdx.foldl
    (fun s fi => s.set (pgFsq c) fi.1 ((h >>> (224 - 32 * fi.2)) % 2 ^ 32)) s

/-- The word CS_DATA0 to CS_DATA4 spell. -/
def csDataWord (s : State) (c data4 : Nat) : Nat :=
  (Tab.get 0 s.seq.csData (c * 8)) + (Tab.get 0 s.seq.csData (c * 8 + 1)) * 2 ^ 32 + (Tab.get 0 s.seq.csData (c * 8 + 2)) * 2 ^ 64
    + (Tab.get 0 s.seq.csData (c * 8 + 3)) * 2 ^ 96 + (data4 % 2 ^ 16) * 2 ^ 128

end State

/-- SEQ_NEXT (R140, R143, R155). -/
def execSeqNext (a upset : Nat) (s : State) : Out := okIf true s (s.seqSlot a upset 0)

/-- SEQ_JUMP (R140). -/
def execSeqJump (a upset : Nat) (s : State) : Out := okIf true s (s.seqSlot a upset 1)

/-- SEQ_BRANCH (R140). -/
def execSeqBranch (a upset : Nat) (s : State) : Out := okIf true s (s.seqSlot a upset 2)

/-- SEQ_CALL (R140). -/
def execSeqCall (a upset : Nat) (s : State) : Out := okIf true s (s.seqSlot a upset 3)

/-- SEQ_RET (R140). -/
def execSeqRet (a upset : Nat) (s : State) : Out := okIf true s (s.seqSlot a upset 4)

/-- SEQ_WAIT (R140). -/
def execSeqWait (a upset : Nat) (s : State) : Out := okIf true s (s.seqSlot a upset 5)

/-- SEQ_LOOP (R140). -/
def execSeqLoop (a upset : Nat) (s : State) : Out := okIf true s (s.seqSlot a upset 6)

/-- SEQ_DISPATCH (R140). -/
def execSeqDispatch (a upset : Nat) (s : State) : Out := okIf true s (s.seqSlot a upset 7)

/-- SEQ_HALT (R140). -/
def execSeqHalt (a upset : Nat) (s : State) : Out := okIf true s (s.seqSlot a upset 8)

/-- WAIT_SATISFIED (R136): after `slots` more slots the condition is true, and the thread resumes at NXT. -/
def execWaitSatisfied (a slots : Nat) (s : State) : Out :=
  let w := (s.thr a).word
  let s1 := s.tickTimers a slots
  okIf (decide (s.sqState a = 2) && s1.cond a w) s ((s1.onThr a fun t => { t with next := wNxt w }).toSq a 1)

/-- WG_EFFECTIVE_LOSS (R146). -/
def execWgEffectiveLoss (a : Nat) (s : State) : Out :=
  okIf (s.gateOn a && !s.wgEff a (s.thr a).word) s ((s.killGates a).setB (pgAct a) ACT.SQ_STAT.WG_EFF false)

/-- GATE_END_TIMEOUT (R151): every slot of the gate is void. -/
def execGateEndTimeout (a tag : Nat) (s : State) : Out :=
  match (s.thr a).gates.find? (fun g => decide (g.tag = tag)) with
  | some g => okIf true s (s.dropGate a g none)
  | none => ok s

/-- THREAD_RUN (R160): from MGP and CPX only. -/
def execThreadRun (acc : Accessor) (a : Nat) (s : State) : Out :=
  okIf (actOk s.part a) s (if acc.isPf1 then s.lockedWrite (pgAct a) else s.runThread a)

/-- THREAD_HALT (R160). -/
def execThreadHalt (acc : Accessor) (a : Nat) (s : State) : Out :=
  okIf (actOk s.part a) s <|
    if acc.isPf1 then s.lockedWrite (pgAct a)
    else if s.sqState a = 1 ∨ s.sqState a = 2 then s.toSq a 0 else s

/-- THREAD_ABORT (R160): only ABORT_REQ is set (R154). -/
def execThreadAbort (acc : Accessor) (a : Nat) (s : State) : Out :=
  okIf (actOk s.part a) s (if acc.isPf1 then s.lockedWrite (pgAct a) else s.setB (pgAct a) ACT.SQ_CTL.ABORT true)

/-- JOB_POST (R137, R249): the 128-bit descriptor enters the thread's FIFO with its predicted time in 10 µs, or is refused
with JOB_FIFO_FULL. -/
def execJobPost (a item pred : Nat) (s : State) : Out :=
  okIf (actOk s.part a) s <|
    let s1 := s.post a (item % 2 ^ 128)
    if s.io.fifoRoom a then s1.enqueue a pred else s1.raise (pgFsq (clOf a)) 6 a

/-- CS_LOAD_ENABLE (R158, R159). -/
def execCsLoadEnable (acc : Accessor) (c : Nat) (value : Bool) (s : State) : Out :=
  okIf (clOk s.part c) s <|
    if acc ≠ .mgp then s.lockedWrite (pgFsq c)
    else if s.enabled (pgFsq c) then s
    else s.setB (pgFsq c) FSQ.CS_CTL.LOAD_EN value

/-- CS_REPAIR_ENABLE (R156, R158). -/
def execCsRepairEnable (acc : Accessor) (c : Nat) (value : Bool) (s : State) : Out :=
  okIf (clOk s.part c) s (if acc ≠ .mgp then s.lockedWrite (pgFsq c) else s.setB (pgFsq c) FSQ.CS_CTL.REPAIR value)

/-- DIGEST_CLR (R159). -/
def execDigestClr (acc : Accessor) (c : Nat) (s : State) : Out :=
  okIf (clOk s.part c) s <|
    if acc ≠ .mgp then s.lockedWrite (pgFsq c)
    else ({ s with seq := { s.seq with digest := Tab.put [] s.seq.digest c [] } } : State).showDigest c

/-- CS_WORD_COMMIT (R157, R158): bad parity or a non-zero reserved bit is not stored, and LOAD_REJECT is raised. -/
def execCsWordCommit (acc : Accessor) (c : Nat) (data4 : Word) (s : State) : Out :=
  let pg := pgFsq c
  let w := s.csDataWord c data4.toNat
  let n := s.fld pg FSQ.CS_ADDR.ADDR
  let load := s.flag pg FSQ.CS_CTL.LOAD_EN && !s.enabled pg
  okIf (clOk s.part c) s <|
    if acc ≠ .mgp then s.lockedWrite pg
    else if ¬ load ∧ s.flag pg FSQ.CS_CTL.REPAIR = false then s
    else if badGroups w ≠ 0 ∨ w % 2 ^ 25 ≠ 0 then s.raise pg 5 c
    else
      let s1 := (s.setCsWord c n w).set pg FSQ.CS_ADDR.ADDR (n + 1)
      if load then
        ({ s1 with seq := { s1.seq with digest := Tab.upd [] s1.seq.digest c (fun ws => ws ++ [w]) } } : State).showDigest c
      else s1

/-- CS_PARITY_REPAIR (R156): the word is rewritten from the verified copy, and each thread in MCHK restarts at START. -/
def execCsParityRepair (c n word : Nat) (s : State) : Out :=
  okIf (clOk s.part c && decide (n < 8192) && decide (badGroups (word % 2 ^ 144) = 0)) s
    ((List.range 16).foldl (fun s t => if s.sqState (16 * c + t) = 3 then s.runThread (16 * c + t) else s)
      (s.setCsWord c n (word % 2 ^ 144)))

/-- ZONE_ENTRY_STORE (R144, R159): from MGP only, and only while the addressed thread is HALTED. -/
def execZoneEntryStore (acc : Accessor) (c : Nat) (value : Word) (s : State) : Out :=
  let pg := pgFsq c
  let a := 16 * c + s.fld pg FSQ.ZT_ADDR.THREAD
  okIf (clOk s.part c) s <|
    if acc ≠ .mgp ∨ s.sqState a ≠ 0 then s.lockedWrite pg
    else
      let e : ZtEntry := ⟨s.fld pg FSQ.ZT_DATA0.FIRST_TILE, s.fld pg FSQ.ZT_DATA1.RATE, s.fld pg FSQ.ZT_DATA1.SPT,
        s.fld pg FSQ.ZT_DATA2.TPT, s.fld pg FSQ.ZT_DATA2.GUARD, value.toNat⟩
      let s1 := s.set pg FSQ.ZT_DATA3.FIRST_TRACK value.toNat
      { s1 with seq := { s1.seq with zones := Tab.put none s1.seq.zones (a * 32 + s.fld pg FSQ.ZT_ADDR.ZONE) (some e) } }

/-- SQ_WORD_READ (R160): SQ_WORD0 is read, and SQ_WORD1-4 of the same word are latched for the accessor. -/
def execSqWordRead (acc : Accessor) (a : Nat) (s : State) : Out :=
  let w := fun f => s.fld (pgAct a) f
  okIf (actOk s.part a) s (s.onIo fun i => { i with
    readData := Tab.put 0 i.readData acc.num (w ACT.SQ_WORD0.WORD)
    wordLatches := Tab.put [] i.wordLatches (acc.num * 2 ^ 20 + key (pgAct a) 0x10C)
      [w ACT.SQ_WORD1.WORD, w ACT.SQ_WORD2.WORD, w ACT.SQ_WORD3.WORD, w ACT.SQ_WORD4.WORD] })

end Sys2Proof.Machine
end

