-- ==== Sys2Proof/Machine/Spindle.lean ====
section
/-! DEFINITION. The commands of the spindle units (R189-R210). -/

namespace Sys2Proof.Machine

namespace State

/-- A change of speed per speed tick in 1/256 rpm from a rate in 10 rpm/s, 0 acting as 1. -/
def perTick (acc : Nat) : Int := Config.divFree (max 1 acc * 2560) 1000

/-- The reference moves toward the target by at most one step. -/
def refStep (ref target step : Int) : Int :=
  if ref < target then min target (ref + step) else max target (ref - step)

/-- The conditions of AT_SPEED (R195): RUN, BEMF, target NOM_RPM, speed within 0.2 %. -/
def speedOk (s : State) (n : Nat) : Bool :=
  let nom := s.sp n SPM.SPk_TARGET.NOM_RPM
  decide (s.spState n = 6) && !s.spB n SPM.SPk_CTL.INJECT && decide (s.targetRpm n = nom)
    && decide (|s.spSpeed n - 256 * (nom : Int)| * 500 ≤ 256 * (nom : Int))

/-- The observer's mode with its hysteresis (R192). -/
def observerMode (s : State) (n : Nat) : State :=
  if s.spB n SPM.SPk_CTL.INJECT then
    if s.spSpeed n ≥ 256 * (s.sp n SPM.SPk_HAND.HAND_UP : Int) then s.spSet n SPM.SPk_CTL.INJECT 0 else s
  else if s.spSpeed n < 256 * (s.handDn n : Int) then s.spSet n SPM.SPk_CTL.INJECT 1
  else s

/-- Heads while the speed is low (R202), with an actuator not OPEN: SPEED_LOW once per fall below 90 % of NOM_RPM, UNLOAD on both
links once per fall below 85 %. -/
def lowSpeed (s : State) (n : Nat) : State :=
  let nom : Int := 256 * s.sp n SPM.SPk_TARGET.NOM_RPM
  let v := |s.spSpeed n|
  let low := decide (v * 100 < nom * 90)
  let out := decide (v * 100 < nom * 85)
  let c := s.ch n
  let s1 := s.onCh n (fun c => { c with lowRaised := low, lowSent := out })
  if s.bothOpen n then s1
  else
    let s2 := if low && !c.lowRaised then s1.spRaise n 2 else s1
    if out && !c.lowSent then (s2.sendUnload (2 * n)).sendUnload (2 * n + 1) else s2

/-- The state sequencer's part of a speed tick (R197). -/
def spSequence (s : State) (n : Nat) : State :=
  let slow := decide (|s.spSpeed n| < 30 * 256)
  match s.spState n with
  | 3 => if slow then s.toSpin n 4 else s
  | 5 =>
    let c := s.ch n
    let ref := c.ref + perTick (s.sp n SPM.SPk_MOTOR.RAMP_ACC)
    if ref ≥ 60 * 256 then ((s.enterRun n (60 * 256)).spSet n SPM.SPk_CTL.INJECT 1).onCh n (fun c => { c with probesDue := true })
    else s.onCh n (fun c => { c with ref := ref })
  | 6 =>
    let s := s.observerMode n
    let c := s.ch n
    let ref := refStep c.ref (256 * (s.targetRpm n : Int)) (perTick (s.sp n SPM.SPk_ACC.ACC_MAX))
    let (out, i) := Config.pi (ref - s.spSpeed n) (s.sp n SPM.SPk_SPDPI.SPD_KP) (s.sp n SPM.SPk_SPDPI.SPD_KI) c.spdInt
    let s := s.onCh n (fun c => { c with ref := ref, spdOut := out, spdInt := i })
    let s := if s.speedOk n then s else s.loseSpeed n
    s.stopGoesOn n
  | 8 =>
    if slow then
      if (s.ch n).forced then (s.toSpin n 9).onCh n (fun c => { c with forced := false }) else s.toSpin n 0
    else s
  | _ => s

end State

/-- CURRENT_PERIOD_MISSED (R203): the last duties are repeated; after 40 in RUN, NO_CURRENT and observer loss. -/
def execCurrentPeriodMissed (n : Nat) (s : State) : Out :=
  let c := s.ch n
  let s1 := s.onCh n (fun c => { c with missed := c.missed + 1 })
  okIf (slotOk s.part n && decide (s.spState n ≠ 0) && decide (s.spState n ≠ 9)) s <|
    if s.spState n = 6 then
      if c.missed + 1 ≥ 40 then ((s1.onCh n (fun c => { c with missed := 0 })).spRaise n 8).observerLoss n
      else s1.spinOut n c.phU c.phV c.phW 0
    else if s.spState n = 4 ∨ s.spState n = 5 then s1.spinOut n c.phU c.phV c.phW 0
    else if s.spState n = 8 ∧ ¬ c.coast ∧ s.spB n SPM.SPk_CTL.DOWN_MODE ∧ s.spSpeed n ≥ 256 * (s.handDn n : Int) then
      s1.spinOut n c.phU c.phV c.phW 0
    else s1

/-- SPEED_TICK (R194, R197, R202): the speed the observer gives is the operand, in 1/256 rpm. -/
def execSpeedTick (n : Nat) (speed : Int) (s : State) : Out :=
  okIf (slotOk s.part n) s <|
    if s.spState n = 0 ∨ s.spState n = 9 then s
    else ((s.spSet n SPM.SPk_SPEED.SPEED (unsigned 32 speed)).spSequence n).lowSpeed n

/-- START_PROBE_CHECK (R200): the first 4 probes in RUN; a third failed attempt is SPIN_START_FAIL. -/
def execStartProbeCheck (n : Nat) (forward : Bool) (s : State) : Out :=
  okIf (decide (s.spState n = 6) && (s.ch n).probesDue) s <|
    let s1 := s.onCh n (fun c => { c with probesDue := false })
    if forward then s1
    else if (s.ch n).attempts + 1 ≥ 3 then (((s1.spCause n 3).toSpin n 9).spinFree n).spRaise n 7
    else ((s1.onCh n (fun c => { c with attempts := c.attempts + 1 })).toSpin n 4)

/-- OBSERVER_LOST (R193, R201), in RUN only. -/
def execObserverLost (n : Nat) (s : State) : Out := okIf (s.spState n = 6) s (s.observerLoss n)

/-- OVERCURRENT (R193): observer loss in RUN; FAULT with cause 0x08 in ALIGN, RAMP, BRAKE and SPINDOWN. -/
def execOvercurrent (n : Nat) (s : State) : Out :=
  let st := s.spState n
  if st = 6 then okIf true s ((s.spRaise n 9).observerLoss n)
  else if st = 3 ∨ st = 4 ∨ st = 5 ∨ st = 8 then okIf true s ((((s.spinFree n).spRaise n 9).spCause n 8).toSpin n 9)
  else ok s

/-- AT_SPEED_REACHED (R195): the conditions have held for 100 ms; the start place is freed. -/
def execAtSpeedReached (n : Nat) (s : State) : Out :=
  okIf (s.speedOk n) s
    ((((((s.spSet n SPM.SPk_CTL.AT_SPEED 1).spStatBit n SPM.SPM_STAT.AT_SPEED true).onCh n
      (fun c => { c with reached := true })).freePlace n).spRaise n 0))

/-- PROBE_END (R199): what the probes saw is the operand: the speed in 1/256 rpm, negative in reverse, 0 for no rotation. -/
def execProbeEnd (n : Nat) (speed : Int) (s : State) : Out :=
  okIf (s.spState n = 2) s <|
    let s1 := s.spSet n SPM.SPk_CTL.REVERSE (if speed < 0 then 1 else 0)
    if |speed| < 30 * 256 then s1.toSpin n 4
    else if speed > 0 then s1.enterRun n speed
    else (s1.spSet n SPM.SPk_SPEED.SPEED (unsigned 32 speed)).toSpin n 3

/-- BRAKE_TIMEOUT (R199). -/
def execBrakeTimeout (n : Nat) (s : State) : Out :=
  okIf (s.spState n = 3) s ((((s.spCause n 2).toSpin n 9).spinFree n).spRaise n 6)

/-- ALIGN_END (R197): RAMP from rest. -/
def execAlignEnd (n : Nat) (s : State) : Out :=
  okIf (s.spState n = 4) s ((s.toSpin n 5).onCh n (fun c => { c with ref := 0 }))

/-- START_TIMEOUT (R200): AT_SPEED not reached within START_TO of leaving QUEUED; a stop ends the start attempt. -/
def execStartTimeout (n : Nat) (s : State) : Out :=
  okIf (s.spin.places.contains n && decide (2 ≤ s.spState n) && decide (s.spState n ≤ 7)) s ((((s.spCause n 4).toSpin n 9).spinFree n).spRaise n 7)

/-- REACQUIRED (R201): six ordered crossings seed the angle and speed; a held STOP proceeds (R197). -/
def execReacquired (n : Nat) (speed : Int) (theta : Nat) (s : State) : Out :=
  okIf (s.spState n = 7) s <|
    let s1 := (((s.enterRun n speed).spSet n SPM.SPk_ANGLE.THETA theta).spBump n SPM.SPk_CNT_A.REACQ).spRaise n 4
    if (s.ch n).stopHeld then s1.stopRun n (s.ch n).why else s1

/-- REACQUIRE_TIMEOUT (R201): a forced coast, which ends in FAULT. -/
def execReacquireTimeout (n : Nat) (s : State) : Out :=
  okIf (s.spState n = 7) s
    (((s.spCause n 5).coastDown n true).spRaise n 5)

/-- SPINDLE_START (R197, R198): STOPPED or SPINDOWN goes to QUEUED; refused in FAULT and while the page is disabled. -/
def execSpindleStart (n : Nat) (s : State) : Out :=
  okIf (slotOk s.part n) s <|
    if s.spState n = 9 ∨ s.enabled (pgSpm (n / 4)) = false then s.spRaise n 11
    else if s.spState n = 0 ∨ s.spState n = 8 then
      let s1 := (s.toSpin n 1).onCh n
        (fun c => { c with attempts := 0, reached := false, forced := false, coast := false, stopping := false, stopHeld := false, probesDue := false })
      { s1 with spin := { s1.spin with queue := s1.spin.queue ++ [n] } }
    else s

/-- START_PLACE_ADMIT (R198): a free place, or the one it still holds, admits the first QUEUED spindle to PROBE. -/
def execStartPlaceAdmit (s : State) : Out :=
  match s.spin.queue with
  | [] => ok s
  | n :: rest =>
    okIf (decide (s.spin.places.length < s.startMax) || s.spin.places.contains n) s
      (((({ s with spin := { s.spin with queue := rest } } : State).setPlaces
        (if s.spin.places.contains n then s.spin.places else s.spin.places ++ [n])).spStatBit n
        SPM.SPM_STAT.START_PLACE true).spBump n SPM.SPk_CNT_B.STARTS |>.toSpin n 2)

/-- SPINDLE_STOP (R197, R204). -/
def execSpindleStop (n : Nat) (s : State) : Out :=
  okIf (slotOk s.part n) s <|
    if s.spState n = 7 then (s.unloadSlot n).onCh n (fun c => { c with stopHeld := true, why := 1 }) else s.stopSpin n 1

/-- SPINDLE_CLEAR (R197). -/
def execSpindleClear (n : Nat) (s : State) : Out := okIf (slotOk s.part n && decide (s.spState n = 9)) s (s.toSpin n 0)

/-- TARGET_WRITE (R205): refused while it would leave NOM_RPM with an actuator not OPEN. -/
def execTargetWrite (n rpm : Nat) (s : State) : Out :=
  let s1 := s.spSet n SPM.SPk_TARGET.RPM rpm
  okIf (slotOk s.part n) s <|
    if s1.targetRpm n ≠ s.sp n SPM.SPk_TARGET.NOM_RPM ∧ s.bothOpen n = false then s.spRaise n 12
    else if s1.speedOk n then s1 else s1.loseSpeed n

/-- The seven registers that R206 binds, as the fields at each offset. -/
def motorRegs : List Nat := [0x90, 0x94, 0x98, 0x9C, 0xA0, 0xA4, 0xA8]

/-- MOTOR_REGISTER_WRITE (R206): accepted only in STOPPED or FAULT; LOCK binds PF1 and CPX besides (R34). -/
def execMotorRegisterWrite (acc : Accessor) (n off : Nat) (value : Word) (s : State) : Out :=
  let pg := pgSpm (n / 4)
  let at0 := off - 0x40 * (n % 4)
  let fs := tableSPMUnit.filter (fun f => f.off = at0)
  okIf (slotOk s.part n && motorRegs.contains at0) s <|
    if s.spState n ≠ 0 ∧ s.spState n ≠ 9 then s.spRaise n 10
    else if s.io.locked pg ∧ acc ≠ .mgp then
      if fs.any (fun f => decide (bitsOf value.toNat f.hi f.lo ≠ s.sp n f)) then s.setB pg HDR.PG_STAT.LOCKED_WRITE true else s
    else fs.foldl (fun s f => s.spSet n f (bitsOf value.toNat f.hi f.lo)) s

/-- SPINDLE_MEM_ACCESS (R206, R209): a MEM_DATA access writes or reads a cogging entry and advances INDEX. -/
def execSpindleMemAccess (acc : Accessor) (e : Nat) (write : Bool) (value : Word) (s : State) : Out :=
  let pg := pgSpm e
  let k := (4 * e + s.fld pg SPM.MEM_ADDR.SLOT) * 512 + s.fld pg SPM.MEM_ADDR.INDEX
  let s1 := s.set pg SPM.MEM_ADDR.INDEX (s.fld pg SPM.MEM_ADDR.INDEX + 1)
  okIf (engOk s.part e) s <|
    if write then { s1 with spin := { s1.spin with cog := Tab.put 0#16 s1.spin.cog k (value.setWidth 16) } }
    else s1.onIo (fun i => { i with readData := Tab.put 0 i.readData acc.num (Tab.get 0#16 s.spin.cog k).toNat })

end Sys2Proof.Machine
end

