-- ==== Sys2Proof/Machine/Windows.lean ====
section
/-! DEFINITION. The commands of the windows and of Hod's event flags (R346-R355, R374, R377). -/

namespace Sys2Proof.Machine

/-- EVENT_FLAG_SET (R374): a write of EVF_SET. -/
def execEventFlagSet (_acc : Accessor) (mask : Nat) (s : State) : Out := okIf true s (s.setFlags (mask % 2 ^ 64))

/-- EVENT_FLAG_CLEAR (R374): a write of EVF. -/
def execEventFlagClear (_acc : Accessor) (mask : Nat) (s : State) : Out := okIf true s (s.clearFlags (mask % 2 ^ 64))

/-- The value an agent's access gave, where the agent reads through the aperture's accessors. -/
def State.gaveAgent (s : State) (agent v : Nat) : State :=
  match accOf agent with
  | some acc => s.gave acc v
  | none => s

/-- FLAG_WRITE (R349, R355). -/
def execFlagWrite (agent space addr owner hseq : Nat) (err : Bool) (s : State) : Out :=
  okIf (agentKnown agent && decide (agent ≠ 0) && decide (space < 2)) s (s.flagWrite agent space addr owner hseq err).2

/-- FLAG_READ (R350). -/
def execFlagRead (agent space addr : Nat) (s : State) : Out :=
  okIf (agentKnown agent && decide (agent ≠ 0) && decide (space < 2)) s
    (let r := s.flagRead space addr
     r.2.gaveAgent agent r.1)

/-- An allocation request of an accessor in the window that WIN_SEL shows; ALLOC_RES shows it the slot (R353, R377). -/
def State.allocFor (s : State) (acc : Accessor) (pair : Bool) : State :=
  let w := s.fld 0xD SHW.WIN_SEL.WIN
  let r := if acc.isPf1 && !s.flag (pgWin w) SHW.WIN_CFG.PF1 then (0xFFFFFFFF, s) else s.allocate1 w (agentOf acc) pair
  r.2.onHod fun h => { h with allocRes := Tab.put 0xFFFFFFFF h.allocRes acc.num r.1 }

/-- SLOT_ALLOCATE_ONE (R353). -/
def execSlotAllocateOne (acc : Accessor) (s : State) : Out := okIf true s (s.allocFor acc false)

/-- SLOT_ALLOCATE_PAIR (R353). -/
def execSlotAllocatePair (acc : Accessor) (s : State) : Out := okIf true s (s.allocFor acc true)

/-- One byte written by an agent to the Common Window, where its slot's owner lets it. -/
def State.cwPut (s : State) (agent addr b : Nat) : State :=
  if (s.cwBars agent addr).isSome then s else s.setMemByte 1 addr b

/-- COMMON_WINDOW_ACCESS (R354): an untagged read of `n` bytes, or a write. `ecc` is what the SRAM's code finds: 0 nothing,
1 a corrected error, 2 a double-bit error. A refusal is raised once an access. -/
def execCommonWindowAccess (agent addr n ecc : Nat) (write : Option (List Nat)) (s : State) : Out :=
  let k := match write with | some bs => bs.length | none => n
  let bars := ((List.range k).filterMap fun i => s.cwBars agent (addr + i)).head?
  let s1 := match bars with | some (w, _) => s.flagRefused agent w 5 | none => s
  let s2 := match write with
    | some bs => (bs.zipIdx).foldl (fun (s : State) bi => s.cwPut agent (addr + bi.2) bi.1) s1
    | none => s1.gaveAgent agent (ofLe ((List.range n).map fun i => if (s.cwBars agent (addr + i)).isSome then 0 else s.memByte 1 (addr + i)))
  okIf (agentKnown agent && decide (agent ≠ 0) && decide (addr + k ≤ cwEnd) && decide (ecc < 3)) s <|
    if ecc = 1 then s2.bump 0xD SHW.CW_ECC.CE
    else if ecc = 2 then
      ((s2.bump 0xD SHW.CW_ECC.UE).raise 0xD 4 0).onHod fun h =>
        { h with sramBad := h.sramBad.filter (fun l => decide (l ≠ addr / 64)) ++ [addr / 64] }
    else match write with
      | some bs => if bs.length ≥ 64 ∧ addr % 64 = 0 then
          s2.onHod fun h => { h with sramBad := h.sramBad.filter fun l => decide (l < addr / 64) || decide (l ≥ (addr + bs.length) / 64) }
        else s2
      | none => s2

/-- Whether two windows share bytes. -/
def State.winOverlaps (s : State) (v w : Nat) : Bool :=
  s.winValid v && decide (s.winSpace v = s.winSpace w) && decide (s.winBase v < s.winEnd w) && decide (s.winBase w < s.winEnd v)

/-- Whether VALID of a window may be set (R351, R377): a slot size and a slot count in range, no overlap, within its space. -/
def State.winFits (s : State) (w : Nat) : Bool :=
  let sh := s.fld (pgWin w) SHW.WIN_CFG.SLOT_SH
  decide (8 ≤ sh) && decide (sh ≤ 23) && decide (1 ≤ s.winSlots w) && decide (s.winSlots w ≤ 65536)
    && ((List.range 16).all fun v => decide (v = w) || !s.winOverlaps v w)
    && decide (s.winEnd w ≤ if s.winSpace w = 0 then 2 ^ 36 else sramEnd)

/-- Set VALID of a window whose descriptor fits; otherwise FLAG_VIOLATION cause 6 (R351). -/
def State.validate (s : State) (w agent : Nat) : State :=
  if s.winValid w then s
  else if s.winFits w then (s.setB (pgWin w) SHW.WIN_CFG.VALID true).showFree w
  else s.flagRefused agent w 6

/-- WINDOW_VALID_SET (R351). -/
def execWindowValidSet (acc : Accessor) (w : Nat) (s : State) : Out :=
  okIf (decide (w < 16)) s (s.rwl acc 0xD (s.validate w (agentOf acc)))

end Sys2Proof.Machine
end

