-- ==== Sys2Proof/Machine/PageOps.lean ====
section
/-! DEFINITION. The operations of the Control Aperture: who may access what (R29-R33), the read view and its freeze (R34,
R35, R39), the generic write of a register (R34), and what each block does when it is enabled, disabled and reset (R36-R38,
R503). -/

namespace Sys2Proof.Machine
namespace State

/-! ### Filtering (R33) -/

/-- In SECURED, RETURNED and SCRAPPED some pages are read-only to PF1. -/
def readOnlyPage (s : State) (pg : Nat) : Bool := decide (s.lifeCycle ≥ 2) && decide (pg ∈ [8, 1, 0xE, 0x1D, 6])

/-- Of some pages PF1 sees the header only. -/
def headerOnly (s : State) (pg : Nat) : Bool :=
  decide (pg ∈ [9, 0xA]) || (decide (pg = 0xB) && decide (s.lifeCycle ≥ 2))

/-- A write that R33 ignores. -/
def closedWrite (s : State) (acc : Accessor) (pg off : Nat) : Bool :=
  acc.isPf1 && (s.readOnlyPage pg || (s.headerOnly pg && decide (off ≥ 0x40)))

/-- A read that R33 answers with 0. -/
def closedRead (s : State) (acc : Accessor) (pg off : Nat) : Bool := acc.isPf1 && s.headerOnly pg && decide (off ≥ 0x40)

/-- While a soft reset runs, block-specific registers read 0 and ignore writes (R38). -/
def inReset (s : State) (pg off : Nat) : Bool := s.flag pg HDR.PG_STAT.RESET_BUSY && decide (off ≥ 0x40)

/-- A write to a page's header by an accessor, where R33 lets it through. -/
def headerWrite (s : State) (acc : Accessor) (pg : Nat) (t : State) : State :=
  if s.closedWrite acc pg 0 then s.lockedWrite pg else t

/-! ### Windowed registers -/

/-- The bank that a register of a page shows: the unit that the page's select register names. -/
def bankOf (s : State) (acc : Accessor) (pg off : Nat) : Nat :=
  let sel := fun (f : RF) => bank pg (s.fld pg f)
  if off = 0x28 then sel HDR.WIN_CFG.SEL
  else if pg = 1 ∧ off = 0x4C then sel CLKG.FREQ_SEL.DOMAIN
  else if pg = 3 ∧ off = 0x4C then sel THM.NODE_SEL.NODE
  else if pg = 3 ∧ off = 0x54 then sel THM.SENS_SEL.SENSOR
  else if pg = 6 ∧ off = 0x78 then sel HST.Q_SEL.Q
  else if pg = 9 ∧ (off = 0x48 ∨ off = 0x4C) then sel SEC.DOM_SEL.DOM
  else if pg = 0xC ∧ 0x44 ≤ off then sel FIF.FIFO_SEL.FIFO
  else if pg = 0xD ∧ off = 0x5C then bank pg (64 + acc.num)
  else if pg = 0xD ∧ 0x44 ≤ off ∧ off ≤ 0x60 then sel SHW.WIN_SEL.WIN
  else if pg = 0x13 ∧ 0x68 ≤ off then sel MPS.RGN_SEL.REGION
  else if pg = 0x18 ∧ 0x54 ≤ off ∧ off ≤ 0x6C then sel MSN.POOL_SEL.POOL
  else if pg = 0x18 ∧ 0x74 ≤ off ∧ off ≤ 0x7C then sel MSN.SLOT_SEL.SLOT
  else if pg = 0x1C ∧ (off = 0x5C ∨ off = 0x60) then
    bank pg (if s.fld pg ASC.HM_SEL.HEAD < 12 then headKey (s.fld pg ASC.HM_SEL.ACT) (s.fld pg ASC.HM_SEL.HEAD) else headKey 128 0)
  else pg

/-! ### The live value of a register (R34, R36) -/

/-- PG_CAP.BLOCK: on DEV the clusters and the grade (R4), elsewhere as the implementation gives it. -/
def capBlock (s : State) (pg : Nat) : Nat :=
  if pg = 0 then clustersOf s.part + 16 * b2n (decide (s.io.grade = .ea)) else (Config.blockCap pg).toNat

/-- PG_ID (R36): version 1, the page kind, the instance and the revision. -/
def pgId (s : State) (k : Kind) (pg : Nat) : Nat :=
  2 ^ 24 + k.base * 2 ^ 16 + (pg - k.base) * 2 ^ 8 + (if pg = 0 then s.io.dieRev % 256 else (Config.blockRev pg).toNat)

/-- PG_CAP (R36). -/
def pgCap (s : State) (k : Kind) (pg : Nat) : Nat :=
  k.nev * 2 ^ 26 + (Config.blockFeat pg).toNat * 2 ^ 24 + s.capBlock pg

/-- WIN_CFG of a source: its settings with SEL (R39). -/
def winCfg (s : State) (pg : Nat) : Nat :=
  let w := s.io.win pg (s.fld pg HDR.WIN_CFG.SEL)
  w.window * 2 ^ 20 + w.unit * 2 ^ 16 + w.thresh * 2 ^ 8 + s.fld pg HDR.WIN_CFG.SEL

/-- The sources active among 32 (R460). -/
def evtActs (s : State) (i : Nat) : Nat := (List.range 32).foldl (fun m b => bitPut m b (s.io.evtActive (32 * i + b))) 0

/-- The power domain of a clock domain, both in the spec's orders (R364, R439). -/
def domOfClock (n : Nat) : Nat :=
  if n < 8 then [0, 3, 3, 2, 1, 4, 5, 5].getD n 0 else if n < 16 then n - 1 else if n < 24 then n - 9 else 6

/-- A register's live value; `p` is the page or one of its banks. What is not stored as a register is computed here. -/
def live (s : State) (p off : Nat) : DWord :=
  let pg := p % 256
  let u := p / 256 - 1
  let r := s.io.reg p off
  match pageKind pg with
  | none => 0#64
  | some k =>
    if off = 0x00 then BitVec.ofNat 64 (s.pgId k pg)
    else if off = 0x04 then BitVec.ofNat 64 (s.pgCap k pg)
    else if off = 0x24 then BitVec.ofNat 64 (s.winCfg pg)
    else if off = 0x28 then BitVec.ofNat 64 (s.io.win pg u).largest
    else if pg = 5 ∧ 0x40 ≤ off ∧ off < 0x68 then BitVec.ofNat 64 (s.evtActs ((off - 0x40) / 4))
    else if pg = 1 ∧ off = 0x4C then (if bitOf (s.fld 2 PWC.DOM_STAT.POWERED) (domOfClock u) then r else 0#64)
    else if pg = 0xC ∧ off = 0x44 ∧ !isGf u then Io.withFld (Io.withFld r FIF.FIFO_CFG.WIDTH (fixedWords u / 2)) FIF.FIFO_CFG.MODE 0
    else if pg = 0xC ∧ off = 0x48 then Io.withFld r FIF.FIFO_STAT.DEPTH (Io.fifoDepth u)
    else if pg = 0xD ∧ off = 0x5C then BitVec.ofNat 64 (Tab.get 0xFFFFFFFF s.hod.allocRes (u - 64))
    else if pg = 0x1B ∧ off = 0x68 then s.io.reg pg 0x60
    else if pg = 0x1C ∧ off = 0x5C then
      let m := Tab.get HeadModel.zero s.asc.models u
      BitVec.ofNat 64 (m.rise % 2 ^ 16 + (Config.divFree (m.duty.foldl (· + ·) 0 : Nat) 1000).toNat % 2 ^ 11 * 2 ^ 16)
    else if pg = 0x1C ∧ off = 0x60 then
      if u ≥ headKey 128 0 then 0#64
      else BitVec.ofNat 64 ((Tab.get HeadModel.zero s.asc.models u).last % 2 ^ 12 + (BitVec.ofInt 16 (Tab.get 0 s.asc.temps (u / 24))).toNat * 2 ^ 16)
    else r

/-! ### The held read view (R39) -/

/-- The offsets of a page's registers. -/
def offsets (pg : Nat) : List Nat := 0x28 :: ((pageFields pg).map (·.off)).eraseDups

/-- The banks of a page that may show something. -/
def banksOf (s : State) (pg : Nat) : List Nat :=
  let listed := (s.io.regs.map fun kv => kv.1 / 4096).filter fun p => decide (p % 256 = pg)
  let wins := (s.io.wins.filter fun kv => decide (kv.1 / 32 = pg)).map fun kv => bank pg (kv.1 % 32)
  let more := if pg = 0x1C then s.asc.models.map fun kv => bank pg kv.1
    else if pg = 0xD then s.hod.allocRes.map fun kv => bank pg (64 + kv.1) else []
  (pg :: (listed ++ wins ++ more)).eraseDups

/-- FREEZE takes the values of a page's registers as they stand. -/
def holdPage (s : State) (pg : Nat) : State :=
  let vals := (s.banksOf pg).flatMap fun p => (offsets pg).map fun o => (p, o, s.live p o)
  s.onIo fun i => { i with
    frozen := vals.foldl (fun m v => Tab.put (resetReg pg v.2.1) m (key v.1 v.2.1) v.2.2) i.frozen
    heldPages := i.heldPages ++ [pg] }

/-- The held values of a page are dropped. -/
def dropHeld (s : State) (pg : Nat) : State :=
  s.onIo fun i => { i with
    frozen := Tab.keep (fun k => decide (k / 4096 % 256 ≠ pg)) i.frozen
    heldPages := i.heldPages.filter fun p => decide (p ≠ pg) }

/-- A register's held value. -/
def heldReg (s : State) (p off : Nat) : DWord := (Tab.find? s.io.frozen (key p off)).getD (resetReg (p % 256) off)

/-- A field whose read view FREEZE holds. -/
def holds' (f : RF) : Bool :=
  (decide (f.off ≥ 0x40) && decide (f.acc = .ro ∨ f.acc = .rc)) || decide (f = HDR.PG_STAT.BLOCK) || decide (f = HDR.WIN_LASTING.V)

/-- The words after the first of a value read in several words, which the read of the first latched for the accessor
(R160, R369, R472): the register of the first word and the word's number. -/
def wordOf (pg off : Nat) : Option (Nat × Nat) :=
  if pg ≥ 0x80 ∧ 0x110 ≤ off ∧ off ≤ 0x11C then some (0x10C, (off - 0x110) / 4)
  else if pg = 6 ∧ 0x54 ≤ off ∧ off ≤ 0x6C then some (0x50, (off - 0x54) / 4)
  else if pg = 0xC ∧ 0x54 ≤ off ∧ off ≤ 0x5C then some (0x50, (off - 0x54) / 4)
  else none

/-- What a read of a register by an accessor shows, all its bits (R29, R33, R34, R38, R39). -/
def shown (s : State) (acc : Accessor) (pg off : Nat) : DWord :=
  if !present s.part pg || s.closedRead acc pg off || s.inReset pg off then 0#64
  else
    let p := s.bankOf acc pg off
    match wordOf pg off with
    | some (first, i) => BitVec.ofNat 64 ((Tab.get [] s.io.wordLatches (acc.num * 2 ^ 20 + key pg first)).getD i 0)
    | none =>
      if s.io.heldPages.contains pg then
        if off = 0x28 then s.heldReg p off
        else ((Io.regFields pg off).filter holds').foldl
          (fun w f => Io.withFld w f ((s.heldReg p off >>> f.lo).toNat)) (s.live p off)
      else s.live p off

/-! ### RC registers and 64-bit values (R34, R35, R39) -/

/-- The low word of a 64-bit value stands at this offset. -/
def isLow (pg off : Nat) : Bool := (Io.regFields pg off).any fun f => decide (f.hi ≥ 32)

/-- The high word of a 64-bit value stands at this offset. -/
def isHigh (pg off : Nat) : Bool := decide (off ≥ 4) && isLow pg (off - 4)

/-- What a read does to a register's RC fields: they are cleared; during a freeze the held value is subtracted from the live
count, and has been taken. -/
def takeRc (s : State) (acc : Accessor) (pg off : Nat) : State :=
  if !present s.part pg || s.closedRead acc pg off || s.inReset pg off then s
  else
    let p := s.bankOf acc pg off
    ((Io.regFields pg off).filter fun f => decide (f.acc = .rc)).foldl (fun (s : State) f =>
      if s.io.heldPages.contains pg then
        let h := (s.heldReg p off >>> f.lo).toNat % 2 ^ f.width
        (s.set p f (s.fld p f - h)).onIo fun i => { i with
          frozen := Tab.put (resetReg pg off) i.frozen (key p off) (Io.withFld (s.heldReg p off) f 0) }
      else s.set p f 0) s

/-- The key of an accessor's latch and write buffer of a page. -/
def latchKey (acc : Accessor) (pg : Nat) : Nat := acc.num * 256 + pg

/-- An accessor's high-word latch of a page. -/
def latch (s : State) (acc : Accessor) (pg : Nat) : Option Word := Tab.get none s.io.latches (latchKey acc pg)

/-- Set or drop a latch. -/
def setLatch (s : State) (acc : Accessor) (pg : Nat) (w : Option Word) : State :=
  s.onIo fun i => { i with latches := Tab.put none i.latches (latchKey acc pg) w }

/-- An accessor's low-word write buffer of a page. -/
def wbuf (s : State) (acc : Accessor) (pg : Nat) : Option Word := Tab.get none s.io.wbufs (latchKey acc pg)

/-- Fill or empty a write buffer. -/
def setWbuf (s : State) (acc : Accessor) (pg : Nat) (w : Option Word) : State :=
  s.onIo fun i => { i with wbufs := Tab.put none i.wbufs (latchKey acc pg) w }

/-! ### The generic write (R34) -/

/-- A field as the row of its unit 0 has it: the slots of SPM repeat every 0x40 bytes. -/
def unit0 (pg : Nat) (f : RF) : RF :=
  if pageKind pg = some .spm ∧ f.off ≥ 0x80 then ⟨0x80 + (f.off - 0x80) % 0x40, f.hi, f.lo, f.acc, f.rst⟩ else f

/-- The fields of the header whose writes are commands of their own. -/
def ownHeader : List RF :=
  [HDR.PG_CTL.LOCK, HDR.PG_CTL.FREEZE, HDR.PG_CTL.SOFT_RESET, HDR.PG_CTL.ENABLE, HDR.EV_PEND.V, HDR.EV_EN.V] ++
  [HDR.EV_ROUTE.VECTOR, HDR.EV_ROUTE.PIN, HDR.EV_ROUTE.MGP, HDR.EV_ROUTE.CPX, HDR.EV_ROUTE.MSIX, HDR.WIN_CFG.SEL, HDR.ERR_INJ.ONESHOT]

/-- The block-specific fields whose writes are commands of their own. -/
def ownBlock : Kind → List RF
  | .klc => [KLC.RETRACT.SW_ASSERT]
  | .act => [ACT.LK_CTL.FORCE_DOWN, ACT.LK_CTL.DOZE_REQ, ACT.QM_CTL.CLEAR, ACT.SQ_CTL.ABORT, ACT.SV_CTL.SET]
  | .ldp => [LDP.FENCE.DEC]
  | .fsq => [FSQ.CS_CTL.LOAD_EN, FSQ.CS_CTL.REPAIR, FSQ.ZT_DATA3.FIRST_TRACK]
  | .sve => [SVE.MEM_DATA.DATA, SVE.TR_CTL.ARM, SVE.TR_CTL.STOP]
  | .spm => [SPM.MEM_DATA.COG, SPM.SPk_TARGET.RPM] ++ tableSPMUnit.filter fun f => decide (f.off ∈ [0x90, 0x94, 0x98, 0x9C, 0xA0, 0xA4, 0xA8])
  | .msn => [MSN.POOL_SLOTS.SLOTS, MSN.SLOT_CTL.EXCLUDE, MSN.SEEK_DATA.US]
  | .mps => [MPS.DV_DATA.DATA, MPS.RGN_CFG.VALID]
  | .scc => [SCC.SCC_CTL.DISABLE]
  | .hod => [HOD.EVF.FLAGS]
  | .fif => [FIF.FIFO_DATA0.DATA, FIF.FIFO_DATA1.DATA, FIF.FIFO_DATA2.DATA, FIF.FIFO_DATA3.DATA]
  | .shw => [SHW.WIN_CFG.VALID]
  | .pwc => [PWC.DOM_CTL.CL_SLEEP]
  | .cpx => [CPX.REC_STAT.COND, CPX.REC_STAT.DIRTY_LOST, CPX.REC_STAT.FAULT_HOLD]
  | .hst => [HST.HST_CTL.FREEZE]
  | .dev | .clkg | .thm | .cal | .evc | .sbi | .lcs | .sec | .cip | .mbx | .wdg | .pcx | .nve | .dmc | .map | .mor | .asc | .fdc | .xtc => []

/-- Whether a field's write is a command of its own. -/
def ownRow (pg : Nat) (f : RF) : Bool :=
  ownHeader.contains f || (match pageKind pg with | some k => (ownBlock k).contains (unit0 pg f) | none => false)

/-- What becomes of a write to one field beyond its access type. -/
inductive Bar where
  /-- It is stored as its type says. -/
  | free
  /-- It is ignored. -/
  | ignored
  /-- It is ignored, with LOCKED_WRITE. -/
  | locked
  /-- It is ignored, with RGN_STAT.REFUSED (R318). -/
  | region
  deriving DecidableEq, Repr

/-- Where a field takes a write only at times, or from some (R158, R159, R318, R345, R351, R375, R376); `v` is the word. -/
def barOf (s : State) (acc : Accessor) (pg p v : Nat) (f : RF) : Bar :=
  let mgp := decide (acc = .mgp)
  if ownRow pg f then .ignored
  else match pageKind pg with
  | some .mps =>
    if f ∈ [MPS.RGN_CFG.CODE, MPS.RGN_CFG.OWNER, MPS.RGN_GEOM.BASE, MPS.RGN_GEOM.SIZE, MPS.RGN_RAW.RAW_BASE] ∧ s.flag p MPS.RGN_CFG.VALID then
      (if bitsOf v f.hi f.lo = s.fld p f then .ignored else .region)
    else .free
  | some .shw => if 0x44 ≤ f.off ∧ f.off ≤ 0x54 ∧ s.flag p SHW.WIN_CFG.VALID then .ignored else .free
  | some .fif => if (f.off = 0x44 ∨ f.off = 0x4C) ∧ !isGf (p / 256 - 1) then .ignored else .free
  | some .scc => if f = SCC.SCC_CTL.SIZE ∧ s.enabled pg then .ignored else .free
  | some .hod =>
    let n := (f.off - 0x100) / 0x20
    if f.off ≥ 0x100 then
      (if acc.isPf1 && !bitOf (s.fld 0x1B HOD.CH_GRANT.GRANT) n then .locked
       else if s.hodSt n = 0 ∨ s.hodSt n = 4 then .free else .ignored)
    else .free
  | some .fsq =>
    if f.off = 0x48 then
      (if !mgp then .locked else if (s.flag pg FSQ.CS_CTL.LOAD_EN && !s.enabled pg) || s.flag pg FSQ.CS_CTL.REPAIR then .free else .ignored)
    else if 0x88 ≤ f.off ∧ f.off < 0x98 then
      let t := if f.off = 0x88 then bitsOf v 11 8 else s.fld pg FSQ.ZT_ADDR.THREAD
      (if mgp && decide (s.sqState (16 * (pg - 0x58) + t) = 0) then .free else .locked)
    else .free
  | some .act => if f = ACT.SV_SEEK.TRACK ∧ bitOf v 31 then .ignored else .free
  | _ => .free

/-- The value a field stores: sources 152 and 153 cannot be enabled for recording (R471). -/
def adjusted (pg : Nat) (f : RF) (x : Nat) : Nat := if pg = 5 ∧ f = EVC.REC_EN4.REC then bitClear (bitClear x 24) 25 else x

/-- A write to one field by its access type (R34). -/
def storeField (s : State) (acc : Accessor) (pg p v : Nat) (f : RF) : State :=
  let x := adjusted pg f (bitsOf v f.hi f.lo)
  let byType :=
    match f.acc with
    | .rw => s.set p f x
    | .rwl =>
      if s.io.locked pg && decide (acc ≠ .mgp) then (if x = s.fld p f then s else s.lockedWrite pg) else s.set p f x
    | .w1c => s.set p f (s.fld p f - (s.fld p f &&& x))
    | .w1s => s.set p f (s.fld p f ||| x)
    | .ro | .rc | .act => s
  if f.acc = .ro ∨ f.acc = .rc then s
  else match s.barOf acc pg p v f with
    | .free => byType
    | .ignored => s
    | .locked => s.lockedWrite pg
    | .region => s.setB p MPS.RGN_STAT.REFUSED true

/-- The cache's size: 6 and 7 act as 5; a new size takes effect in DISABLED, and invalidates every line (R345). -/
def sizeWritten (s : State) (old : Nat) : State :=
  let new := s.fld 0x14 SCC.SCC_CTL.SIZE
  let s1 :=
    if new = old then s
    else if s.cacheState = 0 then s.onBuf fun b => { b with lines := [], sizeNext := none }
    else (s.set 0x14 SCC.SCC_CTL.SIZE old).onBuf fun b => { b with sizeNext := some new }
  s1.syncCache

/-- A CS_DATA word is held until CS_DATA4 commits it (R158, R159). -/
def csDataWrite (s : State) (acc : Accessor) (c i v : Nat) : State :=
  if acc ≠ .mgp then s.lockedWrite (pgFsq c)
  else if (s.flag (pgFsq c) FSQ.CS_CTL.LOAD_EN && !s.enabled (pgFsq c)) || s.flag (pgFsq c) FSQ.CS_CTL.REPAIR then
    { s with seq := { s.seq with csData := Tab.put 0 s.seq.csData (8 * c + i) (v % 2 ^ 32) } }
  else s

/-- What follows the writing of a register at once; `old` is the state before it. -/
def afterWrite (s old : State) (acc : Accessor) (pg off v : Nat) : State :=
  match pageKind pg with
  | some .pwc => if off = 0x54 then s.showCap else s
  | some .scc =>
    if off = 0x40 then s.sizeWritten (old.fld 0x14 SCC.SCC_CTL.SIZE) else if off = 0x50 ∨ off = 0x54 then s.syncCache else s
  | some .evc => if off = 0x90 then s.onIo (Io.syncPin Io.up) else s
  | some .ldp => s.settlePool (pg - 0x50)
  | some .spm =>
    if off = 0x44 then s.spmPages.foldl (fun (t : State) q => t.set q SPM.SPM_STAGGER.START_MAX (s.fld pg SPM.SPM_STAGGER.START_MAX)) s else s
  | some .fsq =>
    let c := pg - 0x58
    if 0x4C ≤ off ∧ off < 0x5C then s.csDataWrite acc c ((off - 0x4C) / 4) v
    else if off = 0x88 then s.set pg FSQ.ZT_ADDR.PRESENT ((s.thr (16 * c + s.fld pg FSQ.ZT_ADDR.THREAD)).zone.getD 0)
    else s
  | _ => s

/-- A write to a register, all its bits, where the page takes it: reserved pages and offsets ignore it (R29), filtering and a
soft reset under way keep it out (R33, R38). -/
def writeReg (s : State) (acc : Accessor) (pg off v : Nat) : State :=
  if !present s.part pg then s
  else if s.closedWrite acc pg off then s.lockedWrite pg
  else if s.inReset pg off then s
  else
    let p := s.bankOf acc pg off
    ((Io.regFields pg off).foldl (fun (t : State) f => t.storeField acc pg p v f) s).afterWrite s acc pg off v

/-! ### ENABLE (R36) -/

/-- A block starts to operate. -/
def blockOn (s : State) (pg : Nat) : State :=
  let s1 := s.setB pg HDR.PG_CTL.ENABLE true
  match pageKind pg with
  | some .sve => (s1.set pg SVE.LOOP_CTL.STATE 1).syncEngine (pg - 0x20)
  | some .scc => s1.syncCache
  | some .evc => s1.onIo (Io.syncPin Io.up)
  | some .ldp => s1.settlePool (pg - 0x50)
  | _ => s1

/-- A spindle unit is disabled (R207). -/
def spindleOff (s : State) (n : Nat) : State := s.stopSpin n 7

/-- A sequencer is disabled (R154): the thread halts, its gates are killed, and its job's token goes out with status 0xFF. -/
def threadOff (s : State) (a : Nat) : State :=
  let s1 := (s.killGates a).token a 0xFF
  if s1.sqState a = 1 ∨ s1.sqState a = 2 then s1.toSq a 0 else s1

/-- A decoder pool is disabled (R130): its queued jobs go back to Mason. -/
def poolOff (s : State) (c : Nat) : State :=
  let p := s.pool c
  (s.setPool c { p with queue := [] }).onMason fun m => { m with deferred := m.deferred ++ p.queue.map (·.unit) }

/-- An actuator's link is held in DOWN; loaded heads are unloaded first (R72, R79). -/
def linkOff (s : State) (a : Nat) : State := if s.lkState a = 0 then s else s.leaveActive a 0

/-- A block's disable behaviour (R36), as its chapter gives it. -/
def blockOff (s : State) (pg : Nat) : State :=
  let s1 := s.setB pg HDR.PG_CTL.ENABLE false
  let acts := fun (c n : Nat) => (List.range n).map fun i => n * c + i
  match pageKind pg with
  | some .klc => (acts (pg - 0x40) 16).foldl linkOff s1
  | some .fdc => (acts (pg - 0x48) 16).foldl (fun (s : State) a => s.abandonWin a .gap) s1
  | some .ldp => s1.poolOff (pg - 0x50)
  | some .fsq => (acts (pg - 0x58) 16).foldl threadOff s1
  | some .sve =>
    let e := pg - 0x20
    (((acts e 8).foldl unloadLoaded (s1.set pg SVE.LOOP_CTL.STATE 2)).settleEngine e).syncEngine e
  | some .spm => (acts (pg - 0x30) 4).foldl spindleOff s1
  | some .hod => s1.hodDisable
  | some .scc => s1.syncCache
  | some .evc => s1.onIo (Io.syncPin Io.up)
  | some .pwc => ((List.range 15).filter fun d => decide (d ≥ 7) && s1.domAsleep d && !s1.sleepWanted d).foldl (fun (s : State) d => s.wake d) s1
  | _ => s1

/-! ### Soft reset (R38, R503) -/

/-- A soft reset that is refused whatever ENABLE holds. -/
def resetBarred (s : State) (pg : Nat) : Bool :=
  match pageKind pg with
  | some .dev | some .sec | some .wdg | some .cpx | some .act => true
  | some .shw => s.hod.alloc.any fun kv => !s.slotFree (kv.1 / 65536) (kv.1 % 65536)
  | some .scc => decide (s.dirtySubs ≠ 0)
  | some .spm => (List.range 4).any fun k => decide (s.spState (4 * (pg - 0x30) + k) ≠ 0 ∧ s.spState (4 * (pg - 0x30) + k) ≠ 9)
  | _ => false

/-- What a soft reset keeps on every page. -/
def keptAlways (s : State) (lockPg : Nat) (f : RF) : Bool :=
  decide (f = HDR.PG_CTL.LOCK) || decide (f = HDR.PG_SCRATCH.SCRATCH) || (decide (f.acc = .rwl) && s.io.locked lockPg)

/-- What the block's own chapter keeps, and the fields that show what is live; `b` is 0 for the page itself. -/
def keptBy (k : Kind) (b : Nat) (f : RF) : Bool :=
  match k with
  | .clkg => decide (f.off ∈ [0x40, 0x44, 0x4C])
  | .pwc => decide (f.off ∈ [PWC.PWC_STAT.PLS.off, PWC.PWC_CFG.V_DET.off, PWC.PS_CFG.IDLE_RPM.off, PWC.CAP_SW.CAP_W.off,
      PWC.DOM_STAT.POWERED.off, PWC.RAIL_STAT.PG.off]) && decide (f.off ≥ 0x40)
  | .thm => decide (f = THM.THM_CFG.T_TRIP)
  | .cal => decide (f ∈ [CAL.HU_E.E, CAL.HU_C.C, CAL.CAL_STAT.HU_VALID, CAL.HU_AGE.HOURS])
  | .evc => decide (0x68 ≤ f.off ∧ f.off ≤ 0x90)
  | .hst => decide (f ∈ [HST.RSEQ.NEXT, HST.CLEARS.COUNT, HST.HST_STAT.FIRST_CNT])
  | .sbi => decide (f.off = 0x40)
  | .lcs => decide (f.off = 0x40) || decide (f.off ≥ 0x50)
  | .shw => decide (0x44 ≤ f.off ∧ f.off ≤ 0x54)
  | .pcx => decide (f ∈ [PCX.PCX_TARGET.MAX_SPEED, PCX.PCX_MODE.BIF, PCX.PCX_MODE.SRIS]) || decide (f.off = PCX.P0_LINK.DL_UP.off ∨ f.off = PCX.P1_LINK.DL_UP.off)
  | .nve => decide (f.off ∈ [NVE.NVE_STAT.RDY0.off, NVE.NVE_VFS.VF0.off, NVE.NVE_INFLIGHT.COUNT.off, NVE.NVE_QUEUES.SQ0.off])
  | .dmc => decide (f.off = 0x40)
  | .mps => decide (0x68 ≤ f.off ∧ f.off ≤ 0x70) || decide (f ∈ [MPS.RGN_STAT.RAW_MIB, MPS.RGN_STAT.WIPING])
  | .scc => decide (f.off ≥ 0x40 ∧ f.acc = .rwl) || decide (f = SCC.SCC_CTL.DISABLE)
  | .msn => decide (b ≠ 0 ∧ 0x54 ≤ f.off ∧ f.off ≤ 0x6C) || decide (f ∈ [MSN.SLOT_CTL.EXCLUDE, MSN.SEEK_DATA.US]) || decide (f.off = 0x78 ∨ f.off = 0x7C)
  | .map => decide (f.off ≥ 0x40 ∧ f.acc = .rwl) || decide (f ∈ [MAP.JSEQ_APPENDED.JSEQ, MAP.JSEQ_PERSISTED.JSEQ, MAP.CKPT_JSEQ.S])
  | .hod => decide (f = HOD.CH_GRANT.GRANT)
  | .asc => decide (f = ASC.TBL_BASE.BASE)
  | .spm => decide (f.off ∈ [0x44, 0x54])
  | .klc => decide (f.off ≥ 0x44)
  | .ldp => decide (f ∈ [LDP.FENCE.DEC, LDP.DEC_LAST.DEC]) || decide (f.off = LDP.LDP_STAT.LIVE_BUSY.off)
  | .xtc => decide (f = XTC.XD_BASE.BASE) || decide (f.off = XTC.XTC_STAT.BUSY.off)
  | .sve | .fdc | .fsq | .cip | .mbx | .fif | .mor | .dev | .sec | .wdg | .cpx | .act => false

/-- A block's registers on one ACT page, the offsets `lo` to `hi`, return to reset but for some kept (R503). -/
def resetActPart (s : State) (a lo hi : Nat) (kept : List RF) : State :=
  let pg := pgAct a
  s.onIo fun i => i.resetRegs pg fun _ f => decide (f.off < lo) || decide (f.off > hi) || kept.contains f || s.keptAlways pg f

/-- The window counts of a page's sources are cleared and their settings kept; counts per unit are kept (R38). -/
def clearWins (s : State) (pg : Nat) : State :=
  (List.range 32).foldl (fun (s : State) src =>
    if Io.perUnit pg src then s else s.onIo fun i => i.setWin pg src { i.win pg src with counts := [] }) s

/-- The live fields of a link, a detector and a thread, which a soft reset of their block does not touch (R503). -/
def liveLink : List RF :=
  [ACT.LK_STAT.LOS, ACT.LK_STAT.SPIN_OWNER, ACT.LK_STAT.FULL_RATE, ACT.LK_STAT.STREAMING, ACT.LK_STAT.HEADS_PARKED, ACT.LK_STAT.ATTEMPT] ++
  [ACT.LK_STAT.PHASE, ACT.LK_STAT.STATE, ACT.WRATE.V] ++ (tableACT.filter fun f => decide (0x48 ≤ f.off ∧ f.off < 0x5C))

/-- What else a soft reset of a block returns to its reset state: the registers on its ACT pages, and what lies behind the
registers. -/
def blockReset (s : State) (pg : Nat) : State :=
  let acts := fun (c n : Nat) => (List.range n).map fun i => n * c + i
  match pageKind pg with
  | some .klc => (acts (pg - 0x40) 16).foldl (fun (s : State) a => s.resetActPart a 0x40 0x7F liveLink) s
  | some .fdc =>
    let kept := tableACT.filter fun f => decide (f.off ∈ [0x80, 0x84, 0xC8, ACT.RING_STAT.PINNED.off])
    (acts (pg - 0x48) 16).foldl (fun (s : State) a => s.resetActPart a 0x80 0xFF kept) s
  | some .fsq =>
    let kept := tableACT.filter fun f => decide (f.off = 0x104)
    let s1 := { s with seq := { s.seq with digest := Tab.erase s.seq.digest (pg - 0x58) } }
    (acts (pg - 0x58) 16).foldl (fun (s : State) a =>
      ((s.toSq a 0).onThr a fun t => { Thread.zero with pallets := t.pallets, zone := t.zone }).resetActPart a 0x100 0x13F kept) s1
  | some .sve =>
    let e := pg - 0x20
    let kept := [ACT.SV_CTL.STATE, ACT.SV_CTL.SET_VALID, ACT.SV_CTL.CP_VALID] ++ tableACT.filter fun f => decide (f.off = 0x144)
    let s1 := (acts e 8).foldl (fun (s : State) a => (((if s.svState a = 0 then s else s.toState a 0).setLoop a Loop.zero).resetActPart a 0x140 0x1BF kept).syncFollow a) s
    ({ s1 with servo := { s1.servo with traces := Tab.erase s1.servo.traces e } } : State).syncEngine e
  | some .spm => (acts (pg - 0x30) 4).foldl (fun (s : State) n => (s.toSpin n 0).onCh n fun _ => Spin.zero) s
  | some .lcs => s.onSec fun x => { x with tok := [] }
  | some .fif => s.onIo fun i => { i with fifos := [], fifoBufs := [] }
  | some .shw => (List.range 16).foldl (fun (s : State) w => if s.winAlloc w then s.showFree w else s) (s.onHod fun h => { h with alloc := [], allocRes := [] })
  | some .scc => s.syncCache
  | some .hod => (s.onHod fun h => { h with chans := [] }).syncHod
  | some .asc => ({ s with asc := { s.asc with models := [] } } : State).showChecks
  | some .hst => s.onIo fun i => i.setHst i.hst
  | some .pwc => (((List.range 15).filter fun d => decide (d ≥ 7) && s.domAsleep d && !s.sleepWanted d).foldl (fun (s : State) d => s.wake d) s).showCap
  | some .evc => s.onIo (Io.syncPin Io.up)
  | _ => s

/-- A soft reset completes. -/
def softReset (s : State) (pg : Nat) : State :=
  match pageKind pg with
  | none => s
  | some k =>
    let s0 := if k = .hst then s.thaw else s
    let s1 := s0.dropHeld pg
    let s2 := s1.onIo fun i => i.resetRegs pg fun b f => s1.keptAlways pg f || (decide (f.off ≥ 0x40) && keptBy k b f)
    (s2.clearWins pg).blockReset pg

/-! ### Lasting sources (R451) -/

/-- The actuator of a cluster whose counter is highest, the lowest number first. -/
def worstLink (s : State) (c : Nat) (f : RF) : Nat :=
  ((List.range 16).foldl (fun (b : Nat × Nat) i =>
    let v := s.fld (pgAct (16 * c + i)) f
    if v > b.2 then (16 * c + i, v) else b) (16 * c, 0)).1

/-- MGP reads a counter of each of a cluster's links, which clears it. -/
def countsRead (s : State) (c : Nat) (f : RF) : State :=
  (List.range 16).foldl (fun (s : State) i => s.set (pgAct (16 * c + i)) f 0) s

/-- A speed one step lower than PCX_TARGET asks; 0, 6 and 7 act as 5. -/
def lowerSpeed (s : State) : Nat :=
  let v := s.fld 0x10 PCX.PCX_TARGET.MAX_SPEED
  let v := if v = 0 ∨ v > 5 then 5 else v
  if v ≤ 1 then 1 else v - 1

/-- MGP's action for a source that has become lasting. `dest` is a cluster in service for what a lost one leaves; `again` says
that the link retrained last became lasting again within its window. -/
def lastingAction (s : State) (pg src dest : Nat) (again : Bool) : State :=
  match pageKind pg with
  | some .ldp =>
    let c := pg - 0x50
    if src = 4 then
      let s1 := s.set pg LDP.FENCE.DEC (s.fld pg LDP.FENCE.DEC ||| s.fld pg LDP.DEC_LAST.DEC)
      (s1.setPool c (s1.pool c)).settlePool c
    else s
  | some .fsq => if src = 1 then s.loseCluster (pg - 0x58) dest else s
  | some .klc =>
    let c := pg - 0x40
    let f := if src = 3 then ACT.GAP_CNT.V else ACT.CHECK_CNT.V
    if src = 3 ∨ src = 5 then (s.countsRead c f).leaveActive (s.worstLink c f) (if again then 4 else 1) else s
  | some .spm =>
    if src = 3 then
      ((List.range 4).filter fun k => bitOf (s.fld pg SPM.OBS_LASTING.SLOT) k).foldl (fun (s : State) k => s.drainSlot (4 * (pg - 0x30) + k)) s
    else s
  | some .sve =>
    if src = 7 then
      let as := (List.range 8).map fun k => 8 * (pg - 0x20) + k
      as.foldl (fun (s : State) a => s.reloadOpen a)
        { s with servo := { s.servo with reload := s.servo.reload ++ as.filter fun a => !s.servo.reload.contains a } }
    else s
  | some .pcx => if src = 2 then s.set 0x10 PCX.PCX_TARGET.MAX_SPEED s.lowerSpeed else s
  | _ => s

end State
end Sys2Proof.Machine
end

