-- ==== Sys2Proof/Machine/Aperture.lean ====
section
/-! DEFINITION. The commands of the Control Aperture and the common page header (R28-R40, R450, R451, R461, R503). -/

namespace Sys2Proof.Machine

/-- The page of an address. -/
def addrPage (addr : Nat) : Nat := addr / 4096

/-- The offset of an address in its page. -/
def addrOfs (addr : Nat) : Nat := addr % 4096

namespace State

/-- A write of 32 bits at an offset: the low word of a 64-bit value waits in the accessor's buffer, the high word stores
both (R35). -/
def lowWrite (s : State) (acc : Accessor) (pg off : Nat) (v : Word) : State :=
  if !present s.part pg then s
  else if s.closedWrite acc pg off then s.lockedWrite pg
  else if s.inReset pg off then s
  else s.setWbuf acc pg (some v)

/-- The write of a high word: the buffered low word, or the register's own, goes with it (R35). -/
def highWrite (s : State) (acc : Accessor) (pg off : Nat) (v : Word) : State :=
  let low := match s.wbuf acc pg with
    | some w => w.toNat
    | none => (s.live (s.bankOf acc pg (off - 4)) (off - 4)).toNat % 2 ^ 32
  if !present s.part pg then s
  else if s.closedWrite acc pg off then s.lockedWrite pg
  else if s.inReset pg off then s
  else (s.setWbuf acc pg none).writeReg acc pg (off - 4) (low + v.toNat * 2 ^ 32)

/-- The read of a low word: bits [31:0] are returned and bits [63:32] of the same instant latched; RC bits clear (R35). -/
def lowRead (s : State) (acc : Accessor) (pg off : Nat) : State :=
  let v := (s.shown acc pg off).toNat
  if !present s.part pg || s.closedRead acc pg off || s.inReset pg off then s.gave acc 0
  else ((s.takeRc acc pg off).setLatch acc pg (some (BitVec.ofNat 32 (v / 2 ^ 32)))).gave acc (v % 2 ^ 32)

/-- The read of a high word: the latch if it is valid, which it then is no more, or the bits as they are shown (R35). -/
def highRead (s : State) (acc : Accessor) (pg off : Nat) : State :=
  if !present s.part pg || s.closedRead acc pg off || s.inReset pg off then s.gave acc 0
  else match s.latch acc pg with
    | some w => (s.setLatch acc pg none).gave acc w.toNat
    | none => s.gave acc ((s.shown acc pg (off - 4)).toNat / 2 ^ 32)

/-- A read of 32 bits at an offset, with what it clears (R34). -/
def readReg (s : State) (acc : Accessor) (pg off : Nat) : State :=
  (s.takeRc acc pg off).gave acc ((s.shown acc pg off).toNat % 2 ^ 32)

/-- A write that leaves a page's signal at 1 sends its message again where MSIX is set, and EVENT# follows (R461). -/
def resignal (s : State) (pg : Nat) : State :=
  s.onIo fun i => Io.syncPin Io.up (if i.signals pg then i.sendMsix pg else i)

/-- The event bits that a page implements (R36). -/
def evMask (pg : Nat) : Nat := match pageKind pg with | some k => 2 ^ k.nev - 1 | none => 0

/-- A page's PG_CTL.ENABLE is written (R34, R36). -/
def writeEnable (s : State) (acc : Accessor) (pg : Nat) (on : Bool) : State :=
  if s.enabled pg = on then s
  else if s.io.locked pg && decide (acc ≠ .mgp) then s.lockedWrite pg
  else if on then s.blockOn pg else s.blockOff pg

end State

/-- REGISTER_WRITE (R31, R33, R34): a partial write is discarded with APERTURE_ACCESS. The halves of a 64-bit value go their
own ways (R35). -/
def execRegisterWrite (acc : Accessor) (addr : Nat) (value : Word) (fullBe : Bool) (s : State) : Out :=
  let pg := addrPage addr
  let off := addrOfs addr
  okIf (decide (addr < 2 ^ 20) && decide (addr % 4 = 0)) s <|
    if !fullBe then s.raise 0x10 6 0
    else if State.isLow pg off then s.lowWrite acc pg off value
    else if State.isHigh pg off then s.highWrite acc pg off value
    else s.writeReg acc pg off value.toNat

/-- RC_REGISTER_READ (R32, R34, R39): the value is returned, and its RC fields are cleared. -/
def execRcRegisterRead (acc : Accessor) (addr : Nat) (s : State) : Out :=
  let pg := addrPage addr
  let off := addrOfs addr
  okIf (decide (addr < 2 ^ 20) && decide (addr % 4 = 0)) s <|
    if State.isLow pg off then s.lowRead acc pg off
    else if State.isHigh pg off then s.highRead acc pg off
    else s.readReg acc pg off

/-- LOW_WORD_READ (R35). -/
def execLowWordRead (acc : Accessor) (addr : Nat) (s : State) : Out :=
  okIf (decide (addr < 2 ^ 20) && State.isLow (addrPage addr) (addrOfs addr)) s (s.lowRead acc (addrPage addr) (addrOfs addr))

/-- HIGH_WORD_READ (R35). -/
def execHighWordRead (acc : Accessor) (addr : Nat) (s : State) : Out :=
  okIf (decide (addr < 2 ^ 20) && State.isHigh (addrPage addr) (addrOfs addr)) s (s.highRead acc (addrPage addr) (addrOfs addr))

/-- LOW_WORD_WRITE (R35). -/
def execLowWordWrite (acc : Accessor) (addr : Nat) (value : Word) (s : State) : Out :=
  okIf (decide (addr < 2 ^ 20) && State.isLow (addrPage addr) (addrOfs addr)) s (s.lowWrite acc (addrPage addr) (addrOfs addr) value)

/-- HIGH_WORD_WRITE (R35). -/
def execHighWordWrite (acc : Accessor) (addr : Nat) (value : Word) (s : State) : Out :=
  okIf (decide (addr < 2 ^ 20) && State.isHigh (addrPage addr) (addrOfs addr)) s (s.highWrite acc (addrPage addr) (addrOfs addr) value)

/-- PAGE_LOCK (R37). -/
def execPageLock (acc : Accessor) (pg : Nat) (s : State) : Out :=
  okIf (present s.part pg) s (s.headerWrite acc pg (s.setB pg HDR.PG_CTL.LOCK true))

/-- PAGE_FREEZE (R39): a page already held stays as it is. -/
def execPageFreeze (acc : Accessor) (pg : Nat) (s : State) : Out :=
  okIf (present s.part pg) s <| s.headerWrite acc pg <|
    if s.io.heldPages.contains pg then s
    else ((s.holdPage pg).setB pg HDR.PG_CTL.FREEZE true).setB pg HDR.PG_STAT.FROZEN true

/-- PAGE_THAW (R39). -/
def execPageThaw (acc : Accessor) (pg : Nat) (s : State) : Out :=
  okIf (present s.part pg) s <| s.headerWrite acc pg <|
    ((s.dropHeld pg).setB pg HDR.PG_CTL.FREEZE false).setB pg HDR.PG_STAT.FROZEN false

/-- SOFT_RESET (R38, R503): the write also carries ENABLE; the reset starts only where ENABLE was 0 before it and no
condition of the chapter refuses it. -/
def execSoftReset (acc : Accessor) (pg : Nat) (enable : Bool) (s : State) : Out :=
  okIf (present s.part pg) s <| s.headerWrite acc pg <|
    let s1 := s.writeEnable acc pg enable
    if s.enabled pg || s.resetBarred pg then s1.setB pg HDR.PG_STAT.RESET_REFUSED true
    else (s1.setB pg HDR.PG_CTL.SOFT_RESET true).setB pg HDR.PG_STAT.RESET_BUSY true

/-- SOFT_RESET_DONE (R38): within 20 µs. -/
def execSoftResetDone (pg : Nat) (s : State) : Out :=
  okIf (present s.part pg && s.flag pg HDR.PG_STAT.RESET_BUSY) s (s.softReset pg)

/-- BLOCK_ENABLE (R36). -/
def execBlockEnable (acc : Accessor) (pg : Nat) (s : State) : Out :=
  okIf (present s.part pg) s (s.headerWrite acc pg (s.writeEnable acc pg true))

/-- BLOCK_DISABLE (R36). -/
def execBlockDisable (acc : Accessor) (pg : Nat) (s : State) : Out :=
  okIf (present s.part pg) s (s.headerWrite acc pg (s.writeEnable acc pg false))

/-- EV_PEND_CLEAR (R36, R461): each 1 clears its bit. -/
def execEvPendClear (acc : Accessor) (pg : Nat) (mask : Word) (s : State) : Out :=
  okIf (present s.part pg) s <| s.headerWrite acc pg <|
    (s.set pg HDR.EV_PEND.V (s.fld pg HDR.EV_PEND.V - (s.fld pg HDR.EV_PEND.V &&& mask.toNat))).resignal pg

/-- EV_SET (R36, R461): every source named fires, in the order of the bits. -/
def execEvSet (acc : Accessor) (pg : Nat) (mask : Word) (s : State) : Out :=
  okIf (present s.part pg) s <| s.headerWrite acc pg <|
    ((List.range 32).filter fun b => bitOf (mask.toNat &&& State.evMask pg) b).foldl (fun (s : State) b => s.raise pg b 0) s

/-- EV_EN_WRITE (R36, R461). -/
def execEvEnWrite (acc : Accessor) (pg : Nat) (value : Word) (s : State) : Out :=
  okIf (present s.part pg) s (s.headerWrite acc pg ((s.set pg HDR.EV_EN.V (value.toNat &&& State.evMask pg)).resignal pg))

/-- EV_ROUTE_WRITE (R36, R461). -/
def execEvRouteWrite (acc : Accessor) (pg : Nat) (value : Word) (s : State) : Out :=
  let v := value.toNat
  let s1 := s.rwl acc pg (((((s.set pg HDR.EV_ROUTE.VECTOR (bitsOf v 14 8)).set pg HDR.EV_ROUTE.PIN (bitsOf v 3 3)).set
    pg HDR.EV_ROUTE.MGP (bitsOf v 2 2)).set pg HDR.EV_ROUTE.CPX (bitsOf v 1 1)).set pg HDR.EV_ROUTE.MSIX (bitsOf v 0 0))
  okIf (present s.part pg) s (s.headerWrite acc pg (s1.resignal pg))

/-- WIN_CFG_STORE (R39, R450): the settings are stored and the source's count cleared; under LOCK a PF1 or CPX write stores
SEL alone, with LOCKED_WRITE whatever it carries. -/
def execWinCfgStore (acc : Accessor) (pg : Nat) (value : Word) (s : State) : Out :=
  let v := value.toNat
  let s1 := s.set pg HDR.WIN_CFG.SEL (bitsOf v 4 0)
  okIf (present s.part pg) s <| s.headerWrite acc pg <|
    if s.io.locked pg && decide (acc ≠ .mgp) then s1.lockedWrite pg
    else s1.onIo fun i => i.setWin pg (bitsOf v 4 0) ⟨bitsOf v 31 20, bitsOf v 19 16, bitsOf v 15 8, []⟩

/-- WIN_CFG_SELECT (R39). -/
def execWinCfgSelect (acc : Accessor) (pg : Nat) (value : Word) (s : State) : Out :=
  okIf (present s.part pg) s (s.headerWrite acc pg (s.set pg HDR.WIN_CFG.SEL (bitsOf value.toNat 4 0)))

/-- ERR_INJ_ONESHOT (R39, R40). -/
def execErrInjOneshot (acc : Accessor) (pg src : Nat) (s : State) : Out :=
  okIf (present s.part pg) s (s.headerWrite acc pg ((s.set pg HDR.ERR_INJ.SRC (src % 32)).setB pg HDR.ERR_INJ.ONESHOT true))

/-- ERR_INJ_CONT (R39, R40). -/
def execErrInjCont (acc : Accessor) (pg src : Nat) (s : State) : Out :=
  okIf (present s.part pg) s (s.headerWrite acc pg ((s.set pg HDR.ERR_INJ.SRC (src % 32)).setB pg HDR.ERR_INJ.CONT true))

/-- WINDOW_LEAK (R450): W ÷ T ms have passed; each unit's non-zero count loses 1. -/
def execWindowLeak (pg src : Nat) (s : State) : Out :=
  okIf (present s.part pg && decide (src < 32)) s <| s.onIo fun i =>
    let w := i.win pg src
    i.setWin pg src { w with counts := (w.counts.map fun kv => (kv.1, kv.2 - 1)).filter fun kv => decide (kv.2 ≠ 0) }

/-- LASTING_ACTION (R451): while the source's WIN_LASTING bit is set. -/
def execLastingAction (pg src dest : Nat) (again : Bool) (s : State) : Out :=
  okIf (present s.part pg && decide (src < 32) && bitOf (s.fld pg HDR.WIN_LASTING.V) src) s (s.lastingAction pg src dest again)

end Sys2Proof.Machine
end

