-- ==== Sys2Proof/Machine/Calib.lean ====
section
/-! DEFINITION. The commands of energy assist (R215-R223) and of self-calibration (R224-R232). -/

namespace Sys2Proof.Machine

/-! ### Repeat and agree (R227) -/

/-- The distance of two results. -/
def dist (a b : Int) : Nat := (a - b).natAbs

/-- Two results agree within a share `n / d` of the earlier. -/
def within (n d : Nat) (a b : Int) : Bool := decide (dist a b * d ≤ n * a.natAbs)

/-- Every pair of a list, each with the earlier first, in the order of the earlier. -/
def pairs {α : Type} : List α → List (α × α)
  | [] => []
  | x :: xs => (xs.map fun y => (x, y)) ++ pairs xs

/-- The closest of some pairs; ties go to the earlier. -/
def closest {α : Type} (d : α → α → Nat) : List (α × α) → Option (α × α)
  | [] => none
  | p :: ps => match closest d ps with
    | none => some p
    | some q => if d p.1 p.2 ≤ d q.1 q.2 then some p else some q

/-- The closest agreeing pair among the first n results. -/
def agreeAt {α : Type} (ok : α → α → Bool) (d : α → α → Nat) (xs : List α) (n : Nat) : Option (α × α) :=
  closest d ((pairs (xs.take n)).filter fun p => ok p.1 p.2)

/-- The agreeing pair of up to four results: as soon as any pair agrees, the closest one. -/
def agree {α : Type} (ok : α → α → Bool) (d : α → α → Nat) (xs : List α) : Option (α × α) :=
  match agreeAt ok d xs 2 with
  | some p => some p
  | none => match agreeAt ok d xs 3 with
    | some p => some p
    | none => agreeAt ok d xs 4

/-- The mean of two results; the spec does not give its rounding. -/
def mean (p : Int × Int) : Int := Config.divFree (p.1 + p.2) 2

namespace State

/-! ### Temperatures and the thermal model (R215, R216) -/

/-- Send SENSOR_SEL on a link. -/
def sensorSel (s : State) (a id : Nat) : State := s.sendCmd a 9 id

/-- Switch an active link's sensor to the HDA's temperature and back. -/
def sampleLink (s : State) (a : Nat) : State :=
  if s.lkState a = 2 then
    (s.sensorSel a (s.fld 0x1C ASC.TEMP_ID.SENSOR)).sensorSel a (s.fld (pgAct a) ACT.SV_SHOCK.SENS_ID)
  else s

/-- One head's rise after a millisecond at duty d (R216). -/
def riseNext (gain tau last rise d : Nat) : Nat :=
  let rss : Int := ((d * last * gain) >>> 22 : Nat)
  (max 0 ((rise : Int) + Int.shiftRight (rss - rise) (min 15 tau))).toNat

/-- One head's tick. -/
def headTick (s : State) (k d : Nat) : State :=
  let m := Tab.get HeadModel.zero s.asc.models k
  let r := s.recAt k
  let l := (d :: m.duty).take 1000
  let m' : HeadModel := { m with
    rise := riseNext r.thGain r.tauSh m.last m.rise d
    duty := if l.all (fun x => x = 0) then [] else l }
  { s with asc := { s.asc with models := Tab.put HeadModel.zero s.asc.models k m' } }

/-! ### Checks and recalibration (R219-R223) -/

/-- A verify starts: QM_CTL is written with HEAD and CLEAR. -/
def startVerify (s : State) (a h : Nat) : State :=
  ((s.set (pgAct a) ACT.QM_CTL.HEAD h).set (pgAct a) ACT.QM_BITS.COUNT 0).set (pgAct a) ACT.QM_FLIPS.COUNT 0

/-- A head's check is due (R219, R231). -/
def checkDue (s : State) (a h : Nat) : Bool :=
  let r := s.headRec a h
  let n := s.fld 0x1C ASC.ASC_CFG.QC_TILES
  decide (n ≠ 0) && decide (r.tileCnt ≥ n) && !r.retired

/-- A check or a recalibration runs on the actuator. -/
def checkBusy (s : State) (a : Nat) : Bool :=
  (List.range 12).any fun h => (s.headWork a h).checking || (s.headWork a h).recal

/-- VERIFY_N, rounded down to a multiple of 4; below 64 acts as 64. -/
def verifyN (s : State) : Nat := max 64 (s.fld 0x1C ASC.ASC_CFG2.VERIFY_N / 4 * 4)

/-- The side of a verify outside the window: 1 low, 2 high, 0 within (R220). -/
def verifySide (s : State) (a h live : Nat) : Nat :=
  let f := s.fld (pgAct a) ACT.QM_FLIPS.COUNT
  let b := s.fld (pgAct a) ACT.QM_BITS.COUNT
  let hi := let x := s.fld 0x1C ASC.ASC_CFG.QM_HI; if x = 0 then 16 else x
  let lo := s.fld 0x1C ASC.ASC_CFG.QM_LO
  let ref := (s.headRec a h).qmRef
  if f * 2 ^ 32 * 16 > ref * hi * b ∨ live * 2 < s.verifyN then 2
  else if lo ≠ 0 ∧ f * 2 ^ 32 * 16 < ref * lo * b then 1
  else 0

/-- The HDA temperature of an actuator. -/
def tempOf (s : State) (a : Nat) : Int := Tab.get 0 s.asc.temps (slotOf a)

/-- A sweep starts: centred on the level of R214 at the head's present track. -/
def startSweep (s : State) (a h : Nat) (w : HeadWork) : State :=
  let r := s.headRec a h
  let track := s.fld (pgAct a) ACT.SV_SEEK.TRACK
  let base := baseLevel r track (s.tempOf a)
  let center := clampInt 0 4095 (rawLevel r track (s.tempOf a) (s.headModel a h).rise)
  (s.setHeadWork a h { w with checking := false, side := 0, recal := true, center := center, base := base }).showChecks

/-- The head's check ends. -/
def endCheck (s : State) (a h : Nat) : State :=
  ((s.setTileCnt a h 0).setHeadWork a h { s.headWork a h with checking := false, side := 0 }).showChecks

/-- SWEEP_PTS: 0 acts as 1. -/
def sweepPts (s : State) : Nat := max 1 (s.fld 0x1C ASC.ASC_CFG2.SWEEP_PTS)

/-- The values a sweep tries: levels, or write currents for a bridge without assist (R221), each within its field's width. -/
def sweepAt (s : State) (a h i : Nat) : Int :=
  let n : Int := s.sweepPts
  if s.fld (pgAct a) ACT.BR_CAP.ASSIST = 0 then clampInt 0 255 ((s.headRec a h).cur + ((i : Int) - n) * 8)
  else clampInt 0 4095 <| (s.headWork a h).center + ((i : Int) - n) * (max 1 (s.fld 0x1C ASC.ASC_CFG2.SWEEP_STEP) : Nat)

/-- The chosen point: the lowest whose Q is within the margin of the least (R222). -/
def chosenPoint (s : State) (qs : List Nat) : Option Nat :=
  let m := qs.foldl min (qs.getD 0 0)
  qs.findIdx? fun q => decide (q * 16 ≤ m * (16 + s.fld 0x1C ASC.ASC_CFG.MARGIN))

/-- The column whose temperature is nearest (the first of two equally near). -/
def nearestCol (r : HeadRec) (t : Int) : Nat :=
  (List.range 4).foldl (fun b i => if (16 * r.temp.getD i 0 - t).natAbs < (16 * r.temp.getD b 0 - t).natAbs then i else b) 0

/-- The level table with one column rewritten and the others moved by the same change (R222). -/
def fullTable (r : HeadRec) (col : Nat) (lv : List Nat) : List Nat :=
  (List.range 64).map fun i =>
    let u := i % 16
    if i / 16 = col then lv.getD u 0
    else (clampInt 0 4095 ((r.level.getD i 0 : Int) + lv.getD u 0 - r.level.getD (16 * col + u) 0)).toNat

/-- A recalibration ends, accepted: RECAL_DONE. -/
def acceptRecal (s : State) (a h : Nat) (r : HeadRec) (full : Bool) : State :=
  let s1 := ((s.setHeadRec a h r).setHeadWork a h { HeadWork.zero with fails := (s.headWork a h).fails }).showChecks
  let s2 := s1.bump 0x1C ASC.ASC_CNT_B.RECALS
  (if full then s2.bump 0x1C ASC.ASC_CNT_C.FULL_RECALS else s2).raise 0x1C 1 a

/-- A calibration is rejected (R227). -/
def disagree (s : State) : State := (s.bump 4 CAL.CAL_CNT.DISAGREE).raise 4 1 0

/-- A recalibration fails: the record stays; the third failure within 24 operating hours marks the head WEAK (R223), and a
failure on a WEAK head retires it (R455). -/
def failRecal (s : State) (a h : Nat) : State :=
  let now := s.io.hst.hours
  let w := s.headWork a h
  let fails := (w.fails ++ [now]).filter fun t => decide (now < t + 384)
  let s1 := ((((s.disagree).setHeadWork a h { HeadWork.zero with fails := fails }).showChecks).bump 0x1C ASC.ASC_CNT_B.RECAL_FAIL).raise 0x1C 2 a
  let r := s1.headRec a h
  if r.weak then s1.loseHead a h
  else if fails.length ≥ 3 then (s1.setHeadRec a h { r with weak := true }).raise 0x1C 5 a
  else s1

end State

open State (riseNext nearestCol fullTable)

/-- TEMP_SAMPLE (R215): the temperature of slot n's HDA, in 1/16 °C, read through each active link in turn. -/
def execTempSample (n : Nat) (t : Int) (s : State) : Out :=
  let s1 := (s.sampleLink (2 * n)).sampleLink (2 * n + 1)
  okIf (slotOk s.part n && (decide (s.lkState (2 * n) = 2) || decide (s.lkState (2 * n + 1) = 2))) s
    { s1 with asc := { s1.asc with temps := Tab.put 0 s1.asc.temps n t } }

/-- TEMP_STALE (R215): the last reading stays in use. -/
def execTempStale (n : Nat) (s : State) : Out := okIf (slotOk s.part n) s (s.raise 0x1C 7 n)

/-- HEAD_THERMAL_TICK (R216): `duty` gives D of each head (actuator * 12 + head) that wrote in the last millisecond. -/
def execHeadThermalTick (duty : List (Nat × Nat)) (s : State) : Out :=
  let keys := s.asc.models.map Prod.fst ++ (duty.map Prod.fst).filter fun k => !(s.asc.models.any fun kv => decide (kv.1 = k))
  okIf true s (keys.foldl (fun (s : State) k => s.headTick k (min 1024 (Tab.get 0 duty k))) s)

/-- QUALITY_CHECK (R219, R231): the check of the lowest head due on an actuator where none runs. -/
def execQualityCheck (a h : Nat) (s : State) : Out :=
  okIf (actOk s.part a && s.enabled 0x1C && decide (h < 12) && s.checkDue a h && !(List.range h).any (s.checkDue a) && !s.checkBusy a
      && decide (s.fld (pgAct a) ACT.SV_CTL.STATE = 2) && decide (s.lkState a = 2)) s
    (((s.startVerify a h).setHeadWork a h { s.headWork a h with checking := true, side := 0 }).bump 0x1C ASC.ASC_CNT_A.CHECKS).showChecks

/-- VERIFY_DONE (R220, R221): `live` of its bricks converged live. -/
def execVerifyDone (a h live : Nat) (s : State) : Out :=
  let w := s.headWork a h
  let side := s.verifySide a h live
  okIf (actOk s.part a && decide (h < 12) && w.checking) s
    (if side = 0 then s.endCheck a h
    else if w.side = 0 then (s.startVerify a h).setHeadWork a h { w with side := side }
    else if w.side ≠ side then s.endCheck a h
    else
      let s1 := ((s.endCheck a h).bump 0x1C ASC.ASC_CNT_A.DRIFTS).raise 0x1C 0 a
      if s1.enabled 0x1C then s1.startSweep a h (s1.headWork a h) else s1)

/-- RECALIBRATION_SWEEP_DONE (R222, R223): the Q of each point, the Q of the chosen point's repeats, the head's mean rise
and duty over the sweep, and, where a full recalibration takes the rewrite's place, the level found at each of the 16 radius
points. -/
def execRecalibrationSweepDone (a h : Nat) (qs reps : List Nat) (rise duty : Nat) (full : List Nat) (s : State) : Out :=
  let w := s.headWork a h
  let r := s.headRec a h
  match s.chosenPoint qs with
  | none => ok s
  | some i =>
    let q0 : Int := qs.getD i 0
    okIf (actOk s.part a && decide (h < 12) && w.recal && decide (qs.length = 2 * s.sweepPts + 1)) s
      (match agree (fun _ y => within 25 100 q0 y) dist (q0 :: reps.map Int.ofNat) with
      | none =>
        if w.sweeps = 0 then s.startSweep a h { w with sweeps := 1 } else s.failRecal a h
      | some p =>
        let r1 : HeadRec := { r with
          riseCal := rise
          dutyCal := duty
          tCal := s.tempOf a
          qmRef := (mean p).toNat
          hours := s.io.hst.hours
          kind := 2 }
        if s.fld (pgAct a) ACT.BR_CAP.ASSIST = 0 then
          s.acceptRecal a h { r1 with cur := (s.sweepAt a h i).toNat } false
        else
          let ofs := s.sweepAt a h i - w.base
          if ofs.natAbs > 8 * s.fld 0x1C ASC.ASC_CFG2.OFS_MAX then
            (s.raise 0x1C 3 a).acceptRecal a h
              { r1 with level := fullTable r (nearestCol r (s.tempOf a)) full, ofs := 0, kind := 3 } true
          else s.acceptRecal a h { r1 with ofs := ofs } false)

/-- BIAS_TABLE_MEASURE (R218, R227): the averages taken at each table entry whose track lies on the actuator, in order;
entries beyond the last copy it. -/
def execBiasTableMeasure (a : Nat) (avgs : List (List Int)) (s : State) : Out :=
  let put := fun (s : State) (i : Nat) (v : Int) => { s with servo := { s.servo with bias := Tab.put 0#32 s.servo.bias (a * 1024 + i) (BitVec.ofInt 32 v) } }
  let ok2 := fun (x y : Int) => within 1 64 x y || decide (dist x y ≤ 256)
  let s1 := avgs.zipIdx.foldl (fun (s : State) (x : List Int × Nat) =>
    match agree ok2 dist x.1 with
    | some p => put s x.2 ((s.biasWord a x.2).toInt + mean p)
    | none => s.disagree) s
  let last := (s1.biasWord a (avgs.length - 1)).toInt
  let s2 := (List.range (1024 - avgs.length)).foldl (fun (s : State) j => put s (avgs.length + j) last) s1
  okIf (actOk s.part a && s.inFollow a && decide (0 < avgs.length ∧ avgs.length ≤ 1024)) s
    { s2 with asc := { s2.asc with biasDone := s2.asc.biasDone.filter (fun x => decide (x ≠ a)) ++ [a] } }

/-! ### On the die (R224-R228) -/

/-- What an element's calibration gave: its gain or trim, and its offset (0 where it has none). -/
abbrev Trim := Int × Int

/-- The agreeing results of an element: the first component within a share 1/d, the second within 2. -/
def agreeTrim (d : Nat) (xs : List Trim) : Option Trim :=
  (agree (fun x y => within 1 d x.1 y.1 && decide (dist x.2 y.2 ≤ 2)) (fun x y => dist x.1 y.1 + dist x.2 y.2) xs).map fun p =>
    (mean (p.1.1, p.2.1), mean (p.1.2, p.2.2))

/-- The trim lies in a range centred on c with half-width n; `inner` asks for its inner three quarters. -/
def inRange (inner : Bool) (c n v : Int) : Bool :=
  let k := if inner then n - n / 4 else n
  decide (c - k ≤ v) && decide (v < c + k)

/-- The sense converter's trim lies in its range: gain of 10 bits, offset of 8 (R226). -/
def adcIn (inner : Bool) (t : Trim) : Bool := inRange inner 512 512 t.1 && inRange inner 0 128 t.2

/-- The oscillator's trim of 8 bits. -/
def oscIn (inner : Bool) (t : Trim) : Bool := inRange inner 128 128 t.1

/-- The element to use (R228): the first whose trim lies in the inner range, from the one in use on; else the one nearest
the centre within the full range, degraded; none: every element fails. -/
def pickElement (ok : Bool → Trim → Bool) (far : Trim → Nat) (found : List (Nat × Trim)) : Option (Nat × Trim × Bool) :=
  match found.find? fun x => ok true x.2 with
  | some x => some (x.1, x.2, false)
  | none =>
    (found.filter fun x => ok false x.2).foldl (fun (b : Option (Nat × Trim × Bool)) x =>
      match b with
      | some y => if far x.2 < far y.2.1 then some (x.1, x.2, true) else some y
      | none => some (x.1, x.2, true)) none

/-- Elements from the one in use on, in index order. -/
def fromElement (sel : Nat) (xs : List (Nat × Trim)) : List (Nat × Trim) :=
  (xs.filter fun x => decide (sel ≤ x.1)) ++ xs.filter fun x => decide (x.1 < sel)

/-- How far a converter's trim is from the centre. -/
def adcFar (t : Trim) : Nat := max (t.1 - 512).natAbs (4 * t.2.natAbs)

/-- How far an oscillator's trim is from the centre. -/
def oscFar (t : Trim) : Nat := (t.1 - 128).natAbs

namespace State

/-- CAL_VREF (R224): valid within 1.2250-1.2750 V and where its results agree. -/
def calVref (s : State) (xs : List Int) : State :=
  match agree (within 1 2000) dist xs with
  | some p =>
    let v := (mean p).toNat
    let good := decide (12250 ≤ v ∧ v ≤ 12750)
    let s1 := (s.set 4 CAL.VREF_MEAS.VREF v).setB 4 CAL.CAL_STAT.VREF_VALID good
    if good then s1 else s1.raise 4 2 0
  | none => (s.disagree.setB 4 CAL.CAL_STAT.VREF_VALID false).raise 4 2 0

/-- Show the converter's trim. -/
def setAdc (s : State) (sel : Nat) (t : Trim) : State :=
  ((s.set 4 CAL.CAL_STAT.ADC_SEL sel).set 4 CAL.ADC_TRIM.GAIN (clampInt 0 1023 t.1).toNat).set 4 CAL.ADC_TRIM.OFFSET
    (unsigned 8 (clampInt (-128) 127 t.2))

/-- Show the oscillator's trim. -/
def setOsc (s : State) (sel : Nat) (t : Trim) : State :=
  (s.set 4 CAL.CAL_STAT.OSC_SEL sel).set 4 CAL.OSC_TRIM.TRIM (clampInt 0 255 t.1).toNat

/-- One item's agreeing results by element; each element that does not agree is rejected. -/
def agreed (s : State) (d : Nat) (xs : List (List Trim)) : List (Nat × Trim) × State :=
  xs.zipIdx.foldl (fun (r : List (Nat × Trim) × State) (x : List Trim × Nat) =>
    match agreeTrim d x.1 with
    | some t => (r.1 ++ [(x.2, t)], r.2)
    | none => (r.1, r.2.disagree)) ([], s)

/-- The start's calibration of an item with redundant elements (R228). -/
def calStart (s : State) (d sel : Nat) (ok : Bool → Trim → Bool) (far : Trim → Nat) (set : State → Nat → Trim → State)
    (deg : RF) (fails : State → State) (xs : List (List Trim)) : State :=
  let r := s.agreed d xs
  if r.1.isEmpty then r.2
  else match pickElement ok far (fromElement sel r.1) with
    | some x =>
      let s1 := (set r.2 x.1 x.2.1).setB 4 deg x.2.2
      if x.2.2 then s1.raise 4 7 x.1 else s1
    | none => fails r.2

/-- A calibration in service: the element in use is trimmed; reaching the edge of the inner range raises TRIM_EDGE. -/
def calService (s : State) (d sel : Nat) (ok : Bool → Trim → Bool) (was : Trim) (set : State → Nat → Trim → State)
    (xs : List (List Trim)) : State :=
  match agreeTrim d (xs.getD sel []) with
  | some t =>
    let s1 := set s sel t
    if ok true was && !ok true t then s1.raise 4 6 sel else s1
  | none => s.disagree

/-- The converter's present trim. -/
def adcTrim (s : State) : Trim := (s.fld 4 CAL.ADC_TRIM.GAIN, signed 8 (s.fld 4 CAL.ADC_TRIM.OFFSET))

/-- The oscillator's present trim. -/
def oscTrim (s : State) : Trim := (s.fld 4 CAL.OSC_TRIM.TRIM, 0)

/-- The on-die calibrations: CAL_VREF, the sense converter, the oscillator (R224, R226, R228). -/
def refCal (s : State) (start : Bool) (vref : List Int) (adc osc : List (List Trim)) : State :=
  let s1 := s.calVref vref
  let asel := s1.fld 4 CAL.CAL_STAT.ADC_SEL
  let osel := s1.fld 4 CAL.CAL_STAT.OSC_SEL
  let s2 := if start then
      s1.calStart 2000 asel adcIn adcFar setAdc CAL.CAL_STAT.ADC_DEGRADED (fun x => x.setB 4 CAL.CAL_STAT.ADC_FAILED true) (adc.take 2)
    else s1.calService 2000 asel adcIn s1.adcTrim setAdc (adc.take 2)
  let s3 := if start then s2.calStart 500 osel oscIn oscFar setOsc CAL.CAL_STAT.OSC_DEGRADED id (osc.take 3)
    else s2.calService 500 osel oscIn s2.oscTrim setOsc (osc.take 3)
  s3.raise 4 0 0

/-- The crystal's error against CAL_FREF, in 1/16 ppm (R225). -/
def frefCal (s : State) (present_ : Bool) (ppm : List Int) : State :=
  let s1 := if s.flag 4 CAL.CAL_STAT.FREF_PRESENT = present_ then s
    else (s.setB 4 CAL.CAL_STAT.FREF_PRESENT present_).raise 4 3 0
  if present_ then
    match agree (fun x y => decide (dist x y ≤ 8)) dist ppm with
    | some p => s1.set 4 CAL.XTAL_PPM.PPM (unsigned 16 (mean p))
    | none => s1.disagree
  else s1.set 4 CAL.XTAL_PPM.PPM 0

/-- Change ASC's state. -/
def onAsc (s : State) (f : AscSt → AscSt) : State := { s with asc := f s.asc }

/-- The conditions of a hold-up measurement (R229): V_DET is in 0.1 V, VHOLD in 10 mV. -/
def huOk (s : State) : Bool :=
  s.flag 4 CAL.CAL_STAT.VREF_VALID && !s.flag 4 CAL.CAL_STAT.ADC_FAILED &&
    decide (s.fld 2 PWC.VIN_MEAS.VHOLD ≥ 10 * s.fld 2 PWC.PWC_CFG.V_DET + 300)

/-- The usable energy in mJ of a capacitance in nF (R230). -/
def huEnergy (s : State) (c : Nat) : Nat :=
  let v := s.fld 2 PWC.PWC_CFG.V_DET
  c * (v * v - 300 * 300) / 200000000

/-- The hold-up pair agrees: C, ESR, HU_E, HU_VALID; the ceiling follows (R229, R230, R340). -/
def huAccept (s : State) (p : (Nat × Nat × Bool) × (Nat × Nat × Bool)) : State :=
  let c := (mean (p.1.1, p.2.1)).toNat
  let esr := (mean (p.1.2.1, p.2.2.1)).toNat
  let s1 := ((s.set 4 CAL.HU_C.C (min ((c + 500) / 1000) 0xFFFFFF)).set 4 CAL.HU_E.E (min (s.huEnergy c) 0xFFFFFF)).set
    4 CAL.HU_ESR.ESR (min esr 0xFFFF)
  let s2 := ((s1.setB 4 CAL.CAL_STAT.HU_VALID true).setB 4 CAL.CAL_STAT.HU_LOWER (p.1.2.2 || p.2.2.2)).set 4 CAL.HU_AGE.HOURS 0
  ((s2.onAsc fun x => { x with huDue := false, huRuns := [], huAt := s.io.hst.hours }).raise 4 4 0).syncCache

end State

/-- REFERENCE_CALIBRATION (R224-R228): at a start or in service, with the results of CAL_VREF (0.1 mV), of each converter
and of each oscillator. -/
def execReferenceCalibration (start : Bool) (vref : List Int) (adc osc : List (List (Int × Int))) (s : State) : Out :=
  okIf true s (s.refCal start vref adc osc)

/-- REF_GO (R232): the on-die calibrations now, the crystal's frequency among them. -/
def execRefGo (_ : Accessor) (vref : List Int) (adc osc : List (List (Int × Int))) (fref : Bool) (ppm : List Int) (s : State) : Out :=
  okIf true s ((s.frefCal fref ppm).refCal false vref adc osc)

/-- FREF_MEASURE (R225). -/
def execFrefMeasure (fref : Bool) (ppm : List Int) (s : State) : Out := okIf true s (s.frefCal fref ppm)

/-- HU_GO (R232): a measurement is due; it starts when its conditions hold. -/
def execHuGo (_ : Accessor) (s : State) : Out := okIf true s (s.onAsc fun x => { x with huDue := true })

/-- A measurement is due: at a start, on request, or HU_PERIOD hours after the last valid one (R229). -/
def State.huWanted (s : State) : Bool :=
  let p := s.fld 4 CAL.CAL_CTL.HU_PERIOD
  s.asc.huDue || (decide (p ≠ 0) && decide (s.io.hst.hours ≥ s.asc.huAt + 16 * p))

/-- HOLDUP_MEASUREMENT_START (R229): the FET opens. -/
def execHoldupMeasurementStart (s : State) : Out :=
  okIf (s.huWanted && s.huOk && !s.flag 4 CAL.CAL_STAT.HU_BUSY && decide (s.pwr.phase = .run)) s
    ({ s with pwr := { s.pwr with fet := false } }.setB 4 CAL.CAL_STAT.HU_BUSY true)

/-- HOLDUP_MEASUREMENT_END (R229, R230): the energy drawn in µJ, VHOLD before and at closing in mV, the ESR in mΩ. `late`:
it ended at 20 ms. -/
def execHoldupMeasurementEnd (drawn v1 v2 esr : Nat) (late : Bool) (s : State) : Out :=
  let lower := late && decide (v1 < v2 + 500)
  let vEnd := if lower then v1 - 500 else v2
  let c := 2000000000 * drawn / (v1 * v1 - vEnd * vEnd)
  let runs := s.asc.huRuns ++ [(c, esr, lower)]
  let s1 := ({ s with pwr := { s.pwr with fet := true } }.setB 4 CAL.CAL_STAT.HU_BUSY false).bump 4 CAL.CAL_CNT.HU_RUNS
  okIf (s.flag 4 CAL.CAL_STAT.HU_BUSY && decide (vEnd < v1)) s
    (match agree (fun x y => within 3 100 x.1 y.1) (fun x y => dist x.1 y.1) runs with
    | some p => s1.huAccept p
    | none =>
      if runs.length < 4 then s1.onAsc fun x => { x with huRuns := runs }
      else (s1.onAsc fun x => { x with huDue := false, huRuns := [] }).disagree)

/-- HU_AGE_EXPIRY (R230): HU_AGE has reached twice HU_PERIOD. -/
def execHuAgeExpiry (s : State) : Out :=
  let p := s.fld 4 CAL.CAL_CTL.HU_PERIOD
  okIf (s.flag 4 CAL.CAL_STAT.HU_VALID && decide (p ≠ 0) && decide (s.fld 4 CAL.HU_AGE.HOURS ≥ 2 * p)) s
    (((s.setB 4 CAL.CAL_STAT.HU_VALID false).set 4 CAL.HU_E.E 0).raise 4 5 0).syncCache

end Sys2Proof.Machine
end

