-- ==== Sys2Proof/Machine/FaultOps.lean ====
section
/-! DEFINITION. The operations of processor faults and of the key slots' reload (R388, R451-R454). -/

namespace Sys2Proof.Machine.State

/-- MGP loads the domain blobs (R388): a domain whose blob has a good copy on neither device (`bad`) is UNAVAILABLE, with
KEY_UNAVAILABLE; the slots of the others hold their keys again, and one that was UNAVAILABLE is in use again. -/
def loadBlobs (s : State) (bad : List Nat) : State :=
  let s1 := (s.domainsIn [1, 2, 3]).foldl (fun (s : State) d =>
    let b := match Tab.find? s.nor.blobs d with | some b => some b | none => Tab.find? s.nor.blobs (1024 + d)
    match (if bad.contains d then none else b) with
    | some b =>
      let s1 := s.setSlot d b.keys
      if s.domSt d = 3 then s1.set (pgDom d) SEC.DOM_STAT.STATE (if s.mason.rekeying.any fun kv => decide (kv.1 = d) then 2 else 1) else s1
    | none => ((s.set (pgDom d) SEC.DOM_STAT.STATE 3).setSlot d Keys.zero).raise 9 0 d) s
  s1.onSys fun x => { x with keysGone := false }

/-- Escalation (R454): the surviving set runs the emergency flush, or FAULT# is asserted where none survives. -/
def escalate (s : State) (set : Nat) (ps : List BrickPlace) (dur vend : Nat) : State :=
  if s.sys.cpxDown && s.sys.mgpDown then s.faultHold
  else (s.raise 0x1D 3 set).requestReset 3 ps dur vend

/-- A restart of a processor set begins (0 CPX, 1 MGP): counted; it escalates where it is the third in 10 min (`recent` of
them before it) or the other set is restarting (R454). -/
def restart (s : State) (set recent : Nat) (ps : List BrickPlace) (dur vend : Nat) : State :=
  let n := Tab.get 0 s.sys.restarts set
  let s1 := (s.bump 0x1D CPX.CPX_CNT.RESTARTS).onSys fun x => { x with restarts := Tab.put 0 x.restarts set (n + 1) }
  if (s1.sys.cpxDown && s1.sys.mgpDown) || decide (min recent n ≥ 2) then s1.escalate set ps dur vend else s1

/-- Every command in flight is treated as a controller reset treats it, and none completes (R290, R452). -/
def dropFlights (s : State) : State :=
  let s1 := s.nvme.flights.foldl (fun (s : State) f => (s.applyFetched f).endStore f) s
  ((s1.setFlights []).settle).showWaiting

/-- A CPX fault (R452): fetching stops, CSTS.CFS reads 1 on every controller, and CPX restarts. -/
def cpxFault (s : State) (core cause recent : Nat) (ps : List BrickPlace) (dur vend : Nat) : State :=
  let s1 := (s.set 0x1D CPX.CPX_MCA.CORE core).set 0x1D CPX.CPX_MCA.CAUSE cause
  let s2 := if cause ≤ 2 then (s1.bump 0x1D CPX.CPX_CNT.MCHK).raise 0x1D 0 core else s1
  let s3 := (s2.dropFlights).onSys fun x =>
    { x with cpxDown := true, cfs := (s2.nvme.ctrls.filter fun kv => kv.2.en).map Prod.fst }
  let s4 := (((s3.setB 0x1D CPX.CPX_STAT.RESTARTING true).set 0x1D CPX.CPX_STAT.CORES 0).setB 0x1D CPX.CPX_STAT.CFS true).raise 0x1D 1 core
  ((s4.set 0xE WDG.WDG_STAT.CPX_ARMED 0).set 0xE WDG.WDG_STAT.CPX_LEFT 0).restart 0 recent ps dur vend

/-- Every message in progress in the cipher engines ends with KEY_MISS, and the contexts saved are wiped (R453). -/
def dropMessages (s : State) : State :=
  s.sec.engines.foldl (fun (s : State) (kv : Nat × Engine) =>
    (List.range (kv.2.suspended.length + b2n kv.2.running.isSome)).foldl (fun s _ => s.keyMiss kv.1)
      (s.setEngine kv.1 { kv.2 with running := none, suspended := [] })) s

/-- An MGP fault (R453): its SRAM, the key slots and the saved contexts are wiped, and MGP restarts. -/
def mgpFault (s : State) (mchk : Bool) (recent : Nat) (ps : List BrickPlace) (dur vend : Nat) : State :=
  let s1 := if mchk then s.bump 0x1D CPX.CPX_CNT.MCHK else s
  let s2 := ((s1.dropMessages).onSec fun x => { x with slots := [] }).onSys fun x => { x with mgpDown := true, keysGone := true }
  ((s2.setB 0xE WDG.WDG_STAT.MGP_ARMED false).set 0xE WDG.WDG_STAT.MGP_LEFT 0).restart 1 recent ps dur vend

/-- The places given to a flush that a fault may need are enough. -/
def faultFits (s : State) (ps : List BrickPlace) : Bool := !s.flag 0 DEV.BOOT_STAT.DONE || s.dropFlights.shutFits ps

end Sys2Proof.Machine.State
end

