-- ==== Sys2Proof/Machine/Faults.lean ====
section
/-! DEFINITION. The commands of processor faults, of cluster loss by a clock, and of what NOR keeps of both (R442, R445,
R452-R459). -/

namespace Sys2Proof.Machine

/-- CPX_FAULT (R452, R454): `cause` as CPX_MCA.CAUSE codes it; `recent` restarts of CPX lie in the last 10 min. A flush that it
may escalate to takes its places and measures from the command. -/
def execCpxFault (core cause recent : Nat) (places : List BrickPlace) (dur vend : Nat) (s : State) : Out :=
  okIf (decide (core < 8) && decide (1 ≤ cause ∧ cause ≤ 4) && !s.sys.cpxDown && s.faultFits places) s
    (s.cpxFault core cause recent places dur vend)

/-- MGP_FAULT (R453, R454): a machine check (`mchk`), or the watchdog's expiry. -/
def execMgpFault (mchk : Bool) (recent : Nat) (places : List BrickPlace) (dur vend : Nat) (s : State) : Out :=
  okIf (!s.sys.mgpDown && s.faultFits places) s (s.mgpFault mchk recent places dur vend)

/-- PROCESSOR_RESTART_DONE (R452-R454): set 0 CPX, 1 MGP, after `ms`; MGP reloads the domain blobs, of which `bad` have no good
copy. -/
def execProcessorRestartDone (set ms : Nat) (bad : List Nat) (s : State) : Out :=
  let shown := fun (s : State) => (s.set 0x1D CPX.RESTART_T.LAST_MS (min 0xFFFF ms)).raise 0x1D 2 set
  okIf (decide (set < 2) && (if set = 0 then s.sys.cpxDown else s.sys.mgpDown)) s <|
    if set = 0 then
      let s1 := (s.onSys fun x => { x with cpxDown := false }).setB 0x1D CPX.CPX_STAT.RESTARTING false
      shown (((s1.set 0x1D CPX.CPX_STAT.CORES 0xFF).set 0xE WDG.WDG_STAT.CPX_ARMED 0xFF).set 0xE WDG.WDG_STAT.CPX_LEFT
        (max 1 (s.fld 0xE WDG.WDG_CFG.CPX_TO)))
    else
      let s1 := (s.onSys fun x => { x with mgpDown := false }).loadBlobs bad
      shown ((s1.setB 0xE WDG.WDG_STAT.MGP_ARMED true).set 0xE WDG.WDG_STAT.MGP_LEFT (max 1 (s.fld 0xE WDG.WDG_CFG.MGP_TO)))

/-- RESTART_TIMEOUT (R454): a restart is not done in 2 s. -/
def execRestartTimeout (set : Nat) (places : List BrickPlace) (dur vend : Nat) (s : State) : Out :=
  okIf (decide (set < 2) && (if set = 0 then s.sys.cpxDown else s.sys.mgpDown) && s.resetFits places) s (s.escalate set places dur vend)

/-- CLOCK_UNLOCK_LOSS (R456): the KLK clock of a cluster, or its ACC clock, has been unlocked for more than 10 ms; the
cluster's retry jobs and XTS work go to cluster `dest`. -/
def execClockUnlockLoss (c : Nat) (acc : Bool) (dest : Nat) (s : State) : Out :=
  let bit := if acc then 16 + c else 8 + c
  okIf (clOk s.part c && clOk s.part dest && decide (dest ≠ c) && !s.sys.lostClusters.contains c && !s.pwr.asleep.contains (domOfCl c)) s
    (((s.set 1 CLKG.CLK_LOCK.LOCK (bitClear (s.fld 1 CLKG.CLK_LOCK.LOCK) bit)).raise 1 2 bit).loseCluster c dest)

/-- REC_STAT_CLEAR (R442, R459): each 1 clears its bit in the register and in NOR. -/
def execRecStatClear (acc : Accessor) (mask : Nat) (s : State) : Out :=
  let cut := fun (v w : Nat) => v - (v &&& w)
  let s1 := s.onNor fun x => { x with recStat := cut x.recStat mask }
  let s2 := s1.set 0x1D CPX.REC_STAT.COND (cut (s.fld 0x1D CPX.REC_STAT.COND) (mask % 32))
  let s3 := if bitOf mask 5 then s2.setB 0x1D CPX.REC_STAT.DIRTY_LOST false else s2
  okIf true s (if acc.isPf1 && decide (s.lifeCycle ≥ 2) then s.lockedWrite 0x1D
    else if bitOf mask 6 then s3.setB 0x1D CPX.REC_STAT.FAULT_HOLD false else s3)

/-- DIRTY_NS_CLEAR (R445): the namespace has held no dirty data for 10 s. -/
def execDirtyNsClear (nsid : Nat) (s : State) : Out :=
  let clean := (s.buf.lines.all fun kv => decide (kv.2.nsid ≠ nsid) || decide (kv.2.dirty = 0)) && s.mason.bricks.all fun b => decide (b.nsid ≠ nsid)
  okIf (s.nor.dirtyNs.contains nsid && clean) s (s.onNor fun x => { x with dirtyNs := x.dirtyNs.filter fun n => decide (n ≠ nsid) })

end Sys2Proof.Machine
end

