-- ==== Sys2Proof/Machine/Media.lean ====
section
/-! DEFINITION. The meanings of the media commands: acceptance of an HDA (R74, R105, R236), the life of a tile (R98-R104)
and the system tiles (R105). -/

namespace Sys2Proof.Machine

open State (tileAct tileNum)

/-- A format descriptor whose every value lies in its range, with SPARE of at least 512 in every zone (R96, R106). -/
def formatOk (f : Format) : Bool :=
  decide (f.version = 1) && decide (360 ≤ f.wedges ∧ f.wedges ≤ 720) && decide (5400 ≤ f.rpm ∧ f.rpm ≤ 7200)
    && decide (300000 ≤ f.bitFs ∧ f.bitFs ≤ 2000000) && decide (1 ≤ f.heads ∧ f.heads ≤ 12) && decide (1 ≤ f.guard ∧ f.guard ≤ 8)
    && decide (3 ≤ f.tiles ∧ f.tiles ≤ 2 ^ 24 - 1) && decide (1 ≤ f.zones.length ∧ f.zones.length ≤ 32)
    && decide (f.factory ≤ 32768)
    && f.zones.all fun z => decide (2000 ≤ z.rate ∧ z.rate ≤ 4400) && decide (z.tpt * z.spt ≥ 65538 + 512)

/-- What a write-pointer scan knows (R104): the slot after the last brick found, the undecodable run since, voids, and
the bricks found with their slots. -/
structure ScanSt where
  ptr : Nat
  run : List Nat
  voids : List Nat
  found : List (Nat × Nat)
  stopped : Bool
  deriving DecidableEq, Repr

/-- One usable slot of the scan: one of the tile's generation extends it and makes the undecodable slots before it void;
another generation, or the eighth slot in a row that does not decode, stops it. Of two slots with one brick the
earlier is void (R102). -/
def scanSlot (gen : Nat) (st : ScanSt) (x : Scanned) : ScanSt :=
  if st.stopped then st
  else match x.found with
    | none => { st with run := st.run ++ [x.slot], stopped := decide (st.run.length + 1 ≥ 8) }
    | some (g, b) =>
      if g ≠ gen then { st with stopped := true }
      else
        let dup := (st.found.filter fun sb => decide (sb.2 = b)).map (·.1)
        { st with
          ptr := x.slot + 1, run := [], voids := st.voids ++ st.run ++ dup
          found := (st.found.filter fun sb => decide (sb.2 ≠ b)) ++ [(x.slot, b)] }

namespace State

/-- An actuator's system tiles have been read: its format, defects and calibration store are taken and loaded (R217), or it is refused with FORMAT_INVALID and
its heads are unloaded (R74, R105). -/
def takeFormat (s : State) (a : Nat) (f : Option Format) (d : List Defect) (cal : List (Nat × Nat)) : State :=
  match f with
  | some f =>
    if formatOk f then { s with media := { s.media with
      fmts := Tab.put Format.zero s.media.fmts a f
      defects := Tab.put [] s.media.defects a d
      sys := [0, 1].foldl (fun m i => Tab.upd SysTile.zero m (2 * a + i) fun t => { t with
        fmt := some f
        grown := d.filter (fun x => decide (x.origin ≠ 1))
        cal := cal
        ok := true }) s.media.sys } } |>.loadCal a
    else (s.raise (pgKlc (clOf a)) 19 a).unloadLoaded a
  | none => (s.raise (pgKlc (clOf a)) 19 a).unloadLoaded a

/-- The descriptor read is valid. -/
def offered (f : Option Format) : Bool := f.any formatOk

/-- The slot's HDA, by either side's BR_SERIAL (R80). -/
def hdaSerial (s : State) (n : Nat) : Nat :=
  let x := s.fld (pgAct (2 * n)) ACT.BR_SERIAL.V
  if x = 0 then s.fld (pgAct (2 * n + 1)) ACT.BR_SERIAL.V else x

/-- Both actuators of a slot are taken back (R263). -/
def slotBack (s : State) (n : Nat) : State := (s.takeBack (2 * n)).takeBack (2 * n + 1)

/-- System tile `i` of an actuator (R105). -/
def sysTile (s : State) (a i : Nat) : SysTile := Tab.get SysTile.zero s.media.sys (2 * a + i)

/-- A system tile is rewritten with the descriptor, the grown defect list and the calibration in use. -/
def writeSys (s : State) (a i : Nat) (ok : Bool) : State :=
  let t := s.sysTile a i
  let f := s.fmt a
  let t' := { t with
    fmt := if f = Format.zero then t.fmt else some f
    grown := (s.defects a).filter (fun d => decide (d.origin ≠ 1))
    cal := s.calNow a
    seq := t.seq + 1
    ok := ok }
  { s with media := { s.media with sys := Tab.put SysTile.zero s.media.sys (2 * a + i) t' } }

end State

/-- HDA_ACCEPTANCE (R74, R235, R236, R263). -/
def execHdaAcceptance (n : Nat) (fa fb : Option Format) (da db : List Defect) (ca cb : List (Nat × Nat)) (s : State) : Out :=
  let st := s.slotSt n
  okIf (slotOk s.part n && s.bridgeHere n && s.inPool n && decide (st = 0 ∨ st = 2)) s <|
    let s1 := (s.takeFormat (2 * n) fa da ca).takeFormat (2 * n + 1) fb db cb
    if !(State.offered fa || State.offered fb) then s1
    else
      let ser := s1.hdaSerial n
      let same := decide (Tab.find? s1.mason.serials n = some ser)
      if st = 2 then
        if same then (((s1.slotBack n).toSlot n 1).raise 0x18 1 n).tryExclude n
        else s1.onMason fun m => { m with newWaits := m.newWaits.filter (fun x => decide (x ≠ n)) ++ [n] }
      else if same then (((s1.slotBack n).toSlot n 1)).tryExclude n
      else
        let s2 := (if (Tab.find? s1.mason.serials n).isSome ∨ Tab.get 0 s1.mason.genBase n ≠ 0 then s1.renewTiles n true else s1).onMason fun m => { m with
          serials := Tab.put 0 m.serials n ser, lostActs := m.lostActs.filter fun a => decide (slotOf a ≠ n) }
        (s2.toSlot n 1).tryExclude n

/-- TILE_RESET (R98, R99, R391). -/
def execTileReset (id : Nat) (s : State) : Out := okIf (decide (tileNum id ≥ 2) && actOk s.part (tileAct id)) s (s.resetTile id)

/-- TILE_FIRST_WRITE_ARM (R99): no read admitted against an older generation is left. -/
def execTileFirstWriteArm (id : Nat) (s : State) : Out :=
  okIf ((s.tile id).held && !s.tileRead id) s (s.putTile id { s.tile id with held := false })

/-- TILE_CLOSE (R98, R100, R103): the footer is written; a short tile closes its course early; the head's count goes on
(R219). -/
def execTileClose (id reason : Nat) (s : State) : Out :=
  let t := s.tile id
  okIf (decide (t.st = 1) && decide (1 ≤ reason ∧ reason ≤ 3)) s <|
    let s1 := s.setTile id { t with st := 2, short := decide (reason = 3) }
    let s2 := s1.setTileCnt (tileAct id) t.head (satAdd 16 (s1.headRec (tileAct id) t.head).tileCnt 1)
    if reason ≠ 1 ∧ t.course ≠ noRef ∧ (s2.course t.course).st = 1 then s2.closeCourse t.course else s2

/-- WRITE_POINTER_SCAN (R102, R104). -/
def execWritePointerScan (id : Nat) (found : List Scanned) (s : State) : Out :=
  let t := s.tile id
  okIf (decide (t.st = 1)) s <|
    let r := found.foldl (scanSlot t.gen) ⟨t.writePtr, [], [], [], false⟩
    let s1 := r.voids.foldl (fun s v => s.recordVoid id v) s
    let t1 := s1.tile id
    s1.setTile id { t1 with writePtr := r.ptr, bricks := r.found.foldl (fun m sb => max m (sb.2 + 1)) t1.bricks }

/-- SYSTEM_TILE_UPDATE (R105): tile 1 is updated only after tile 0 has been read back. -/
def execSystemTileUpdate (a : Nat) (readBackOk : Bool) (s : State) : Out :=
  okIf (actOk s.part a) s (if readBackOk then (s.writeSys a 0 true).writeSys a 1 true else s.writeSys a 0 false)

end Sys2Proof.Machine
end

