-- ==== Sys2Proof/Machine/NvmeIo.lean ====
section
/-! DEFINITION. The I/O commands of the NVM, Zoned Namespace and Key Value command sets (R284-R289, R298-R300, R441-R448). -/

namespace Sys2Proof.Machine

namespace State

/-- Every namespace (R285). -/
def allNs : Nat := 0xFFFFFFFF

/-- A namespace whose domain is UNAVAILABLE gives Access Denied (R389). -/
def domStatus (s : State) (nsid : Nat) : Option Sc := chk (decide (s.domSt (s.nsOf nsid).kdom = 3)) .accessDenied

/-- A range beyond the namespace (R285). -/
def lbaStatus (s : State) (nsid slba n : Nat) : Option Sc := chk (decide (slba + n > (s.nsOf nsid).nsze)) .lbaRange

/-- A transfer above 4 MiB (R285). -/
def sizeStatus (n : Nat) : Option Sc := chk (decide (n * 4096 > 4194304)) .invalidField

/-- A write's checks against its pool and its zone. -/
def roomStatus (s : State) (nsid slba n : Nat) (append : Bool) : Option Sc :=
  firstOf [if (s.nsOf nsid).set = 2 then s.zoneWriteStatus nsid slba n append else none,
    chk (decide (n > s.remaining (s.nsOf nsid).pool)) .capacityExceeded]

/-- A command whose fetched data has reached its end or not: it is in flight already. -/
def continues (s : State) (c : Cmd) (k : FlightKind) : Option Flight :=
  (s.flightOf c).filter fun f => decide (f.kind = k) && decide (f.got + f.part.length < f.total)

/-- A zoned namespace's write pointer follows an accepted write. -/
def zoneAccepts (s : State) (nsid slba n : Nat) : State :=
  if (s.nsOf nsid).set = 2 then s.zoneWritten nsid (slba / zoneSize) n else s

end State

open State (allNs firstOf chk dptrStatus sizeStatus zoneSize)

/-- FLUSH (R288): fetched, and started from that moment; it covers what was written before. -/
def execFlush (c : Cmd) (nsid : Nat) (s : State) : Out :=
  s.ioCmdAny false c (fun s => if nsid = allNs then s.sanitizeStatus else s.ioStatus c nsid [0, 1, 2]) fun s =>
    (s.setFlights (s.nvme.flights ++ [{ s.newFlight c .flush nsid 0 0 false [] with started := true }])).settle

/-- FLUSH_COMPLETE (R288): every covered write lies in complete rows and its journal groups are persisted. -/
def execFlushComplete (c : Cmd) (s : State) : Out :=
  match s.flightOf c with
  | some f => okIf (decide (f.kind = .flush) && s.flightClean f && s.flightPersisted f) s (s.finish f .success 0)
  | none => ok s

/-- WRITE (R285, R286, R334, R341, R441, R445): `data` are the blocks fetched so far, and further WRITE events of the same
command bring the rest; `dptr` what its data pointer fails with. It does not start behind an earlier overlapping write
that is not wholly placed. -/
def execWrite (c : Cmd) (nsid slba nlb : Nat) (fua : Bool) (data : List Nat) (dptr : Nat) (s : State) : Out :=
  let n := nlb + 1
  match s.continues c .write with
  | some f => okIf true s (s.goOnFlight f (data.take (f.total - f.got - f.part.length)))
  | none =>
    if s.behindWrite nsid slba n then ok s
    else s.ioCmd c (fun s => firstOf [s.ioStatus c nsid [0, 2], sizeStatus n, s.lbaStatus nsid slba n, dptrStatus dptr,
        s.domStatus nsid, s.roomStatus nsid slba n false]) fun s =>
      (s.zoneAccepts nsid slba n).startFlight (s.newFlight c .write nsid slba n fua (data.take n))

/-- WRITE_ZEROES (R285, R337): zero data, without a transfer. -/
def execWriteZeroes (c : Cmd) (nsid slba nlb : Nat) (fua : Bool) (s : State) : Out :=
  let n := nlb + 1
  if s.behindWrite nsid slba n then ok s
  else s.ioCmd c (fun s => firstOf [s.ioStatus c nsid [0, 2], chk (decide (nlb > 0xFFFF)) .invalidField, s.lbaStatus nsid slba n,
      s.domStatus nsid, s.roomStatus nsid slba n false]) fun s =>
    (s.zoneAccepts nsid slba n).startFlight { s.newFlight c .write nsid slba n fua (List.replicate n 0) with started := true }

/-- WRITE_ACKNOWLEDGE (R444, R448): a command that changes data completes once it is safe; what it replaced wholly leaves
the Unrecovered List. -/
def execWriteAcknowledge (c : Cmd) (s : State) : Out :=
  match s.flightOf c with
  | some f =>
    okIf (decide (f.kind ∈ [FlightKind.write, .append, .store, .dealloc]) && s.writeSafe f) s <|
      let s1 := if f.kind = .store then
          (s.endStore f).unrecDrop fun e => decide (e.nsid = f.nsid) && decide (e.kind = 2) && decide (e.count ≠ 0) && f.old.any fun o => decide (o.obj = e.first)
        else if f.kind = .dealloc then s
        else s.unrecCut f.nsid f.slba f.total
      s1.finish f .success 0
  | none => ok s

/-- WRITE_WAIT_END (R341): a waiting write tries again. -/
def execWriteWaitEnd (c : Cmd) (s : State) : Out :=
  match s.flightOf c with
  | some f => okIf f.waits s (s.goOnFlight f [])
  | none => ok s

/-- READ (R285, R287, R289, R335, R336, R447): `media` holds the bricks that come from media, as read, re-read or rebuilt
under R250-R255. It waits behind an earlier overlapping write and behind a fill. `lr` asks for no re-reads (R289). -/
def execRead (c : Cmd) (nsid slba nlb : Nat) (fua lr : Bool) (dptr : Nat) (media : List (Nat × Brick)) (s : State) : Out :=
  let n := nlb + 1
  let _ := lr
  if s.behindWrite nsid slba n || s.fillingIn nsid 0 slba n then ok s
  else if let some ix := s.walkPoison nsid 0 slba n then okIf (s.canFetch c) s (s.raise 0x19 3 ix)
  else s.ioCmd c (fun s => firstOf [s.ioStatus c nsid [0, 2], sizeStatus n, s.lbaStatus nsid slba n, dptrStatus dptr, s.domStatus nsid]) fun s =>
    let s1 := if fua then s.writeBack nsid slba n else s
    let r := s1.readRun nsid 0 slba n media
    let s2 := (r.2.fillRead nsid 0 slba r.1).track nsid slba n
    s2.doneWith c (if r.1.all Option.isSome then .success else .unrecoveredRead) 0 (State.bufferOf r.1)

/-- COMPARE (R284, R285, R447): with the host's blocks. -/
def execCompare (c : Cmd) (nsid slba nlb : Nat) (data : List Nat) (dptr : Nat) (media : List (Nat × Brick)) (s : State) : Out :=
  let n := nlb + 1
  if s.behindWrite nsid slba n || s.fillingIn nsid 0 slba n then ok s
  else if let some ix := s.walkPoison nsid 0 slba n then okIf (s.canFetch c) s (s.raise 0x19 3 ix)
  else s.ioCmd c (fun s => firstOf [s.ioStatus c nsid [0, 2], sizeStatus n, s.lbaStatus nsid slba n, dptrStatus dptr, s.domStatus nsid]) fun s =>
    let r := s.readRun nsid 0 slba n media
    r.2.done c (if !r.1.all Option.isSome then .unrecoveredRead else if r.1 = data.map some then .success else .compareFailure)

/-- VERIFY (R284, R285, R447): as a read without a transfer. -/
def execVerify (c : Cmd) (nsid slba nlb : Nat) (media : List (Nat × Brick)) (s : State) : Out :=
  let n := nlb + 1
  if s.behindWrite nsid slba n || s.fillingIn nsid 0 slba n then ok s
  else if let some ix := s.walkPoison nsid 0 slba n then okIf (s.canFetch c) s (s.raise 0x19 3 ix)
  else s.ioCmd c (fun s => firstOf [s.ioStatus c nsid [0, 2], chk (decide (nlb > 0xFFFF)) .invalidField, s.lbaStatus nsid slba n, s.domStatus nsid]) fun s =>
    let r := s.readRun nsid 0 slba n media
    r.2.done c (if r.1.all Option.isSome then .success else .unrecoveredRead)

/-- DATASET_MANAGEMENT (R284, R285): `nr` is NR, ranges as first block and count; only deallocation has an effect. -/
def execDatasetManagement (c : Cmd) (nsid nr : Nat) (ad : Bool) (ranges : List (Nat × Nat)) (s : State) : Out :=
  let rs := ranges.take (nr + 1)
  if rs.any fun r => s.behindWrite nsid r.1 r.2 then ok s
  else s.ioCmd c (fun s => firstOf [s.ioStatus c nsid [0, 2], chk (decide (nr > 255)) .invalidField,
      chk (rs.any fun r => decide (r.1 + r.2 > (s.nsOf nsid).nsze)) .lbaRange]) fun s =>
    if ad then ((rs.foldl (fun (s : State) r => s.deallocate nsid r.1 r.2) s).mapDone c nsid 0).settle
    else s.done c .success

/-! ### Zones (R298) -/

namespace State

/-- The zones a Zone Management Send names: one, or all in some state. -/
def zonesNamed (s : State) (nsid slba : Nat) (all_ : Bool) (sts : List Nat) : List Nat :=
  if all_ then ((s.nsOf nsid).zones.filter fun kv => sts.contains kv.2.st).map Prod.fst else [slba / zoneSize]

/-- What a Zone Management Send fails with before its own checks. -/
def zoneStatus (s : State) (c : Cmd) (nsid slba : Nat) (all_ : Bool) : Option Sc :=
  firstOf [s.ioStatus c nsid [2], if all_ then none else firstOf [s.lbaStatus nsid slba 1, chk (decide (slba % zoneSize ≠ 0)) .invalidField]]

/-- A Zone Management Send: its zones change; the change counts as a journal group (R444). It waits behind writes of those
zones. -/
def zoneSend (s : State) (c : Cmd) (nsid slba : Nat) (all_ : Bool) (sts : List Nat) (bad : State → Option Sc) (change : State → Nat → State) : Out :=
  if (s.zonesNamed nsid slba all_ sts).any fun z => s.behindWrite nsid (z * zoneSize) zoneSize then ok s
  else s.ioCmd c (fun s => firstOf [s.zoneStatus c nsid slba all_, bad s]) fun s =>
    (((s.zonesNamed nsid slba all_ sts).foldl change s).mapDone c nsid 0).settle

/-- A zone takes a state. -/
def zoneTo (s : State) (nsid z st : Nat) : State := s.setZone nsid z { s.zoneAt nsid z with st := st }

end State

/-- ZONE_CLOSE (R298): an open zone is Closed. -/
def execZoneClose (c : Cmd) (nsid slba : Nat) (all_ : Bool) (s : State) : Out :=
  s.zoneSend c nsid slba all_ [1, 2] (fun s => chk (!all_ && decide ((s.zoneAt nsid (slba / zoneSize)).st = 0 ∨ (s.zoneAt nsid (slba / zoneSize)).st = 4)) .zoneTransition)
    fun s z => if (s.zoneAt nsid z).wp = 0 then s.zoneTo nsid z 0 else s.zoneTo nsid z 3

/-- ZONE_FINISH (R298): the zone is Full. -/
def execZoneFinish (c : Cmd) (nsid slba : Nat) (all_ : Bool) (s : State) : Out :=
  s.zoneSend c nsid slba all_ [1, 2, 3] (fun _ => none) fun s z => s.setZone nsid z ⟨4, (s.zoneAt nsid z).wp⟩

/-- ZONE_OPEN (R298): an explicit open, within the limits; of all, every Closed zone. -/
def execZoneOpen (c : Cmd) (nsid slba : Nat) (all_ : Bool) (s : State) : Out :=
  s.zoneSend c nsid slba all_ [3]
    (fun s => if all_ then
        chk (decide (s.openZones nsid + ((s.nsOf nsid).zones.filter fun kv => decide (kv.2.st = 3)).length > 256)) .tooManyOpen
      else firstOf [chk (decide ((s.zoneAt nsid (slba / zoneSize)).st = 4)) .zoneTransition, s.openStatus nsid (slba / zoneSize)])
    fun s z => s.zoneTo nsid z 2

/-- ZONE_RESET (R298, R448): the zone is Empty, and its blocks are deallocated. -/
def execZoneReset (c : Cmd) (nsid slba : Nat) (all_ : Bool) (s : State) : Out :=
  s.zoneSend c nsid slba all_ [1, 2, 3, 4] (fun _ => none) fun s z =>
    (s.deallocate nsid (z * zoneSize) zoneSize).setZone nsid z ⟨0, 0⟩

/-- ZONE_OFFLINE (R284): fails. -/
def execZoneOffline (c : Cmd) (nsid : Nat) (s : State) : Out :=
  s.ioCmd c (fun s => firstOf [s.ioStatus c nsid [2], some .invalidField]) id

/-- ZONE_MANAGEMENT_RECEIVE (R284): the zones from one on, laid out as the Zoned Namespace command set lays them out;
`zra` 0 reports zones, extended reports are not supported. -/
def execZoneManagementReceive (c : Cmd) (nsid slba zra : Nat) (s : State) : Out :=
  s.ioCmd c (fun s => firstOf [s.ioStatus c nsid [2], s.lbaStatus nsid slba 1, chk (decide (zra ≠ 0)) .invalidField]) fun s =>
    s.doneWith c .success 0 (ofLe (Config.nvmeData "zones" ([slba / zoneSize, (s.nsOf nsid).nsze / zoneSize] ++
      (s.nsOf nsid).zones.flatMap fun kv => [kv.1, kv.2.st, kv.2.wp])))

/-- ZONE_APPEND (R285, R298, R441): data goes to the write pointer, whole; DW0 gives its LBA. -/
def execZoneAppend (c : Cmd) (nsid zslba nlb : Nat) (fua : Bool) (data : List Nat) (dptr : Nat) (s : State) : Out :=
  let n := nlb + 1
  let at_ := zslba + (s.zoneAt nsid (zslba / zoneSize)).wp
  match s.continues c .append with
  | some f => okIf true s (s.goOnFlight f (data.take (f.total - f.got - f.part.length)))
  | none =>
    s.ioCmd c (fun s => firstOf [s.ioStatus c nsid [2], sizeStatus n, s.lbaStatus nsid zslba 1, dptrStatus dptr, s.domStatus nsid,
        s.roomStatus nsid zslba n true]) fun s =>
      (s.zoneWritten nsid (zslba / zoneSize) n).startFlight { s.newFlight c .append nsid at_ n fua (data.take n) with dw0 := at_ }

/-! ### Keys and values (R299, R300, R397) -/

namespace State

/-- The object of a key. -/
def objOf (s : State) (nsid : Nat) (key : List Nat) : Option KvObj := (s.nsOf nsid).objs.find? fun o => decide (o.key = key)

/-- Bricks of a value. -/
def valueBricks (size : Nat) : Nat := (size + 4095) / 4096

/-- Chunks of a value: 1 MiB each; an empty value has one (R397). -/
def valueChunks (size : Nat) : Nat := max 1 ((size + 1048575) / 1048576)

/-- The whole chunks that a range of a value lies in: first brick and count. -/
def valueSpan (size ofs bufSize : Nat) : Nat × Nat :=
  let n := min bufSize (size - ofs)
  let first := 256 * (ofs / 1048576)
  (first, min (valueBricks size) (256 * ((ofs + max 1 n - 1) / 1048576 + 1)) - first)

/-- A key's length check (R285). -/
def keyStatus (key : List Nat) : Option Sc := chk (decide (key.length = 0 ∨ key.length > 16)) .invalidKeySize

/-- The tag of a chunk (R397): `bricks` are the chunk's. -/
def chunkTag (mk_ obj ch size nsid : Nat) (bricks : List Nat) : Nat :=
  Config.cmac mk_ (leBytes 8 obj ++ leBytes 4 ch ++ leBytes 4 size ++ leBytes 2 nsid ++ List.replicate 14 0
    ++ (bricks.flatMap (leBytes 4096)).take (min 1048576 (size - ch * 1048576)))

/-- Every tag of a value. -/
def valueTags (mk_ obj size nsid : Nat) (bricks : List Nat) : List Nat :=
  (List.range (valueChunks size)).map fun ch => chunkTag mk_ obj ch size nsid ((bricks.drop (256 * ch)).take 256)

/-- A Store of which everything has been fetched gets its tags (R397). -/
def tagFlight (s : State) (f : Flight) : State × Flight :=
  match f.new with
  | some o =>
    if f.part.length = f.total then
      let k := (s.domKeys (s.nsOf f.nsid).kdom).kvKey
      (s.addTo 0xA CIP.CIP_BYTES.BYTES o.size, { f with new := some { o with tagKey := k, tags := valueTags k o.obj o.size f.nsid f.part } })
    else (s, f)
  | none => (s, f)

/-- A Store or a Retrieve of a key that is in flight and not yet wholly there holds back what addresses the key. -/
def behindKey (s : State) (nsid : Nat) (key : List Nat) : Bool :=
  s.nvme.flights.any fun f => decide (f.nsid = nsid) && decide (f.kind = .store) && decide (f.got < f.total) && f.new.any fun o => decide (o.key = key)

/-- Byte-wise order of keys, a shorter key before a longer one that it prefixes (R299). -/
def keyLe : List Nat → List Nat → Bool
  | [], _ => true
  | _ :: _, [] => false
  | a :: as, b :: bs => decide (a < b) || (decide (a = b) && keyLe as bs)

/-- A key's place in an ordered list. -/
def keyInsert (k : List Nat) : List (List Nat) → List (List Nat)
  | [] => [k]
  | x :: xs => if keyLe k x then k :: x :: xs else x :: keyInsert k xs

end State

open State (valueBricks valueChunks keyStatus)

/-- STORE (R285, R299, R397, R441): `data` are the bricks of the value fetched so far; further STORE events bring the rest. -/
def execStore (c : Cmd) (nsid : Nat) (key : List Nat) (size : Nat) (noOver onlyOver : Bool) (data : List Nat) (dptr : Nat) (s : State) : Out :=
  match s.continues c .store with
  | some f =>
    let r := s.tagFlight { f with part := f.part ++ data.take (f.total - f.got - f.part.length) }
    okIf (!s.sys.keysGone) s (r.1.goOnFlight r.2 [])
  | none =>
    if s.behindKey nsid key then ok s
    else s.ioCmd c (fun s => firstOf [s.ioStatus c nsid [1], keyStatus key, chk (decide (size > (s.nsOf nsid).maxValue)) .invalidValueSize,
        dptrStatus dptr, s.domStatus nsid, chk (noOver && (s.objOf nsid key).isSome) .keyExists,
        chk (onlyOver && (s.objOf nsid key).isNone) .keyAbsent,
        chk (decide (valueBricks size > s.remaining (s.nsOf nsid).pool)) .capacityExceeded]) fun s =>
      let n := s.nvme.nextObj
      let total := valueBricks size
      let f := { s.newFlight c .store nsid 0 total false (data.take total) with
        obj := n, new := some ⟨key, n, size, [], 0⟩, old := s.objOf nsid key }
      let r := (s.onNvme fun x => { x with nextObj := n + 1 }).tagFlight f
      r.1.startFlight r.2

/-- RETRIEVE (R285, R287, R299, R300, R397): a range of a value is read in whole chunks; each chunk's tag is then checked
(KV_CHUNK_TAG_CHECK). An offset at or beyond the size returns nothing. -/
def execRetrieve (c : Cmd) (nsid : Nat) (key : List Nat) (bufSize ofs : Nat) (dptr : Nat) (media : List (Nat × Brick)) (s : State) : Out :=
  let poisoned := (s.objOf nsid key).bind fun o =>
    let x := State.valueSpan o.size ofs bufSize
    if ofs ≥ o.size then none else s.walkPoison nsid o.obj x.1 x.2
  if s.behindKey nsid key then ok s
  else if let some ix := poisoned then okIf (s.canFetch c) s (s.raise 0x19 3 ix)
  else s.ioCmd c (fun s => firstOf [s.ioStatus c nsid [1], keyStatus key, dptrStatus dptr, s.domStatus nsid,
      chk (s.objOf nsid key).isNone .keyAbsent, chk ((s.nsOf nsid).strict && decide (bufSize > 67108864)) .strictLength]) fun s =>
    match s.objOf nsid key with
    | none => s
    | some o =>
      if ofs ≥ o.size ∨ bufSize = 0 then s.doneWith c .success o.size 0
      else
        let n := min bufSize (o.size - ofs)
        let (first, total) := State.valueSpan o.size ofs bufSize
        let r := s.readRun nsid o.obj first total media
        if s.unrecKey nsid o.obj || !r.1.all Option.isSome then r.2.doneWith c .unrecoveredRead o.size 0
        else
          let f := { r.2.newFlight c .retrieve nsid first total false (r.1.map (·.getD 0)) with
            obj := o.obj, started := true, new := some o, dw0 := o.size, range := (ofs, n) }
          r.2.setFlights (r.2.nvme.flights ++ [f])

/-- KV_CHUNK_TAG_CHECK (R300, R397, R408, R409): the next chunk of a Retrieve is tagged. A mismatch ends it with the range
filled with zeros; the chunk is read again as `again` brings it, and a second mismatch puts the key on the Unrecovered
List. After the last chunk the Retrieve completes with its bytes. -/
def execKvChunkTagCheck (c : Cmd) (again : List Nat) (s : State) : Out :=
  match s.flightOf c with
  | none => ok s
  | some f => match f.new with
    | none => ok s
    | some o =>
      okIf (decide (f.kind = .retrieve)) s <|
        let ch := f.slba / 256 + f.got
        let mine := (f.part.drop (256 * f.got)).take 256
        let tag := o.tags.getD ch 0
        let s1 := s.addTo 0xA CIP.CIP_BYTES.BYTES (min 1048576 (o.size - ch * 1048576))
        if State.chunkTag o.tagKey o.obj ch o.size f.nsid mine = tag then
          if 256 * (f.got + 1) ≥ f.total then
            let bytes := (f.part.flatMap (leBytes 4096)).drop (f.range.1 - f.slba * 4096)
            s1.finish f .success (ofLe (bytes.take f.range.2))
          else s1.setFlight { f with got := f.got + 1 }
        else
          let s2 := ((s1.bump 0xA CIP.CIP_CNT.TAG_FAIL).raise 0xA 1 0).finish f .unrecoveredRead 0
          if State.chunkTag o.tagKey o.obj ch o.size f.nsid again = tag then s2
          else match s2.lookup f.nsid o.obj (256 * ch) with
            | some (ix, i) => s2.brickLost ix i 1
            | none => s2.unrecAdd [⟨f.nsid, 2, o.obj, 1, 1, noRef, s2.io.hst.hours⟩]

/-- DELETE (R299, R448): the key, its object and its entry on the list go. -/
def execDelete (c : Cmd) (nsid : Nat) (key : List Nat) (s : State) : Out :=
  if s.behindKey nsid key then ok s
  else s.ioCmd c (fun s => firstOf [s.ioStatus c nsid [1], keyStatus key, chk (s.objOf nsid key).isNone .keyAbsent]) fun s =>
    match s.objOf nsid key with
    | none => s
    | some o =>
      let n := s.nsOf nsid
      let s1 := (s.setNs nsid { n with objs := n.objs.filter fun x => decide (x.key ≠ key) }).dropObj nsid o.obj
      let s2 := s1.unrecDrop fun e => decide (e.nsid = nsid) && decide (e.kind = 2) && decide (e.count ≠ 0) && decide (e.first = o.obj)
      (s2.mapDone c nsid 0).settle

/-- EXIST (R284, R447): a listed key exists. -/
def execExist (c : Cmd) (nsid : Nat) (key : List Nat) (s : State) : Out :=
  if s.behindKey nsid key then ok s
  else s.ioCmd c (fun s => firstOf [s.ioStatus c nsid [1], keyStatus key]) fun s =>
    s.done c (if (s.objOf nsid key).isSome then .success else .keyAbsent)

/-- LIST (R299, R447): the keys from one upward, in byte-wise order; the layout is the Key Value command set's. -/
def execList (c : Cmd) (nsid : Nat) (key : List Nat) (s : State) : Out :=
  s.ioCmd c (fun s => firstOf [s.ioStatus c nsid [1], chk (decide (key.length > 16)) .invalidKeySize]) fun s =>
    let ks := ((s.nsOf nsid).objs.map (·.key)).foldr State.keyInsert []
    s.doneWith c .success 0 (ofLe (Config.nvmeData "keys" ((ks.filter (State.keyLe key)).flatMap fun k => k.length :: k)))

end Sys2Proof.Machine
end

