-- ==== Sys2Proof/Machine/Power.lean ====
section
/-! DEFINITION. The commands of the supply, of sleep and of power states (R414-R431). -/

namespace Sys2Proof.Machine

/-! ### Supply (R414-R424) -/

/-- POWER_LOSS_SHUTDOWN (R414, R417-R419): it runs to its end; the FET stays open. `places` is where the host bricks go,
`dur` the duration in 10 µs, `vend` the final VHOLD in 10 mV. -/
def execPowerLossShutdown (places : List BrickPlace) (dur vend : Nat) (s : State) : Out :=
  let s1 := (s.raise 2 0 0).onPwr fun p => { p with fet := false }
  okIf (s1.shutFits places) s ((s1.shutdown places dur vend).toPhase .held)

/-- VIN_DIP (R415). -/
def execVinDip (s : State) : Out :=
  okAon (decide (s.pwr.phase ≠ .dead)) s ((s.bump 2 PWC.SUP_CNT.DIPS).raise 2 5 0)

/-- VIN_HIGH (R415): counted at the entry. -/
def execVinHigh (s : State) : Out :=
  okAon (decide (s.pwr.phase ≠ .dead)) s ((s.bump 2 PWC.SUP_CNT.HIGH).raise 2 4 0)

/-- VIN_OV (R414, R442): the FET opens and the shutdown runs; a reading beyond absolute maximum is latched as a breach of
condition 4. -/
def execVinOv (beyond : Bool) (places : List BrickPlace) (dur vend : Nat) (s : State) : Out :=
  let s0 := s.onPwr fun p => { p with fet := false }
  let s1 := if beyond then (s0.raise 2 3 0).breach 3 else s0.raise 2 3 0
  let s2 := s1.raise 2 0 0
  okAon (decide (s.pwr.phase ≠ .dead) && (decide (s.pwr.phase ≠ .run) || s2.shutFits places)) s
    (if s.pwr.phase = .run then (s2.shutdown places dur vend).toPhase .held else s1)

/-- HOLDUP_SHORT (R420): a shutdown that VHOLD below 31.0 V cuts short; the next start raises the event. -/
def execHoldupShort (places : List BrickPlace) (jseq : Nat) (s : State) : Out :=
  let s1 := (s.raise 2 0 0).onPwr fun p => { p with fet := false }
  okIf (s1.placesOk places) s ((s1.shutdownCut places jseq).toPhase .held)

/-- INRUSH_FAIL (R416). -/
def execInrushFail (s : State) : Out :=
  okAon (s.pwr.fet && s.flag 2 PWC.PWC_STAT.INRUSH) s
    (((s.onPwr fun p => { p with fet := false }).setB 2 PWC.PWC_STAT.INRUSH false).raise 2 6 0)

/-- INRUSH_RETRY (R416). -/
def execInrushRetry (s : State) : Out :=
  okAon (!s.pwr.fet && decide (s.pwr.phase ∈ [Phase.aon, .held])) s
    ((s.onPwr fun p => { p with fet := true }).setB 2 PWC.PWC_STAT.INRUSH true)

/-- A rail of the part: VR_CLB feeds no cluster of an H7064 (R25, R422). -/
def railOk (s : State) (r : Nat) : Bool := decide (r < 7) && (decide (r ≠ 6) || decide (s.part = .h7128)) && !bitOf (s.fld 2 PWC.RAIL_STAT.FAILED) r

/-- RAIL_PG_TIMEOUT (R423): the third attempt without power good leaves the rail off; work of lost clusters goes to cluster
`dest`. -/
def execRailPgTimeout (r dest : Nat) (s : State) : Out :=
  let n := Tab.get 0 s.pwr.rails r + 1
  okIf (railOk s r && clOk s.part dest) s
    (if n ≥ 3 then (s.onPwr fun p => { p with rails := Tab.erase p.rails r }).railFails r dest
     else s.onPwr fun p => { p with rails := Tab.put 0 p.rails r n })

/-- The domains of a rail, in the order of HOD.DOM_BUSY (R422). -/
def railDomains (r : Nat) : List Nat :=
  [[0], [1, 3, 4], [5], [2], [6], [7, 8, 9, 10], [11, 12, 13, 14]].getD r []

/-- RAIL_PG_LOSS (R363, R423): what the rail fed has lost its power; `back` says that it came up again within its attempts. -/
def execRailPgLoss (r dest : Nat) (back : Bool) (s : State) : Out :=
  okIf (railOk s r && clOk s.part dest) s
    (if back then (railDomains r).foldl State.powerCut s else s.railFails r dest)

/-- XTAL_SETTLE_TIMEOUT (R43, R424): the ring oscillator is used and the DN operating rate forbidden; the ceiling follows
(R457). -/
def execXtalSettleTimeout (s : State) : Out :=
  let s1 := (s.setB 1 CLKG.CLK_STAT.XTAL_OK false).setB 1 CLKG.CLK_STAT.RING true
  let s2 := (List.range 8).foldl (fun (s : State) c => s.set (pgKlc c) KLC.RATE.V 0) s1
  okIf true s ((((s2.raise 1 0 0).raise 1 1 0).degraded).syncCache)

/-- VIN_POWER_UP (R414, R417): the FET closes and the bank charges; a dead module's AON domain starts from its reset, and
RETRACT_n is asserted from then (R76). -/
def execVinPowerUp (s : State) : Out :=
  let up := fun (s : State) => (s.onPwr fun p => { p with fet := true }).setB 2 PWC.PWC_STAT.INRUSH true
  okAon (!s.pwr.fet && decide (s.pwr.phase ∈ [Phase.dead, .aon, .held])) s
    (if s.pwr.phase = .dead then
      up ((s.onIo fun i => { i with
        regs := i.regs.filter fun kv => decide (kv.1 / 4096 % 256 ≠ 2), frozen := [], heldPages := [], latches := [], wbufs := [], wordLatches := [] }).toPhase .aon)
     else up s)

/-- VHOLD_COLLAPSE (R421, R454): below 30.0 V the AON domain stops; a request of a reset, and FAULT#, end with it. -/
def execVholdCollapse (s : State) : Out :=
  okAon (decide (s.pwr.phase ∈ [Phase.aon, .held, .tripHeld, .faultHold])) s
    (((s.onPwr fun p => { p with fet := false }).onSys fun x => { x with fault := false, resetReq := none }).toPhase .dead)

/-! ### Sleep (R425-R427) -/

/-- SLEEP_REQUEST (R425, R426). -/
def execSleepRequest (d : Nat) (s : State) : Out :=
  okIf (s.sleepable d && decide (Tab.get 0 s.pwr.backoff d = 0)) s (s.askSleep d)

/-- SLEEP_ANSWER_TIMEOUT (R425): block `pg` of the domain gives no answer, and none before it is busy. -/
def execSleepAnswerTimeout (d pg : Nat) (s : State) : Out :=
  let asked := s.answers d
  okIf (s.sleepable d && asked.any (fun x => decide (x.1 = pg)) && (asked.takeWhile fun x => decide (x.1 ≠ pg)).all (fun x => !x.2)) s (s.refused d pg true)

/-- SLEEP_RETRY (R426). -/
def execSleepRetry (d : Nat) (s : State) : Out :=
  okIf (s.sleepable d && decide (Tab.get 0 s.pwr.backoff d ≠ 0)) s (s.askSleep d)

/-- DOMAIN_WAKE (R427). -/
def execDomainWake (d : Nat) (s : State) : Out := okIf (decide (d < 15)) s (s.wake d)

/-- CLUSTER_SLEEP_WRITE (R437): a bit written 0 wakes its cluster, or withdraws its request. With ENABLE = 0 software cluster
sleep is stopped; PS4 keeps its clusters asleep. -/
def execClusterSleepWrite (_acc : Accessor) (value : Nat) (s : State) : Out :=
  let s1 := s.set 2 PWC.DOM_CTL.CL_SLEEP (value % 256)
  okIf true s ((List.range 8).foldl (fun (s : State) c => if s.sleepWanted (domOfCl c) then s else s.wake (domOfCl c)) s1)

/-! ### Power states (R428-R431) -/

/-- POWER_STATE_ENTRY (R428, R429, R457): the state required is taken once it may be. -/
def execPowerStateEntry (s : State) : Out :=
  let t := s.psNext
  okIf (decide (t ≠ s.fld 2 PWC.PWC_STAT.PS_NOW) && decide (t ≤ 4) && (decide (t ≤ 2) || s.mayRest)) s (s.toPs t)

/-- POWER_STATE_EXIT (R430): an I/O command returns the module to its last operational state; the controllers that required a
non-operational one require that state from then on. -/
def execPowerStateExit (s : State) : Out :=
  let s1 := s.onPwr fun p => { p with required := (p.required.map fun kv => if kv.2 ≥ 3 then (kv.1, p.lastOper) else kv).filter (fun kv => decide (kv.2 ≠ 0)), apst := [] }
  okIf (decide (s.fld 2 PWC.PWC_STAT.PS_NOW ≥ 3)) s ((s1.retarget).toPs s.pwr.lastOper)

/-- The entry of a controller's APST table for the state it is in: the idle time in ms (0: none) and the state reached. -/
def apstEntry (s : State) (ctl : Nat) : Nat × Nat :=
  let e := Tab.get 0 (s.ctrl ctl).feats 0xC / 2 / 2 ^ (64 * s.requires ctl) % 2 ^ 64
  (e / 256 % 2 ^ 24, e / 8 % 32)

/-- APST_IDLE_TIMEOUT (R429): the controller is enabled, has APST on, and has no command outstanding. -/
def execApstIdleTimeout (ctl : Nat) (s : State) : Out :=
  let k := s.ctrl ctl
  let (time, ps) := apstEntry s ctl
  okIf (s.enabled 2 && k.en && decide (Tab.get 0 k.feats 0xC % 2 = 1) && decide (time ≠ 0) && decide (s.requires ctl < ps ∧ ps ≤ 4)
      && !(s.nvme.flights.any fun f => decide (f.cmd.ctl = ctl))) s
    (s.onPwr fun p => { p with apst := Tab.put 0 p.apst ctl ps }).retarget

/-- CPX_IDLE_SLEEP (R430, R481): 100 ms without commands. -/
def execCpxIdleSleep (s : State) : Out :=
  okIf (decide (s.fld 2 PWC.PWC_STAT.PS_NOW ≥ 3) && !s.pwr.asleep.contains 2 && !s.sys.cpxDown && s.nvme.flights.isEmpty) s (s.enterSleep 2)

/-- CAP_CONTROL_TICK (R431): VIN and VHOLD in 10 mV and the input power over 10 ms in 0.1 W are measured; above the cap the
next lever is taken once the one in use is exhausted (`spent`), and a lever is let go when there is room again (`ease`). -/
def execCapControlTick (vin vhold pin : Nat) (spent ease : Bool) (s : State) : Out :=
  let s1 := (((s.set 2 PWC.VIN_MEAS.VIN (min 0xFFFF vin)).set 2 PWC.VIN_MEAS.VHOLD (min 0xFFFF vhold)).set 2 PWC.PIN_MEAS.PIN (min 0xFFFF pin)).showCap
  let n := s.pwr.lever
  let above := decide (pin > 10 * s1.fld 2 PWC.CAP_EFF.CAP_W)
  let n' := if above then (if n = 0 then 1 else if spent then min 4 (n + 1) else n) else if ease then n - 1 else n
  okIf true s (s1.onPwr fun p => { p with lever := n' })

end Sys2Proof.Machine
end

