-- ==== Sys2Proof/Machine/StartOps.lean ====
section
/-! DEFINITION. The operations of a module start: what it wipes and what it loads first (R382, R474), its stages (R475), image
selection (R478, R479), the microcode's load (R157), the tables' load (R269, R477), and the effects of a life-cycle transition
that a start repeats (R380, R381). -/

namespace Sys2Proof.Machine

/-! ### Life-cycle effects (R380, R381) -/

namespace State

/-- Step 3 of R381 for a state entered: what is generated and destroyed (R380), each done once. -/
def lcEffects (s : State) (target : Nat) : State :=
  let wipeNor := fun (s : State) => s.onNor fun x => { x with blobs := [], attSerial := 0 }
  if target = 1 then
    (if s.sec.dus = 0 then ({ s with free := s.free + 1 }).onSec fun x => { x with dus := Config.trng s.free } else s)
  else if target = 2 then
    if s.sec.seed.isSome then s
    else
      let n := s.fld 9 SEC.KSERIAL.NEXT
      (({ s with free := s.free + 1 }.onSec fun x => { x with seed := some (Config.trng s.free) }).onNor fun x => { x with attSerial := n }).set
        9 SEC.KSERIAL.NEXT (min 0xFFFFFFFF (n + 1))
  else if target = 3 then (wipeNor s).onSec fun x => { x with seed := none }
  else (wipeNor s).onSec fun x => { x with seed := none, dus := 2 ^ 256 - 1 }

/-! ### What a start wipes and keeps (R382, R473, R474) -/

/-- The fields that a start does not take to their reset value: those that "fused", "strap" and "from NOR" load first; the
AON domain's supply counts (R415); Mason's configuration, which MGP writes again; the domains' states, which the blobs give
again. -/
def keptAtStart (perst0 : Bool) (pg b : Nat) (f : RF) : Bool :=
  if pg = 0 then decide (f ∈ [DEV.BOOT_IMG.NEXT, DEV.BOOT_IMG.TRIES_A, DEV.BOOT_IMG.TRIES_B, DEV.BOOT_IMG.FAILED_A, DEV.BOOT_IMG.FAILED_B])
  else if pg = 2 then decide (f ∈ [PWC.SUP_CNT.DIPS, PWC.SUP_CNT.HIGH])
  else if pg = 8 then decide (f ∈ [LCS.LC_STAT.STATE, LCS.LC_STAT.OWNER_SET, LCS.DEV_SERIAL.SERIAL, LCS.SVN_MIN.SVN])
  else if pg = 9 then
    if b = 0 then decide (f ∈ [SEC.KSERIAL.NEXT, SEC.SPENT_MARK.MARK, SEC.ATT_Q.Q])
    else decide (f ∈ [SEC.DOM_STAT.STATE, SEC.DOM_STAT.NSID, SEC.DOM_SERIAL.KSERIAL])
  else if pg = 0x10 then perst0 && decide (f ∈ [PCX.PCX_MODE.BIF, PCX.PCX_MODE.SRIS])
  else if pg = 0x18 then
    (decide (f.acc = .rwl) && decide (f.off ≥ 0x40)) || decide (f ∈ [MSN.SLOT_STAT.STATE, MSN.SLOT_STAT.POOL, MSN.SLOT_STAT.IN_POOL])
  else decide (f.acc = .rwl) && decide (f.off ≥ 0x40)

/-- The pages of which a start keeps fields. -/
def keptPages : List Nat := [0, 2, 8, 9, 0x10, 0x18, 0x19]

/-- The shared part at a start: every register at reset but the fields kept, every latch, buffer and FIFO empty. -/
def restartIo (io : Io) (perst0 : Bool) : Io :=
  let pend := io.fld 2 HDR.EV_PEND.V &&& 0x30
  let io1 : Io := { io with
    regs := io.regs.filter fun kv => keptPages.contains (kv.1 / 4096 % 256)
    frozen := [], heldPages := [], latches := [], wbufs := [], wordLatches := [], wins := [], fifos := [], fifoBufs := [], off := [], msixOpen := [] }
  (keptPages.foldl (fun (i : Io) pg => i.resetRegs pg (keptAtStart perst0 pg)) io1).setFld 2 HDR.EV_PEND.V pend

/-- Mason at a start: what NOR and the media hold. Journal records not persisted are gone; the tables wait for their load. -/
def restartMason (m : MasonSt) (persisted : Nat) : MasonSt :=
  { MasonSt.zero with
    serials := m.serials
    genBase := m.genBase
    lostActs := m.lostActs
    newWaits := m.newWaits
    seek := m.seek
    unrec := m.unrec
    rekeying := m.rekeying
    seq := m.seq
    journal := m.journal.filter fun r => decide (r.jseq ≤ persisted)
    ckpt := m.ckpt
    roots := m.roots
    exhausted := m.exhausted }

/-- The NVMe engine at a start: controllers disabled, namespaces not ready, nothing in flight. -/
def restartNvme (n : NvmeSt) : NvmeSt :=
  { NvmeSt.zero with
    ctrls := n.ctrls.foldl (fun t kv => Tab.put Ctrl.zero t kv.1 { Ctrl.zero with attached := kv.2.attached }) []
    ns := n.ns.map fun kv => (kv.1, { kv.2 with ready := false })
    nextObj := n.nextObj
    done := n.done
    sanitize := n.sanitize
    restricted := n.restricted
    sanitizes := n.sanitizes
    unrecTotal := n.unrecTotal
    unrecChanges := n.unrecChanges
    unsafeStarts := n.unsafeStarts
    miOut := n.miOut }

/-- The recorder at a start: the NOR copy. -/
def restartHst (h : Recorder) (cycles : Nat) : Recorder :=
  { h with mem := h.nor, held := [], missed := 0, hours := h.norHours, pcyc := satAdd 32 h.norPcyc cycles, norPcyc := satAdd 32 h.norPcyc cycles, snaps := [], resume := h.nor.rseq }

/-- Memory, SRAM, key slots and contexts are wiped, and every register is as R474 says (R382, R473); what NOR, the fuses, the
media and the host hold stays. `cycles` counts in the power-cycle count. -/
def wiped (s : State) (cycles : Nat) : State :=
  let perst0 := s.sys.perst.contains 0
  let jseq := s.fld 0x19 MAP.JSEQ_PERSISTED.JSEQ
  let s1 : State := { s with
    io := restartIo s.io perst0
    link := ⟨[], [], []⟩
    rc := ⟨[], [], [], [], [], [], []⟩
    seq := ⟨[], [], [], [], []⟩
    servo := ⟨[], [], [], [], [], [], []⟩
    spin := ⟨[], [], [], []⟩
    asc := { AscSt.zero with huDue := true }
    mason := restartMason s.mason jseq
    nvme := restartNvme s.nvme
    buf := BufSt.zero
    hod := { HodSt.zero with hostOut := s.hod.hostOut }
    sec := { s.sec with slots := [], tok := [], engines := [] }
    pwr := PwrSt.zero
    sys := { SysSt.zero with perst := s.sys.perst, strapped := s.sys.strapped && perst0, twoPorts := s.sys.twoPorts, sris := s.sys.sris } }
  let s2 := s1.onIo fun i => i.setHst (restartHst i.hst cycles)
  let s3 := (List.range 64).foldl (fun (s : State) n => if s.slotSt n = 1 then s.set (pgMsn n) MSN.SLOT_STAT.STATE 0 else s) s2
  (((s3.set 0x19 MAP.JSEQ_APPENDED.JSEQ jseq).set 0x19 MAP.JSEQ_PERSISTED.JSEQ jseq).set 9 SEC.ATT_Q.Q
    (1024 * s.nor.resv.foldl (fun m kv => max m kv.2) 0)).newNonce

/-- What a start finds of the run before (R305, R442, R473, R477, R485): the cause it reports, the markers, and what the next
service owes. -/
def causes (s : State) : State :=
  let n := s.nor
  let kind := s.sys.resetReq.getD (if n.plsStart then 1 else 0)
  let clean := n.plsStart && n.plsDone
  let cut := n.plsStart && !n.plsDone
  let s1 := if clean || s.nvme.orderly then s else s.onNvme fun x => { x with unsafeStarts := x.unsafeStarts + 1 }
  let s2 := s1.wiped (if kind ≤ 1 then 1 else 0)
  let s3 := s2.onNor fun x => { x with
    plsStart := false, plsDone := false, eflStart := false, eflDone := false
    dirtyLost := x.dirtyLost || cut || (n.eflStart && !n.eflDone), cutShort := x.cutShort || cut }
  let s4 := ((s3.set 0 DEV.RST_CAUSE.KIND kind).setB 0 DEV.RST_CAUSE.PLS_DONE clean).setB 0 DEV.RST_CAUSE.EFL_DONE (n.eflStart && n.eflDone)
  let s5 := (s4.set 2 PWC.PLS_LAST.DUR n.plsLast.1).set 2 PWC.PLS_LAST.VEND n.plsLast.2
  ((s5.set 0x1D CPX.REC_STAT.COND (n.recStat % 32)).setB 0x1D CPX.REC_STAT.DIRTY_LOST (bitOf n.recStat 5)).setB
    0x1D CPX.REC_STAT.FAULT_HOLD (bitOf n.recStat 6)

/-! ### Stages 1 to 4 (R475) -/

/-- The nominal frequency of a clock domain in MHz, in CLK_LOCK's order (R23); the DRAM PHY's is free. -/
def clockMhz (free n : Nat) : Nat :=
  if n < 8 then [25, 1000, 1250, 2400, 1000, 1600, 1067, free % 2 ^ 16].getD n 0
  else if n < 16 then 1000 else if n < 24 then 1600 else 800

/-- The clock domains of the part. -/
def clocks (s : State) : List Nat := (List.range 25).filter fun n => decide (n < 8 ∨ n = 24) || clOk s.part (n % 8)

/-- Stages 1 and 2: every rail is good, the crystal has settled, the clocks have locked; failures come as happenings of their
own (R422-R424). -/
def railsUp (s : State) : State :=
  let s1 := s.set 2 PWC.RAIL_STAT.PG (if s.part = .h7128 then 0x7F else 0x3F)
  let s2 := ((s1.setB 1 CLKG.CLK_STAT.XTAL_OK true).setB 1 CLKG.CLK_STAT.RING false).set 1 CLKG.CLK_LOCK.LOCK (s.clocks.foldl bitSet 0)
  let s3 := s.clocks.foldl (fun (t : State) n => t.set (bank 1 n) CLKG.CLK_FREQ.MHZ (clockMhz s.freeNow.toNat n)) s2
  (((List.range (clustersOf s.part)).foldl (fun (t : State) c => t.set (pgKlc c) KLC.RATE.V 1) s3).showDomains).drawn

/-- The regions of R319: code (2 STRONG, 1 LIGHT, 0 NONE), base and size in MiB, raw base in MiB; the owner of region r has
code r + 1. -/
def regions : List (Nat × Nat × Nat × Nat) :=
  [(2, 0, 1024, 0), (2, 1024, 2048, 1280), (2, 3072, 1024, 3840), (2, 4096, 1024, 5120), (2, 5120, 32776, 6400)] ++
  [(2, 37896, 2048, 47370), (1, 39944, 1024, 49930), (2, 40968, 64, 51082), (1, 41032, 4096, 51162), (0, 45128, 1024, 55770)]

/-- Stage 4: training, regions, wipe and read-back (R319, R326). -/
def memoryUp (s : State) : State :=
  let s1 := regions.zipIdx.foldl (fun (s : State) (x : (Nat × Nat × Nat × Nat) × Nat) =>
    let r := x.2
    let s1 := ((s.set (pgRgn r) MPS.RGN_CFG.CODE x.1.1).set (pgRgn r) MPS.RGN_CFG.OWNER (r + 1)).set (pgRgn r) MPS.RGN_GEOM.BASE (x.1.2.1 / 8)
    let s2 := (s1.set (pgRgn r) MPS.RGN_GEOM.SIZE (x.1.2.2.1 / 8)).set (pgRgn r) MPS.RGN_RAW.RAW_BASE x.1.2.2.2
    (s2.rgnValidate r).setB (pgRgn r) MPS.RGN_STAT.WIPING false) s
  ((s1.set 0x12 DMC.DMC_STAT.CH_UP 0xFFFF).setB 0x12 DMC.DMC_STAT.INIT_DONE true).raise 0x12 0 0

/-- A stage that fails stops the start; the ROM keeps PCX, DEV and WDG in service (R480, R483). -/
def stopsAt (s : State) (stage : Nat) : State :=
  [0, 7, 0xE, 0x10].foldl (fun (s : State) pg => s.setB pg HDR.PG_CTL.ENABLE true)
    ((s.set 0 DEV.BOOT_STAT.STAGE stage).set 0 DEV.BOOT_STAT.FAIL_STAGE stage)

/-! ### Stage 5: the image (R478, R479) -/

/-- The boot record's NEXT: slot A where it names none. -/
def nextSlot (s : State) : Nat := if s.fld 0 DEV.BOOT_IMG.NEXT = 2 then 2 else 1

/-- A slot that has been tried three times is FAILED. -/
def failSpent (s : State) : State :=
  [1, 2].foldl (fun (s : State) n => if s.fld 0 (triesOf n) ≥ 3 then s.setB 0 (failedOf n) true else s) s

/-- The copies in the order the ROM reads them. -/
def copies (s : State) : List (Nat × Nat) :=
  ([s.nextSlot, 3 - s.nextSlot].filter fun n => !s.flag 0 (failedOf n)).flatMap fun n => [(n, 0), (n, 1)]

/-- The copy that runs, if one is valid. -/
def bootCopy (s : State) : Option (Nat × Nat) := s.copies.find? fun x => s.imageOk (s.imageAt x.2 x.1)

/-- Copies read before the one that runs (all, where none does) have failed their check: FW_INVALID each. -/
def invalidCopies (s : State) : State :=
  (s.copies.takeWhile fun x => !s.imageOk (s.imageAt x.2 x.1)).foldl (fun (s : State) x => s.raise 9 5 x.1) s

/-- The jump into an image: its TRIES has been counted; another slot than NEXT is a fallback; its SVN may rise (R403). -/
def jumpInto (s : State) (slot dev : Nat) : State :=
  let img := s.imageAt dev slot
  let s1 := ((s.set 0 (triesOf slot) (min 3 (s.fld 0 (triesOf slot) + 1))).set 0 DEV.BOOT_IMG.RUN_SLOT slot).set 0 DEV.BOOT_IMG.RUN_DEV dev
  let s2 := s1.set 0 DEV.BOOT_VER.VERSION (ofLe (slice img 8 4))
  (if slot = s.nextSlot then s2 else s2.raise 0 1 slot).raiseSvn img

/-! ### Stages 6 and 7 -/

/-- Attestation at a start (R404-R406): the next block is known; it is available in SECURED with leaves left, where both
devices accept a reservation. -/
def attestUp (s : State) (attOk : Bool) : State :=
  (s.setB 9 SEC.ATT_STAT.ACTIVE (s.sec.seed.isSome && decide (s.lifeCycle = 2) && attOk && decide (s.fld 9 SEC.ATT_Q.Q < 2 ^ 40))).set 9 SEC.ATT_STAT.LEFT 0

/-- The words of an image's microcode section. -/
def microWords (img : List Nat) : List Nat :=
  match (List.range (ofLe (slice img 20 4))).find? fun i => decide (ofLe (slice img (32 + 48 * i) 4) = 3) with
  | none => []
  | some i => (List.range 8192).map fun w => ofLe (slice img (ofLe (slice img (32 + 48 * i + 4) 4) + 18 * w) 18)

/-- A word the control store takes (R157). -/
def wordOk (w : Nat) : Bool := decide (badGroups w = 0) && decide (w % 2 ^ 25 = 0)

/-- The microcode is loaded into a cluster (R157); a rejected word (`bad` says that one was) or a wrong digest leaves FSQc
disabled. -/
def loadMicro (s : State) (img : List Nat) (bad : Bool) (c : Nat) : State :=
  let ws := microWords img
  let good := ws.filter wordOk
  let s1 := good.zipIdx.foldl (fun (s : State) x => s.setCsWord c x.2 x.1) s
  let s2 := ({ s1 with seq := { s1.seq with digest := Tab.put [] s1.seq.digest c good } } : State).showDigest c
  let s3 := s2.set (pgFsq c) FSQ.CS_ADDR.ADDR (good.length % 8192)
  if bad ∨ good.length ≠ ws.length then s3.raise (pgFsq c) 5 c
  else if some (Config.sha256 (good.flatMap fun w => leBytes 18 w)) ≠ microcodeOf img then s3
  else (s3.set (pgFsq c) FSQ.IMG_ID.ID (ofLe (slice img 16 4))).setB (pgFsq c) HDR.PG_CTL.ENABLE true

/-- The window counters' defaults (R451): page, source, WINDOW, UNIT, THRESH. -/
def winDefaults (part : Part) : List (Nat × Nat × Nat × Nat × Nat) :=
  (List.range (clustersOf part)).flatMap (fun c =>
    [(pgLdp c, 4, 879, 12, 3), (pgFsq c, 1, 2637, 15, 4), (pgFdc c, 4, 2637, 15, 64), (pgKlc c, 3, 1875, 5, 64), (pgKlc c, 5, 1875, 5, 32)]) ++
  (List.range (2 * clustersOf part)).flatMap (fun e => [(pgSve e, 7, 2637, 15, 16), (pgSpm e, 3, 879, 12, 3)]) ++
  [(0x13, 0, 2637, 15, 255), (0x10, 2, 879, 12, 255)]

/-- The windows of R352: number, space, base, SLOT_SH, slots, ALLOC, NOTIFY. -/
def windows : List (Nat × Nat × Nat × Nat × Nat × Bool × Nat) :=
  [(0, 0, 37896 * 2 ^ 20, 23, 256, false, 0), (1, 0, 39944 * 2 ^ 20, 16, 16384, true, 1)] ++
  [(2, 1, 0x400000, 12, 16, false, 0), (3, 1, 0, 12, 1024, false, 1)]

/-- MGP's configuration of the pages (R352, R451, R475): window counters, windows, engines enabled, the MAP last of all. -/
def programmed (s : State) : State :=
  let s1 := (winDefaults s.part).foldl (fun (s : State) x => s.onIo fun i => i.setWin x.1 x.2.1 ⟨x.2.2.1, x.2.2.2.1, x.2.2.2.2, []⟩) s
  let s2 := windows.foldl (fun (s : State) (x : Nat × Nat × Nat × Nat × Nat × Bool × Nat) =>
    let p := pgWin x.1
    let s1 := ((s.set p SHW.WIN_CFG.SPACE x.2.1).set p SHW.WIN_BASE.BASE (x.2.2.1 / 4096)).set p SHW.WIN_CFG.SLOT_SH x.2.2.2.1
    let s2 := ((s1.set p SHW.WIN_SLOTS.SLOTS x.2.2.2.2.1).setB p SHW.WIN_CFG.ALLOC x.2.2.2.2.2.1).set p SHW.WIN_CFG.NOTIFY x.2.2.2.2.2.2
    s2.validate x.1 2) s1
  let pages := (List.range 0x80).filter fun pg => present s.part pg && decide (pg ≠ 0x19) && decide (pageKind pg ≠ some .fsq)
  let s3 := pages.foldl (fun (s : State) pg => s.setB pg HDR.PG_CTL.ENABLE true) s2
  (List.range (2 * clustersOf s.part)).foldl (fun (s : State) e => (s.set (pgSve e) SVE.LOOP_CTL.STATE 1).syncEngine e) s3

/-- MGP's calibration at a start (R217, R319): the parameter blocks and the head records stand in the PARAM region, and each
actuator's store is loaded there and into the engines. -/
def calibrated (s : State) : State :=
  let acts := List.range (16 * clustersOf s.part)
  let s1 := acts.foldl (fun (s : State) a => s.set (pgAct a) ACT.PB_BASE.BASE (40968 * 4096 + 48 * a)) s
  acts.foldl State.loadCal (s1.set 0x1C ASC.TBL_BASE.BASE (40968 * 4096 + 48 * 128))

/-- RETRACT_n of a cluster in service is released (R76). -/
def released (s : State) (c : Nat) : State :=
  (s.setB (pgKlc c) KLC.RETRACT.SW_ASSERT false).onRetract c fun r => { r with poweron := false }

/-- The watchdogs run from the jump into the image (R481). -/
def watched' (s : State) : State :=
  let s1 := ((s.setB 0xE WDG.WDG_STAT.MGP_ARMED true).set 0xE WDG.WDG_STAT.MGP_LEFT (max 1 (s.fld 0xE WDG.WDG_CFG.MGP_TO))).set 0xE WDG.WDG_STAT.CPX_ARMED 0xFF
  (s1.set 0xE WDG.WDG_STAT.CPX_LEFT (max 1 (s.fld 0xE WDG.WDG_CFG.CPX_TO))).set 0x1D CPX.CPX_STAT.CORES 0xFF

/-- Stage 7 (R157, R475, R479): microcode, configuration, engines; clusters left disabled are lost, and a start in which all
are requests a module reset. Stages 8, 9 and 10 then run. -/
def enginesUp (s : State) (img : List Nat) (badCl : List Nat) : State :=
  let cs := List.range (clustersOf s.part)
  let s1 := cs.foldl (fun (s : State) c => s.loadMicro img (badCl.contains c) c) s.programmed.calibrated
  let s2 := (cs.foldl released s1).watched'
  let lost := cs.filter fun c => !s2.enabled (pgFsq c)
  if lost.length = cs.length then s2.requestReset 6 [] 0 0
  else
    let dest := (cs.filter fun c => !lost.contains c).headD 0
    let s3 := lost.foldl (fun (s : State) c => s.loseCluster c dest) s2
    let s4 := if s3.lifeCycle = 2 then
        ((List.range 256).filter (present s3.part)).foldl (fun (s : State) pg => s.setB pg HDR.PG_CTL.LOCK true) s3
      else s3
    (s4.set 0 DEV.BOOT_STAT.STAGE 10).syncCache

/-- A start finishes a life-cycle transition that it finds unfinished first (R381). -/
def lcResumed (s : State) : State :=
  match s.nor.lcWork with
  | some t => (((s.lcEffects t).onNor fun x => { x with lcWork := none }).onSys fun x => { x with resetReq := some 5 })
  | none => s

/-- Stages 5 to 7 from the copy found, if any. -/
def bootFrom (s : State) (copy : Option (Nat × Nat)) (badBlobs : List Nat) (attOk : Bool) (badCl : List Nat) : State :=
  match copy with
  | none => ((s.setB 0 DEV.BOOT_STAT.RECOVERY true).raise 0 2 0).stopsAt 5
  | some (slot, dev) =>
    let s1 := s.jumpInto slot dev
    ((s1.loadBlobs badBlobs).attestUp attOk).enginesUp (s1.imageAt dev slot) badCl

/-- A module start (R475): stages 1 to 7, after which 8, 9 and 10 run; `memFail` says that training or the self-test fails,
`badBlobs` names domains with no good blob, `attOk` says that both devices accept a reservation, `badCl` names clusters whose
control store rejects a word. -/
def start (s : State) (memFail : Bool) (badBlobs : List Nat) (attOk : Bool) (badCl : List Nat) : State :=
  let s1 := s.lcResumed.causes.railsUp
  let s2 := if s.nor.lcWork.isSome then s1.raise 8 0 s1.lifeCycle else s1
  if memFail then ((s2.setB 0x12 DMC.DMC_STAT.SELFTEST_FAIL true).raise 0x12 1 0).stopsAt 4
  else
    let s3 := s2.memoryUp.failSpent
    s3.invalidCopies.bootFrom s3.bootCopy badBlobs attOk badCl

/-! ### Stage 10: the tables (R269) -/

/-- A group that ends in COMMIT. -/
def committed (j : List JrnRec) (g : Nat) : Bool := j.any fun r => decide (r.group = g) && (match r.body with | .commit _ => true | _ => false)

/-- One record replayed (R266): each carries a full image. -/
def replay (s : State) (b : JrnBody) : State :=
  match b with
  | .extent i e => s.putExtent i e
  | .course n c => s.putCourse n c
  | .tile id t => s.putTile id t
  | .void id gen slot =>
    let t := s.tile id
    if t.gen = gen then s.putTile id { t with voids := insertAsc slot t.voids } else s
  | .rows n rows => s.putCourse n { s.course n with rows := rows }
  | .commit _ => s
  | .ckpt _ _ => s
  | .defect _ _ _ _ _ => s

/-- The checkpoint of the newest root, with the whole groups of the journal since it. Rows in flight and copies under way are
no more. -/
def tablesLoaded (s : State) : State :=
  let c := s.mason.ckpt.getD ⟨0, [], [], []⟩
  let s1 := s.onMason fun m => { m with tiles := c.tiles, courses := c.courses, extents := c.extents }
  let j := s.mason.journal.filter fun r => decide (r.jseq ≥ c.jseq)
  let s2 := (j.filter fun r => committed j r.group).foldl (fun (s : State) r => s.replay r.body) s1
  (s2.onMason fun m => { m with
    courses := m.courses.map fun kv => (kv.1, { kv.2 with flight := [], encoded := kv.2.rows })
    moving := m.extents.filter fun kv => decide (kv.2.st = 2) }).set 0x19 MAP.CKPT_JSEQ.S c.jseq

/-! ### Stage 11 (R445, R446, R477) -/

/-- The ranges that list a whole namespace: at most 0xFFFF_FFFF blocks each. -/
def wholeRanges (nsid hours : Nat) : Nat → Nat → Nat → List UnrecEnt
  | 0, _, _ => []
  | n + 1, first, size =>
    if size = 0 then []
    else ⟨nsid, 1, first, min size 0xFFFFFFFF, 5, noRef, hours⟩ :: wholeRanges nsid hours n (first + min size 0xFFFFFFFF) (size - min size 0xFFFFFFFF)

/-- R445: every namespace whose DIRTY_NS bit is set is listed, and its extents marked UNREC. -/
def listDirty (s : State) : State :=
  let ns := s.nor.dirtyNs
  let hours := s.io.hst.hours
  let s1 := (s.mason.extents.filter fun kv => decide (kv.2.st ≠ 0) && ns.contains kv.2.nsid).foldl (fun (s : State) kv => s.setExtent kv.1 { kv.2 with unrec := true }) s
  let s2 := s1.unrecAdd (ns.flatMap fun n =>
    let x := Tab.get Ns.zero s.nvme.ns n
    if !x.live then [] else if x.set = 1 then [⟨n, 2, s.nvme.nextObj, 0, 5, noRef, hours⟩] else wholeRanges n hours (x.nsze / 0xFFFFFFFF + 1) 0 x.nsze)
  let s3 := (s2.onNor fun x => { x with dirtyNs := [], dirtyLost := false, recStat := bitSet x.recStat 5 }).setB 0x1D CPX.REC_STAT.DIRTY_LOST true
  (s3.setB 0 DEV.RST_CAUSE.DIRTY_LOST true).raise 0x1D 5 0

/-- The duties before any namespace is ready, in order (R477); a sanitize or Format under way shows (R303). -/
def duties (s : State) : State :=
  let s1 := if s.nor.dirtyLost then s.listDirty else s
  let s2 := if s.nor.cutShort then ((s1.onNor fun x => { x with cutShort := false }).raise 2 2 0).breach 0 else s1
  let s3 := if s2.nvme.sanitize.isSome then s2.setB 0x11 NVE.NVE_STAT.SANITIZE true else s2
  s3.record 6 s3.io.hst.resume

/-- After BOOT_DONE a copy of the running slot that fails its check is written again from the running copy (R478). -/
def repairCopy (s : State) : State :=
  let slot := s.fld 0 DEV.BOOT_IMG.RUN_SLOT
  let img := s.runningImage
  [0, 1].foldl (fun (s : State) dev => if s.imageOk (s.imageAt dev slot) then s
    else s.onNor fun x => { x with images := Tab.put [] x.images (dev * 2 + (slot - 1)) img }) s

/-- BOOT_DONE (R475, R479, R481). -/
def bootDone (s : State) (ms : Nat) : State :=
  let s1 := ((s.setB 0x19 HDR.PG_CTL.ENABLE true).setB 0 DEV.BOOT_STAT.DONE true).set 0 DEV.BOOT_STAT.STAGE 11
  let s2 := (s1.set 0 DEV.BOOT_T.TO_DONE_MS (min 0xFFFF ms)).setB 0xE WDG.WDG_STAT.BOOT_ARMED false
  ((s2.set 0 (triesOf (s.fld 0 DEV.BOOT_IMG.RUN_SLOT)) 0).repairCopy).raise 0 0 0

end State

end Sys2Proof.Machine
end

