-- ==== Sys2Proof/Machine/Secure.lean ====
section
/-! DEFINITION. The commands of the life cycle, of key domains, of the cipher engines and of attestation (R378-R407). -/

namespace Sys2Proof.Machine

/-! ### Life cycle (R379-R384) -/

namespace State

/-- A transition (R381): the state is fused, the progress record written, the effects carried out, and the module reset asked
for; the start completes it. -/
def transition (s : State) (target : Nat) (ps : List BrickPlace) (dur vend : Nat) : State :=
  let s1 := ((s.set 8 LCS.LC_STAT.STATE target).setB 8 LCS.LC_STAT.BUSY true).onNor fun x => { x with lcWork := some target }
  let s2 := s1.lcEffects target
  let s3 := if target = 2 then
      ((List.range 256).filter (present s.part)).foldl (fun (s : State) pg => s.setB pg HDR.PG_CTL.LOCK true) s2
    else s2
  s3.requestReset 5 ps dur vend

/-- A request that R380 does not allow. -/
def lcRefused (s : State) : State := s.raise 8 1 s.lifeCycle

/-- LCS takes no write of PF1 in SECURED, RETURNED and SCRAPPED (R33). -/
def lcsFiltered (s : State) (acc : Accessor) : Bool := acc.isPf1 && decide (s.lifeCycle ≥ 2)

/-- A token is presented (R383): its result shown, and its command carried out where it is accepted. -/
def present_ (s : State) (tok : List Nat) (r : Nat) (ps : List BrickPlace) (dur vend : Nat) : State :=
  let s1 := s.tokenShown r
  let cmd := tok.getD 10 0
  if r ≠ 1 then (if r = 5 then s1.lcRefused else s1)
  else if cmd = 0x10 then s1.clearRecorder tok
  else if cmd = 1 then
    ((s1.onSec fun x => { x with owner := ofBe (slice tok 52 32) }).setB 8 LCS.LC_STAT.OWNER_SET true).transition 1 ps dur vend
  else s1.transition (if cmd = 2 then 3 else 4) ps dur vend

end State

/-- LC_TRANSITION_REQUEST (R380): PF1 only, the tokenless transitions; a module reset follows, whose flush takes its places
from the command. -/
def execLcTransitionRequest (acc : Accessor) (target : Nat) (places : List BrickPlace) (dur vend : Nat) (s : State) : Out :=
  let may := acc.isPf1 && !s.flag 8 LCS.LC_STAT.BUSY && decide ((s.lifeCycle, target) ∈ [(1, 2), (1, 3), (0, 4), (1, 4)])
  okIf (!may || s.resetFits places) s <|
    if s.lcsFiltered acc then s.lockedWrite 8
    else if may then s.transition target places dur vend
    else s.lcRefused

/-- TOKEN_DATA_WRITE (R410): words past 1,916 bytes are ignored. -/
def execTokenDataWrite (acc : Accessor) (value : Word) (s : State) : Out :=
  okIf true s <|
    if s.lcsFiltered acc then s.lockedWrite 8
    else if s.sec.tok.length + 4 > 1916 then s
    else (s.onSec fun x => { x with tok := x.tok ++ leBytes 4 value.toNat }).set 8 LCS.TOK_STAT.BYTES (s.sec.tok.length + 4)

/-- TOKEN_PRESENT (R380, R383, R469): PROVISION, from PF1 in BLANK; CLEAR_RECORDER once an owner is fused. -/
def execTokenPresent (acc : Accessor) (places : List BrickPlace) (dur vend : Nat) (s : State) : Out :=
  let allowed := (if acc.isPf1 && decide (s.lifeCycle = 0) && !s.flag 8 LCS.LC_STAT.BUSY then [1] else []) ++ s.clearAllowed
  okIf (s.resetFits places) s <|
    if s.lcsFiltered acc then s.lockedWrite 8
    else s.present_ s.sec.tok (s.tokenResult s.sec.tok allowed) places dur vend

/-- JTAG_LC_TOKEN (R380, R384): RETURN and SCRAP from SECURED under the owner's signature, SCRAP from RETURNED without one;
its register feeds the token buffer. -/
def execJtagLcToken (tok : List Nat) (places : List BrickPlace) (dur vend : Nat) (s : State) : Out :=
  let r := if s.lifeCycle = 3 ∧ tok.getD 10 0 = 3 then 1
    else s.tokenResult tok ((if s.lifeCycle = 2 ∧ s.flag 8 LCS.LC_STAT.BUSY = false then [2, 3] else []) ++ s.clearAllowed)
  okIf (s.resetFits places) s ((s.onSec fun x => { x with tok := tok }).present_ tok r places dur vend)

/-! ### Key domains (R385-R393, R411) -/

/-- The domain that DOM_SEL selects, for MGP alone; another accessor's write is ignored. -/
def onDomain (acc : Accessor) (s : State) (run : Nat → State) : Out :=
  okIf true s (if acc = .mgp then run (s.fld 9 SEC.DOM_SEL.DOM) else s.lockedWrite 9)

/-- DOMAIN_CREATE (R385, R386): FREE to ACTIVE. -/
def execDomainCreate (acc : Accessor) (w0 w1 : Bool) (s : State) : Out :=
  onDomain acc s fun d => if s.domSt d = 0 then (s.makeKeys d 0 w0 w1).2 else s

/-- DOMAIN_REPLACE (R385, R386): ACTIVE or UNAVAILABLE to ACTIVE under new keys. -/
def execDomainReplace (acc : Accessor) (w0 w1 : Bool) (s : State) : Out :=
  onDomain acc s fun d =>
    if s.domSt d = 1 ∨ s.domSt d = 3 then ((s.makeKeys d (s.fld (pgDom d) SEC.DOM_STAT.NSID) w0 w1).2).spentCheck else s

/-- DOMAIN_DESTROY (R385): the domain is FREE. -/
def execDomainDestroy (acc : Accessor) (s : State) : Out :=
  onDomain acc s fun d => if s.domSt d = 0 then s else s.freeDomain d

/-- DOMAIN_RETIRE (R385, R393): ACTIVE to RETIRING. -/
def execDomainRetire (acc : Accessor) (s : State) : Out :=
  onDomain acc s fun d => if s.domSt d = 1 then s.set (pgDom d) SEC.DOM_STAT.STATE 2 else s

/-! ### Cipher messages (R399-R401) -/

namespace State

/-- A running message is suspended; its context is the 65th of the engine's, wrapped and put into STAGING, where 64 stand in
the SRAM already (R400). -/
def suspend (s : State) (e : Nat) (m : Msg) : State :=
  let g := s.engine e
  let full := decide ((g.suspended.filter fun x => !x.wrapped).length ≥ 64)
  let s1 := s.setEngine e { g with running := none, suspended := g.suspended ++ [{ m with wrapped := full }] }
  if e < 8 then s1.bump (pgXtc e) XTC.XTC_MISC.SUSPENDS else s1

/-- The suspended message that resumes first: of the highest class, the earliest (R399). -/
def firstSuspended (s : State) (e : Nat) : Option Msg :=
  (s.engine e).suspended.foldl (fun (b : Option Msg) m => match b with
    | none => some m
    | some x => if m.cls < x.cls then some m else b) none

end State

/-- XTS_MESSAGE (R394, R399, R400, R413): engine `e` is XTCe, or CIP as 8. With `fin` the engine has done it, and all that goes
before it, before anything else happens; otherwise it is running or waiting afterwards. -/
def execXtsMessage (e id cls kdom : Nat) (dec fin : Bool) (s : State) : Out :=
  let m : Msg := ⟨id, cls, kdom, dec, false⟩
  let g := s.engine e
  okIf (decide (e ≤ 8) && (decide (e = 8) || clOk s.part e) && decide (cls ≤ 2) && (decide (kdom < 1024) || decide (kdom = noKdom)) && s.enabled (State.engPage e)) s <|
    if !s.domainRuns m then s.keyMiss e
    else match g.running with
      | none =>
        if fin then
          s.setEngine e { g with suspended := g.suspended.filter fun x => decide (x.cls > cls), waiting := g.waiting.filter fun x => decide (x.cls > cls) }
        else if g.suspended.any (fun x => decide (x.cls ≤ cls)) || g.waiting.any (fun x => decide (x.cls ≤ cls)) then
          s.setEngine e { g with waiting := g.waiting ++ [m] }
        else s.setEngine e { g with running := some m }
      | some r =>
        if cls < r.cls then
          let s1 := s.suspend e r
          if fin then s1 else s1.setEngine e { s1.engine e with running := some m }
        else if fin then
          s.setEngine e { running := none, suspended := g.suspended.filter fun x => decide (x.cls > cls), waiting := g.waiting.filter fun x => decide (x.cls > cls) }
        else s.setEngine e { g with waiting := g.waiting ++ [m] }

/-- XTS_MESSAGE_RESUME (R399, R400): the work of higher classes is done; a wrapped context that fails its unwrap ends the
message. With `fin` the message is done as well. -/
def execXtsMessageResume (e : Nat) (unwrapOk fin : Bool) (s : State) : Out :=
  let g := s.engine e
  match s.firstSuspended e with
  | none => ok s
  | some m =>
    let left := { g with running := none, suspended := g.suspended.erase m, waiting := g.waiting.filter fun x => decide (x.cls ≥ m.cls) }
    let s1 := s.setEngine e left
    okIf (decide (e ≤ 8) && (g.running.all fun r => decide (r.cls < m.cls))) s <|
      if m.wrapped && !unwrapOk then
        let s2 := ((s1.bump 0xA CIP.CIP_CNT.UNWRAP_FAIL).raise 0xA 2 0)
        if e < 8 then s2.raise (pgXtc e) 3 0 else s2.raise 0xA 0 0
      else if fin then s1
      else s1.setEngine e { s1.engine e with running := some { m with wrapped := false } }

/-! ### Attestation (R404-R407) -/

namespace State

/-- A report's body (R407). -/
def reportBody (s : State) (nonce : List Nat) (q seed : Nat) : List Nat :=
  let img := s.runningImage
  ascii "HAYTHATT" ++ leBytes 2 1 ++ [s.lifeCycle, if s.io.grade = .ea then 1 else 0] ++ leBytes 8 (s.fld 8 LCS.DEV_SERIAL.SERIAL)
    ++ (nonce ++ List.replicate 32 0).take 32 ++ beBytes 32 (Config.sha256 (slice img 0 856)) ++ slice img 16 4
    ++ leBytes 2 (svnOf img) ++ leBytes 2 (s.fld 8 LCS.SVN_MIN.SVN) ++ leBytes 4 s.io.hst.hours ++ leBytes 4 s.io.hst.pcyc
    ++ leBytes 8 q ++ (Config.hssPub seed ++ List.replicate 60 0).take 60 ++ List.replicate 88 0

/-- The next block is reserved on both devices (`w0`, `w1`: the writes that verify), a new bottom tree's top signature stored
first; otherwise attestation stops (R405, R406). -/
def reserve (s : State) (q : Nat) (w0 w1 : Bool) : Bool × State :=
  let b := q / 1024 + 1
  let put := fun (dev : Nat) (ok : Bool) (t : List (Nat × Nat)) => if ok then Tab.put 0 t dev b else t
  let s1 := s.onNor fun x => { x with
    tops := if q % 2 ^ 20 = 0 ∧ w0 ∧ w1 then x.tops ++ [q / 2 ^ 20] else x.tops
    resv := put 1 w1 (put 0 w0 x.resv) }
  if w0 && w1 && decide (q < 2 ^ 40) then (true, s1)
  else (false, (s1.setB 9 SEC.ATT_STAT.ACTIVE false).raise 9 4 0)

end State

/-- GET_ATTESTATION_REPORT (R310, R405-R407): `len` is the buffer in dwords. -/
def execGetAttestationReport (c : Cmd) (nonce : List Nat) (len : Nat) (w0 w1 : Bool) (s : State) : Out :=
  s.admin c true false fun s =>
    let q := s.fld 9 SEC.ATT_Q.Q
    let left := s.fld 9 SEC.ATT_STAT.LEFT
    if 4 * len < 3860 then s.done c .invalidField
    else match s.flag 9 SEC.ATT_STAT.ACTIVE, s.sec.seed with
      | true, some seed =>
        let r := if left = 0 then s.reserve q w0 w1 else (true, s)
        if !r.1 then r.2.done c .attestationUnavailable
        else
          let s1 := (r.2.set 9 SEC.ATT_Q.Q (q + 1)).set 9 SEC.ATT_STAT.LEFT (if left = 0 then 1023 else left - 1)
          let body := s1.reportBody nonce q seed
          s1.doneWith c .success 0 (ofLe (body ++ Config.hssSign seed q body))
      | _, _ => s.done c .attestationUnavailable

end Sys2Proof.Machine
end

