-- ==== Sys2Proof/Machine/Thermal.lean ====
section
/-! DEFINITION. The thermal model, its sensors, the throttle and the trip (R432-R435), and their commands. -/

namespace Sys2Proof.Machine

/-- The node whose temperature a sensor reads (R433). -/
def nodeOfSensor (n : Nat) : Nat :=
  if n < 16 then n / 2 else if n = 16 then 8 else if n ≤ 18 then 9 else if n = 19 then 10 else if n ≤ 21 then 11 else if n = 22 then 12
  else if n = 23 then 13 else if n ≤ 27 then 14 else 15

/-- The sensors of a node. -/
def sensorsOf (node : Nat) : List Nat := (List.range 30).filter fun n => decide (nodeOfSensor n = node)

/-- A sensor's neighbours in its ring: 0-23, 24-27, 28-29 (R433). -/
def ringNext (n : Nat) : List Nat :=
  let ring := fun (lo len : Nat) => [lo + (n - lo + len - 1) % len, lo + (n - lo + 1) % len]
  if n < 24 then ring 0 24 else if n < 28 then ring 24 4 else ring 28 2

/-- The distance of two temperatures. -/
def apart (x y : Int) : Int := if x ≤ y then y - x else x - y

namespace State

/-- A node's model value in 1/16 °C. -/
def nodeModel (s : State) (n : Nat) : Int := signed 16 (s.fld (bank 3 n) THM.NODE_T.MODEL)

/-- A node's temperature. -/
def nodeTemp (s : State) (n : Nat) : Int := signed 16 (s.fld (bank 3 n) THM.NODE_T.NODE)

/-- A sensor's reading. -/
def sensorRaw (s : State) (n : Nat) : Int := signed 16 (s.fld (bank 3 n) THM.SENS_T.RAW)

/-- A sensor is suspect. -/
def suspect (s : State) (n : Nat) : Bool := bitOf (s.fld 3 THM.SENS_SUSPECT.SUSPECT) n

/-- A sensor that disagrees by more than 8 °C with both neighbours and with its node's model becomes suspect (R433). -/
def checkSensor (s : State) (n : Nat) : State :=
  let x := s.sensorRaw n
  if !s.suspect n && decide (apart x (s.nodeModel (nodeOfSensor n)) > 128) && (ringNext n).all (fun m => decide (apart x (s.sensorRaw m) > 128)) then
    ((s.set 3 THM.SENS_SUSPECT.SUSPECT (bitSet (s.fld 3 THM.SENS_SUSPECT.SUSPECT) n)).bump 3 THM.THM_CNT.SUSPECTS).raise 3 5 n
  else s

/-- Every sensor of a node with several is suspect (R436). -/
def allSuspect (s : State) (node : Nat) : Bool := decide ((sensorsOf node).length > 1) && (sensorsOf node).all s.suspect

/-- The value used for a sensor (R433, R436). -/
def sensorUsed (s : State) (n : Nat) : Int :=
  if !s.suspect n then s.sensorRaw n
  else
    let good := (ringNext n).filter fun m => !s.suspect m
    if good.isEmpty || s.allSuspect (nodeOfSensor n) then s.nodeModel (nodeOfSensor n) + 240
    else Config.divFree ((good.map s.sensorRaw).foldl (· + ·) 0) good.length

/-- The hottest node and its temperature. -/
def hottest (s : State) : Nat × Int :=
  (List.range 15).foldl (fun (m : Nat × Int) i => if s.nodeTemp (i + 1) > m.2 then (i + 1, s.nodeTemp (i + 1)) else m) (0, s.nodeTemp 0)

/-- The temperature of the hottest node in 1/16 °C, and in °C as shown. -/
def hotNow (s : State) : Int := s.hottest.2

/-- Values used and node temperatures follow readings and model; the hottest node is shown, with WARN from 100 °C and CRIT
from 110 °C (R433, R435). -/
def syncThermal (s : State) : State :=
  let s1 := (List.range 30).foldl (fun (t : State) n => t.set (bank 3 n) THM.SENS_T.USED (unsigned 16 (t.sensorUsed n))) s
  let s2 := (List.range 16).foldl (fun (t : State) n =>
    t.set (bank 3 n) THM.NODE_T.NODE (unsigned 16 (((sensorsOf n).map t.sensorUsed).foldl max (t.nodeModel n)))) s1
  let (node, hot) := s2.hottest
  let s3 := (s2.set 3 THM.THM_STAT.HOT (unsigned 8 (hot / 16))).set 3 THM.THM_STAT.HOT_NODE node
  let warn := fun (s : State) (f : RF) (ev lim : Nat) =>
    let on := decide (hot ≥ 16 * (lim : Int))
    let s1 := s.setB 3 f on
    if on && !s.flag 3 f then s1.raise 3 ev node else s1
  warn (warn s3 THM.THM_STAT.WARN 2 100) THM.THM_STAT.CRIT 3 110

/-- T_TRIP: below 110 acts as 110, above 125 as 125 (R438). -/
def tripTemp (s : State) : Nat := min 125 (max 110 (s.fld 3 THM.THM_CFG.T_TRIP))

/-- The always-on domain watches temperatures: in service, and while a trip holds the rest off (R435). -/
def watched (s : State) : Bool := decide (s.pwr.phase ∈ [Phase.run, .tripHeld])

end State

/-- THERMAL_MODEL_TICK (R432, R433): the domain powers measured and the thirty readings in 1/16 °C. -/
def execThermalModelTick (powers : List Nat) (raw : List Int) (s : State) : Out :=
  let temps := (List.range 16).map s.nodeModel
  let case_ := signed 16 (s.fld 3 THM.CASE_T.CASE)
  let s1 := (List.range 16).foldl (fun (t : State) n =>
    t.set (bank 3 n) THM.NODE_T.MODEL (unsigned 16 (Config.thermalNext n powers temps case_))) s
  let s2 := (List.range 30).foldl (fun (t : State) n => t.set (bank 3 n) THM.SENS_T.RAW (unsigned 16 (raw.getD n 0))) s1
  okAon (s.watched && decide (raw.length = 30)) s ((List.range 30).foldl State.checkSensor s2).syncThermal

/-- SENSOR_TRUST_RESTORE (R433): for 10 s the sensor has agreed within 4 °C with a neighbour or the model. -/
def execSensorTrustRestore (n : Nat) (s : State) : Out :=
  let x := s.sensorRaw n
  let close := fun (y : Int) => decide (apart x y ≤ 64)
  okAon (s.watched && decide (n < 30) && s.suspect n && (close (s.nodeModel (nodeOfSensor n)) || (ringNext n).any fun m => close (s.sensorRaw m))) s
    (((s.set 3 THM.SENS_SUSPECT.SUSPECT (bitClear (s.fld 3 THM.SENS_SUSPECT.SUSPECT) n)).raise 3 6 n).syncThermal)

/-- CASE_TEMP_ESTIMATE (R432): the mean of the trusted sensors less the model's rise over the case at them. -/
def execCaseTempEstimate (s : State) : Out :=
  let good := (List.range 30).filter fun n => !s.suspect n
  let case_ := signed 16 (s.fld 3 THM.CASE_T.CASE)
  let sum := (good.map fun n => s.sensorRaw n - (s.nodeModel (nodeOfSensor n) - case_)).foldl (· + ·) 0
  okAon (s.watched && !good.isEmpty) s (s.set 3 THM.CASE_T.CASE (unsigned 16 (Config.divFree sum good.length)))

/-- THROTTLE_STEP_DOWN (R434, R438). -/
def execThrottleStepDown (s : State) : Out :=
  let n := s.fld 3 THM.THM_STAT.STEP
  okIf (s.enabled 3 && decide (s.hotNow > 1600) && decide (n < 15)) s
    ((((s.set 3 THM.THM_STAT.STEP (n + 1)).bump 3 THM.THM_CNT.STEPS_DOWN).raise 3 0 (n + 1)).showCap)

/-- THROTTLE_STEP_UP (R434, R438). -/
def execThrottleStepUp (s : State) : Out :=
  let n := s.fld 3 THM.THM_STAT.STEP
  okIf (s.enabled 3 && decide (s.hotNow < 1520) && decide (n > 0)) s
    (((s.set 3 THM.THM_STAT.STEP (n - 1)).raise 3 1 (n - 1)).showCap)

/-- THERMAL_TRIP (R435): T_TRIP or above for 1 s; the shutdown runs with the FET kept closed, and the module is held. -/
def execThermalTrip (places : List BrickPlace) (dur vend : Nat) (s : State) : Out :=
  let s1 := (s.setB 3 THM.THM_STAT.TRIP true).raise 3 4 0
  okIf (decide (s.hotNow ≥ 16 * (s.tripTemp : Int)) && s1.shutFits places) s
    (((s1.shutdown places dur vend).onSys fun x => { x with resetReq := some 4 }).toPhase .tripHeld)

end Sys2Proof.Machine
end

