-- ==== Sys2Proof/Machine/Start.lean ====
section
/-! DEFINITION. The commands of start-up, watchdogs, module resets and recovery (R473-R486, R502). -/

namespace Sys2Proof.Machine

/-! ### The start (R475) -/

/-- MODULE_START (R414, R421, R473, R475): VIN has held for 100 ms before a start or after a shutdown, a reset has been
requested, or the chip has just been reset. -/
def execModuleStart (memFail : Bool) (badBlobs : List Nat) (attOk : Bool) (badCl : List Nat) (s : State) : Out :=
  okAon ((decide (s.pwr.phase ∈ [Phase.aon, .held]) && (s.pwr.fet || s.sys.resetReq.isSome)) ||
      (decide (s.pwr.phase = .run) && decide (s.fld 0 DEV.BOOT_STAT.STAGE = 0))) s
    (s.start memFail badBlobs attOk badCl)

/-- TRIP_COOLDOWN_RESTART (R435): the hottest trusted sensor reads below 85 °C; the start is that of MODULE_START. -/
def execTripCooldownRestart (memFail : Bool) (badBlobs : List Nat) (attOk : Bool) (badCl : List Nat) (s : State) : Out :=
  okAon (decide (s.pwr.phase = .tripHeld) && (List.range 30).all fun n => s.suspect n || decide (s.sensorRaw n < 1360)) s
    (s.start memFail badBlobs attOk badCl)

/-- A boot slot's heads are in FOLLOW, or the slot is absent and others stand in for it (R475, R476). -/
def bootSlotUp (s : State) (n : Nat) : Bool :=
  !s.bridgeHere n || [2 * n, 2 * n + 1].any fun a => decide (s.svState a = 2) && decide (s.svSet a = 2)

/-- TABLE_LOAD (R269, R475-R477): `ms` after the module start. -/
def execTableLoad (ms : Nat) (s : State) : Out :=
  okIf (decide (s.fld 0 DEV.BOOT_STAT.STAGE = 10) && (List.range 64).all fun n => !bitOf s.nor.bootSlots n || bootSlotUp s n) s
    (((List.range 8).foldl State.showPool (s.tablesLoaded.bootDone ms)).duties)

/-- READY_LATE (R475, R485): 60 s after the start some namespace is not ready. -/
def execReadyLate (s : State) : Out :=
  okIf (decide (s.fld 0 DEV.BOOT_STAT.STAGE ≥ 7) && s.nvme.ns.any fun kv => kv.2.live && !kv.2.ready) s (s.raise 0 4 0)

/-- SERVICE_FAIL_TIMEOUT (R379, R483): 5 s after the port's PERST# went high NVMe service cannot start. -/
def execServiceFailTimeout (port : Nat) (s : State) : Out :=
  let none_ := decide (s.fld 0 DEV.BOOT_STAT.FAIL_STAGE ≠ 0) || s.flag 0 DEV.BOOT_STAT.RECOVERY || decide (s.lifeCycle ≠ 1 ∧ s.lifeCycle ≠ 2)
    || decide (bitsOf (s.fld 2 PWC.RAIL_STAT.FAILED) 3 2 ≠ 0)
  let ids := (1 + 0x80 * port) :: s.portCtrls port false
  okIf (decide (port < 2) && s.sys.perst.contains port && none_) s
    ((s.onSys fun x => { x with cfs := x.cfs ++ ids.filter fun i => !x.cfs.contains i }).setB 0x1D CPX.CPX_STAT.CFS true)

/-! ### Watchdogs (R481) -/

/-- A watchdog is armed: core n as n, MGP 8, BOOT 9. -/
def wdgArmed (s : State) (n : Nat) : Bool :=
  if n < 8 then bitOf (s.fld 0xE WDG.WDG_STAT.CPX_ARMED) n
  else if n = 8 then s.flag 0xE WDG.WDG_STAT.MGP_ARMED
  else decide (n = 9) && s.flag 0xE WDG.WDG_STAT.BOOT_ARMED && decide (s.fld 0 DEV.BOOT_STAT.STAGE ≥ 3)

/-- BOOT_WATCHDOG_EXPIRY (R479): TRIES stays counted, and a module reset is requested. -/
def execBootWatchdogExpiry (places : List BrickPlace) (dur vend : Nat) (s : State) : Out :=
  let s1 := s.raise 0xE 2 0
  okIf (wdgArmed s 9 && s1.resetFits places) s (s1.requestReset 6 places dur vend)

/-- CPX_WATCHDOG_EXPIRY (R452, R481): a core has not kicked in time. -/
def execCpxWatchdogExpiry (core recent : Nat) (places : List BrickPlace) (dur vend : Nat) (s : State) : Out :=
  let s1 := (s.bump 0xE WDG.WDG_CNT.CPX_EXP).raise 0xE 0 core
  okIf (decide (core < 8) && wdgArmed s core && !s.sys.cpxDown && s1.faultFits places) s (s1.cpxFault core 4 recent places dur vend)

/-- MGP_WATCHDOG_EXPIRY (R453, R481). -/
def execMgpWatchdogExpiry (recent : Nat) (places : List BrickPlace) (dur vend : Nat) (s : State) : Out :=
  let s1 := (s.bump 0xE WDG.WDG_CNT.MGP_EXP).raise 0xE 1 0
  okIf (wdgArmed s 8 && !s.sys.mgpDown && s1.faultFits places) s (s1.mgpFault false recent places dur vend)

/-- WATCHDOG_PREWARN (R481): half of a period without a kick, once. -/
def execWatchdogPrewarn (n : Nat) (s : State) : Out :=
  let s1 := (s.onSys fun x => { x with warned := x.warned ++ [n] }).raise 0xE 3 n
  okIf (wdgArmed s n && !s.sys.warned.contains n) s
    (if n < 8 then s1.set 0xE WDG.WDG_STAT.CPX_LEFT (max 1 (s.fld 0xE WDG.WDG_CFG.CPX_TO) / 2)
     else if n = 8 then s1.set 0xE WDG.WDG_STAT.MGP_LEFT (max 1 (s.fld 0xE WDG.WDG_CFG.MGP_TO) / 2) else s1)

/-- WDG_KICK (R33, R481): only with the key, only from the processor named; any other write is ignored with LOCKED_WRITE. -/
def execWdgKick (acc : Accessor) (value : Word) (s : State) : Out :=
  let v := value.toNat
  let who := v % 16
  let mine := decide (v / 2 ^ 16 = 0xA55A) && ((decide (who < 8) && decide (acc = .cpx)) || (decide (who = 8) && decide (acc = .mgp)))
  let s1 := s.onSys fun x => { x with warned := x.warned.filter fun n => decide (n ≠ who) }
  okIf true s <|
    if !mine then s.lockedWrite 0xE
    else if !wdgArmed s who then s1
    else if who = 8 then s1.set 0xE WDG.WDG_STAT.MGP_LEFT (max 1 (s.fld 0xE WDG.WDG_CFG.MGP_TO))
    else if s1.sys.warned.any fun n => decide (n < 8) then s1
    else s1.set 0xE WDG.WDG_STAT.CPX_LEFT (max 1 (s.fld 0xE WDG.WDG_CFG.CPX_TO))

/-! ### Module reset and RECOVERY (R473, R480, R485) -/

/-- MODULE_RESET_REQUEST (R473, R485): a write of MOD_RST; acted on only with REQ and the key. -/
def execModuleResetRequest (acc : Accessor) (value : Word) (places : List BrickPlace) (dur vend : Nat) (s : State) : Out :=
  let _ := acc
  okIf (decide (value.toNat % 2 = 1) && decide (value.toNat / 2 ^ 16 = 0x7128) && s.resetFits places) s (s.requestReset 2 places dur vend)

/-- RECOVERY_START (R480). -/
def execRecoveryStart (acc : Accessor) (s : State) : Out :=
  let _ := acc
  okIf (s.flag 0 DEV.BOOT_STAT.RECOVERY) s ((s.onSys fun x => { x with rcvOpen := true, rcv := [] }).set 0 DEV.RCV_CTL.RESULT 0)

/-- RECOVERY_DATA_WRITE (R480, R485): bytes beyond 48 MiB are discarded and set RESULT 5. -/
def execRecoveryDataWrite (acc : Accessor) (value : Word) (s : State) : Out :=
  let _ := acc
  okIf (s.flag 0 DEV.BOOT_STAT.RECOVERY && s.sys.rcvOpen) s
    (if s.sys.rcv.length + 4 > imageMax then s.set 0 DEV.RCV_CTL.RESULT 5
     else s.onSys fun x => { x with rcv := x.rcv ++ leBytes 4 value.toNat })

/-- RECOVERY_COMMIT (R480): a valid image goes to both slots of both devices (`w0`, `w1`: the writes that succeed), and a module
reset follows; another is discarded, with RESULT. -/
def execRecoveryCommit (acc : Accessor) (w0 w1 : Bool) (s : State) : Out :=
  let _ := acc
  let r := if s.fld 0 DEV.RCV_CTL.RESULT = 5 then 5 else imageResult (s.fld 8 LCS.SVN_MIN.SVN) s.sys.rcv
  let s1 := (s.set 0 DEV.RCV_CTL.RESULT r).onSys fun x => { x with rcvOpen := false, rcv := [] }
  okIf (s.flag 0 DEV.BOOT_STAT.RECOVERY && s.sys.rcvOpen) s
    (if r = 1 then (((s1.writeImage 1 s.sys.rcv w0 w1).writeImage 2 s.sys.rcv w0 w1).requestReset 7 [] 0 0) else s1)

/-- RECOVERY_RETRY (R480): in every state; the reset's flush, if one is due, takes its places from the command. -/
def execRecoveryRetry (acc : Accessor) (places : List BrickPlace) (dur vend : Nat) (s : State) : Out :=
  let _ := acc
  let s1 := [1, 2].foldl (fun (s : State) n => (s.set 0 (State.triesOf n) 0).setB 0 (State.failedOf n) false) s
  okIf (s1.resetFits places) s (s1.requestReset 7 places dur vend)

/-- NOR_REFRESH (R502): an area of one device whose copy has passed its check, after 2 years of operating hours (17,520 h). -/
def execNorRefresh (area dev : Nat) (good : Bool) (s : State) : Out :=
  let k := area * 2 + dev
  okIf (decide (dev < 2) && good && decide (s.io.hst.hours ≥ Tab.get 0 s.nor.refreshed k + 17520 * 16)) s
    (s.onNor fun x => { x with refreshed := Tab.put 0 x.refreshed k s.io.hst.hours })

end Sys2Proof.Machine
end

