-- ==== Sys2Proof/Machine/Dispatch.lean ====
section
/-! DEFINITION. One arm for each command: a direct call of its meaning. -/

namespace Sys2Proof.Machine

/-- The effect of a command on everything but the queue. -/
def exec (i : Instr) (s : State) : Host.Outcome State Fault Refusal :=
  match i with
  | .registerWrite acc addr value fullBe => Sys2Proof.Machine.execRegisterWrite acc addr value fullBe s
  | .rcRegisterRead acc addr => Sys2Proof.Machine.execRcRegisterRead acc addr s
  | .lowWordRead acc addr => Sys2Proof.Machine.execLowWordRead acc addr s
  | .highWordRead acc addr => Sys2Proof.Machine.execHighWordRead acc addr s
  | .lowWordWrite acc addr value => Sys2Proof.Machine.execLowWordWrite acc addr value s
  | .highWordWrite acc addr value => Sys2Proof.Machine.execHighWordWrite acc addr value s
  | .pageLock acc pg => Sys2Proof.Machine.execPageLock acc pg s
  | .pageFreeze acc pg => Sys2Proof.Machine.execPageFreeze acc pg s
  | .pageThaw acc pg => Sys2Proof.Machine.execPageThaw acc pg s
  | .softReset acc pg enable => Sys2Proof.Machine.execSoftReset acc pg enable s
  | .softResetDone pg => Sys2Proof.Machine.execSoftResetDone pg s
  | .blockEnable acc pg => Sys2Proof.Machine.execBlockEnable acc pg s
  | .blockDisable acc pg => Sys2Proof.Machine.execBlockDisable acc pg s
  | .evPendClear acc pg mask => Sys2Proof.Machine.execEvPendClear acc pg mask s
  | .evSet acc pg mask => Sys2Proof.Machine.execEvSet acc pg mask s
  | .evEnWrite acc pg value => Sys2Proof.Machine.execEvEnWrite acc pg value s
  | .evRouteWrite acc pg value => Sys2Proof.Machine.execEvRouteWrite acc pg value s
  | .winCfgStore acc pg value => Sys2Proof.Machine.execWinCfgStore acc pg value s
  | .winCfgSelect acc pg value => Sys2Proof.Machine.execWinCfgSelect acc pg value s
  | .errInjOneshot acc pg src => Sys2Proof.Machine.execErrInjOneshot acc pg src s
  | .errInjCont acc pg src => Sys2Proof.Machine.execErrInjCont acc pg src s
  | .windowLeak pg src => Sys2Proof.Machine.execWindowLeak pg src s
  | .lastingAction pg src dest again => Sys2Proof.Machine.execLastingAction pg src dest again s
  | .wakePatternDetected a => Sys2Proof.Machine.execWakePatternDetected a s
  | .trainT1Pass a => Sys2Proof.Machine.execTrainT1Pass a s
  | .configSend a => Sys2Proof.Machine.execConfigSend a s
  | .identReceived a ident => Sys2Proof.Machine.execIdentReceived a ident s
  | .eqAdapted a => Sys2Proof.Machine.execEqAdapted a s
  | .trainT4Pass a => Sys2Proof.Machine.execTrainT4Pass a s
  | .trainPhaseTimeout a => Sys2Proof.Machine.execTrainPhaseTimeout a s
  | .losTimeout a => Sys2Proof.Machine.execLosTimeout a s
  | .invalidBlockHeader a lane => Sys2Proof.Machine.execInvalidBlockHeader a lane s
  | .sampleFlit a lane sseq samples => Sys2Proof.Machine.execSampleFlit a lane sseq samples s
  | .timeFlit a lane index sseq => Sys2Proof.Machine.execTimeFlit a lane index sseq s
  | .statusFlit a status ce ue => Sys2Proof.Machine.execStatusFlit a status ce ue s
  | .checkFlit a lane group crcOk => Sys2Proof.Machine.execCheckFlit a lane group crcOk s
  | .reservedTypeFlit a lane => Sys2Proof.Machine.execReservedTypeFlit a lane s
  | .sampleGapDetected a lane => Sys2Proof.Machine.execSampleGapDetected a lane s
  | .longStall a lane => Sys2Proof.Machine.execLongStall a lane s
  | .ackTimeout a => Sys2Proof.Machine.execAckTimeout a s
  | .linkRetrain acc a => Sys2Proof.Machine.execLinkRetrain acc a s
  | .dozeRequest acc a value => Sys2Proof.Machine.execDozeRequest acc a value s
  | .forceDown acc a value => Sys2Proof.Machine.execForceDown acc a value s
  | .retractSwWrite acc c value => Sys2Proof.Machine.execRetractSwWrite acc c value s
  | .retractHwRelease acc c => Sys2Proof.Machine.execRetractHwRelease acc c s
  | .retractHoldExpiry c => Sys2Proof.Machine.execRetractHoldExpiry c s
  | .unloadAckTimeout a signalLost => Sys2Proof.Machine.execUnloadAckTimeout a signalLost s
  | .parkWaitTimeout a => Sys2Proof.Machine.execParkWaitTimeout a s
  | .hdaAcceptance n fa fb da db ca cb => Sys2Proof.Machine.execHdaAcceptance n fa fb da db ca cb s
  | .tileReset id => Sys2Proof.Machine.execTileReset id s
  | .tileFirstWriteArm id => Sys2Proof.Machine.execTileFirstWriteArm id s
  | .tileClose id reason => Sys2Proof.Machine.execTileClose id reason s
  | .writePointerScan id found => Sys2Proof.Machine.execWritePointerScan id found s
  | .systemTileUpdate a readBackOk => Sys2Proof.Machine.execSystemTileUpdate a readBackOk s
  | .wedgeDemodulated a rec => Sys2Proof.Machine.execWedgeDemodulated a rec s
  | .softDetectionDone a m => Sys2Proof.Machine.execSoftDetectionDone a m s
  | .readWindowEnd a taps0 taps1 => Sys2Proof.Machine.execReadWindowEnd a taps0 taps1 s
  | .liveDecodeDone a d => Sys2Proof.Machine.execLiveDecodeDone a d s
  | .retryStoreCopyDone a u unit sram => Sys2Proof.Machine.execRetryStoreCopyDone a u unit sram s
  | .brickRelease a => Sys2Proof.Machine.execBrickRelease a s
  | .retryJobPost c unit urgent => Sys2Proof.Machine.execRetryJobPost c unit urgent s
  | .retryJobDeferredPost c => Sys2Proof.Machine.execRetryJobDeferredPost c s
  | .replayDone c unit => Sys2Proof.Machine.execReplayDone c unit s
  | .retryAttemptDone c dec d => Sys2Proof.Machine.execRetryAttemptDone c dec d s
  | .levelBoundaryDecision c tag tRb dest => Sys2Proof.Machine.execLevelBoundaryDecision c tag tRb dest s
  | .decoderParityError c dec => Sys2Proof.Machine.execDecoderParityError c dec s
  | .qmClear a => Sys2Proof.Machine.execQmClear a s
  | .fenceWrite c value => Sys2Proof.Machine.execFenceWrite c value s
  | .seqNext a upset => Sys2Proof.Machine.execSeqNext a upset s
  | .seqJump a upset => Sys2Proof.Machine.execSeqJump a upset s
  | .seqBranch a upset => Sys2Proof.Machine.execSeqBranch a upset s
  | .seqCall a upset => Sys2Proof.Machine.execSeqCall a upset s
  | .seqRet a upset => Sys2Proof.Machine.execSeqRet a upset s
  | .seqWait a upset => Sys2Proof.Machine.execSeqWait a upset s
  | .seqLoop a upset => Sys2Proof.Machine.execSeqLoop a upset s
  | .seqDispatch a upset => Sys2Proof.Machine.execSeqDispatch a upset s
  | .seqHalt a upset => Sys2Proof.Machine.execSeqHalt a upset s
  | .waitSatisfied a slots => Sys2Proof.Machine.execWaitSatisfied a slots s
  | .wgEffectiveLoss a => Sys2Proof.Machine.execWgEffectiveLoss a s
  | .gateEndTimeout a tag => Sys2Proof.Machine.execGateEndTimeout a tag s
  | .threadRun acc a => Sys2Proof.Machine.execThreadRun acc a s
  | .threadHalt acc a => Sys2Proof.Machine.execThreadHalt acc a s
  | .threadAbort acc a => Sys2Proof.Machine.execThreadAbort acc a s
  | .jobPost a item pred => Sys2Proof.Machine.execJobPost a item pred s
  | .csLoadEnable acc c value => Sys2Proof.Machine.execCsLoadEnable acc c value s
  | .csRepairEnable acc c value => Sys2Proof.Machine.execCsRepairEnable acc c value s
  | .digestClr acc c => Sys2Proof.Machine.execDigestClr acc c s
  | .csWordCommit acc c data4 => Sys2Proof.Machine.execCsWordCommit acc c data4 s
  | .csParityRepair c n word => Sys2Proof.Machine.execCsParityRepair c n word s
  | .zoneEntryStore acc c value => Sys2Proof.Machine.execZoneEntryStore acc c value s
  | .sqWordRead acc a => Sys2Proof.Machine.execSqWordRead acc a s
  | .servoUpdate e pipe lat ce ue ueIdx => Sys2Proof.Machine.execServoUpdate e pipe lat ce ue ueIdx s
  | .traceDone e => Sys2Proof.Machine.execTraceDone e s
  | .loopAcquired a => Sys2Proof.Machine.execLoopAcquired a s
  | .loadingOutputTick a => Sys2Proof.Machine.execLoadingOutputTick a s
  | .loadTimeout a => Sys2Proof.Machine.execLoadTimeout a s
  | .lostTimeout a => Sys2Proof.Machine.execLostTimeout a s
  | .unloadTimeout a => Sys2Proof.Machine.execUnloadTimeout a s
  | .settleTimeout a => Sys2Proof.Machine.execSettleTimeout a s
  | .loadRequest a => Sys2Proof.Machine.execLoadRequest a s
  | .unloadRequest a byThread => Sys2Proof.Machine.execUnloadRequest a byThread s
  | .retractLoopUnload a => Sys2Proof.Machine.execRetractLoopUnload a s
  | .loopClear a => Sys2Proof.Machine.execLoopClear a s
  | .setWrite a n => Sys2Proof.Machine.execSetWrite a n s
  | .seekRequest a track => Sys2Proof.Machine.execSeekRequest a track s
  | .coefMemWrite e value => Sys2Proof.Machine.execCoefMemWrite e value s
  | .servoMemRead acc e => Sys2Proof.Machine.execServoMemRead acc e s
  | .traceArm e value => Sys2Proof.Machine.execTraceArm e value s
  | .traceStop e value => Sys2Proof.Machine.execTraceStop e value s
  | .currentPeriodMissed n => Sys2Proof.Machine.execCurrentPeriodMissed n s
  | .speedTick n speed => Sys2Proof.Machine.execSpeedTick n speed s
  | .startProbeCheck n forward => Sys2Proof.Machine.execStartProbeCheck n forward s
  | .observerLost n => Sys2Proof.Machine.execObserverLost n s
  | .overcurrent n => Sys2Proof.Machine.execOvercurrent n s
  | .atSpeedReached n => Sys2Proof.Machine.execAtSpeedReached n s
  | .probeEnd n speed => Sys2Proof.Machine.execProbeEnd n speed s
  | .brakeTimeout n => Sys2Proof.Machine.execBrakeTimeout n s
  | .alignEnd n => Sys2Proof.Machine.execAlignEnd n s
  | .startTimeout n => Sys2Proof.Machine.execStartTimeout n s
  | .reacquired n speed theta => Sys2Proof.Machine.execReacquired n speed theta s
  | .reacquireTimeout n => Sys2Proof.Machine.execReacquireTimeout n s
  | .spindleStart n => Sys2Proof.Machine.execSpindleStart n s
  | .startPlaceAdmit => Sys2Proof.Machine.execStartPlaceAdmit s
  | .spindleStop n => Sys2Proof.Machine.execSpindleStop n s
  | .spindleClear n => Sys2Proof.Machine.execSpindleClear n s
  | .targetWrite n rpm => Sys2Proof.Machine.execTargetWrite n rpm s
  | .motorRegisterWrite acc n off value => Sys2Proof.Machine.execMotorRegisterWrite acc n off value s
  | .spindleMemAccess acc e write value => Sys2Proof.Machine.execSpindleMemAccess acc e write value s
  | .tempSample n t => Sys2Proof.Machine.execTempSample n t s
  | .tempStale n => Sys2Proof.Machine.execTempStale n s
  | .headThermalTick duty => Sys2Proof.Machine.execHeadThermalTick duty s
  | .qualityCheck a h => Sys2Proof.Machine.execQualityCheck a h s
  | .verifyDone a h live => Sys2Proof.Machine.execVerifyDone a h live s
  | .recalibrationSweepDone a h qs reps rise duty full => Sys2Proof.Machine.execRecalibrationSweepDone a h qs reps rise duty full s
  | .biasTableMeasure a avgs => Sys2Proof.Machine.execBiasTableMeasure a avgs s
  | .referenceCalibration start vref adc osc => Sys2Proof.Machine.execReferenceCalibration start vref adc osc s
  | .refGo acc vref adc osc fref ppm => Sys2Proof.Machine.execRefGo acc vref adc osc fref ppm s
  | .frefMeasure fref ppm => Sys2Proof.Machine.execFrefMeasure fref ppm s
  | .huGo acc => Sys2Proof.Machine.execHuGo acc s
  | .holdupMeasurementStart => Sys2Proof.Machine.execHoldupMeasurementStart s
  | .holdupMeasurementEnd drawn v1 v2 esr late => Sys2Proof.Machine.execHoldupMeasurementEnd drawn v1 v2 esr late s
  | .huAgeExpiry => Sys2Proof.Machine.execHuAgeExpiry s
  | .poolSlotsWrite acc p slots => Sys2Proof.Machine.execPoolSlotsWrite acc p slots s
  | .slotDrain n => Sys2Proof.Machine.execSlotDrain n s
  | .slotCancel n => Sys2Proof.Machine.execSlotCancel n s
  | .slotExclude acc n value => Sys2Proof.Machine.execSlotExclude acc n value s
  | .courseOpen p kind kdom number stNs stId cands background => Sys2Proof.Machine.execCourseOpen p kind kdom number stNs stId cands background s
  | .mortarRowEncode course fill sramUe => Sys2Proof.Machine.execMortarRowEncode course fill sramUe s
  | .rowComplete course row => Sys2Proof.Machine.execRowComplete course row s
  | .courseClose course => Sys2Proof.Machine.execCourseClose course s
  | .reconstructionRead ix i1 got waits sramUe => Sys2Proof.Machine.execReconstructionRead ix i1 got waits sramUe s
  | .reconstructionWaitEnd ix i1 => Sys2Proof.Machine.execReconstructionWaitEnd ix i1 s
  | .brickDecision ix i1 kind urgentBg rebuildOk tRr tRb => Sys2Proof.Machine.execBrickDecision ix i1 kind urgentBg rebuildOk tRr tRb s
  | .heatSweep => Sys2Proof.Machine.execHeatSweep s
  | .replicaCommit ix course row => Sys2Proof.Machine.execReplicaCommit ix course row s
  | .compactionStart p => Sys2Proof.Machine.execCompactionStart p s
  | .extentMoveCommit ix course start => Sys2Proof.Machine.execExtentMoveCommit ix course start s
  | .rebuildStart n repl => Sys2Proof.Machine.execRebuildStart n repl s
  | .rebuildMemberSwitch course member => Sys2Proof.Machine.execRebuildMemberSwitch course member s
  | .drainMemberSwitch course member x => Sys2Proof.Machine.execDrainMemberSwitch course member x s
  | .rekeyStart d w0 w1 => Sys2Proof.Machine.execRekeyStart d w0 w1 s
  | .journalPagePersist jseq => Sys2Proof.Machine.execJournalPagePersist jseq s
  | .checkpointStart => Sys2Proof.Machine.execCheckpointStart s
  | .checkpointEnd bootSlots => Sys2Proof.Machine.execCheckpointEnd bootSlots s
  | .seekTableAccess acc write value => Sys2Proof.Machine.execSeekTableAccess acc write value s
  | .tableSegmentRebuild table idx => Sys2Proof.Machine.execTableSegmentRebuild table idx s
  | .deleteIoSubmissionQueue c qid => Sys2Proof.Machine.execDeleteIoSubmissionQueue c qid s
  | .createIoSubmissionQueue c qid size cqid prio contiguous => Sys2Proof.Machine.execCreateIoSubmissionQueue c qid size cqid prio contiguous s
  | .deleteIoCompletionQueue c qid => Sys2Proof.Machine.execDeleteIoCompletionQueue c qid s
  | .createIoCompletionQueue c qid size vector contiguous => Sys2Proof.Machine.execCreateIoCompletionQueue c qid size vector contiguous s
  | .getLogPage c lid nsid ofs len rae => Sys2Proof.Machine.execGetLogPage c lid nsid ofs len rae s
  | .identify c cns nsid => Sys2Proof.Machine.execIdentify c cns nsid s
  | .abort c sqid cid others => Sys2Proof.Machine.execAbort c sqid cid others s
  | .setFeatures c fid nsid value data => Sys2Proof.Machine.execSetFeatures c fid nsid value data s
  | .getFeatures c fid nsid => Sys2Proof.Machine.execGetFeatures c fid nsid s
  | .asynchronousEventRequest c => Sys2Proof.Machine.execAsynchronousEventRequest c s
  | .namespaceCreate c set nsze ncap flbas nmic pool flags maxValue w0 w1 => Sys2Proof.Machine.execNamespaceCreate c set nsze ncap flbas nmic pool flags maxValue w0 w1 s
  | .namespaceDelete c nsid => Sys2Proof.Machine.execNamespaceDelete c nsid s
  | .namespaceAttach c nsid ids => Sys2Proof.Machine.execNamespaceAttach c nsid ids s
  | .namespaceDetach c nsid ids => Sys2Proof.Machine.execNamespaceDetach c nsid ids s
  | .firmwareImageDownload c ofs bytes => Sys2Proof.Machine.execFirmwareImageDownload c ofs bytes s
  | .firmwareCommitReplace c slot next w0 w1 => Sys2Proof.Machine.execFirmwareCommitReplace c slot next w0 w1 s
  | .firmwareCommitNextBoot c slot => Sys2Proof.Machine.execFirmwareCommitNextBoot c slot s
  | .firmwareCommitActivate c slot => Sys2Proof.Machine.execFirmwareCommitActivate c slot s
  | .activationQuiesced ms => Sys2Proof.Machine.execActivationQuiesced ms s
  | .activationQuiesceTimeout => Sys2Proof.Machine.execActivationQuiesceTimeout s
  | .nvmeMiSend c r => Sys2Proof.Machine.execNvmeMiSend c r s
  | .nvmeMiReceive c => Sys2Proof.Machine.execNvmeMiReceive c s
  | .formatNvm c nsid ses w0 w1 => Sys2Proof.Machine.execFormatNvm c nsid ses w0 w1 s
  | .formatDone => Sys2Proof.Machine.execFormatDone s
  | .sanitizeCryptoErase c w0 w1 => Sys2Proof.Machine.execSanitizeCryptoErase c w0 w1 s
  | .sanitizeBlockErase c w0 w1 => Sys2Proof.Machine.execSanitizeBlockErase c w0 w1 s
  | .sanitizeOverwrite c w0 w1 => Sys2Proof.Machine.execSanitizeOverwrite c w0 w1 s
  | .sanitizeDone => Sys2Proof.Machine.execSanitizeDone s
  | .clearEventRecorder c tok => Sys2Proof.Machine.execClearEventRecorder c tok s
  | .getAttestationReport c nonce len w0 w1 => Sys2Proof.Machine.execGetAttestationReport c nonce len w0 w1 s
  | .unsupportedCommand c => Sys2Proof.Machine.execUnsupportedCommand c s
  | .flush c nsid => Sys2Proof.Machine.execFlush c nsid s
  | .flushComplete c => Sys2Proof.Machine.execFlushComplete c s
  | .write c nsid slba nlb fua data dptr => Sys2Proof.Machine.execWrite c nsid slba nlb fua data dptr s
  | .writeAcknowledge c => Sys2Proof.Machine.execWriteAcknowledge c s
  | .writeWaitEnd c => Sys2Proof.Machine.execWriteWaitEnd c s
  | .read c nsid slba nlb fua lr dptr media => Sys2Proof.Machine.execRead c nsid slba nlb fua lr dptr media s
  | .compare c nsid slba nlb data dptr media => Sys2Proof.Machine.execCompare c nsid slba nlb data dptr media s
  | .writeZeroes c nsid slba nlb fua => Sys2Proof.Machine.execWriteZeroes c nsid slba nlb fua s
  | .datasetManagement c nsid nr ad ranges => Sys2Proof.Machine.execDatasetManagement c nsid nr ad ranges s
  | .verify c nsid slba nlb media => Sys2Proof.Machine.execVerify c nsid slba nlb media s
  | .zoneClose c nsid slba all_ => Sys2Proof.Machine.execZoneClose c nsid slba all_ s
  | .zoneFinish c nsid slba all_ => Sys2Proof.Machine.execZoneFinish c nsid slba all_ s
  | .zoneOpen c nsid slba all_ => Sys2Proof.Machine.execZoneOpen c nsid slba all_ s
  | .zoneReset c nsid slba all_ => Sys2Proof.Machine.execZoneReset c nsid slba all_ s
  | .zoneOffline c nsid => Sys2Proof.Machine.execZoneOffline c nsid s
  | .zoneManagementReceive c nsid slba zra => Sys2Proof.Machine.execZoneManagementReceive c nsid slba zra s
  | .zoneAppend c nsid zslba nlb fua data dptr => Sys2Proof.Machine.execZoneAppend c nsid zslba nlb fua data dptr s
  | .store c nsid key size noOver onlyOver data dptr => Sys2Proof.Machine.execStore c nsid key size noOver onlyOver data dptr s
  | .retrieve c nsid key bufSize ofs dptr media => Sys2Proof.Machine.execRetrieve c nsid key bufSize ofs dptr media s
  | .delete c nsid key => Sys2Proof.Machine.execDelete c nsid key s
  | .exist c nsid key => Sys2Proof.Machine.execExist c nsid key s
  | .list c nsid key => Sys2Proof.Machine.execList c nsid key s
  | .sqDoorbellWrite ctl q value => Sys2Proof.Machine.execSqDoorbellWrite ctl q value s
  | .fetchResume => Sys2Proof.Machine.execFetchResume s
  | .cqDoorbellWrite ctl q value => Sys2Proof.Machine.execCqDoorbellWrite ctl q value s
  | .ccEnClear ctl => Sys2Proof.Machine.execCcEnClear ctl s
  | .ccEnSet ctl asq acq numVfs => Sys2Proof.Machine.execCcEnSet ctl asq acq numVfs s
  | .functionLevelReset port fn => Sys2Proof.Machine.execFunctionLevelReset port fn s
  | .portReset port cause => Sys2Proof.Machine.execPortReset port cause s
  | .vfEnableClear port => Sys2Proof.Machine.execVfEnableClear port s
  | .ccShnNormal ctl => Sys2Proof.Machine.execCcShnNormal ctl s
  | .ccShnAbrupt ctl => Sys2Proof.Machine.execCcShnAbrupt ctl s
  | .namespaceReady nsid sec => Sys2Proof.Machine.execNamespaceReady nsid sec s
  | .miReadDataStructure i3c pecOk kind portOrCtl => Sys2Proof.Machine.execMiReadDataStructure i3c pecOk kind portOrCtl s
  | .miSubsystemHealthPoll i3c pecOk => Sys2Proof.Machine.execMiSubsystemHealthPoll i3c pecOk s
  | .miControllerHealthPoll i3c pecOk ctl => Sys2Proof.Machine.execMiControllerHealthPoll i3c pecOk ctl s
  | .miConfigurationGet i3c pecOk cid => Sys2Proof.Machine.execMiConfigurationGet i3c pecOk cid s
  | .miConfigurationSet i3c pecOk cid value => Sys2Proof.Machine.execMiConfigurationSet i3c pecOk cid value s
  | .miVpdRead i3c pecOk ofs len => Sys2Proof.Machine.execMiVpdRead i3c pecOk ofs len s
  | .miTunnelledAdmin i3c pecOk op ctl a b ofs len => Sys2Proof.Machine.execMiTunnelledAdmin i3c pecOk op ctl a b ofs len s
  | .smbusTimeout => Sys2Proof.Machine.execSmbusTimeout s
  | .i3cAddressAssigned da => Sys2Proof.Machine.execI3cAddressAssigned da s
  | .pcieLinkUp port speed width => Sys2Proof.Machine.execPcieLinkUp port speed width s
  | .pcieLinkDown port => Sys2Proof.Machine.execPcieLinkDown port s
  | .perstDeassert port two sris => Sys2Proof.Machine.execPerstDeassert port two sris s
  | .regionValidSet acc r => Sys2Proof.Machine.execRegionValidSet acc r s
  | .regionWipeDone r => Sys2Proof.Machine.execRegionWipeDone r s
  | .regionValidClear acc r => Sys2Proof.Machine.execRegionValidClear acc r s
  | .dramRead addr outcome brick => Sys2Proof.Machine.execDramRead addr outcome brick s
  | .correctedWriteBack line => Sys2Proof.Machine.execCorrectedWriteBack line s
  | .dramPartialWrite addr bytes outcome brick => Sys2Proof.Machine.execDramPartialWrite addr bytes outcome brick s
  | .dramFullWrite addr bytes => Sys2Proof.Machine.execDramFullWrite addr bytes s
  | .scrubLine outcome late lapMin brick => Sys2Proof.Machine.execScrubLine outcome late lapMin brick s
  | .dvDataRead acc => Sys2Proof.Machine.execDvDataRead acc s
  | .dvDataWrite acc value => Sys2Proof.Machine.execDvDataWrite acc value s
  | .destageStart w sub => Sys2Proof.Machine.execDestageStart w sub s
  | .subBlockAgeExpiry w sub => Sys2Proof.Machine.execSubBlockAgeExpiry w sub s
  | .destageCopyDone w sub => Sys2Proof.Machine.execDestageCopyDone w sub s
  | .evictionDone w => Sys2Proof.Machine.execEvictionDone w s
  | .subBlockFillDone w sub data => Sys2Proof.Machine.execSubBlockFillDone w sub data s
  | .cacheDisableWrite acc value => Sys2Proof.Machine.execCacheDisableWrite acc value s
  | .hodNop n => Sys2Proof.Machine.execHodNop n s
  | .hodMove n host => Sys2Proof.Machine.execHodMove n host s
  | .hodFill n => Sys2Proof.Machine.execHodFill n s
  | .hodCompare n hostA hostB => Sys2Proof.Machine.execHodCompare n hostA hostB s
  | .hodWait n => Sys2Proof.Machine.execHodWait n s
  | .hodWaitSatisfied n => Sys2Proof.Machine.execHodWaitSatisfied n s
  | .hodWaitTimeout n => Sys2Proof.Machine.execHodWaitTimeout n s
  | .hodFlip n => Sys2Proof.Machine.execHodFlip n s
  | .hodSignal n => Sys2Proof.Machine.execHodSignal n s
  | .hodPost n => Sys2Proof.Machine.execHodPost n s
  | .hodPostRetry n => Sys2Proof.Machine.execHodPostRetry n s
  | .hodBranch n => Sys2Proof.Machine.execHodBranch n s
  | .hodSetlc n => Sys2Proof.Machine.execHodSetlc n s
  | .hodStop n => Sys2Proof.Machine.execHodStop n s
  | .hodStride n => Sys2Proof.Machine.execHodStride n s
  | .hodIllegal n => Sys2Proof.Machine.execHodIllegal n s
  | .hodUnblock n => Sys2Proof.Machine.execHodUnblock n s
  | .hodChannelStart acc n => Sys2Proof.Machine.execHodChannelStart acc n s
  | .hodChannelAbort acc n => Sys2Proof.Machine.execHodChannelAbort acc n s
  | .eventFlagSet acc mask => Sys2Proof.Machine.execEventFlagSet acc mask s
  | .eventFlagClear acc mask => Sys2Proof.Machine.execEventFlagClear acc mask s
  | .flagWrite agent space addr owner hseq err => Sys2Proof.Machine.execFlagWrite agent space addr owner hseq err s
  | .flagRead agent space addr => Sys2Proof.Machine.execFlagRead agent space addr s
  | .slotAllocateOne acc => Sys2Proof.Machine.execSlotAllocateOne acc s
  | .slotAllocatePair acc => Sys2Proof.Machine.execSlotAllocatePair acc s
  | .commonWindowAccess agent addr n ecc write => Sys2Proof.Machine.execCommonWindowAccess agent addr n ecc write s
  | .windowValidSet acc w => Sys2Proof.Machine.execWindowValidSet acc w s
  | .fifoPost n agent item commit => Sys2Proof.Machine.execFifoPost n agent item commit s
  | .fifoDataWrite acc core i1 value => Sys2Proof.Machine.execFifoDataWrite acc core i1 value s
  | .fifoPop acc core => Sys2Proof.Machine.execFifoPop acc core s
  | .fifoCommit acc core => Sys2Proof.Machine.execFifoCommit acc core s
  | .fifoRewind acc core => Sys2Proof.Machine.execFifoRewind acc core s
  | .claimTimeout n => Sys2Proof.Machine.execClaimTimeout n s
  | .mbxC2mDoorbell acc slot => Sys2Proof.Machine.execMbxC2mDoorbell acc slot s
  | .mbxM2cDoorbell acc slot => Sys2Proof.Machine.execMbxM2cDoorbell acc slot s
  | .exchangeLate slot => Sys2Proof.Machine.execExchangeLate slot s
  | .lcTransitionRequest acc target places dur vend => Sys2Proof.Machine.execLcTransitionRequest acc target places dur vend s
  | .tokenDataWrite acc value => Sys2Proof.Machine.execTokenDataWrite acc value s
  | .tokenPresent acc places dur vend => Sys2Proof.Machine.execTokenPresent acc places dur vend s
  | .jtagLcToken tok places dur vend => Sys2Proof.Machine.execJtagLcToken tok places dur vend s
  | .domainCreate acc w0 w1 => Sys2Proof.Machine.execDomainCreate acc w0 w1 s
  | .domainReplace acc w0 w1 => Sys2Proof.Machine.execDomainReplace acc w0 w1 s
  | .domainDestroy acc => Sys2Proof.Machine.execDomainDestroy acc s
  | .domainRetire acc => Sys2Proof.Machine.execDomainRetire acc s
  | .xtsMessage e id cls kdom dec fin => Sys2Proof.Machine.execXtsMessage e id cls kdom dec fin s
  | .xtsMessageResume e unwrapOk fin => Sys2Proof.Machine.execXtsMessageResume e unwrapOk fin s
  | .kvChunkTagCheck c again => Sys2Proof.Machine.execKvChunkTagCheck c again s
  | .powerLossShutdown places dur vend => Sys2Proof.Machine.execPowerLossShutdown places dur vend s
  | .vinDip => Sys2Proof.Machine.execVinDip s
  | .vinHigh => Sys2Proof.Machine.execVinHigh s
  | .vinOv beyond places dur vend => Sys2Proof.Machine.execVinOv beyond places dur vend s
  | .holdupShort places jseq => Sys2Proof.Machine.execHoldupShort places jseq s
  | .inrushFail => Sys2Proof.Machine.execInrushFail s
  | .inrushRetry => Sys2Proof.Machine.execInrushRetry s
  | .railPgTimeout r dest => Sys2Proof.Machine.execRailPgTimeout r dest s
  | .railPgLoss r dest back => Sys2Proof.Machine.execRailPgLoss r dest back s
  | .xtalSettleTimeout => Sys2Proof.Machine.execXtalSettleTimeout s
  | .sleepRequest d => Sys2Proof.Machine.execSleepRequest d s
  | .sleepAnswerTimeout d pg => Sys2Proof.Machine.execSleepAnswerTimeout d pg s
  | .sleepRetry d => Sys2Proof.Machine.execSleepRetry d s
  | .domainWake d => Sys2Proof.Machine.execDomainWake d s
  | .clusterSleepWrite acc value => Sys2Proof.Machine.execClusterSleepWrite acc value s
  | .powerStateEntry => Sys2Proof.Machine.execPowerStateEntry s
  | .powerStateExit => Sys2Proof.Machine.execPowerStateExit s
  | .apstIdleTimeout ctl => Sys2Proof.Machine.execApstIdleTimeout ctl s
  | .cpxIdleSleep => Sys2Proof.Machine.execCpxIdleSleep s
  | .capControlTick vin vhold pin spent ease => Sys2Proof.Machine.execCapControlTick vin vhold pin spent ease s
  | .thermalModelTick powers raw => Sys2Proof.Machine.execThermalModelTick powers raw s
  | .sensorTrustRestore n => Sys2Proof.Machine.execSensorTrustRestore n s
  | .caseTempEstimate => Sys2Proof.Machine.execCaseTempEstimate s
  | .throttleStepDown => Sys2Proof.Machine.execThrottleStepDown s
  | .throttleStepUp => Sys2Proof.Machine.execThrottleStepUp s
  | .thermalTrip places dur vend => Sys2Proof.Machine.execThermalTrip places dur vend s
  | .tripCooldownRestart memFail badBlobs attOk badCl => Sys2Proof.Machine.execTripCooldownRestart memFail badBlobs attOk badCl s
  | .cpxFault core cause recent places dur vend => Sys2Proof.Machine.execCpxFault core cause recent places dur vend s
  | .mgpFault mchk recent places dur vend => Sys2Proof.Machine.execMgpFault mchk recent places dur vend s
  | .processorRestartDone set ms bad => Sys2Proof.Machine.execProcessorRestartDone set ms bad s
  | .restartTimeout set places dur vend => Sys2Proof.Machine.execRestartTimeout set places dur vend s
  | .clockUnlockLoss c acc dest => Sys2Proof.Machine.execClockUnlockLoss c acc dest s
  | .recStatClear acc mask => Sys2Proof.Machine.execRecStatClear acc mask s
  | .dirtyNsClear nsid => Sys2Proof.Machine.execDirtyNsClear nsid s
  | .recordNorWrite w0 w1 => Sys2Proof.Machine.execRecordNorWrite w0 w1 s
  | .operatingHourTick => Sys2Proof.Machine.execOperatingHourTick s
  | .quantitySample minute => Sys2Proof.Machine.execQuantitySample minute s
  | .recorderFreeze acc => Sys2Proof.Machine.execRecorderFreeze acc s
  | .recorderThaw acc => Sys2Proof.Machine.execRecorderThaw acc s
  | .recordRead acc => Sys2Proof.Machine.execRecordRead acc s
  | .moduleStart memFail badBlobs attOk badCl => Sys2Proof.Machine.execModuleStart memFail badBlobs attOk badCl s
  | .tableLoad ms => Sys2Proof.Machine.execTableLoad ms s
  | .readyLate => Sys2Proof.Machine.execReadyLate s
  | .bootWatchdogExpiry places dur vend => Sys2Proof.Machine.execBootWatchdogExpiry places dur vend s
  | .cpxWatchdogExpiry core recent places dur vend => Sys2Proof.Machine.execCpxWatchdogExpiry core recent places dur vend s
  | .mgpWatchdogExpiry recent places dur vend => Sys2Proof.Machine.execMgpWatchdogExpiry recent places dur vend s
  | .watchdogPrewarn n => Sys2Proof.Machine.execWatchdogPrewarn n s
  | .wdgKick acc value => Sys2Proof.Machine.execWdgKick acc value s
  | .moduleResetRequest acc value places dur vend => Sys2Proof.Machine.execModuleResetRequest acc value places dur vend s
  | .recoveryStart acc => Sys2Proof.Machine.execRecoveryStart acc s
  | .recoveryDataWrite acc value => Sys2Proof.Machine.execRecoveryDataWrite acc value s
  | .recoveryCommit acc w0 w1 => Sys2Proof.Machine.execRecoveryCommit acc w0 w1 s
  | .recoveryRetry acc places dur vend => Sys2Proof.Machine.execRecoveryRetry acc places dur vend s
  | .serviceFailTimeout port => Sys2Proof.Machine.execServiceFailTimeout port s
  | .norRefresh area dev good => Sys2Proof.Machine.execNorRefresh area dev good s
  | .vinPowerUp => Sys2Proof.Machine.execVinPowerUp s
  | .vholdCollapse => Sys2Proof.Machine.execVholdCollapse s
  | .blockLockRegained a n => Sys2Proof.Machine.execBlockLockRegained a n s
  | .msixVectorUnmask port v => Sys2Proof.Machine.execMsixVectorUnmask port v s
  | .busMasterEnableClear port fn => Sys2Proof.Machine.execBusMasterEnableClear port fn s
  | .completionTimeout c n => Sys2Proof.Machine.execCompletionTimeout c n s
  | .pcieErrorDetected port kind => Sys2Proof.Machine.execPcieErrorDetected port kind s
  | .tempDerate p code => Sys2Proof.Machine.execTempDerate p code s

end Sys2Proof.Machine
end

