-- ==== Sys2Proof/Safety.lean ====
section
/-! DEFINITION. What claims call a good state and a safe step: the tables that stand for registers and memories are in their
one canonical form, and a step ends in a next state. -/

namespace Sys2Proof.Machine

/-- The register table is in canonical form: keys rise, and no listed register holds its reset value. -/
def Io.wf (io : Io) : Bool := Tab.wf Io.regDefault io.regs

/-- A memory of bytes is in canonical form: addresses rise, and no listed byte is 0, which an unlisted byte reads as. -/
def Memory.wf (m : List (Nat × Byte)) : Bool := Tab.wf (fun _ => 0#8) m

/-- The canonical form of everything addressed: the registers, the DRAM and the on-die SRAM. -/
def State.wf (s : State) : Bool := s.io.wf && Memory.wf s.buf.dram && Memory.wf s.hod.sram

/-- A step that ends in a next state. -/
def Safe (s : State) : Prop := ∃ t, step s = .next t

end Sys2Proof.Machine
end

