-- ==== Sys2Proof/Certificates/Slice0/Obligations.lean ====
section
/-! DEFINITION. The obligations: what the commands of each family do where they come about, the rules of the whole block, and the
invariants that every step keeps. A statement that a command completes gives the whole next state, so it is the command's frame
too: what the state named does not change stays as it was. Its hypotheses are conditions on the state and the operands alone
under which the command comes about; that what the outside world brings stands in the operands, and that a happening that
cannot come about has no effect, are the model's choices (log entries 1 and 2). -/

section

open Sys2Proof Sys2Proof.Machine Sys2Proof.Machine.State

set_option linter.unusedVariables false

namespace Sys2Proof.Claims

open Sys2Proof.Machine

/-- Commands that store nothing in the buffer memory or the on-die SRAM, of every family of the table. -/
def storesNothing : Instr → Bool
  | .huGo .. | .correctedWriteBack .. | .fetchResume | .dirtyNsClear .. | .vholdCollapse
  | .norRefresh .. | .reconstructionWaitEnd .. | .windowLeak .. | .blockLockRegained .. | .invalidBlockHeader ..
  | .tileFirstWriteArm .. | .sqWordRead .. | .eventFlagClear .. | .msixVectorUnmask .. | .qmClear ..
  | .csRepairEnable .. | .regionWipeDone .. | .threadAbort .. | .subBlockAgeExpiry .. | .traceStop ..
  | .domainRetire .. | .caseTempEstimate | .headThermalTick .. | .csLoadEnable .. | .inrushRetry
  | .spindleMemAccess .. | .systemTileUpdate .. | .vinPowerUp | .regionValidClear .. | .digestClr ..
  | .perstDeassert .. | .recoveryStart .. | .tokenDataWrite .. | .operatingHourTick | .holdupMeasurementStart
  | .pageLock .. | .threadHalt .. | .errInjCont .. | .errInjOneshot .. | .traceArm ..
  | .pageThaw .. | .recordRead .. | .recoveryDataWrite .. | .winCfgSelect .. | .servoMemRead ..
  | .zoneEntryStore .. | .retractSwWrite .. | .evictionDone .. | .wdgKick .. | .recStatClear ..
  | .retractHoldExpiry .. | .lowWordWrite .. | .serviceFailTimeout .. | .winCfgStore .. | .retractHwRelease ..
  | .seekTableAccess .. | .fifoCommit .. | .fifoRewind .. | .destageStart .. | .fifoPop ..
  | .configSend .. | .eventFlagSet .. | .tempSample .. | .loadingOutputTick .. | .seekRequest ..
  | .pageFreeze .. | .eqAdapted .. | .hodChannelStart .. | .hodUnblock .. | .threadRun ..
  | .csParityRepair .. | .namespaceReady .. | .highWordRead .. | .lowWordRead .. | .rcRegisterRead ..
  | .slotExclude .. | .recorderFreeze .. | .recorderThaw .. | .evPendClear .. | .evEnWrite ..
  | .evRouteWrite .. | .waitSatisfied .. | .exchangeLate .. | .vinDip | .vinHigh
  | .claimTimeout .. | .smbusTimeout | .tempDerate .. | .tempStale .. | .i3cAddressAssigned ..
  | .pcieErrorDetected .. | .readyLate | .traceDone .. | .pcieLinkUp .. | .throttleStepUp
  | .evSet .. | .throttleStepDown | .coefMemWrite .. | .motorRegisterWrite .. | .recordNorWrite ..
  | .frefMeasure .. | .csWordCommit .. | .watchdogPrewarn .. | .flagRead .. | .targetWrite ..
  | .windowValidSet .. | .spindleClear .. | .startPlaceAdmit | .xtsMessageResume .. | .cacheDisableWrite ..
  | .jobPost .. | .processorRestartDone .. | .refGo .. | .spindleStart .. | .domainCreate ..
  | .mortarRowEncode .. => true
  | _ => false

/-- Header commands whose whole effect is on the page they name. -/
def ownPage : Instr → Option Nat
  | .pageLock _ pg => some pg
  | .pageFreeze _ pg => some pg
  | .pageThaw _ pg => some pg
  | .winCfgStore _ pg _ => some pg
  | .winCfgSelect _ pg _ => some pg
  | .errInjOneshot _ pg _ => some pg
  | .errInjCont _ pg _ => some pg
  | _ => none

/-- The pages of instances that an H7064 does not have (R2). -/
def absentPages : List Nat :=
  (List.range 4).flatMap fun k => [0x44 + k, 0x4C + k, 0x54 + k, 0x5C + k, 0x64 + k]

end Sys2Proof.Claims

/-- A step runs the command at the front of the queue. For every state whose queue begins with a command, a step answers
what that command answers on the state with the rest of the queue. (R32, R481) -/
def Obligations.StepRunsFrontCommand : Prop :=
  ∀ (s : State) (c : Instr) (rest : List Instr), s.pending = c :: rest → step s = exec c { s with pending := rest }

/-- With no command waiting the block stays as it is (the model's choice). A step on an empty queue answers the same
state. The spec gives no tick command; that the block idles is a design choice of the model (log entry 3). (R32, R7) -/
def Obligations.EmptyQueueIdles : Prop :=
  ∀ s : State, s.pending = [] → step s = .next s

/-- Every command answers a next state in every state. No command of the table ends in a fault or a refusal, whatever its
operands and whatever the state. (R32, R443) -/
def Obligations.EveryCommandAnswers : Prop :=
  ∀ (c : Instr) (s : State), ∃ t, exec c s = .next t

/-- The state after reset is in canonical form. After power-on reset the register table and both memories are in canonical
form, no command waits and no page is locked. (R474, R37) -/
def Obligations.ResetIsWellFormed : Prop :=
  State.reset.wf = true ∧ State.reset.pending = [] ∧ ∀ pg < 256, State.reset.io.locked pg = false

/-- Every field of every page takes its reset value. After power-on reset every field of every present page of the H7128
reads the value of its table's Reset column; a fused, strap, random or from-NOR field reads the value the model names
for it (log entries of the register layout). (R474, R36) -/
def Obligations.ResetGivesTheResetColumn : Prop :=
  ∀ pg < 256, present State.reset.part pg = true → ∀ f ∈ pageFields pg, State.reset.fld pg f = f.rst

/-- Register accesses complete. Each access to a register of the aperture completes: a full-width write of a register goes
through the one write operation with its page, offset and value; an access with partial byte enables is refused with
the unsupported-request event of PCX; the low and high words of 64-bit values go through their latch and buffer. The
hypotheses are the conditions under which the command comes about (log entries 1 and 2). (R34, R35) -/
def Obligations.ApertureAccessesComplete : Prop :=
  (∀ (acc : Accessor) (addr : Nat) (value : Word) (fullBe : Bool) (s : State),
      s.pwr.phase = .run → addr < 2 ^ 20 → addr % 4 = 0 → fullBe = true → State.isLow (addrPage addr) (addrOfs addr) = false → State.isHigh (addrPage addr) (addrOfs addr) = false →
      exec (.registerWrite acc addr value fullBe) s = .next (s.writeReg acc (addrPage addr) (addrOfs addr) value.toNat)) ∧
  (∀ (acc : Accessor) (addr : Nat) (value : Word) (fullBe : Bool) (s : State),
      s.pwr.phase = .run → addr < 2 ^ 20 → addr % 4 = 0 → fullBe = false →
      exec (.registerWrite acc addr value fullBe) s = .next (s.raise 0x10 6 0)) ∧
  (∀ (acc : Accessor) (addr : Nat) (s : State),
      s.pwr.phase = .run → addr < 2 ^ 20 → addr % 4 = 0 → State.isLow (addrPage addr) (addrOfs addr) = false → State.isHigh (addrPage addr) (addrOfs addr) = false →
      exec (.rcRegisterRead acc addr) s = .next (s.readReg acc (addrPage addr) (addrOfs addr))) ∧
  (∀ (acc : Accessor) (addr : Nat) (s : State),
      s.pwr.phase = .run → addr < 2 ^ 20 → State.isLow (addrPage addr) (addrOfs addr) = true →
      exec (.lowWordRead acc addr) s = .next (s.lowRead acc (addrPage addr) (addrOfs addr))) ∧
  (∀ (acc : Accessor) (addr : Nat) (s : State),
      s.pwr.phase = .run → addr < 2 ^ 20 → State.isHigh (addrPage addr) (addrOfs addr) = true →
      exec (.highWordRead acc addr) s = .next (s.highRead acc (addrPage addr) (addrOfs addr))) ∧
  (∀ (acc : Accessor) (addr : Nat) (value : Word) (s : State),
      s.pwr.phase = .run → addr < 2 ^ 20 → State.isLow (addrPage addr) (addrOfs addr) = true →
      exec (.lowWordWrite acc addr value) s = .next (s.lowWrite acc (addrPage addr) (addrOfs addr) value)) ∧
  (∀ (acc : Accessor) (addr : Nat) (value : Word) (s : State),
      s.pwr.phase = .run → addr < 2 ^ 20 → State.isHigh (addrPage addr) (addrOfs addr) = true →
      exec (.highWordWrite acc addr value) s = .next (s.highWrite acc (addrPage addr) (addrOfs addr) value))

/-- Page lock, freeze, reset and enable commands complete. Each command of a page header that the page accepts completes
with its own effect; SOFT_RESET of an enabled or barred page sets RESET_REFUSED, of another page SOFT_RESET and
RESET_BUSY. The hypotheses are the conditions under which the command comes about (log entries 1 and 2). (R37, R39,
R38, R36) -/
def Obligations.PageHeaderCommandsComplete : Prop :=
  (∀ (acc : Accessor) (pg : Nat) (s : State),
      s.pwr.phase = .run → present s.part pg = true → s.closedWrite acc pg 0 = false →
      exec (.pageLock acc pg) s = .next (s.setB pg HDR.PG_CTL.LOCK true)) ∧
  (∀ (acc : Accessor) (pg : Nat) (s : State),
      s.pwr.phase = .run → present s.part pg = true → s.closedWrite acc pg 0 = false → s.io.heldPages.contains pg = false →
      exec (.pageFreeze acc pg) s = .next (((s.holdPage pg).setB pg HDR.PG_CTL.FREEZE true).setB pg HDR.PG_STAT.FROZEN true)) ∧
  (∀ (acc : Accessor) (pg : Nat) (s : State),
      s.pwr.phase = .run → present s.part pg = true → s.closedWrite acc pg 0 = false →
      exec (.pageThaw acc pg) s = .next (((s.dropHeld pg).setB pg HDR.PG_CTL.FREEZE false).setB pg HDR.PG_STAT.FROZEN false)) ∧
  (∀ (acc : Accessor) (pg : Nat) (enable : Bool) (s : State),
      s.pwr.phase = .run → present s.part pg = true → s.closedWrite acc pg 0 = false → s.enabled pg = false → s.resetBarred pg = false →
      exec (.softReset acc pg enable) s = .next (((s.writeEnable acc pg enable).setB pg HDR.PG_CTL.SOFT_RESET true).setB pg HDR.PG_STAT.RESET_BUSY true)) ∧
  (∀ (acc : Accessor) (pg : Nat) (enable : Bool) (s : State),
      s.pwr.phase = .run → present s.part pg = true → s.closedWrite acc pg 0 = false → s.enabled pg = true →
      exec (.softReset acc pg enable) s = .next ((s.writeEnable acc pg enable).setB pg HDR.PG_STAT.RESET_REFUSED true)) ∧
  (∀ (pg : Nat) (s : State),
      s.pwr.phase = .run → present s.part pg = true → s.flag pg HDR.PG_STAT.RESET_BUSY = true →
      exec (.softResetDone pg) s = .next (s.softReset pg)) ∧
  (∀ (acc : Accessor) (pg : Nat) (s : State),
      s.pwr.phase = .run → present s.part pg = true → s.closedWrite acc pg 0 = false →
      exec (.blockEnable acc pg) s = .next (s.writeEnable acc pg true)) ∧
  (∀ (acc : Accessor) (pg : Nat) (s : State),
      s.pwr.phase = .run → present s.part pg = true → s.closedWrite acc pg 0 = false →
      exec (.blockDisable acc pg) s = .next (s.writeEnable acc pg false))

/-- Event and window commands of a page complete. Each write of a page's event registers that the page accepts completes
with its own effect: pending bits clear where written 1, EV_SET raises each bit the page has, enables and routing are
stored, a window setting is stored with its counts cleared, an injection is armed, a window leaks one count from each
unit, and a lasting condition takes its action. The hypotheses are the conditions under which the command comes about
(log entries 1 and 2). (R36, R461, R450, R39, R451) -/
def Obligations.EventHeaderCommandsComplete : Prop :=
  (∀ (acc : Accessor) (pg : Nat) (mask : Word) (s : State),
      s.pwr.phase = .run → present s.part pg = true → s.closedWrite acc pg 0 = false →
      exec (.evPendClear acc pg mask) s = .next ((s.set pg HDR.EV_PEND.V (s.fld pg HDR.EV_PEND.V - (s.fld pg HDR.EV_PEND.V &&& mask.toNat))).resignal pg)) ∧
  (∀ (acc : Accessor) (pg : Nat) (mask : Word) (s : State),
      s.pwr.phase = .run → present s.part pg = true → s.closedWrite acc pg 0 = false →
      exec (.evSet acc pg mask) s = .next (((List.range 32).filter fun b => bitOf (mask.toNat &&& State.evMask pg) b).foldl (fun (s : State) b => s.raise pg b 0) s)) ∧
  (∀ (acc : Accessor) (pg : Nat) (value : Word) (s : State),
      s.pwr.phase = .run → present s.part pg = true → s.closedWrite acc pg 0 = false →
      exec (.evEnWrite acc pg value) s = .next ((s.set pg HDR.EV_EN.V (value.toNat &&& State.evMask pg)).resignal pg)) ∧
  (∀ (acc : Accessor) (pg : Nat) (value : Word) (s : State),
      s.pwr.phase = .run → present s.part pg = true → s.closedWrite acc pg 0 = false → s.io.locked pg = false →
      exec (.evRouteWrite acc pg value) s = .next ((((((s.set pg HDR.EV_ROUTE.VECTOR (bitsOf value.toNat 14 8)).set pg HDR.EV_ROUTE.PIN (bitsOf value.toNat 3 3)).set pg HDR.EV_ROUTE.MGP (bitsOf value.toNat 2 2)).set pg HDR.EV_ROUTE.CPX (bitsOf value.toNat 1 1)).set pg HDR.EV_ROUTE.MSIX (bitsOf value.toNat 0 0)).resignal pg)) ∧
  (∀ (acc : Accessor) (pg : Nat) (value : Word) (s : State),
      s.pwr.phase = .run → present s.part pg = true → s.closedWrite acc pg 0 = false → s.io.locked pg = false →
      exec (.winCfgStore acc pg value) s = .next ((s.set pg HDR.WIN_CFG.SEL (bitsOf value.toNat 4 0)).onIo fun i => i.setWin pg (bitsOf value.toNat 4 0) ⟨bitsOf value.toNat 31 20, bitsOf value.toNat 19 16, bitsOf value.toNat 15 8, []⟩)) ∧
  (∀ (acc : Accessor) (pg : Nat) (value : Word) (s : State),
      s.pwr.phase = .run → present s.part pg = true → s.closedWrite acc pg 0 = false →
      exec (.winCfgSelect acc pg value) s = .next (s.set pg HDR.WIN_CFG.SEL (bitsOf value.toNat 4 0))) ∧
  (∀ (acc : Accessor) (pg : Nat) (src : Nat) (s : State),
      s.pwr.phase = .run → present s.part pg = true → s.closedWrite acc pg 0 = false →
      exec (.errInjOneshot acc pg src) s = .next ((s.set pg HDR.ERR_INJ.SRC (src % 32)).setB pg HDR.ERR_INJ.ONESHOT true)) ∧
  (∀ (acc : Accessor) (pg : Nat) (src : Nat) (s : State),
      s.pwr.phase = .run → present s.part pg = true → s.closedWrite acc pg 0 = false →
      exec (.errInjCont acc pg src) s = .next ((s.set pg HDR.ERR_INJ.SRC (src % 32)).setB pg HDR.ERR_INJ.CONT true)) ∧
  (∀ (pg : Nat) (src : Nat) (s : State),
      s.pwr.phase = .run → present s.part pg = true → src < 32 →
      exec (.windowLeak pg src) s = .next (
        s.onIo fun i =>
        let w := i.win pg src
        i.setWin pg src { w with counts := (w.counts.map fun kv => (kv.1, kv.2 - 1)).filter fun kv => decide (kv.2 ≠ 0) })) ∧
  (∀ (pg : Nat) (src : Nat) (dest : Nat) (again : Bool) (s : State),
      s.pwr.phase = .run → present s.part pg = true → src < 32 → bitOf (s.fld pg HDR.WIN_LASTING.V) src = true →
      exec (.lastingAction pg src dest again) s = .next (s.lastingAction pg src dest again))

/-- Link training commands complete. Waking, the four training phases, their time-out and the loss of signal complete:
each moves LK_STAT as its phase says, sends what the phase sends, and raises the events the spec gives it. The
hypotheses are the conditions under which the command comes about (log entries 1 and 2). (R61, R62, R64, R63) -/
def Obligations.LinkTrainingCompletes : Prop :=
  (∀ (a : Nat) (s : State),
      s.pwr.phase = .run → s.klcOn a = true → s.lkState a = 0 → s.flag (pgAct a) ACT.LK_CTL.FORCE_DOWN = false → s.pwr.asleep.contains (7 + clOf a) = false →
      exec (.wakePatternDetected a) s = .next (((s.setB (pgAct a) ACT.LK_STAT.LOS false).onLk a fun l => { l with fails := 0, identified := false }).startTrain a 1 1)) ∧
  (∀ (a : Nat) (s : State),
      s.pwr.phase = .run → s.klcOn a = true → s.lkState a = 1 → s.lkPhase a = 1 → s.bridgeHere (slotOf a) = true →
      exec (.trainT1Pass a) s = .next ((s.set (pgAct a) ACT.LK_STAT.PHASE 2).setLinkBit a KLC.PRESENT.V true)) ∧
  (∀ (a : Nat) (s : State),
      s.pwr.phase = .run → s.klcOn a = true → s.lkState a = 1 → s.lkPhase a = 2 →
      exec (.configSend a) s = .next (s.sendDn a (.config (inCl a) (clOf a) (a % 2) 40000 (max 1 (s.fld (pgKlc (clOf a)) KLC.KLC_CFG.SPIN_TIMEOUT)) (s.fullRate a)))) ∧
  (∀ (a : Nat) (i : Ident) (s : State),
      s.pwr.phase = .run → s.klcOn a = true → s.lkState a = 1 → s.lkPhase a = 2 → State.identBad a i = false → s.serialsDiffer a i = false → s.fullRate a = true →
      exec (.identReceived a i) s = .next (((s.keepIdent a i).set (pgAct a) ACT.LK_STAT.PHASE 3).setB (pgAct a) ACT.LK_STAT.FULL_RATE true)) ∧
  (∀ (a : Nat) (i : Ident) (s : State),
      s.pwr.phase = .run → s.klcOn a = true → s.lkState a = 1 → s.lkPhase a = 2 → State.identBad a i = true →
      exec (.identReceived a i) s = .next (((s.keepIdent a i).raise (pgKlc (clOf a)) 15 a).finishLeave a 4)) ∧
  (∀ (a : Nat) (s : State),
      s.pwr.phase = .run → s.klcOn a = true → s.lkState a = 1 → s.lkPhase a = 3 →
      exec (.eqAdapted a) s = .next (((s.set (pgAct a) ACT.LK_STAT.PHASE 4).onLk a fun l => { l with pseq := 0, replay := [], up0 := LaneRx.zero, up1 := LaneRx.zero, clearSeq := none, shown := 0 }).sendCmd a 9 0)) ∧
  (∀ (a : Nat) (s : State),
      s.pwr.phase = .run → s.klcOn a = true → s.lkState a = 1 → s.lkPhase a = 4 →
      exec (.trainT4Pass a) s = .next (((((s.takeAck a 0).onLk a fun l => { l with fails := 0 }).moveLink a 2).spinCfg a).actReturns a)) ∧
  (∀ (a : Nat) (s : State),
      s.pwr.phase = .run → s.klcOn a = true → s.lkState a = 1 → (s.lk a).fails + 1 ≥ max 1 (s.fld (pgKlc (clOf a)) KLC.KLC_CFG.TRAIN_MAX) →
      exec (.trainPhaseTimeout a) s = .next (((s.onLk a fun l => { l with fails := 0 }).raise (pgKlc (clOf a)) 2 a).moveLink a 4)) ∧
  (∀ (a : Nat) (s : State),
      s.pwr.phase = .run → s.klcOn a = true → s.lkState a = 1 → (s.lk a).fails + 1 < max 1 (s.fld (pgKlc (clOf a)) KLC.KLC_CFG.TRAIN_MAX) →
      exec (.trainPhaseTimeout a) s = .next ((s.onLk a fun l => { l with fails := (s.lk a).fails + 1 }).startTrain a 1 ((s.lk a).fails + 2))) ∧
  (∀ (a : Nat) (s : State),
      s.pwr.phase = .run → s.klcOn a = true → s.lkState a ≠ 0 →
      exec (.losTimeout a) s = .next ((((((((s.setB (pgAct a) ACT.LK_STAT.LOS true).onLk a fun l => { l with leave := none, identified := false, replay := [] }).raise (pgKlc (clOf a)) 14 a).moveLink a 0).dropLoop a).settleUnacked a).stopGoesOn (slotOf a)).bridgeGone a true))

/-- Flits received from a bridge complete. Each kind of flit, and each fault of a lane, completes: block headers and lock,
samples stored at their index, time, status and check flits, reserved types, gaps and stalls. The hypotheses are the
conditions under which the command comes about (log entries 1 and 2). (R44, R46, R47, R48, R49, R45, R65, R67) -/
def Obligations.LinkReceptionCompletes : Prop :=
  (∀ (a : Nat) (n : Lane) (s : State),
      s.pwr.phase = .run → actOk s.part a = true →
      exec (.invalidBlockHeader a n) s = .next (s.onLane a n fun l => { l with bad := l.bad + 1, good := 0, locked := l.locked && decide (l.bad + 1 < 16) })) ∧
  (∀ (a : Nat) (n : Lane) (s : State),
      s.pwr.phase = .run → actOk s.part a = true →
      exec (.blockLockRegained a n) s = .next (s.onLane a n fun l => { l with locked := true, bad := 0, good := 0 })) ∧
  (∀ (a : Nat) (n : Lane) (sseq : Nat) (samples : List Int) (s : State),
      let l := s.lane a n
      s.pwr.phase = .run → actOk s.part a = true → s.lkState a = 2 → l.locked = true → (s.lane a n).sseq = some sseq → n = .up0 →
      exec (.sampleFlit a n sseq samples) s = .next (((s.onLane a n fun l => { l with sseq := some ((sseq + 1) % 4096), idx := (s.lane a n).idx + 40 * 0 + 40, bad := 0 }).keepSamples a n ((s.lane a n).idx + 40 * 0) samples).set (pgAct a) ACT.SAMPLE_INDEX.V ((s.lane a n).idx + 40 * 0 + 39))) ∧
  (∀ (a : Nat) (n : Lane) (index : Nat) (sseq : Nat) (s : State),
      let l := s.lane a n
      s.pwr.phase = .run → actOk s.part a = true → s.lkState a = 2 → l.locked = true → (s.lane a n).sseq = none →
      exec (.timeFlit a n index sseq) s = .next (s.onLane a n fun l => { l with sseq := some sseq, idx := index, bad := 0 })) ∧
  (∀ (a : Nat) (st : Status) (ce : Nat) (ue : Nat) (s : State),
      let before := (s.lk a).replay
      let s1 := (s.statusAck a st).statusOutCrc a st.outCrcCnt
      let drop := decide (State.newEvents (s1.lk a) (match (s1.lk a).clearSeq with | some q => !s1.awaits a q | none => false) st.events
        / 8 % 16 ≠ 0)
      let s2 := ((s1.statusEvents a st.events).gateEnd a st.lastTag st.bitsWritten drop).statusSensor a st
      let s3 := (s2.statusCurrent a st ce ue).statusParked a st.headsParked
      s.pwr.phase = .run → actOk s.part a = true → (decide (s.lkState a = 2) || decide (s.lkState a = 3) || (decide (s.lkState a = 1) && decide (s.lkPhase a = 4))) = true →
      exec (.statusFlit a st ce ue) s = .next ((s3.statusDoze before a st.events).dozeWanted a st.events)) ∧
  (∀ (a : Nat) (n : Lane) (group : Nat) (crcOk : Bool) (s : State),
      let l := s.lane a n
      s.pwr.phase = .run → actOk s.part a = true → s.lkState a = 2 → crcOk = true → (s.lane a n).group = none →
      exec (.checkFlit a n group crcOk) s = .next ((s.onLane a n fun l => { l with group := some group, bad := 0 }).onLane a n fun l => { l with failed := 0, checkedTo := l.idx })) ∧
  (∀ (a : Nat) (n : Lane) (group : Nat) (crcOk : Bool) (s : State),
      let l := s.lane a n
      s.pwr.phase = .run → actOk s.part a = true → s.lkState a = 2 → crcOk = false →
      exec (.checkFlit a n group crcOk) s = .next ((s.onLane a n fun l => { l with group := some group, bad := 0 }).checkFails a n true)) ∧
  (∀ (a : Nat) (n : Lane) (s : State),
      s.pwr.phase = .run → actOk s.part a = true → s.lkState a = 2 →
      exec (.reservedTypeFlit a n) s = .next (s.checkFails a n false)) ∧
  (∀ (a : Nat) (n : Lane) (s : State),
      s.pwr.phase = .run → actOk s.part a = true → s.lkState a = 2 →
      exec (.sampleGapDetected a n) s = .next (s.sampleGap a)) ∧
  (∀ (a : Nat) (n : Lane) (s : State),
      s.pwr.phase = .run → actOk s.part a = true → s.lkState a = 2 →
      exec (.longStall a n) s = .next ((s.raise (pgKlc (clOf a)) 4 a).leaveActive a 1))

/-- Link control and retract commands complete. Retransmission, retraining, doze, forced down, the retract line's causes
and the waits of a link that is leaving complete with their effects. The hypotheses are the conditions under which the
command comes about (log entries 1 and 2). (R55, R80, R76, R72) -/
def Obligations.LinkControlCompletes : Prop :=
  (∀ (a : Nat) (s : State),
      s.pwr.phase = .run → actOk s.part a = true → (decide (s.lkState a = 2) || decide (s.lkState a = 3)) = true →
      exec (.ackTimeout a) s = .next (s.resendOr a (s.outstanding a))) ∧
  (∀ (acc : Accessor) (a : Nat) (s : State),
      s.pwr.phase = .run → s.klcOn a = true → s.lkState a ≠ 0 →
      exec (.linkRetrain acc a) s = .next (s.leaveActive a 1)) ∧
  (∀ (acc : Accessor) (a : Nat) (value : Bool) (s : State),
      s.pwr.phase = .run → actOk s.part a = true → value = true → s.lkState a = 2 → s.headsLoaded a = false → s.gateOn a = false →
      exec (.dozeRequest acc a value) s = .next ((s.setB (pgAct a) ACT.LK_CTL.DOZE_REQ value).sendCmd a 0x0B 0)) ∧
  (∀ (acc : Accessor) (a : Nat) (value : Bool) (s : State),
      s.pwr.phase = .run → actOk s.part a = true → value = false → s.lkState a = 3 → s.fullRate a = true →
      exec (.dozeRequest acc a value) s = .next ((s.setB (pgAct a) ACT.LK_CTL.DOZE_REQ value).startTrain a 3 1)) ∧
  (∀ (acc : Accessor) (a : Nat) (value : Bool) (s : State),
      s.pwr.phase = .run → actOk s.part a = true → value = true → s.lkState a ≠ 0 →
      exec (.forceDown acc a value) s = .next ((s.setB (pgAct a) ACT.LK_CTL.FORCE_DOWN value).leaveActive a 0)) ∧
  (∀ (acc : Accessor) (c : Nat) (value : Bool) (s : State),
      s.pwr.phase = .run → clOk s.part c = true → value = true → s.drives c = false →
      exec (.retractSwWrite acc c value) s = .next (((s.setB (pgKlc c) KLC.RETRACT.SW_ASSERT value).syncRetract c).set (pgKlc c) KLC.RETRACT.CAUSE 2)) ∧
  (∀ (acc : Accessor) (c : Nat) (value : Bool) (s : State),
      s.pwr.phase = .run → clOk s.part c = true → value = false →
      exec (.retractSwWrite acc c value) s = .next ((s.setB (pgKlc c) KLC.RETRACT.SW_ASSERT value).syncRetract c)) ∧
  (∀ (acc : Accessor) (c : Nat) (s : State),
      s.pwr.phase = .run → clOk s.part c = true → acc = .mgp →
      exec (.retractHwRelease acc c) s = .next (s.onRetract c fun r => { r with poweron := false, unacked := false, links := [] })) ∧
  (∀ (c : Nat) (s : State),
      s.pwr.phase = .run → c < 8 → (s.retract c).unacked = true →
      exec (.retractHoldExpiry c) s = .next (s.onRetract c fun r => { r with unacked := false, links := [] })) ∧
  (∀ (a : Nat) (signalLost : Bool) (x : Leave) (s : State),
      s.pwr.phase = .run → (s.lk a).leave = some x → x.acked = false → signalLost = false →
      exec (.unloadAckTimeout a signalLost) s = .next ((s.assertUnacked a).finishLeave a x.target)) ∧
  (∀ (a : Nat) (x : Leave) (s : State),
      s.pwr.phase = .run → (s.lk a).leave = some x → x.acked = true →
      exec (.parkWaitTimeout a) s = .next (s.finishLeave a x.target))

/-- Media and tile commands complete. A heads-and-disks assembly is accepted, tiles are reset, armed, closed and scanned,
and a system tile is written, each with its effect. The hypotheses are the conditions under which the command comes
about (log entries 1 and 2). (R74, R98, R99, R100, R104, R105) -/
def Obligations.MediaCommandsComplete : Prop :=
  (∀ (n : Nat) (fa : Option Format) (fb : Option Format) (da : List Defect) (db : List Defect) (ca : List (Nat × Nat)) (cb : List (Nat × Nat)) (s : State),
      let st := s.slotSt n
      s.pwr.phase = .run → slotOk s.part n = true → s.bridgeHere n = true → s.inPool n = true → (st = 0 ∨ st = 2) →
      exec (.hdaAcceptance n fa fb da db ca cb) s = .next (
        let s1 := (s.takeFormat (2 * n) fa da ca).takeFormat (2 * n + 1) fb db cb
        if !(State.offered fa || State.offered fb) then s1
        else
          let ser := s1.hdaSerial n
          let same := decide (Tab.find? s1.mason.serials n = some ser)
          if st = 2 then
            if same then (((s1.slotBack n).toSlot n 1).raise 0x18 1 n).tryExclude n
            else s1.onMason fun m => { m with newWaits := m.newWaits.filter (fun x => decide (x ≠ n)) ++ [n] }
          else if same then (((s1.slotBack n).toSlot n 1)).tryExclude n
          else
            let s2 := (if (Tab.find? s1.mason.serials n).isSome ∨ Tab.get 0 s1.mason.genBase n ≠ 0 then s1.renewTiles n true else s1).onMason fun m => { m with
              serials := Tab.put 0 m.serials n ser, lostActs := m.lostActs.filter fun a => decide (slotOf a ≠ n) }
            (s2.toSlot n 1).tryExclude n)) ∧
  (∀ (id : Nat) (s : State),
      s.pwr.phase = .run → tileNum id ≥ 2 → actOk s.part (tileAct id) = true →
      exec (.tileReset id) s = .next (s.resetTile id)) ∧
  (∀ (id : Nat) (s : State),
      s.pwr.phase = .run → (s.tile id).held = true → s.tileRead id = false →
      exec (.tileFirstWriteArm id) s = .next (s.putTile id { s.tile id with held := false })) ∧
  (∀ (id : Nat) (reason : Nat) (s : State),
      let t := s.tile id
      s.pwr.phase = .run → t.st = 1 → (1 ≤ reason ∧ reason ≤ 3) → reason = 1 →
      exec (.tileClose id reason) s = .next ((s.setTile id { s.tile id with st := 2, short := false }).setTileCnt (tileAct id) (s.tile id).head (satAdd 16 ((s.setTile id { s.tile id with st := 2, short := false }).headRec (tileAct id) (s.tile id).head).tileCnt 1))) ∧
  (∀ (id : Nat) (found : List Scanned) (s : State),
      let t := s.tile id
      s.pwr.phase = .run → t.st = 1 → found = [] →
      exec (.writePointerScan id found) s = .next (s.setTile id { s.tile id with writePtr := (s.tile id).writePtr, bricks := (s.tile id).bricks })) ∧
  (∀ (a : Nat) (readBackOk : Bool) (s : State),
      s.pwr.phase = .run → actOk s.part a = true → readBackOk = true →
      exec (.systemTileUpdate a readBackOk) s = .next ((s.writeSys a 0 true).writeSys a 1 true)) ∧
  (∀ (a : Nat) (readBackOk : Bool) (s : State),
      s.pwr.phase = .run → actOk s.part a = true → readBackOk = false →
      exec (.systemTileUpdate a readBackOk) s = .next (s.writeSys a 0 false))

/-- Detection, decoding and recovery commands complete. Wedge records, detection searches, live decodes, the retry store,
brick releases, retry jobs and their attempts and levels complete with their effects. The hypotheses are the
conditions under which the command comes about (log entries 1 and 2). (R114, R115, R113, R122, R120, R66, R254, R126,
R253, R124, R133, R132) -/
def Obligations.ReadPathCompletes : Prop :=
  (∀ (a : Nat) (rec : WedgeRec) (s : State),
      let d := s.det a
      let good := rec.valid && !d.wedgeGap
      let r := { rec with valid := good }
      let k := engOf a * 2 + a % 2
      let s1 := s.onDet a fun d => { d with wedgeTgt := none, wedgeGap := false }
      let s2 : State := { s1 with servo := { s1.servo with queue := Tab.upd [] s1.servo.queue k (fun q => q ++ [(a, r)]) } }
      let t := Tab.get Thread.zero s2.seq.threads a
      let t' := if good then { t with wedgeValid := true, lastSam := r.sam, lastWedge := r.wedge } else { t with wedgeValid := false }
      let s3 : State := { s2 with seq := { s2.seq with threads := Tab.put Thread.zero s2.seq.threads a t' } }
      s.pwr.phase = .run → actOk s.part a = true → d.wedgeTgt.isSome = true → s.enabled (pgFdc (clOf a)) = true →
      exec (.wedgeDemodulated a rec) s = .next (if good then s3 else (s3.bump (pgAct a) ACT.WEDGE_BAD.WEDGE).raise (pgFdc (clOf a)) 7 a)) ∧
  (∀ (a : Nat) (m : Marks) (w : RdWin) (rest : List RdWin) (s : State),
      s.pwr.phase = .run → (s.det a).pend = w :: rest →
      exec (.softDetectionDone a m) s = .next ((s.onDet a fun d => { d with pend := rest }).searchEnds a w m)) ∧
  (∀ (a : Nat) (m : Marks) (w : RdWin) (s : State),
      s.pwr.phase = .run → (s.det a).pend = [] → (s.det a).win = some w → w.searched = false →
      exec (.softDetectionDone a m) s = .next ((s.onDet a fun d => { d with win := some { w with searched := true } }).searchEnds a w m)) ∧
  (∀ (a : Nat) (taps0 : List Int) (taps1 : List Int) (w : RdWin) (s : State),
      s.pwr.phase = .run → (s.det a).win = some w → s.flag (pgAct a) ACT.RD_CTL.ADAPT_EN = false →
      exec (.readWindowEnd a taps0 taps1) s = .next (s.onDet a fun d => { d with win := none, pend := if w.searched then d.pend else d.pend ++ [w] })) ∧
  (∀ (a : Nat) (d : Decode) (j : LiveJob) (s : State),
      s.pwr.phase = .run → ((s.pool (clOf a)).live.find? fun j => decide (j.act = a) && decide (j.dec < 20)) = some j →
      exec (.liveDecodeDone a d) s = .next (s.liveEnds a j d)) ∧
  (∀ (a : Nat) (u : Nat) (unit : Nat) (sram : Nat) (s : State),
      let r := s.ringRec a u
      s.pwr.phase = .run → s.pinned a u = true → (decide (sram = 2) || s.placeFree unit r.units || !s.storeRoom r.units) = true → sram = 0 → s.placeFree unit (s.ringRec a u).units = true →
      exec (.retryStoreCopyDone a u unit sram) s = .next ((((s.setPin a u false).takeUnit unit (clOf a) (decide ((s.ringRec a u).units = 2))).setStored unit (s.ringRec a u)).reportRec .stored (s.ringRec a u) 1)) ∧
  (∀ (a : Nat) (h : HeldBrick) (s : State),
      s.pwr.phase = .run → (s.rc.held.find? fun h => decide (h.act = a) && decide (h.upTo ≤ min (s.lk a).up0.checkedTo (s.lk a).up1.checkedTo)) = some h → h.ciph ≠ 0 →
      exec (.brickRelease a) s = .next ({ s with rc := { s.rc with held := s.rc.held.erase h, delivered := s.rc.delivered ++ [h] } })) ∧
  (∀ (c : Nat) (unit : Nat) (urgent : Bool) (s : State),
      s.pwr.phase = .run → clOk s.part c = true → (Tab.find? s.rc.store unit).isSome = true → ((s.pool c).queue.any fun x => decide ((s.stored x.unit).tile = (s.stored unit).tile) && decide ((s.stored x.unit).slot = (s.stored unit).slot)) = false → ((s.pool c).running.any fun x => decide ((s.stored x.job.unit).tile = (s.stored unit).tile) && decide ((s.stored x.job.unit).slot = (s.stored unit).slot)) = false →
      exec (.retryJobPost c unit urgent) s = .next (s.postRetry c ⟨(s.stored unit).tag, unit, (s.stored unit).act, urgent, (s.stored unit).level, 0, false⟩)) ∧
  (∀ (c : Nat) (u : Nat) (rest : List Nat) (s : State),
      s.pwr.phase = .run → s.mason.deferred = u :: rest → clOk s.part c = true → (s.pool c).queue.length < 32 →
      exec (.retryJobDeferredPost c) s = .next (({ s with mason := { s.mason with deferred := rest } } : State).postRetry c ⟨(s.stored u).tag, u, (s.stored u).act, (s.stored u).urgent, (s.stored u).level, 0, false⟩)) ∧
  (∀ (c : Nat) (unit : Nat) (s : State),
      let p := s.pool c
      s.pwr.phase = .run → p.replays.contains unit = true →
      exec (.replayDone c unit) s = .next (s.setPool c (State.withReplays { p with running := p.running.map fun x => if x.job.unit = unit then { x with job := { x.job with replayed := true } } else x, replays := p.replays.erase unit }))) ∧
  (∀ (c : Nat) (dec : Nat) (d : Decode) (run : Running) (s : State),
      s.pwr.phase = .run → ((s.pool c).running.find? fun x => decide (x.dec = dec)) = some run → run.job.replayed = true →
      exec (.retryAttemptDone c dec d) s = .next (s.attemptEnds c run d)) ∧
  (∀ (c : Nat) (tag : Nat) (tRb : Nat) (dest : Nat) (j : RetryJob) (s : State),
      s.pwr.phase = .run → ((s.pool c).boundary.find? fun j => decide (j.tag = tag)) = some j → tRb * max 1 (s.fld 0x18 MSN.MSN_CFG.RB_BIAS) < 16 * State.worstLeft j.level →
      exec (.levelBoundaryDecision c tag tRb dest) s = .next (((s.setPool c { s.pool c with boundary := (s.pool c).boundary.erase j }).freeUnits j.unit).reportRec .cancelled (s.stored j.unit) j.level)) ∧
  (∀ (c : Nat) (dec : Nat) (s : State),
      s.pwr.phase = .run → clOk s.part c = true → dec < 20 → ((s.pool c).live.find? fun j => decide (j.dec = dec)) = none → ((s.pool c).running.find? fun x => decide (x.dec = dec)) = none → s.io.becomesLasting (pgLdp c) 4 dec = false →
      exec (.decoderParityError c dec) s = .next ((((s.bump (pgLdp c) LDP.DEC_PERR.COUNT).raise (pgLdp c) 4 dec).setPool c (s.pool c)).settlePool c)) ∧
  (∀ (a : Nat) (s : State),
      s.pwr.phase = .run → actOk s.part a = true →
      exec (.qmClear a) s = .next ((s.set (pgAct a) ACT.QM_BITS.COUNT 0).set (pgAct a) ACT.QM_FLIPS.COUNT 0)) ∧
  (∀ (c : Nat) (value : Word) (s : State),
      s.pwr.phase = .run → clOk s.part c = true →
      exec (.fenceWrite c value) s = .next (((s.set (pgLdp c) LDP.FENCE.DEC (value.toNat % 2 ^ 20)).setPool c ((s.set (pgLdp c) LDP.FENCE.DEC (value.toNat % 2 ^ 20)).pool c)).settlePool c))

/-- The sequencer executes every operation of a slot. An enabled, running thread whose next word passes its parity and its
checks executes that word: each of the nine operations of a slot completes, a reserved one as NEXT. The hypotheses are
the conditions under which the command comes about (log entries 1 and 2). (R143, R140) -/
def Obligations.SequencerSlotsComplete : Prop :=
  (∀ (a : Nat) (upset : Nat) (s : State),
      s.pwr.phase = .run → actOk s.part a = true → s.enabled (pgFsq (clOf a)) = true → s.sqState a = 1 → s.injects (pgFsq (clOf a)) 1 = false → upset % 2 ^ 144 = 0 → (if wSeq (s.nextWord a upset) ≥ 9 then 0 else wSeq (s.nextWord a upset)) = 0 → s.checkCause a (s.nextWord a upset) = none →
      exec (.seqNext a upset) s = .next (s.issue a (s.nextWord a upset))) ∧
  (∀ (a : Nat) (upset : Nat) (s : State),
      s.pwr.phase = .run → actOk s.part a = true → s.enabled (pgFsq (clOf a)) = true → s.sqState a = 1 → s.injects (pgFsq (clOf a)) 1 = false → upset % 2 ^ 144 = 0 → (if wSeq (s.nextWord a upset) ≥ 9 then 0 else wSeq (s.nextWord a upset)) = 1 → s.checkCause a (s.nextWord a upset) = none →
      exec (.seqJump a upset) s = .next (s.issue a (s.nextWord a upset))) ∧
  (∀ (a : Nat) (upset : Nat) (s : State),
      s.pwr.phase = .run → actOk s.part a = true → s.enabled (pgFsq (clOf a)) = true → s.sqState a = 1 → s.injects (pgFsq (clOf a)) 1 = false → upset % 2 ^ 144 = 0 → (if wSeq (s.nextWord a upset) ≥ 9 then 0 else wSeq (s.nextWord a upset)) = 2 → s.checkCause a (s.nextWord a upset) = none →
      exec (.seqBranch a upset) s = .next (s.issue a (s.nextWord a upset))) ∧
  (∀ (a : Nat) (upset : Nat) (s : State),
      s.pwr.phase = .run → actOk s.part a = true → s.enabled (pgFsq (clOf a)) = true → s.sqState a = 1 → s.injects (pgFsq (clOf a)) 1 = false → upset % 2 ^ 144 = 0 → (if wSeq (s.nextWord a upset) ≥ 9 then 0 else wSeq (s.nextWord a upset)) = 3 → s.checkCause a (s.nextWord a upset) = none →
      exec (.seqCall a upset) s = .next (s.issue a (s.nextWord a upset))) ∧
  (∀ (a : Nat) (upset : Nat) (s : State),
      s.pwr.phase = .run → actOk s.part a = true → s.enabled (pgFsq (clOf a)) = true → s.sqState a = 1 → s.injects (pgFsq (clOf a)) 1 = false → upset % 2 ^ 144 = 0 → (if wSeq (s.nextWord a upset) ≥ 9 then 0 else wSeq (s.nextWord a upset)) = 4 → s.checkCause a (s.nextWord a upset) = none →
      exec (.seqRet a upset) s = .next (s.issue a (s.nextWord a upset))) ∧
  (∀ (a : Nat) (upset : Nat) (s : State),
      s.pwr.phase = .run → actOk s.part a = true → s.enabled (pgFsq (clOf a)) = true → s.sqState a = 1 → s.injects (pgFsq (clOf a)) 1 = false → upset % 2 ^ 144 = 0 → (if wSeq (s.nextWord a upset) ≥ 9 then 0 else wSeq (s.nextWord a upset)) = 5 → s.checkCause a (s.nextWord a upset) = none →
      exec (.seqWait a upset) s = .next (s.issue a (s.nextWord a upset))) ∧
  (∀ (a : Nat) (upset : Nat) (s : State),
      s.pwr.phase = .run → actOk s.part a = true → s.enabled (pgFsq (clOf a)) = true → s.sqState a = 1 → s.injects (pgFsq (clOf a)) 1 = false → upset % 2 ^ 144 = 0 → (if wSeq (s.nextWord a upset) ≥ 9 then 0 else wSeq (s.nextWord a upset)) = 6 → s.checkCause a (s.nextWord a upset) = none →
      exec (.seqLoop a upset) s = .next (s.issue a (s.nextWord a upset))) ∧
  (∀ (a : Nat) (upset : Nat) (s : State),
      s.pwr.phase = .run → actOk s.part a = true → s.enabled (pgFsq (clOf a)) = true → s.sqState a = 1 → s.injects (pgFsq (clOf a)) 1 = false → upset % 2 ^ 144 = 0 → (if wSeq (s.nextWord a upset) ≥ 9 then 0 else wSeq (s.nextWord a upset)) = 7 → s.checkCause a (s.nextWord a upset) = none →
      exec (.seqDispatch a upset) s = .next (s.issue a (s.nextWord a upset))) ∧
  (∀ (a : Nat) (upset : Nat) (s : State),
      s.pwr.phase = .run → actOk s.part a = true → s.enabled (pgFsq (clOf a)) = true → s.sqState a = 1 → s.injects (pgFsq (clOf a)) 1 = false → upset % 2 ^ 144 = 0 → (if wSeq (s.nextWord a upset) ≥ 9 then 0 else wSeq (s.nextWord a upset)) = 8 → s.checkCause a (s.nextWord a upset) = none →
      exec (.seqHalt a upset) s = .next (s.issue a (s.nextWord a upset)))

/-- Thread and gate commands complete. A satisfied wait, the loss of the effective write gate, a gate with no end, RUN,
HALT and ABORT of a thread, a posted job and a read of the staged word complete with their effects. The hypotheses are
the conditions under which the command comes about (log entries 1 and 2). (R136, R146, R151, R160, R137) -/
def Obligations.ThreadCommandsComplete : Prop :=
  (∀ (a : Nat) (slots : Nat) (s : State),
      let w := (s.thr a).word
      let s1 := s.tickTimers a slots
      s.pwr.phase = .run → s.sqState a = 2 → s1.cond a w = true →
      exec (.waitSatisfied a slots) s = .next ((s1.onThr a fun t => { t with next := wNxt w }).toSq a 1)) ∧
  (∀ (a : Nat) (s : State),
      s.pwr.phase = .run → s.gateOn a = true → s.wgEff a (s.thr a).word = false →
      exec (.wgEffectiveLoss a) s = .next ((s.killGates a).setB (pgAct a) ACT.SQ_STAT.WG_EFF false)) ∧
  (∀ (a : Nat) (tag : Nat) (g : Gate) (s : State),
      s.pwr.phase = .run → (s.thr a).gates.find? (fun g => decide (g.tag = tag)) = some g →
      exec (.gateEndTimeout a tag) s = .next (s.dropGate a g none)) ∧
  (∀ (acc : Accessor) (a : Nat) (s : State),
      s.pwr.phase = .run → actOk s.part a = true → acc.isPf1 = false → s.enabled (pgFsq (clOf a)) = true → (s.sqState a = 0 ∨ s.sqState a = 3) →
      exec (.threadRun acc a) s = .next ((s.onThr a fun t => { t with next := s.fld (pgAct a) ACT.SQ_CTL.START }).toSq a 1)) ∧
  (∀ (acc : Accessor) (a : Nat) (s : State),
      s.pwr.phase = .run → actOk s.part a = true → acc.isPf1 = false → (s.sqState a = 1 ∨ s.sqState a = 2) →
      exec (.threadHalt acc a) s = .next (s.toSq a 0)) ∧
  (∀ (acc : Accessor) (a : Nat) (s : State),
      s.pwr.phase = .run → actOk s.part a = true → acc.isPf1 = false →
      exec (.threadAbort acc a) s = .next (s.setB (pgAct a) ACT.SQ_CTL.ABORT true)) ∧
  (∀ (a : Nat) (item : Nat) (pred : Nat) (s : State),
      s.pwr.phase = .run → actOk s.part a = true → s.io.fifoRoom a = true →
      exec (.jobPost a item pred) s = .next ((s.post a (item % 2 ^ 128)).enqueue a pred)) ∧
  (∀ (a : Nat) (item : Nat) (pred : Nat) (s : State),
      s.pwr.phase = .run → actOk s.part a = true → s.io.fifoRoom a = false →
      exec (.jobPost a item pred) s = .next ((s.post a (item % 2 ^ 128)).raise (pgFsq (clOf a)) 6 a)) ∧
  (∀ (acc : Accessor) (a : Nat) (s : State),
      let w := fun f => s.fld (pgAct a) f
      s.pwr.phase = .run → actOk s.part a = true →
      exec (.sqWordRead acc a) s = .next (s.onIo fun i => { i with readData := Tab.put 0 i.readData acc.num (w ACT.SQ_WORD0.WORD), wordLatches := Tab.put [] i.wordLatches (acc.num * 2 ^ 20 + key (pgAct a) 0x10C) [w ACT.SQ_WORD1.WORD, w ACT.SQ_WORD2.WORD, w ACT.SQ_WORD3.WORD, w ACT.SQ_WORD4.WORD] }))

/-- Control store and zone table commands complete. MGP's loads and repairs of the control store, the digest and the zone
table complete with their effects. The hypotheses are the conditions under which the command comes about (log entries
1 and 2). (R158, R156, R159, R157) -/
def Obligations.ControlStoreCommandsComplete : Prop :=
  (∀ (acc : Accessor) (c : Nat) (value : Bool) (s : State),
      s.pwr.phase = .run → clOk s.part c = true → acc = .mgp → s.enabled (pgFsq c) = false →
      exec (.csLoadEnable acc c value) s = .next (s.setB (pgFsq c) FSQ.CS_CTL.LOAD_EN value)) ∧
  (∀ (acc : Accessor) (c : Nat) (value : Bool) (s : State),
      s.pwr.phase = .run → clOk s.part c = true → acc = .mgp →
      exec (.csRepairEnable acc c value) s = .next (s.setB (pgFsq c) FSQ.CS_CTL.REPAIR value)) ∧
  (∀ (acc : Accessor) (c : Nat) (s : State),
      s.pwr.phase = .run → clOk s.part c = true → acc = .mgp →
      exec (.digestClr acc c) s = .next (({ s with seq := { s.seq with digest := Tab.put [] s.seq.digest c [] } } : State).showDigest c)) ∧
  (∀ (acc : Accessor) (c : Nat) (data4 : Word) (s : State),
      s.pwr.phase = .run → clOk s.part c = true → acc = .mgp → s.flag (pgFsq c) FSQ.CS_CTL.LOAD_EN = false → s.flag (pgFsq c) FSQ.CS_CTL.REPAIR = true → badGroups (s.csDataWord c data4.toNat) = 0 → s.csDataWord c data4.toNat % 2 ^ 25 = 0 →
      exec (.csWordCommit acc c data4) s = .next ((s.setCsWord c (s.fld (pgFsq c) FSQ.CS_ADDR.ADDR) (s.csDataWord c data4.toNat)).set (pgFsq c) FSQ.CS_ADDR.ADDR (s.fld (pgFsq c) FSQ.CS_ADDR.ADDR + 1))) ∧
  (∀ (acc : Accessor) (c : Nat) (data4 : Word) (s : State),
      s.pwr.phase = .run → clOk s.part c = true → acc = .mgp → s.flag (pgFsq c) FSQ.CS_CTL.REPAIR = true → badGroups (s.csDataWord c data4.toNat) ≠ 0 →
      exec (.csWordCommit acc c data4) s = .next (s.raise (pgFsq c) 5 c)) ∧
  (∀ (c : Nat) (n : Nat) (word : Nat) (s : State),
      s.pwr.phase = .run → clOk s.part c = true → n < 8192 → badGroups (word % 2 ^ 144) = 0 →
      exec (.csParityRepair c n word) s = .next ((List.range 16).foldl (fun s t => if s.sqState (16 * c + t) = 3 then s.runThread (16 * c + t) else s) (s.setCsWord c n (word % 2 ^ 144)))) ∧
  (∀ (acc : Accessor) (c : Nat) (value : Word) (s : State),
      s.pwr.phase = .run → clOk s.part c = true → acc = .mgp → s.sqState (16 * c + s.fld (pgFsq c) FSQ.ZT_ADDR.THREAD) = 0 →
      exec (.zoneEntryStore acc c value) s = .next ({ s.set (pgFsq c) FSQ.ZT_DATA3.FIRST_TRACK value.toNat with seq := { (s.set (pgFsq c) FSQ.ZT_DATA3.FIRST_TRACK value.toNat).seq with zones := Tab.put none (s.set (pgFsq c) FSQ.ZT_DATA3.FIRST_TRACK value.toNat).seq.zones ((16 * c + s.fld (pgFsq c) FSQ.ZT_ADDR.THREAD) * 32 + s.fld (pgFsq c) FSQ.ZT_ADDR.ZONE) (some ⟨s.fld (pgFsq c) FSQ.ZT_DATA0.FIRST_TILE, s.fld (pgFsq c) FSQ.ZT_DATA1.RATE, s.fld (pgFsq c) FSQ.ZT_DATA1.SPT, s.fld (pgFsq c) FSQ.ZT_DATA2.TPT, s.fld (pgFsq c) FSQ.ZT_DATA2.GUARD, value.toNat⟩) } }))

/-- Servo loop commands complete. A wedge record is taken and the loop updated from it; acquisition, loading and the
time-outs of loading, loss, unloading and settling complete with their effects. The hypotheses are the conditions
under which the command comes about (log entries 1 and 2). (R162, R182, R176, R177) -/
def Obligations.ServoLoopCompletes : Prop :=
  (∀ (e : Nat) (pipe : Nat) (lat : Nat) (ce : Nat) (ue : Nat) (ueIdx : Nat) (a : Nat) (w : WedgeRec) (s1 : State) (s : State),
      s.pwr.phase = .run → s.takeRecord e pipe = some (a, w, s1) →
      exec (.servoUpdate e pipe lat ce ue ueIdx) s = .next (s1.update a w lat ce ue ueIdx)) ∧
  (∀ (a : Nat) (s : State),
      let l := s.loop a
      s.pwr.phase = .run → (s.svState a = 1 ∨ s.svState a = 3) → l.acq ≥ max 2 (s.fld (pgAct a) ACT.SV_LIM.ACQ_N) →
      exec (.loopAcquired a) s = .next ((((s.onLoop a fun l => { l with acq := 0, acqPrev := none, followRun := 0, hist := [], setUsed := 1, sects := Tab.keep (fun q => decide (q ≥ 24)) l.sects, target := l.asked.getD (l.landed : Int), sinceAsk := none }).set (pgAct a) ACT.SV_CTL.SET 1).set (pgAct a) ACT.SV_STAT.MISS 0).toState a 2)) ∧
  (∀ (a : Nat) (s : State),
      let v := s.fld (pgAct a) ACT.SV_LOAD.LOAD_CMD
      s.pwr.phase = .run → s.svState a = 1 →
      exec (.loadingOutputTick a) s = .next (((s.sendDn a (.out true true false (signed 18 v) 0 (s.fld (pgAct a) ACT.SV_STAT.WEDGE) 0 0 0 0)).set (pgAct a) ACT.SV_OUT.VCM v).set (pgAct a) ACT.SV_MA.MA 0)) ∧
  (∀ (a : Nat) (s : State),
      s.pwr.phase = .run → s.svState a = 1 →
      exec (.loadTimeout a) s = .next ((s.sendUnload a).raise (pgSve (engOf a)) 3 a)) ∧
  (∀ (a : Nat) (s : State),
      s.pwr.phase = .run → s.svState a = 3 →
      exec (.lostTimeout a) s = .next ((s.sendUnload a).raise (pgSve (engOf a)) 2 a)) ∧
  (∀ (a : Nat) (s : State),
      s.pwr.phase = .run → actOk s.part a = true → s.svState a = 4 →
      exec (.unloadTimeout a) s = .next ((((s.toState a 5).raise (pgSve (engOf a)) 4 a).loseActuator a).stopGoesOn (slotOf a))) ∧
  (∀ (a : Nat) (s : State),
      let lim := s.fld (pgAct a) ACT.SV_SEEKCFG.SETTLE_TO
      s.pwr.phase = .run → s.svState a = 2 → lim ≠ 0 → ((s.loop a).sinceAsk.any (fun n => decide ((s.loop a).intervals - n ≥ lim))) = true →
      exec (.settleTimeout a) s = .next (((s.onLoop a (fun l => { l with sinceAsk := none })).bump (pgAct a) ACT.SV_CNT_C.SETTLE_FAIL).raise (pgSve (engOf a)) 5 a))

/-- Servo commands complete. Load, unload, clear, set, seek, the coefficient memories and the trace complete with their
effects. The hypotheses are the conditions under which the command comes about (log entries 1 and 2). (R181, R183,
R176, R173, R177, R172, R186) -/
def Obligations.ServoCommandsComplete : Prop :=
  (∀ (a : Nat) (s : State),
      s.pwr.phase = .run → actOk s.part a = true →
      exec (.loadRequest a) s = .next (s.loadRequest a)) ∧
  (∀ (a : Nat) (byThread : Bool) (s : State),
      s.pwr.phase = .run → actOk s.part a = true → s.svState a ≠ 0 → s.svState a ≠ 5 → byThread = false →
      exec (.unloadRequest a byThread) s = .next (s.sendUnload a)) ∧
  (∀ (a : Nat) (byThread : Bool) (s : State),
      s.pwr.phase = .run → actOk s.part a = true → s.svState a ≠ 0 → s.svState a ≠ 5 → byThread = true →
      exec (.unloadRequest a byThread) s = .next ((s.assistSet a 0).sendUnload a)) ∧
  (∀ (a : Nat) (s : State),
      s.pwr.phase = .run → actOk s.part a = true → s.retractLow (clOf a) = true →
      exec (.retractLoopUnload a) s = .next (s.retractLoop a)) ∧
  (∀ (a : Nat) (s : State),
      s.pwr.phase = .run → actOk s.part a = true → s.svState a = 5 → s.headsLoaded a = false →
      exec (.loopClear a) s = .next (s.toState a 0)) ∧
  (∀ (a : Nat) (n : Nat) (s : State),
      s.pwr.phase = .run → actOk s.part a = true → s.svState a = 2 → n < 3 → n = 2 →
      exec (.setWrite a n) s = .next (((s.onLoop a fun l => { l with followRun := 0, sinceAsk := none }).toSet a n).setB (pgAct a) ACT.SV_CTL.SEEK_DONE ((s.loop a).asked.getD (s.loop a).target == (s.loop a).target))) ∧
  (∀ (a : Nat) (n : Nat) (s : State),
      s.pwr.phase = .run → actOk s.part a = true → s.svState a = 2 → n < 3 → n ≠ 2 →
      exec (.setWrite a n) s = .next (((s.onLoop a fun l => { l with followRun := 0, sinceAsk := l.sinceAsk }).toSet a n).setB (pgAct a) ACT.SV_CTL.SEEK_DONE false)) ∧
  (∀ (a : Nat) (track : Nat) (s : State),
      s.pwr.phase = .run → actOk s.part a = true →
      exec (.seekRequest a track) s = .next (s.seekRequest a (track % 2 ^ 24))) ∧
  (∀ (e : Nat) (value : Word) (s : State),
      s.pwr.phase = .run → engOk s.part e = true → s.fld (pgSve e) SVE.MEM_ADDR.MEM = 0 → s.svState (8 * e + s.fld (pgSve e) SVE.MEM_ADDR.ACT) = 0 →
      exec (.coefMemWrite e value) s = .next ((s.coefWrite (8 * e + s.fld (pgSve e) SVE.MEM_ADDR.ACT) (s.fld (pgSve e) SVE.MEM_ADDR.INDEX) value).nextIndex e)) ∧
  (∀ (e : Nat) (value : Word) (s : State),
      s.pwr.phase = .run → engOk s.part e = true → s.fld (pgSve e) SVE.MEM_ADDR.MEM = 0 → s.svState (8 * e + s.fld (pgSve e) SVE.MEM_ADDR.ACT) ≠ 0 →
      exec (.coefMemWrite e value) s = .next ((s.bump (pgAct (8 * e + s.fld (pgSve e) SVE.MEM_ADDR.ACT)) ACT.SV_CNT_D.COEF_REFUSED).raise (pgSve e) 6 (8 * e + s.fld (pgSve e) SVE.MEM_ADDR.ACT))) ∧
  (∀ (acc : Accessor) (e : Nat) (s : State),
      s.pwr.phase = .run → engOk s.part e = true →
      exec (.servoMemRead acc e) s = .next ((s.onIo (fun i => { i with readData := Tab.put 0 i.readData acc.num (s.servoMemWord e) })).nextIndex e)) ∧
  (∀ (e : Nat) (value : Word) (s : State),
      s.pwr.phase = .run → engOk s.part e = true →
      exec (.traceArm e value) s = .next (((((s.storeTrCtl e value).setTrace e Trace.zero).set (pgSve e) SVE.TR_STAT.STATE 1).set (pgSve e) SVE.TR_STAT.COUNT 0).set (pgSve e) SVE.TR_STAT.TRIG_IDX 0)) ∧
  (∀ (e : Nat) (value : Word) (s : State),
      s.pwr.phase = .run → engOk s.part e = true → s.fld (pgSve e) SVE.TR_STAT.STATE = 1 →
      exec (.traceStop e value) s = .next ((s.storeTrCtl e value).set (pgSve e) SVE.TR_STAT.STATE 3)) ∧
  (∀ (e : Nat) (s : State),
      s.pwr.phase = .run → s.fld (pgSve e) SVE.TR_STAT.STATE = 2 → (s.trace e).left = 0 →
      exec (.traceDone e) s = .next ((s.set (pgSve e) SVE.TR_STAT.STATE 3).raise (pgSve e) 10 0))

/-- Spindle running commands complete. The happenings of a running, starting or stopping spindle complete with their
effects: each moves the channel to the state the spec gives, with its cause and event. The hypotheses are the
conditions under which the command comes about (log entries 1 and 2). (R203, R194, R200, R193, R195, R199, R197, R201) -/
def Obligations.SpindleRunCompletes : Prop :=
  (∀ (n : Nat) (s : State),
      let c := s.ch n
      s.pwr.phase = .run → slotOk s.part n = true → s.spState n ≠ 0 → s.spState n ≠ 9 → s.spState n = 6 → (s.ch n).missed + 1 ≥ 40 →
      exec (.currentPeriodMissed n) s = .next (((((s.onCh n (fun c => { c with missed := c.missed + 1 })).onCh n (fun c => { c with missed := 0 })).spRaise n 8).observerLoss n))) ∧
  (∀ (n : Nat) (speed : Int) (s : State),
      s.pwr.phase = .run → slotOk s.part n = true → s.spState n ≠ 0 → s.spState n ≠ 9 →
      exec (.speedTick n speed) s = .next (((s.spSet n SPM.SPk_SPEED.SPEED (unsigned 32 speed)).spSequence n).lowSpeed n)) ∧
  (∀ (n : Nat) (forward : Bool) (s : State),
      s.pwr.phase = .run → s.spState n = 6 → (s.ch n).probesDue = true → forward = true →
      exec (.startProbeCheck n forward) s = .next (s.onCh n (fun c => { c with probesDue := false }))) ∧
  (∀ (n : Nat) (forward : Bool) (s : State),
      s.pwr.phase = .run → s.spState n = 6 → (s.ch n).probesDue = true → forward = false → (s.ch n).attempts + 1 ≥ 3 →
      exec (.startProbeCheck n forward) s = .next (((((s.onCh n (fun c => { c with probesDue := false })).spCause n 3).toSpin n 9).spinFree n).spRaise n 7)) ∧
  (∀ (n : Nat) (s : State),
      s.pwr.phase = .run → s.spState n = 6 →
      exec (.observerLost n) s = .next (s.observerLoss n)) ∧
  (∀ (n : Nat) (s : State),
      s.pwr.phase = .run → s.spState n = 6 →
      exec (.overcurrent n) s = .next ((s.spRaise n 9).observerLoss n)) ∧
  (∀ (n : Nat) (s : State),
      s.pwr.phase = .run → (s.spState n = 3 ∨ s.spState n = 4 ∨ s.spState n = 5 ∨ s.spState n = 8) →
      exec (.overcurrent n) s = .next ((((s.spinFree n).spRaise n 9).spCause n 8).toSpin n 9)) ∧
  (∀ (n : Nat) (s : State),
      s.pwr.phase = .run → s.speedOk n = true →
      exec (.atSpeedReached n) s = .next (((((s.spSet n SPM.SPk_CTL.AT_SPEED 1).spStatBit n SPM.SPM_STAT.AT_SPEED true).onCh n (fun c => { c with reached := true })).freePlace n).spRaise n 0)) ∧
  (∀ (n : Nat) (speed : Int) (s : State),
      s.pwr.phase = .run → s.spState n = 2 →
      exec (.probeEnd n speed) s = .next (
        let s1 := s.spSet n SPM.SPk_CTL.REVERSE (if speed < 0 then 1 else 0)
        if |speed| < 30 * 256 then s1.toSpin n 4
        else if speed > 0 then s1.enterRun n speed
        else (s1.spSet n SPM.SPk_SPEED.SPEED (unsigned 32 speed)).toSpin n 3)) ∧
  (∀ (n : Nat) (s : State),
      s.pwr.phase = .run → s.spState n = 3 →
      exec (.brakeTimeout n) s = .next ((((s.spCause n 2).toSpin n 9).spinFree n).spRaise n 6)) ∧
  (∀ (n : Nat) (s : State),
      s.pwr.phase = .run → s.spState n = 4 →
      exec (.alignEnd n) s = .next ((s.toSpin n 5).onCh n (fun c => { c with ref := 0 }))) ∧
  (∀ (n : Nat) (s : State),
      s.pwr.phase = .run → s.spin.places.contains n = true → 2 ≤ s.spState n → s.spState n ≤ 7 →
      exec (.startTimeout n) s = .next ((((s.spCause n 4).toSpin n 9).spinFree n).spRaise n 7)) ∧
  (∀ (n : Nat) (speed : Int) (theta : Nat) (s : State),
      s.pwr.phase = .run → s.spState n = 7 → (s.ch n).stopHeld = false →
      exec (.reacquired n speed theta) s = .next ((((s.enterRun n speed).spSet n SPM.SPk_ANGLE.THETA theta).spBump n SPM.SPk_CNT_A.REACQ).spRaise n 4)) ∧
  (∀ (n : Nat) (s : State),
      s.pwr.phase = .run → s.spState n = 7 →
      exec (.reacquireTimeout n) s = .next (((s.spCause n 5).coastDown n true).spRaise n 5))

/-- Spindle commands complete. Start, its place, stop, clear, the target, the motor registers and the cogging memory
complete with their effects. The hypotheses are the conditions under which the command comes about (log entries 1 and
2). (R198, R204, R197, R205, R206, R209) -/
def Obligations.SpindleCommandsComplete : Prop :=
  (∀ (n : Nat) (s : State),
      s.pwr.phase = .run → slotOk s.part n = true → s.enabled (pgSpm (n / 4)) = true → s.spState n = 0 →
      exec (.spindleStart n) s = .next ({ (s.toSpin n 1).onCh n (fun c => { c with attempts := 0, reached := false, forced := false, coast := false, stopping := false, stopHeld := false, probesDue := false }) with spin := { ((s.toSpin n 1).onCh n (fun c => { c with attempts := 0, reached := false, forced := false, coast := false, stopping := false, stopHeld := false, probesDue := false })).spin with queue := ((s.toSpin n 1).onCh n (fun c => { c with attempts := 0, reached := false, forced := false, coast := false, stopping := false, stopHeld := false, probesDue := false })).spin.queue ++ [n] } })) ∧
  (∀ (n : Nat) (s : State),
      s.pwr.phase = .run → slotOk s.part n = true → s.spState n = 9 →
      exec (.spindleStart n) s = .next (s.spRaise n 11)) ∧
  (∀ (n : Nat) (rest : List Nat) (s : State),
      s.pwr.phase = .run → s.spin.queue = n :: rest → s.spin.places.length < s.startMax → s.spin.places.contains n = false →
      exec (.startPlaceAdmit) s = .next ((((({ s with spin := { s.spin with queue := rest } } : State).setPlaces (s.spin.places ++ [n])).spStatBit n SPM.SPM_STAT.START_PLACE true).spBump n SPM.SPk_CNT_B.STARTS).toSpin n 2)) ∧
  (∀ (n : Nat) (s : State),
      s.pwr.phase = .run → slotOk s.part n = true → s.spState n ≠ 7 →
      exec (.spindleStop n) s = .next (s.stopSpin n 1)) ∧
  (∀ (n : Nat) (s : State),
      s.pwr.phase = .run → slotOk s.part n = true → s.spState n = 7 →
      exec (.spindleStop n) s = .next ((s.unloadSlot n).onCh n (fun c => { c with stopHeld := true, why := 1 }))) ∧
  (∀ (n : Nat) (s : State),
      s.pwr.phase = .run → slotOk s.part n = true → s.spState n = 9 →
      exec (.spindleClear n) s = .next (s.toSpin n 0)) ∧
  (∀ (n : Nat) (rpm : Nat) (s : State),
      s.pwr.phase = .run → slotOk s.part n = true → (s.spSet n SPM.SPk_TARGET.RPM rpm).targetRpm n ≠ s.sp n SPM.SPk_TARGET.NOM_RPM → s.bothOpen n = false →
      exec (.targetWrite n rpm) s = .next (s.spRaise n 12)) ∧
  (∀ (n : Nat) (rpm : Nat) (s : State),
      s.pwr.phase = .run → slotOk s.part n = true → (s.spSet n SPM.SPk_TARGET.RPM rpm).targetRpm n = s.sp n SPM.SPk_TARGET.NOM_RPM → (s.spSet n SPM.SPk_TARGET.RPM rpm).speedOk n = true →
      exec (.targetWrite n rpm) s = .next (s.spSet n SPM.SPk_TARGET.RPM rpm)) ∧
  (∀ (acc : Accessor) (n : Nat) (off : Nat) (value : Word) (s : State),
      let at0 := off - 0x40 * (n % 4)
      s.pwr.phase = .run → slotOk s.part n = true → motorRegs.contains at0 = true → s.spState n = 0 → s.io.locked (pgSpm (n / 4)) = false →
      exec (.motorRegisterWrite acc n off value) s = .next ((tableSPMUnit.filter (fun f => f.off = off - 0x40 * (n % 4))).foldl (fun (s : State) f => s.spSet n f (bitsOf value.toNat f.hi f.lo)) s)) ∧
  (∀ (acc : Accessor) (e : Nat) (write : Bool) (value : Word) (s : State),
      s.pwr.phase = .run → engOk s.part e = true → write = false →
      exec (.spindleMemAccess acc e write value) s = .next ((s.set (pgSpm e) SPM.MEM_ADDR.INDEX (s.fld (pgSpm e) SPM.MEM_ADDR.INDEX + 1)).onIo (fun i => { i with readData := Tab.put 0 i.readData acc.num (Tab.get 0#16 s.spin.cog ((4 * e + s.fld (pgSpm e) SPM.MEM_ADDR.SLOT) * 512 + s.fld (pgSpm e) SPM.MEM_ADDR.INDEX)).toNat })))

/-- Drive thermal and recalibration commands complete. Temperature samples, the head thermal model, quality checks and
their verification, recalibration sweeps and bias measurements complete with their effects. The hypotheses are the
conditions under which the command comes about (log entries 1 and 2). (R215, R216, R219, R220, R222, R218) -/
def Obligations.ThermalAndRecalibrationComplete : Prop :=
  (∀ (n : Nat) (t : Int) (s : State),
      let s1 := (s.sampleLink (2 * n)).sampleLink (2 * n + 1)
      s.pwr.phase = .run → slotOk s.part n = true → (decide (s.lkState (2 * n) = 2) || decide (s.lkState (2 * n + 1) = 2)) = true →
      exec (.tempSample n t) s = .next ({ s1 with asc := { s1.asc with temps := Tab.put 0 s1.asc.temps n t } })) ∧
  (∀ (n : Nat) (s : State),
      s.pwr.phase = .run → slotOk s.part n = true →
      exec (.tempStale n) s = .next (s.raise 0x1C 7 n)) ∧
  (∀ (duty : List (Nat × Nat)) (s : State),
      let keys := s.asc.models.map Prod.fst ++ (duty.map Prod.fst).filter fun k => !(s.asc.models.any fun kv => decide (kv.1 = k))
      s.pwr.phase = .run →
      exec (.headThermalTick duty) s = .next (keys.foldl (fun (s : State) k => s.headTick k (min 1024 (Tab.get 0 duty k))) s)) ∧
  (∀ (a : Nat) (h : Nat) (s : State),
      s.pwr.phase = .run → actOk s.part a = true → s.enabled 0x1C = true → h < 12 → s.checkDue a h = true → (List.range h).any (s.checkDue a) = false → s.checkBusy a = false → s.fld (pgAct a) ACT.SV_CTL.STATE = 2 → s.lkState a = 2 →
      exec (.qualityCheck a h) s = .next ((((s.startVerify a h).setHeadWork a h { s.headWork a h with checking := true, side := 0 }).bump 0x1C ASC.ASC_CNT_A.CHECKS).showChecks)) ∧
  (∀ (a : Nat) (h : Nat) (live : Nat) (s : State),
      let w := s.headWork a h
      s.pwr.phase = .run → actOk s.part a = true → h < 12 → w.checking = true → s.verifySide a h live = 0 →
      exec (.verifyDone a h live) s = .next (s.endCheck a h)) ∧
  (∀ (a : Nat) (h : Nat) (live : Nat) (s : State),
      let w := s.headWork a h
      let side := s.verifySide a h live
      s.pwr.phase = .run → actOk s.part a = true → h < 12 → w.checking = true → s.verifySide a h live ≠ 0 → (s.headWork a h).side = 0 →
      exec (.verifyDone a h live) s = .next ((s.startVerify a h).setHeadWork a h { s.headWork a h with side := s.verifySide a h live })) ∧
  (∀ (a : Nat) (h : Nat) (qs : List Nat) (reps : List Nat) (rise : Nat) (duty : Nat) (full : List Nat) (i : Nat) (s : State),
      s.pwr.phase = .run → s.chosenPoint qs = some i → actOk s.part a = true → h < 12 → (s.headWork a h).recal = true → qs.length = 2 * s.sweepPts + 1 → agree (fun _ y => within 25 100 (qs.getD i 0 : Int) y) Machine.dist ((qs.getD i 0 : Int) :: reps.map Int.ofNat) = none → (s.headWork a h).sweeps = 0 →
      exec (.recalibrationSweepDone a h qs reps rise duty full) s = .next (s.startSweep a h { s.headWork a h with sweeps := 1 })) ∧
  (∀ (a : Nat) (h : Nat) (qs : List Nat) (reps : List Nat) (rise : Nat) (duty : Nat) (full : List Nat) (i : Nat) (p : Int × Int) (s : State),
      s.pwr.phase = .run → s.chosenPoint qs = some i → actOk s.part a = true → h < 12 → (s.headWork a h).recal = true → qs.length = 2 * s.sweepPts + 1 → agree (fun _ y => within 25 100 (qs.getD i 0 : Int) y) Machine.dist ((qs.getD i 0 : Int) :: reps.map Int.ofNat) = some p → s.fld (pgAct a) ACT.BR_CAP.ASSIST = 0 →
      exec (.recalibrationSweepDone a h qs reps rise duty full) s = .next (s.acceptRecal a h { s.headRec a h with riseCal := rise, dutyCal := duty, tCal := s.tempOf a, qmRef := (mean p).toNat, hours := s.io.hst.hours, kind := 2, cur := (s.sweepAt a h i).toNat } false)) ∧
  (∀ (a : Nat) (avgs : List (List Int)) (s : State),
      let put := fun (s : State) (i : Nat) (v : Int) => { s with servo := { s.servo with bias := Tab.put 0#32 s.servo.bias (a * 1024 + i) (BitVec.ofInt 32 v) } }
      let ok2 := fun (x y : Int) => within 1 64 x y || decide (Machine.dist x y ≤ 256)
      let s1 := avgs.zipIdx.foldl (fun (s : State) (x : List Int × Nat) =>
        match agree ok2 Machine.dist x.1 with
        | some p => put s x.2 ((s.biasWord a x.2).toInt + mean p)
        | none => s.disagree) s
      let last := (s1.biasWord a (avgs.length - 1)).toInt
      let s2 := (List.range (1024 - avgs.length)).foldl (fun (s : State) j => put s (avgs.length + j) last) s1
      s.pwr.phase = .run → actOk s.part a = true → s.inFollow a = true → (0 < avgs.length ∧ avgs.length ≤ 1024) →
      exec (.biasTableMeasure a avgs) s = .next ({ s2 with asc := { s2.asc with biasDone := s2.asc.biasDone.filter (fun x => decide (x ≠ a)) ++ [a] } }))

/-- Reference and hold-up calibration commands complete. The references' calibration, FREF and the hold-up measurement
complete with their effects. The hypotheses are the conditions under which the command comes about (log entries 1 and
2). (R224, R232, R225, R229, R230) -/
def Obligations.ReferenceCalibrationCompletes : Prop :=
  (∀ (start : Bool) (vref : List Int) (adc : List (List (Int × Int))) (osc : List (List (Int × Int))) (s : State),
      s.pwr.phase = .run →
      exec (.referenceCalibration start vref adc osc) s = .next (s.refCal start vref adc osc)) ∧
  (∀ (_x0 : Accessor) (vref : List Int) (adc : List (List (Int × Int))) (osc : List (List (Int × Int))) (fref : Bool) (ppm : List Int) (s : State),
      s.pwr.phase = .run →
      exec (.refGo _x0 vref adc osc fref ppm) s = .next ((s.frefCal fref ppm).refCal false vref adc osc)) ∧
  (∀ (fref : Bool) (ppm : List Int) (s : State),
      s.pwr.phase = .run →
      exec (.frefMeasure fref ppm) s = .next (s.frefCal fref ppm)) ∧
  (∀ (_x0 : Accessor) (s : State),
      s.pwr.phase = .run →
      exec (.huGo _x0) s = .next (s.onAsc fun x => { x with huDue := true })) ∧
  (∀ (s : State),
      s.pwr.phase = .run → s.huWanted = true → s.huOk = true → s.flag 4 CAL.CAL_STAT.HU_BUSY = false → s.pwr.phase = .run →
      exec (.holdupMeasurementStart) s = .next ({ s with pwr := { s.pwr with fet := false } }.setB 4 CAL.CAL_STAT.HU_BUSY true)) ∧
  (∀ (s : State),
      let p := s.fld 4 CAL.CAL_CTL.HU_PERIOD
      s.pwr.phase = .run → s.flag 4 CAL.CAL_STAT.HU_VALID = true → p ≠ 0 → s.fld 4 CAL.HU_AGE.HOURS ≥ 2 * p →
      exec (.huAgeExpiry) s = .next ((((s.setB 4 CAL.CAL_STAT.HU_VALID false).set 4 CAL.HU_E.E 0).raise 4 5 0).syncCache)) ∧
  (∀ (drawn : Nat) (v1 : Nat) (v2 : Nat) (esr : Nat) (late : Bool) (p : (Nat × Nat × Bool) × (Nat × Nat × Bool)) (s : State),
      let lower := late && decide (v1 < v2 + 500)
      let vEnd := if lower then v1 - 500 else v2
      s.pwr.phase = .run → s.flag 4 CAL.CAL_STAT.HU_BUSY = true → vEnd < v1 → late = false → agree (fun (x : Nat × Nat × Bool) y => within 3 100 x.1 y.1) (fun x y => Machine.dist x.1 y.1) (s.asc.huRuns ++ [(2000000000 * drawn / (v1 * v1 - v2 * v2), esr, false)]) = some p →
      exec (.holdupMeasurementEnd drawn v1 v2 esr late) s = .next (((({ s with pwr := { s.pwr with fet := true } }.setB 4 CAL.CAL_STAT.HU_BUSY false).bump 4 CAL.CAL_CNT.HU_RUNS).huAccept p)))

/-- Pool, slot and course commands complete. Pools' slots, draining, cancelling and excluding a slot, opening a course,
encoding a row, completing it and closing a course complete with their effects. The hypotheses are the conditions
under which the command comes about (log entries 1 and 2). (R234, R264, R235, R245, R246, R240, R248) -/
def Obligations.PoolAndSlotCommandsComplete : Prop :=
  (∀ (acc : Accessor) (p : Nat) (slots : Nat) (s : State),
      s.pwr.phase = .run → p < 8 →
      exec (.poolSlotsWrite acc p slots) s = .next (
        let v := slots % 2 ^ 64
        let old := s.fld (pgMsn p) MSN.POOL_SLOTS.SLOTS
        let taken := (List.range 8).any fun q => decide (q ≠ p) && decide (v &&& s.fld (pgMsn q) MSN.POOL_SLOTS.SLOTS ≠ 0)
        let leaves := (List.range 64).any fun n => bitOf old n && !bitOf v n && decide (s.slotSt n = 1 ∨ s.slotSt n = 2 ∨ s.slotSt n = 3)
        s.rwl acc 0x18 <|
          if taken || leaves then s.setB (pgMsn p) MSN.POOL_STAT.REFUSED true
          else
            let s1 := s.set (pgMsn p) MSN.POOL_SLOTS.SLOTS v
            let s2 := (List.range 64).foldl (fun (s : State) n =>
              if bitOf v n then (s.setB (pgMsn n) MSN.SLOT_STAT.IN_POOL true).set (pgMsn n) MSN.SLOT_STAT.POOL p
              else if bitOf old n then (s.setB (pgMsn n) MSN.SLOT_STAT.IN_POOL false).set (pgMsn n) MSN.SLOT_STAT.POOL 0
              else s) s1
            s2.showPool p)) ∧
  (∀ (n : Nat) (s : State),
      s.pwr.phase = .run → slotOk s.part n = true → s.slotSt n = 1 →
      exec (.slotDrain n) s = .next (s.drainSlot n)) ∧
  (∀ (n : Nat) (s : State),
      s.pwr.phase = .run → slotOk s.part n = true → s.slotSt n = 3 →
      exec (.slotCancel n) s = .next ((s.toSlot n 1).tryExclude n)) ∧
  (∀ (acc : Accessor) (n : Nat) (value : Bool) (s : State),
      s.pwr.phase = .run → slotOk s.part n = true → s.io.locked 0x18 = false → value = true →
      exec (.slotExclude acc n value) s = .next ((s.setB (State.pgMsn n) MSN.SLOT_CTL.EXCLUDE true).tryExclude n)) ∧
  (∀ (acc : Accessor) (n : Nat) (value : Bool) (s : State),
      s.pwr.phase = .run → slotOk s.part n = true → s.io.locked 0x18 = false → value = false → s.slotSt n ≠ 5 → (s.setB (State.pgMsn n) MSN.SLOT_CTL.EXCLUDE false).slotSt n ≠ 5 →
      exec (.slotExclude acc n value) s = .next (s.setB (State.pgMsn n) MSN.SLOT_CTL.EXCLUDE false)) ∧
  (∀ (p : Nat) (kind : Nat) (kdom : Nat) (number : Nat) (stNs : Nat) (stId : Nat) (cands : List Cand) (background : Bool) (s : State),
      let max_ := min 16 (max 1 (s.fld (pgMsn p) MSN.POOL_CFG.OPEN_MAX))
      let open_ := (s.mason.courses.filter fun kv => decide (kv.2.st = 1) && decide (kv.2.pool = p) && decide (kv.2.kind = kind)).length
      s.pwr.phase = .run → p < 8 → (1 ≤ kind ∧ kind ≤ 3) → s.enabled 0x18 = true → (s.course number).geom = 0 → number < min 0x400000 (s.fld 0x19 MAP.CT_COURSES.N) → open_ < max_ → kind = 3 → background = true → (s.choose p 3 (geomK 6) (geomM 6) [] cands).length < geomK 6 + geomM 6 →
      exec (.courseOpen p kind kdom number stNs stId cands background) s = .next (s.raise 0x18 6 p)) ∧
  (∀ (p : Nat) (kind : Nat) (kdom : Nat) (number : Nat) (stNs : Nat) (stId : Nat) (cands : List Cand) (background : Bool) (s : State),
      let max_ := min 16 (max 1 (s.fld (pgMsn p) MSN.POOL_CFG.OPEN_MAX))
      let open_ := (s.mason.courses.filter fun kv => decide (kv.2.st = 1) && decide (kv.2.pool = p) && decide (kv.2.kind = kind)).length
      let picks := s.choose p 3 (geomK 6) (geomM 6) [] cands
      let s1 := (picks.zipIdx).foldl (fun (s : State) xn => s.reserveTile xn.1 number xn.2) s
      s.pwr.phase = .run → p < 8 → (1 ≤ kind ∧ kind ≤ 3) → s.enabled 0x18 = true → (s.course number).geom = 0 → number < min 0x400000 (s.fld 0x19 MAP.CT_COURSES.N) → open_ < max_ → kind = 3 → background = true → ¬ picks.length < geomK 6 + geomM 6 →
      exec (.courseOpen p kind kdom number stNs stId cands background) s = .next ((s1.setCourse number { Course.zero with geom := 6, pool := p, st := 1, kind := 3, kdom := noKdom, seqOpen := s1.mason.seq, hoursOpen := s1.io.hst.hours, members := picks.map (·.tile), stream := (stNs, stId) }).showPool p)) ∧
  (∀ (course : Nat) (fill : Bool) (sramUe : Bool) (s : State),
      let c := s.course course
      let (k, m) := (geomK c.geom, geomM c.geom)
      let row := c.encoded
      let waiting := (s.mason.bricks.filter fun b => decide (b.course = noRef) && decide (b.pool = c.pool) && decide (b.stream = c.stream)).take k
      let due := waiting.zipIdx.foldl (fun (l : List HostBrick) bn => l ++ [s.identify l { bn.1 with course := course, cb := row * k + bn.2 }]) []
      let kept := s.mason.bricks.filter fun b => !waiting.contains b
      let calm := c.members.all fun id => !(s.headWork (tileAct id) (s.tile id).head).recal
      s.pwr.phase = .run → c.st = 1 → c.kind = 1 → s.enabled 0x1A = true → row < 65536 → due.length > 0 → calm = true → (decide (due.length = k) || fill) = true → (!s.sys.keysGone || decide (c.kdom = noKdom)) = true →
      exec (.mortarRowEncode course fill sramUe) s = .next (
        if sramUe then s.raise 0x1A 1 0
        else
          let seq := s.mason.seq
          let data := (due.zipIdx).map fun bn =>
            let id := c.members.getD bn.2 0
            (⟨s.cipherOf c.kdom id row (s.tile id).gen bn.1.data,
              { carriedOf 0 with twTile := id, twBrick := row, twGen := (s.tile id).gen, kdom := c.kdom, extent := bn.1.ext, extBrick := bn.1.extBrick
                                 seq := seq + bn.2 + 1, nsid := bn.1.nsid, validLen := bn.1.len }⟩ : Brick)
          let full := data ++ List.replicate (k - due.length) fillerBrick
          let nums := full.map rowNum
          let all := full ++ (List.range m).map fun p => brickOfRow (mortarRow k p nums)
          let s1 := (due.zipIdx).foldl (fun (s : State) bn =>
            if c.kdom = noKdom then s else s.bump (pgXtc (clOf (tileAct (c.members.getD bn.2 0)))) XTC.XTC_ENC.BRICKS) s
          ((s1.onMason fun ms => { ms with
            seq := seq + due.length
            bricks := kept ++ due
            made := ms.made ++ [⟨course, row, all⟩] }).putCourse course { c with encoded := row + 1 }).addTo 0x1A MOR.ENC_ROWS.ROWS 1)) ∧
  (∀ (course : Nat) (row : Nat) (s : State),
      let c := s.course course
      let (k, m) := (geomK c.geom, geomM c.geom)
      let all := (List.range (k + m)).all fun n => bitOf (Tab.get 0 c.flight row) n
      s.pwr.phase = .run → c.geom ≠ 0 → row = c.rows → c.rows < 65536 → all = true → s.jrnFull = false →
      exec (.rowComplete course row) s = .next (
        let mine := s.mason.bricks.filter fun b => decide (b.course = course) && decide (b.cb / max 1 k = row)
        let s1 := s.setCourse course { c with rows := row + 1, flight := Tab.erase c.flight row }
        let s2 := State.journal (s1.onMason fun ms => { ms with
          bricks := ms.bricks.filter fun b => !mine.contains b
          made := ms.made.filter fun r => !(decide (r.course = course) && decide (r.row = row)) }) [.rows course (row + 1)]
        let s3 := mine.foldl (fun (s : State) b => s.mapBrick b (Tab.get Ns.zero s.nvme.ns b.nsid).pinned) s2
        let s4 := mine.foldl (fun (s : State) b =>
          if b.obj = 0 then s.unrecCut b.nsid b.lba 1
          else s) s3
        (if row + 1 = 65536 then s4.closeCourse course else s4).settle)) ∧
  (∀ (course : Nat) (s : State),
      s.pwr.phase = .run → (s.course course).st = 1 →
      exec (.courseClose course) s = .next (s.closeCourse course))

/-- Reconstruction and decision commands complete. A reconstruction, its waits and the decision between re-reading and
rebuilding complete with their effects. The hypotheses are the conditions under which the command comes about (log
entries 1 and 2). (R251, R252) -/
def Obligations.ReconstructionCompletes : Prop :=
  (∀ (ix : Nat) (i : Nat) (got : List (Nat × Brick)) (waits : Bool) (sramUe : Bool) (s : State),
      let e := s.extent ix
      let c := s.course e.course
      let k := geomK c.geom
      let cb := e.start + i
      let d := cb % max 1 k
      let id := c.members.getD d 0
      s.pwr.phase = .run → e.st ≠ 0 → i < e.len → s.enabled 0x1A = true →
      exec (.reconstructionRead ix i got waits sramUe) s = .next (
        if sramUe then (s.raise 0x1A 1 0).brickLost ix i 1
        else if got.length < k then
          if waits then s.onMason fun m => { m with waits := m.waits ++ [⟨ix, i⟩] }
          else (s.raise 0x1A 0 0).brickLost ix i (if maskCount c.lost > geomM c.geom then 2 else 1)
        else match reconstruct k d (got.map fun pb => (pb.1, rowNum pb.2)) with
          | none => (s.raise 0x1A 0 0).brickLost ix i 1
          | some v =>
            let b := brickOfRow v
            let s1 := s.addTo 0x1A MOR.DEC_ROWS.ROWS 1
            if b.trailer.extent = e.wIx ∧ b.trailer.extBrick = e.wOff + i then
              match s1.decrypt (clOf (tileAct id)) b with
              | (some p, s2) => { s2 with rc := { s2.rc with delivered := s2.rc.delivered ++
                  [⟨tileAct id, s.slotOfBrick id (cb / max 1 k), id, 0, 0, 0, { b with data := p }⟩] } }
              | (none, s2) => s2
            else (s1.raise 0x1A 0 0).brickLost ix i 1)) ∧
  (∀ (ix : Nat) (i : Nat) (s : State),
      s.pwr.phase = .run → s.mason.waits.contains ⟨ix, i⟩ = true →
      exec (.reconstructionWaitEnd ix i) s = .next (s.onMason fun m => { m with waits := m.waits.erase ⟨ix, i⟩ })) ∧
  (∀ (ix : Nat) (i : Nat) (kind : Nat) (urgentBg : Bool) (rebuildOk : Bool) (tRr : Nat) (tRb : Nat) (s : State),
      let e := s.extent ix
      let c := s.course e.course
      let k := geomK c.geom
      let id := c.members.getD ((e.start + i) % max 1 k) 0
      let key := (id, (e.start + i) / max 1 k)
      let n := ((s.mason.rereads.find? fun x => decide (x.1 = key)).map (·.2)).getD 0
      let lim := s.fld 0x18 MSN.MSN_CFG.REREAD_MAX
      let bias := max 1 (s.fld 0x18 MSN.MSN_CFG.RB_BIAS)
      let done := decide (n ≥ lim) || isStale kind
      let reread := fun (s : State) => (s.onMason fun m => { m with
        rereads := m.rereads.filter (fun x => decide (x.1 ≠ key)) ++ [(key, n + 1)] }).bump 0x18 MSN.DECIDE_CNT.REREADS
      let slot := s.slotOfBrick id ((e.start + i) / max 1 k)
      let rebuild := fun (s : State) => (s.releaseKept id slot).bump 0x18 MSN.DECIDE_CNT.REBUILDS
      s.pwr.phase = .run → e.st ≠ 0 → i < e.len →
      exec (.brickDecision ix i kind urgentBg rebuildOk tRr tRb) s = .next (
        let hk := tileAct id * 12 + (s.tile id).head
        let now := s.io.hst.hours
        let s1 := if kind = 0 then s.onMason fun m => { m with
            exhausted := (m.exhausted.filter fun x => decide (x.2.2 + 16 ≥ now)) ++ [(hk, id, now)] } else s
        let mine := s1.mason.exhausted.filter fun x => decide (x.1 = hk)
        let s2 := if decide (kind = 0) && decide (mine.length ≥ 64) && decide ((mine.map fun x => x.2.1).eraseDups.length ≥ 4) then
          s1.loseHead (tileAct id) ((s.tile id).head) else s1
        if rebuildOk then
          if done then rebuild s2
          else if urgentBg then reread s2
          else if tRb * bias < 16 * tRr then rebuild s2 else reread s2
        else if done then (s2.releaseKept id slot).brickLost ix i 1
        else reread s2))

/-- Placement maintenance commands complete. Heat, replicas, compaction, moves, rebuilding, draining, rekeying,
checkpoints, the seek table and table segments complete with their effects. The hypotheses are the conditions under
which the command comes about (log entries 1 and 2). (R244, R256, R259, R262, R261, R264, R393, R268, R269, R271,
R328) -/
def Obligations.PlacementMaintenanceCompletes : Prop :=
  (∀ (s : State),
      let on := s.fld 0x18 MSN.MSN_HOT.HOT_ON
      let off := if s.fld 0x18 MSN.MSN_HOT.HOT_OFF ≥ on then on / 2 else s.fld 0x18 MSN.MSN_HOT.HOT_OFF
      let live := (s.mason.extents.filter fun kv => decide (kv.2.st ≠ 0)).map (·.1)
      let step := fun (s : State) (ix : Nat) =>
        let e := s.extent ix
        let s1 :=
          if e.hot && decide (e.heat < off) && s.mason.cold.contains ix then s.dropReplica ix
          else if decide (e.heat ≥ on) && decide (e.st = 1) && !e.hot && decide (e.len ≤ 65536) && s.flag 0x18 MSN.MSN_CFG.REPL_EN
              && s.background && replicaRoom s e.pool e.len then s.beginMove ix
          else s
        let s2 := s1.onMason fun m => { m with
          cold := if e.heat < off then m.cold.filter (fun x => decide (x ≠ ix)) ++ [ix] else m.cold.filter (fun x => decide (x ≠ ix)) }
        let e2 := s2.extent ix
        let s3 := s2.putExtent ix { e2 with heat := e2.heat / 2 }
        s3.onMason fun m => { m with moving := m.moving.map fun kv => if kv.1 = ix then (ix, { kv.2 with heat := kv.2.heat / 2 }) else kv }
      let s0 := live.foldl step s
      let s1 := (List.range 8).foldl (fun (s : State) p => shedReplicas p (s.mason.extents.length) s) s0
      let thin := s1.mason.courses.filter fun kv =>
        decide (kv.2.kind = 2) && decide (kv.2.st ≠ 1) && decide (kv.2.geom ≠ 0) && decide (4 * kv.2.live ≤ kv.2.rows)
      s.pwr.phase = .run →
      exec (.heatSweep) s = .next (thin.foldl (fun (s : State) (kv : Nat × Course) => ((s.mason.extents.filter fun x => decide (x.2.replCourse = kv.1)).foldl (fun s x => s.dropReplica x.1) s).freeCourse kv.1) s1)) ∧
  (∀ (ix : Nat) (course : Nat) (row : Nat) (s : State),
      let c := s.course course
      s.pwr.phase = .run → (s.mason.moving.any fun kv => decide (kv.1 = ix)) = true → c.kind = 2 → c.geom ≠ 0 → row + (s.extent ix).len ≤ 65536 → s.unchanged ix = true →
      exec (.replicaCommit ix course row) s = .next ((((s.setExtent ix { s.extent ix with st := 1, hot := true, replCourse := course, replRow := row }).endMove ix).addLive course (s.extent ix).len).bump 0x18 MSN.REPL_CNT.CREATED)) ∧
  (∀ (ix : Nat) (course : Nat) (row : Nat) (s : State),
      let c := s.course course
      s.pwr.phase = .run → (s.mason.moving.any fun kv => decide (kv.1 = ix)) = true → c.kind = 2 → c.geom ≠ 0 → row + (s.extent ix).len ≤ 65536 → s.unchanged ix = false →
      exec (.replicaCommit ix course row) s = .next (s.endMove ix)) ∧
  (∀ (p : Nat) (s : State),
      let free := s.poolFree p
      let start := s.fld (pgMsn p) MSN.POOL_COMPACT.START
      let goes := s.mason.compacting.contains p && decide (free ≤ 100 * State.compactStopPct s p)
      s.pwr.phase = .run → p < 8 → s.background = true → s.flag 0x18 MSN.MSN_CFG.COMPACT_EN = true → (decide (free < 100 * start) || goes) = true →
      exec (.compactionStart p) s = .next (
        let s1 := if free < 100 * s.fld (pgMsn p) MSN.POOL_COMPACT.URGENT then s.raise 0x18 9 p else s
        let s2 := if 4 * free < 100 * s.fld (pgMsn p) MSN.POOL_CFG.RESERVE_PCT then s1.raise 0x18 5 p else s1
        let s3 := s2.onMason fun m => { m with compacting := m.compacting.filter (fun x => decide (x ≠ p)) ++ [p] }
        match compactNext s3 p with
        | none => s3
        | some n => if (s3.course n).live = 0 then s3.freeCourse n else s3.retireCourse n)) ∧
  (∀ (ix : Nat) (course : Nat) (start : Nat) (s : State),
      let e := s.extent ix
      let old := s.course e.course
      let c := s.course course
      let n := min 256 e.len
      let kd := ((s.mason.rekeying.find? fun dd => decide (dd.1 = old.kdom)).map (·.2)).getD old.kdom
      s.pwr.phase = .run → (s.mason.moving.any fun kv => decide (kv.1 = ix)) = true → c.geom ≠ 0 → c.kind = old.kind → c.kdom = kd → course ≠ e.course → start + n ≤ geomK c.geom * c.rows →
      exec (.extentMoveCommit ix course start) s = .next (
        if !s.unchanged ix then s.endMove ix
        else
          let j := if n = e.len then ix else s.freeEntry
          let moved := { State.part' e 0 n with
            st := 1, course := course, start := start, pool := c.pool
            wIx := if kd = old.kdom then e.wIx else j, wOff := if kd = old.kdom then e.wOff else 0 }
          let s1 := s.endMove ix
          let s2 := if n = e.len then s1.setExtent ix moved
            else
              ((s1.setExtent j { moved with hot := false, replCourse := noRef, replRow := 0 }).setExtent ix (State.part' e n (e.len - n))).beginMove ix
          let s3 := ((s2.addLive e.course (-(n : Int))).addLive course n).addTo 0x18 MSN.MOVED.BRICKS n
          let s4 := if (s3.course e.course).live = 0 ∧ (s3.course e.course).st = 4 then s3.freeCourse e.course else s3
          compactStop s4 old.pool)) ∧
  (∀ (n : Nat) (repl : List (Nat × Nat × Cand)) (s : State),
      s.pwr.phase = .run → slotOk s.part n = true → s.urgentWork = true → s.flag 0x18 MSN.MSN_CFG.REBUILD_EN = true →
      exec (.rebuildStart n repl) s = .next (
        let cs := s.mason.courses.filter fun kv => (s.background || decide (maskCount kv.2.lost = geomM kv.2.geom)) &&
          decide (kv.2.geom ≠ 0) && decide (kv.2.lost ≠ 0) && decide (kv.2.st = 3) && decide (kv.2.kind ≠ 2) && kv.2.members.any (ofSlot n)
        let ranked := Scored.sort (cs.map fun kv => ⟨⟨kv.1, 0, 0, 0⟩, (20 - maskCount kv.2.lost) * 2 ^ 24 + (2 ^ 21 - kv.2.live)⟩)
        let s1 := s.onMason fun m => { m with rebuilding := m.rebuilding.filter (fun x => decide (x ≠ n)) ++ [n] }
        (ranked.foldl (fun (s : State) x => rebuildOne repl s x.cand.act) s1).rebuildCheck n)) ∧
  (∀ (course : Nat) (member : Nat) (mt : Nat × Nat) (s : State),
      s.pwr.phase = .run → ((s.course course).copies.find? fun x => decide (x.1 = member)) = some mt → bitOf (s.course course).lost member = true → bitOf (s.course course).rebuild member = true → bitClear (s.course course).lost member ≠ 0 →
      exec (.rebuildMemberSwitch course member) s = .next ((((((s.setTile mt.2 { s.tile mt.2 with st := 2, course := course, pos := member, bricks := (s.course course).rows }).setCourse course { s.course course with members := (s.course course).members.set member mt.2, lost := bitClear (s.course course).lost member, rebuild := bitClear (s.course course).rebuild member, copies := (s.course course).copies.erase mt, st := (s.course course).st }).addTo 0x18 MSN.REBUILT.BRICKS (s.course course).rows).showPool (s.course course).pool).rebuildCheck (slotOf (State.tileAct ((s.course course).members.getD member 0)))))) ∧
  (∀ (course : Nat) (member : Nat) (x : Cand) (s : State),
      let c := s.course course
      let old := c.members.getD member 0
      let n := slotOf (tileAct old)
      let (k, m) := (geomK c.geom, geomM c.geom)
      let standing := ((c.members.zipIdx).filter fun tn => decide (tn.2 ≠ member)).map fun tn => tileAct tn.1
      let weak := (s.headRec (tileAct old) (s.tile old).head).weak
      s.pwr.phase = .run → c.geom ≠ 0 → c.kind ≠ 2 → member < k + m → (decide (s.slotSt n = 3) || weak) = true → s.background = true → s.candOk c.pool x = true → (pickMembers (capOf s.part c.kind k m) (k + m) standing [⟨x, 0⟩]).length = 1 →
      exec (.drainMemberSwitch course member x) s = .next (
        let s1 := ((s.reserveTile x course member).setTile x.tile
          { s.tile x.tile with st := 2, course := course, pos := member, head := x.head, bricks := c.rows })
        let s2 := (s1.setCourse course { c with members := c.members.set member x.tile }).addTo 0x18 MSN.MOVED.BRICKS c.rows
        let s3 := if s.slotSt n = 3 then s2.setTile old { s2.tile old with course := noRef, pos := 0xFF } else s2.resetTile old
        if s3.slotSt n = 3 ∧ !s3.slotReferenced n then ((s3.toSlot n 4).raise 0x18 4 n).tryExclude n else s3.tryExclude n)) ∧
  (∀ (d : Nat) (w0 : Bool) (w1 : Bool) (d2 : Nat) (s1 : State) (s : State),
      let s2 := (s1.set (pgDom d) SEC.DOM_STAT.STATE 2).onSec fun x => { x with rekeyWait := x.rekeyWait.erase d }
      let s3 := { s2 with nvme := { s2.nvme with ns := Tab.upd Ns.zero s2.nvme.ns (s.fld (pgDom d) SEC.DOM_STAT.NSID) fun n => { n with kdom := d2 } } }
      let s4 := s3.onMason fun m => { m with rekeying := m.rekeying ++ [(d, d2)] }
      s.pwr.phase = .run → s.firstFree = some d2 → s.sec.rekeyWait.contains d = true → s.domSt d = 1 → s.background = true → s.makeKeys d2 (s.fld (pgDom d) SEC.DOM_STAT.NSID) w0 w1 = (true, s1) →
      exec (.rekeyStart d w0 w1) s = .next (((s4.mason.courses.filter fun kv => decide (kv.2.geom ≠ 0) && decide (kv.2.kdom = d)).foldl (fun (s : State) kv => if (s.course kv.1).live = 0 then s.freeCourse kv.1 else s.retireCourse kv.1) s4).rekeyCheck)) ∧
  (∀ (jseq : Nat) (s : State),
      let p := s.fld 0x19 MAP.JSEQ_PERSISTED.JSEQ
      s.pwr.phase = .run → p < jseq → jseq ≤ s.fld 0x19 MAP.JSEQ_APPENDED.JSEQ →
      exec (.journalPagePersist jseq) s = .next ((s.set 0x19 MAP.JSEQ_PERSISTED.JSEQ jseq).settle)) ∧
  (∀ (s : State),
      s.pwr.phase = .run → s.mason.ckptStart.isNone = true →
      exec (.checkpointStart) s = .next (
        let n := s.fld 0x19 MAP.JSEQ_APPENDED.JSEQ + 1
        (State.journal s [.ckpt false n]).onMason fun m => { m with ckptStart := some n })) ∧
  (∀ (bootSlots : Nat) (n : Nat) (s : State),
      s.pwr.phase = .run → s.mason.ckptStart = some n →
      exec (.checkpointEnd bootSlots) s = .next (((((State.journal s [.ckpt true n]).onMason fun m => { m with ckptStart := none, ckpt := some ⟨n, m.tiles, m.courses, m.extents⟩, roots := (if m.roots.length ≥ 1024 then m.roots.tail else m.roots) ++ [n], journal := m.journal.filter fun r => decide (r.jseq ≥ n) }).onNor fun x => { x with bootSlots := bootSlots % 2 ^ 64 }).set 0x19 MAP.CKPT_JSEQ.S n).raise 0x19 1 0)) ∧
  (∀ (acc : Accessor) (write : Bool) (value : Nat) (s : State),
      s.pwr.phase = .run → write = true → s.fld 0x18 MSN.SEEK_ADDR.INDEX < 25 →
      exec (.seekTableAccess acc write value) s = .next ((s.set 0x18 MSN.SEEK_ADDR.INDEX ((s.fld 0x18 MSN.SEEK_ADDR.INDEX + 1) % 32)).onMason fun m => { m with seek := Tab.put 0 m.seek (s.fld 0x18 MSN.SEEK_ADDR.INDEX) (value % 2 ^ 16) })) ∧
  (∀ (acc : Accessor) (write : Bool) (value : Nat) (s : State),
      s.pwr.phase = .run → write = false → s.fld 0x18 MSN.SEEK_ADDR.INDEX < 25 →
      exec (.seekTableAccess acc write value) s = .next ((s.set 0x18 MSN.SEEK_ADDR.INDEX ((s.fld 0x18 MSN.SEEK_ADDR.INDEX + 1) % 32)).onIo fun i => { i with readData := Tab.put 0 i.readData acc.num (Tab.get 0 s.mason.seek (s.fld 0x18 MSN.SEEK_ADDR.INDEX)) })) ∧
  (∀ (table : Nat) (idx : Nat) (s : State),
      s.pwr.phase = .run → s.mason.poisoned.contains (table, idx) = true →
      exec (.tableSegmentRebuild table idx) s = .next (
        let base := ((s.rgnOwned table).map fun r => s.rgnBase r + idx * 2 ^ 26).getD 0
        ((s.onMason fun m => { m with poisoned := m.poisoned.erase (table, idx) }).onBuf fun b =>
          { b with poison := b.poison.filter fun kv => !(decide (base ≤ 64 * kv.1) && decide (64 * kv.1 < base + 2 ^ 26)) }).raise 0x19 2 0))

/-- Queue and event commands of the admin set complete. A fetched admin command that passes its checks has its own effect:
queues are created and deleted, logs and identify data are given, a waiting command is aborted, features are set and
read, an event request waits. The hypotheses are the conditions under which the command comes about (log entries 1 and
2). (R291, R281, R283, R304, R279, R295, R307, R308) -/
def Obligations.AdminQueueCommandsComplete : Prop :=
  (∀ (c : Cmd) (qid : Nat) (x : Sq) (s : State),
      let s1 := s.fetch c
      let k := s1.ctrl c.ctl
      let mine := fun (f : Flight) => decide (f.cmd.ctl = c.ctl) && decide (f.cmd.sq = qid)
      let s2 := (s1.nvme.flights.filter fun f => mine f && !f.started).foldl (fun (s : State) f => s.done f.cmd .abortedSqDeletion)
        (s1.setFlights (s1.nvme.flights.filter fun f => !(mine f && !f.started)))
      s.pwr.phase = .run → s.canFetch c = true → c.sq = 0 → s1.flag 8 LCS.LC_STAT.BUSY = false → qid ≠ 0 → Tab.find? k.sqs qid = some x →
      exec (.deleteIoSubmissionQueue c qid) s = .next ((s2.setFlights (s2.nvme.flights ++ [{ s2.newFlight c .deleteSq 0 0 0 false [] with obj := qid, started := true }])).settle.showWaiting)) ∧
  (∀ (c : Cmd) (qid : Nat) (size : Nat) (cqid : Nat) (prio : Nat) (contiguous : Bool) (x : Cq) (s : State),
      let s1 := s.fetch c
      let k := s1.ctrl c.ctl
      s.pwr.phase = .run → s.canFetch c = true → c.sq = 0 → s1.flag 8 LCS.LC_STAT.BUSY = false → State.queueStatus (Tab.find? k.sqs qid).isSome qid size (grantedOf c.ctl k).1 contiguous = none → cqid ≠ 0 → Tab.find? k.cqs cqid = some x →
      exec (.createIoSubmissionQueue c qid size cqid prio contiguous) s = .next (((s1.setCtrl c.ctl { k with sqs := Tab.place k.sqs qid ⟨size + 1, cqid, prio, 0, 0⟩ }).showQueues).done c .success)) ∧
  (∀ (c : Cmd) (qid : Nat) (x : Cq) (s : State),
      let s1 := s.fetch c
      let k := s1.ctrl c.ctl
      s.pwr.phase = .run → s.canFetch c = true → c.sq = 0 → s1.flag 8 LCS.LC_STAT.BUSY = false → qid ≠ 0 → Tab.find? k.cqs qid = some x → (k.sqs.any fun q => decide (q.2.cq = qid)) = false →
      exec (.deleteIoCompletionQueue c qid) s = .next ((s1.setCtrl c.ctl { k with cqs := Tab.erase k.cqs qid }).done c .success)) ∧
  (∀ (c : Cmd) (qid : Nat) (size : Nat) (vector : Nat) (contiguous : Bool) (s : State),
      let s1 := s.fetch c
      let k := s1.ctrl c.ctl
      s.pwr.phase = .run → s.canFetch c = true → c.sq = 0 → s1.flag 8 LCS.LC_STAT.BUSY = false → State.queueStatus (Tab.find? k.cqs qid).isSome qid size (grantedOf c.ctl k).2 contiguous = none →
      exec (.createIoCompletionQueue c qid size vector contiguous) s = .next ((s1.setCtrl c.ctl { k with cqs := Tab.place k.cqs qid ⟨size + 1, vector, 0, 0⟩ }).done c .success)) ∧
  (∀ (c : Cmd) (lid : Nat) (nsid : Nat) (ofs : Nat) (len : Nat) (rae : Bool) (v : Nat) (s2 : State) (s : State),
      let s1 := s.fetch c
      s.pwr.phase = .run → s.canFetch c = true → c.sq = 0 → ofs % 4 = 0 → s1.readLog c.ctl c.ctl lid nsid ofs len rae = (some v, s2) →
      exec (.getLogPage c lid nsid ofs len rae) s = .next (s2.doneWith c .success 0 v)) ∧
  (∀ (c : Cmd) (cns : Nat) (nsid : Nat) (s : State),
      let s1 := s.fetch c
      s.pwr.phase = .run → s.canFetch c = true → c.sq = 0 → cns ∈ [0, 1, 2, 3, 5, 6, 7, 8, 0x10, 0x11, 0x12, 0x13, 0x15, 0x1C] →
      exec (.identify c cns nsid) s = .next (s1.doneWith c .success 0 (ofLe (s1.identifyData c.ctl cns nsid)))) ∧
  (∀ (c : Cmd) (sqid : Nat) (cid : Nat) (others : Nat) (f : Flight) (s : State),
      let s1 := s.fetch c
      s.pwr.phase = .run → s.canFetch c = true → c.sq = 0 → s1.flag 8 LCS.LC_STAT.BUSY = false → others < 4 → sqid ≠ 0 → s1.flightOf ⟨c.ctl, sqid, cid⟩ = some f → f.started = false →
      exec (.abort c sqid cid others) s = .next ((((s1.finish f .abortRequested 0).showWaiting).bump 0x11 NVE.NVE_ERR.ABORTS).doneWith c .success 0 0)) ∧
  (∀ (c : Cmd) (fid : Nat) (nsid : Nat) (value : Nat) (data : Nat) (s : State),
      let s1 := s.fetch c
      let k := s1.ctrl c.ctl
      s.pwr.phase = .run → s.canFetch c = true → c.sq = 0 → s1.flag 8 LCS.LC_STAT.BUSY = false → featOk c.ctl fid = true → fid ∉ [2, 6, 7, 0xC, 0xE, 0xC0] →
      exec (.setFeatures c fid nsid value data) s = .next ((s1.setCtrl c.ctl { k with feats := Tab.place (Tab.erase k.feats fid) fid value }).done c .success)) ∧
  (∀ (c : Cmd) (fid : Nat) (nsid : Nat) (value : Nat) (data : Nat) (s : State),
      let s1 := s.fetch c
      let k := s1.ctrl c.ctl
      s.pwr.phase = .run → s.canFetch c = true → c.sq = 0 → s1.flag 8 LCS.LC_STAT.BUSY = false → featOk c.ctl fid = true → fid = 6 →
      exec (.setFeatures c fid nsid value data) s = .next (((s1.setCtrl c.ctl { k with feats := Tab.place (Tab.erase k.feats fid) fid (value % 2) }).syncCache).done c .success)) ∧
  (∀ (c : Cmd) (fid : Nat) (nsid : Nat) (s : State),
      let s1 := s.fetch c
      s.pwr.phase = .run → s.canFetch c = true → c.sq = 0 → s1.flag 8 LCS.LC_STAT.BUSY = false → featOk c.ctl fid = true → fid ∉ [0xC, 0xE, 0xC0] →
      exec (.getFeatures c fid nsid) s = .next (s1.doneWith c .success (s1.featValue c.ctl fid nsid) 0)) ∧
  (∀ (c : Cmd) (s : State),
      let s1 := s.fetch c
      let k := s1.ctrl c.ctl
      s.pwr.phase = .run → s.canFetch c = true → c.sq = 0 → s1.flag 8 LCS.LC_STAT.BUSY = false → k.aers.length < 8 → k.events = [] →
      exec (.asynchronousEventRequest c) s = .next (s1.setCtrl c.ctl { k with aers := k.aers ++ [c.cid] })) ∧
  (∀ (c : Cmd) (ev : Nat × Nat × Nat) (es : List (Nat × Nat × Nat)) (s : State),
      let s1 := s.fetch c
      let k := s1.ctrl c.ctl
      s.pwr.phase = .run → s.canFetch c = true → c.sq = 0 → s1.flag 8 LCS.LC_STAT.BUSY = false → k.aers.length < 8 → k.events = ev :: es →
      exec (.asynchronousEventRequest c) s = .next ((s1.setCtrl c.ctl { k with events := es }).doneWith c .success (State.asyncDw0 ev) 0))

/-- Namespace and format commands complete. Namespaces are created, deleted, attached and detached; a format and a
sanitize start and end, each with its effect. The hypotheses are the conditions under which the command comes about
(log entries 1 and 2). (R296, R297, R283, R302, R301) -/
def Obligations.NamespaceCommandsComplete : Prop :=
  (∀ (c : Cmd) (set : Nat) (nsze : Nat) (ncap : Nat) (flbas : Nat) (nmic : Nat) (pool : Nat) (flags : Nat) (maxValue : Nat) (w0 : Bool) (w1 : Bool) (nsid d : Nat) (s2 : State) (s : State),
      let s1 := s.fetch c
      s.pwr.phase = .run → s.canFetch c = true → c.sq = 0 → isPf0 c.ctl = true → s1.flag 8 LCS.LC_STAT.BUSY = false → (State.firstOf [s1.sanitizeStatus, State.chk (decide (nsze ≠ ncap) || decide (flbas ≠ 0) || decide (pool > 7) || decide (set > 2) || (decide (set = 1) && decide (maxValue = 0 ∨ maxValue > 0xFFFFFFFF))) .invalidField, State.chk (decide (s1.fld (State.pgMsn pool) MSN.POOL_SLOTS.SLOTS = 0)) .poolNotConfigured, State.chk (decide (nsze > s1.remaining pool)) .nsCapacity, State.chk ((((List.range 1025).drop 1).filter fun n => !(s1.nsOf n).live).isEmpty || decide ((s1.domainsIn [0]).length ≤ s1.sec.rekeyWait.length)) .nsIdUnavailable] = none) → (((List.range 1025).drop 1).filter fun n => !(s1.nsOf n).live).head? = some nsid → s1.firstFree = some d → s1.makeKeys d nsid w0 w1 = (true, s2) →
      exec (.namespaceCreate c set nsze ncap flbas nmic pool flags maxValue w0 w1) s = .next ((s2.setNs nsid { Ns.zero with live := true, set := set, nsze := nsze, nmic := nmic, pool := pool, strict := bitOf flags 0, pinned := bitOf flags 1, kdom := d, maxValue := maxValue, ready := s2.poolReady pool }).doneWith c .success nsid 0)) ∧
  (∀ (c : Cmd) (nsid : Nat) (s : State),
      let s1 := s.fetch c
      s.pwr.phase = .run → s.canFetch c = true → c.sq = 0 → isPf0 c.ctl = true → s1.flag 8 LCS.LC_STAT.BUSY = false → s1.sanitizeStatus = none → nsid ≠ 0xFFFFFFFF → (s1.nsOf nsid).live = true →
      exec (.namespaceDelete c nsid) s = .next ((s1.removeNs nsid).done c .success)) ∧
  (∀ (c : Cmd) (nsid : Nat) (ids : List Nat) (s : State),
      let s1 := s.fetch c
      s.pwr.phase = .run → s.canFetch c = true → c.sq = 0 → isPf0 c.ctl = true → s1.flag 8 LCS.LC_STAT.BUSY = false → State.firstOf [State.chk (decide (nsid = 0) || !(s1.nsOf nsid).live) .invalidNamespace, State.chk (ids.isEmpty || !ids.all ctrlId) .ctrlListInvalid, State.chk (ids.any fun id => (s1.ctrl id).attached.contains nsid) .nsAttached, State.chk (decide ((s1.nsOf nsid).nmic % 2 = 0) && decide ((s1.attachedTo nsid).length + ids.length > 1)) .nsPrivate] = none →
      exec (.namespaceAttach c nsid ids) s = .next (((ids.foldl (fun (s : State) id => s.setCtrl id { s.ctrl id with attached := (s.ctrl id).attached ++ [nsid] }) s1).nsChanged nsid (ids.filter fun id => decide (id ≠ c.ctl))).done c .success)) ∧
  (∀ (c : Cmd) (nsid : Nat) (ids : List Nat) (s : State),
      let s1 := s.fetch c
      s.pwr.phase = .run → s.canFetch c = true → c.sq = 0 → isPf0 c.ctl = true → s1.flag 8 LCS.LC_STAT.BUSY = false → State.firstOf [State.chk (decide (nsid = 0) || !(s1.nsOf nsid).live) .invalidNamespace, State.chk (ids.isEmpty || !ids.all ctrlId) .ctrlListInvalid, State.chk (ids.any fun id => !(s1.ctrl id).attached.contains nsid) .nsNotAttached] = none →
      exec (.namespaceDetach c nsid ids) s = .next (((ids.foldl (fun (s : State) id => s.setCtrl id { s.ctrl id with attached := (s.ctrl id).attached.erase nsid }) s1).nsChanged nsid (ids.filter fun id => decide (id ≠ c.ctl))).done c .success)) ∧
  (∀ (c : Cmd) (nsid : Nat) (ses : Nat) (w0 : Bool) (w1 : Bool) (s : State),
      let s1 := s.fetch c
      s.pwr.phase = .run → s.canFetch c = true → c.sq = 0 → isPf0 c.ctl = true → s1.flag 8 LCS.LC_STAT.BUSY = false → s1.formatTargets nsid = [] → State.firstOf [s1.sanitizeStatus, State.chk (s1.nvme.ns.any fun kv => kv.2.format.isSome) .formatInProgress, State.chk false .invalidNamespace, State.chk (decide (ses > 2)) .invalidField] = none →
      exec (.formatNvm c nsid ses w0 w1) s = .next ((s1.setFlights (s1.nvme.flights ++ [{ s1.newFlight c .format nsid 0 0 false [] with started := true }])).settle)) ∧
  (∀ (f : Flight) (s : State),
      let ts := (s.nvme.ns.filter fun kv => kv.2.format.isSome).map Prod.fst
      let s1 := ts.foldl (fun (s : State) n =>
        (s.setNs n { s.nsOf n with format := none }).onNor fun x => { x with erasing := Tab.erase x.erasing n }) s
      s.pwr.phase = .run → ts.isEmpty = false → (s.nvme.flights.find? fun (f : Flight) => decide (f.kind = FlightKind.format)) = some f →
      exec (.formatDone) s = .next ((s1.finish f .success 0).raise 0x11 8 0)) ∧
  (∀ (c : Cmd) (w0 : Bool) (w1 : Bool) (s : State),
      let s1 := s.fetch c
      s.pwr.phase = .run → s.canFetch c = true → c.sq = 0 → isPf0 c.ctl = true → s1.flag 8 LCS.LC_STAT.BUSY = false →
      exec (.sanitizeCryptoErase c w0 w1) s = .next (s1.startSanitize c 1 w0 w1)) ∧
  (∀ (c : Cmd) (w0 : Bool) (w1 : Bool) (s : State),
      let s1 := s.fetch c
      s.pwr.phase = .run → s.canFetch c = true → c.sq = 0 → isPf0 c.ctl = true → s1.flag 8 LCS.LC_STAT.BUSY = false →
      exec (.sanitizeBlockErase c w0 w1) s = .next (s1.startSanitize c 2 w0 w1)) ∧
  (∀ (c : Cmd) (w0 : Bool) (w1 : Bool) (s : State),
      let s1 := s.fetch c
      s.pwr.phase = .run → s.canFetch c = true → c.sq = 0 → isPf0 c.ctl = true → s1.flag 8 LCS.LC_STAT.BUSY = false →
      exec (.sanitizeOverwrite c w0 w1) s = .next (s1.startSanitize c 3 w0 w1)) ∧
  (∀ (how : Nat) (s : State),
      s.pwr.phase = .run → s.nvme.sanitize = some how → how ≠ 3 →
      exec (.sanitizeDone) s = .next ((((((s.onMason fun m => { m with serials := [] }).onNvme fun n => { n with sanitize := none, sanitizes := n.sanitizes + 1 }).onNor fun x => { x with erasing := Tab.erase x.erasing 0 }).setB 0x11 NVE.NVE_STAT.SANITIZE false).raise 0x11 7 how)))

/-- Firmware, management and security commands of the admin set complete. Images are downloaded, replaced, chosen and
activated; management messages are sent and received; the recorder is cleared and a report given; an unsupported
command is refused with its status. The hypotheses are the conditions under which the command comes about (log entries
1 and 2). (R293, R294, R283, R310) -/
def Obligations.FirmwareAndManagementCommandsComplete : Prop :=
  (∀ (c : Cmd) (ofs : Nat) (bytes : List Nat) (s : State),
      let s1 := s.fetch c
      s.pwr.phase = .run → s.canFetch c = true → c.sq = 0 → isPf0 c.ctl = true → s1.flag 8 LCS.LC_STAT.BUSY = false →
      exec (.firmwareImageDownload c ofs bytes) s = .next ((s1.onNvme fun n => { n with staged := bytes.zipIdx.foldl (fun t bi => Tab.put 0 t (ofs + bi.2) (bi.1 % 256)) n.staged }).done c .success)) ∧
  (∀ (c : Cmd) (slot : Nat) (next : Bool) (w0 : Bool) (w1 : Bool) (s : State),
      let s1 := s.fetch c
      s.pwr.phase = .run → s.canFetch c = true → c.sq = 0 → isPf0 c.ctl = true → s1.flag 8 LCS.LC_STAT.BUSY = false → (1 ≤ slot ∧ slot ≤ 2) → s1.nvme.sanitize = none → slot ≠ s1.fld 0 DEV.BOOT_IMG.RUN_SLOT → w0 = true → next = false →
      exec (.firmwareCommitReplace c slot next w0 w1) s = .next (if s1.imageOk s1.stagedImage then (s1.writeImage slot s1.stagedImage w0 w1).done c .success else (s1.raise 9 5 0).done c .fwImage)) ∧
  (∀ (c : Cmd) (slot : Nat) (next : Bool) (w0 : Bool) (w1 : Bool) (s : State),
      let s1 := s.fetch c
      s.pwr.phase = .run → s.canFetch c = true → c.sq = 0 → isPf0 c.ctl = true → s1.flag 8 LCS.LC_STAT.BUSY = false → slot ≠ 0 → s1.nvme.sanitize = none → slot = s1.fld 0 DEV.BOOT_IMG.RUN_SLOT →
      exec (.firmwareCommitReplace c slot next w0 w1) s = .next (s1.done c .fwSlot)) ∧
  (∀ (c : Cmd) (slot : Nat) (s : State),
      let s1 := s.fetch c
      s.pwr.phase = .run → s.canFetch c = true → c.sq = 0 → isPf0 c.ctl = true → s1.flag 8 LCS.LC_STAT.BUSY = false → (1 ≤ slot ∧ slot ≤ 2) → s1.nvme.sanitize = none → s1.flag 0 DEV.BOOT_STAT.DONE = true →
      exec (.firmwareCommitNextBoot c slot) s = .next (if s1.imageOk (s1.imageAt 0 slot) ∨ s1.imageOk (s1.imageAt 1 slot) then (s1.set 0 DEV.BOOT_IMG.NEXT slot).done c .success else s1.done c .fwImage)) ∧
  (∀ (c : Cmd) (slot : Nat) (s : State),
      let s1 := s.fetch c
      s.pwr.phase = .run → s.canFetch c = true → c.sq = 0 → isPf0 c.ctl = true → s1.flag 8 LCS.LC_STAT.BUSY = false → (1 ≤ slot ∧ slot ≤ 2) → s1.nvme.sanitize = none → s1.nvme.activating = none →
      exec (.firmwareCommitActivate c slot) s = .next (
        match s1.slotImage slot with
        | none => s1.done c .fwImage
        | some (img, _) =>
          if microcodeOf img ≠ microcodeOf s1.runningImage then (s1.set 0 DEV.BOOT_IMG.NEXT slot).done c .fwConventionalReset
          else ((((s1.async 9 (2, 1, 3)).setB 0x11 NVE.NVE_STAT.FETCH_STOPPED true).setB 0x11 NVE.NVE_STAT.FW_ACT true).onNvme fun n =>
            { n with activating := some (c, slot) }).raise 0x11 2 0)) ∧
  (∀ (ms : Nat) (c : Cmd) (slot : Nat) (s : State),
      s.pwr.phase = .run → s.nvme.activating = some (c, slot) → (s.nvme.flights.all fun f => decide (f.kind = .format)) = true →
      exec (.activationQuiesced ms) s = .next (
        match s.slotImage slot with
        | none => s.endActivation c ms 4 .fwImage
        | some (img, dev) =>
          (((((s.set 0 DEV.BOOT_IMG.RUN_SLOT slot).set 0 DEV.BOOT_IMG.RUN_DEV dev).set 0 DEV.BOOT_IMG.NEXT slot).set 0 DEV.BOOT_VER.VERSION
            (ofLe (slice img 8 4))).raiseSvn img).endActivation c ms 3 .success)) ∧
  (∀ (c : Cmd) (slot : Nat) (s : State),
      s.pwr.phase = .run → s.nvme.activating = some (c, slot) →
      exec (.activationQuiesceTimeout) s = .next ((s.set 0 DEV.BOOT_IMG.NEXT slot).endActivation c 1800 4 .fwMaxTime)) ∧
  (∀ (c : Cmd) (r : MiReq) (s : State),
      let s1 := s.fetch c
      s.pwr.phase = .run → s.canFetch c = true → c.sq = 0 → isPf0 c.ctl = true → s1.flag 8 LCS.LC_STAT.BUSY = false → (s1.miAnswer r c.ctl).1 ≠ .invalidOpcode →
      exec (.nvmeMiSend c r) s = .next (((s1.miAnswer r c.ctl).2.2.onNvme fun n => { n with miAsked := some ((s1.miAnswer r c.ctl).1, (s1.miAnswer r c.ctl).2.1) }).done c .success)) ∧
  (∀ (c : Cmd) (sc : Sc) (v : Nat) (s : State),
      let s1 := s.fetch c
      s.pwr.phase = .run → s.canFetch c = true → c.sq = 0 → isPf0 c.ctl = true → s1.flag 8 LCS.LC_STAT.BUSY = false → s1.nvme.miAsked = some (sc, v) →
      exec (.nvmeMiReceive c) s = .next ((s1.onNvme fun n => { n with miAsked := none }).doneWith c sc 0 v)) ∧
  (∀ (c : Cmd) (tok : List Nat) (s : State),
      let s1 := s.fetch c
      s.pwr.phase = .run → s.canFetch c = true → c.sq = 0 → isPf0 c.ctl = true → s1.flag 8 LCS.LC_STAT.BUSY = false →
      exec (.clearEventRecorder c tok) s = .next (if s1.tokenResult tok s1.clearAllowed = 1 then ((s1.tokenShown 1).clearRecorder tok).done c .success else (s1.tokenShown (s1.tokenResult tok s1.clearAllowed)).done c .invalidField)) ∧
  (∀ (c : Cmd) (nonce : List Nat) (len : Nat) (w0 : Bool) (w1 : Bool) (seed : Nat) (s : State),
      let s1 := s.fetch c
      let s2 := (s1.set 9 SEC.ATT_Q.Q (s1.fld 9 SEC.ATT_Q.Q + 1)).set 9 SEC.ATT_STAT.LEFT (s1.fld 9 SEC.ATT_STAT.LEFT - 1)
      s.pwr.phase = .run → s.canFetch c = true → c.sq = 0 → isPf0 c.ctl = true → s1.flag 8 LCS.LC_STAT.BUSY = false → 3860 ≤ 4 * len → s1.flag 9 SEC.ATT_STAT.ACTIVE = true → s1.sec.seed = some seed → s1.fld 9 SEC.ATT_STAT.LEFT ≠ 0 →
      exec (.getAttestationReport c nonce len w0 w1) s = .next (s2.doneWith c .success 0 (ofLe (s2.reportBody nonce (s1.fld 9 SEC.ATT_Q.Q) seed ++ Config.hssSign seed (s1.fld 9 SEC.ATT_Q.Q) (s2.reportBody nonce (s1.fld 9 SEC.ATT_Q.Q) seed))))) ∧
  (∀ (c : Cmd) (s : State),
      s.pwr.phase = .run → s.canFetch c = true → c.sq ≠ 0 →
      exec (.unsupportedCommand c) s = .next ((s.fetch c).done c .invalidOpcode))

/-- NVM commands complete. A fetched NVM command that passes its checks has its own effect: a write enters with its
flight, a read gives its bricks, a compare, a verify, zeroes and deallocation end with their status, and a flush waits
for its flights. The hypotheses are the conditions under which the command comes about (log entries 1 and 2). (R288,
R285, R444, R341, R287, R284, R337) -/
def Obligations.NvmCommandsComplete : Prop :=
  (∀ (c : Cmd) (nsid : Nat) (s : State),
      let s1 := s.fetch c
      s.pwr.phase = .run → s.canFetch c = true → c.sq ≠ 0 → s.sys.keysGone = false → nsid ≠ allNs → s1.ioStatus c nsid [0, 1, 2] = none →
      exec (.flush c nsid) s = .next ((s1.setFlights (s1.nvme.flights ++ [{ s1.newFlight c .flush nsid 0 0 false [] with started := true }])).settle)) ∧
  (∀ (c : Cmd) (f : Flight) (s : State),
      s.pwr.phase = .run → s.flightOf c = some f → f.kind = .flush → s.flightClean f = true → s.flightPersisted f = true →
      exec (.flushComplete c) s = .next (s.finish f .success 0)) ∧
  (∀ (c : Cmd) (nsid : Nat) (slba : Nat) (nlb : Nat) (fua : Bool) (data : List Nat) (dptr : Nat) (s : State),
      let s1 := s.fetch c
      s.pwr.phase = .run → s.continues c .write = none → s.behindWrite nsid slba (nlb + 1) = false → s.canFetch c = true → c.sq ≠ 0 → s.sys.keysGone = false → s.enabled 0x19 = true → State.firstOf [s1.ioStatus c nsid [0, 2], sizeStatus (nlb + 1), s1.lbaStatus nsid slba (nlb + 1), dptrStatus dptr, s1.domStatus nsid, s1.roomStatus nsid slba (nlb + 1) false] = none →
      exec (.write c nsid slba nlb fua data dptr) s = .next ((s1.zoneAccepts nsid slba (nlb + 1)).startFlight (s1.newFlight c .write nsid slba (nlb + 1) fua (data.take (nlb + 1))))) ∧
  (∀ (c : Cmd) (f : Flight) (s : State),
      s.pwr.phase = .run → s.flightOf c = some f → f.kind = .write → s.writeSafe f = true →
      exec (.writeAcknowledge c) s = .next ((s.unrecCut f.nsid f.slba f.total).finish f .success 0)) ∧
  (∀ (c : Cmd) (f : Flight) (s : State),
      s.pwr.phase = .run → s.flightOf c = some f → f.waits = true →
      exec (.writeWaitEnd c) s = .next (s.goOnFlight f [])) ∧
  (∀ (c : Cmd) (nsid : Nat) (slba : Nat) (nlb : Nat) (fua : Bool) (lr : Bool) (dptr : Nat) (media : List (Nat × Brick)) (s : State),
      let s1 := s.fetch c
      let r := s1.readRun nsid 0 slba (nlb + 1) media
      s.pwr.phase = .run → s.behindWrite nsid slba (nlb + 1) = false → s.fillingIn nsid 0 slba (nlb + 1) = false → s.walkPoison nsid 0 slba (nlb + 1) = none → s.canFetch c = true → c.sq ≠ 0 → s.sys.keysGone = false → s.enabled 0x19 = true → State.firstOf [s1.ioStatus c nsid [0, 2], sizeStatus (nlb + 1), s1.lbaStatus nsid slba (nlb + 1), dptrStatus dptr, s1.domStatus nsid] = none → fua = false →
      exec (.read c nsid slba nlb fua lr dptr media) s = .next (((r.2.fillRead nsid 0 slba r.1).track nsid slba (nlb + 1)).doneWith c (if r.1.all Option.isSome then .success else .unrecoveredRead) 0 (State.bufferOf r.1))) ∧
  (∀ (c : Cmd) (nsid : Nat) (slba : Nat) (nlb : Nat) (data : List Nat) (dptr : Nat) (media : List (Nat × Brick)) (s : State),
      let s1 := s.fetch c
      let r := s1.readRun nsid 0 slba (nlb + 1) media
      s.pwr.phase = .run → s.behindWrite nsid slba (nlb + 1) = false → s.fillingIn nsid 0 slba (nlb + 1) = false → s.walkPoison nsid 0 slba (nlb + 1) = none → s.canFetch c = true → c.sq ≠ 0 → s.sys.keysGone = false → s.enabled 0x19 = true → State.firstOf [s1.ioStatus c nsid [0, 2], sizeStatus (nlb + 1), s1.lbaStatus nsid slba (nlb + 1), dptrStatus dptr, s1.domStatus nsid] = none →
      exec (.compare c nsid slba nlb data dptr media) s = .next (r.2.done c (if !r.1.all Option.isSome then .unrecoveredRead else if r.1 = data.map some then .success else .compareFailure))) ∧
  (∀ (c : Cmd) (nsid : Nat) (slba : Nat) (nlb : Nat) (fua : Bool) (s : State),
      let s1 := s.fetch c
      s.pwr.phase = .run → s.behindWrite nsid slba (nlb + 1) = false → s.canFetch c = true → c.sq ≠ 0 → s.sys.keysGone = false → s.enabled 0x19 = true → State.firstOf [s1.ioStatus c nsid [0, 2], chk (decide (nlb > 0xFFFF)) .invalidField, s1.lbaStatus nsid slba (nlb + 1), s1.domStatus nsid, s1.roomStatus nsid slba (nlb + 1) false] = none →
      exec (.writeZeroes c nsid slba nlb fua) s = .next ((s1.zoneAccepts nsid slba (nlb + 1)).startFlight { s1.newFlight c .write nsid slba (nlb + 1) fua (List.replicate (nlb + 1) 0) with started := true })) ∧
  (∀ (c : Cmd) (nsid : Nat) (nr : Nat) (ad : Bool) (ranges : List (Nat × Nat)) (s : State),
      let s1 := s.fetch c
      s.pwr.phase = .run → ((ranges.take (nr + 1)).any fun r => s.behindWrite nsid r.1 r.2) = false → s.canFetch c = true → c.sq ≠ 0 → s.sys.keysGone = false → s.enabled 0x19 = true → State.firstOf [s1.ioStatus c nsid [0, 2], chk (decide (nr > 255)) .invalidField, chk ((ranges.take (nr + 1)).any fun r => decide (r.1 + r.2 > (s1.nsOf nsid).nsze)) .lbaRange] = none → ad = true →
      exec (.datasetManagement c nsid nr ad ranges) s = .next ((((ranges.take (nr + 1)).foldl (fun (s : State) r => s.deallocate nsid r.1 r.2) s1).mapDone c nsid 0).settle)) ∧
  (∀ (c : Cmd) (nsid : Nat) (slba : Nat) (nlb : Nat) (media : List (Nat × Brick)) (s : State),
      let s1 := s.fetch c
      let r := s1.readRun nsid 0 slba (nlb + 1) media
      s.pwr.phase = .run → s.behindWrite nsid slba (nlb + 1) = false → s.fillingIn nsid 0 slba (nlb + 1) = false → s.walkPoison nsid 0 slba (nlb + 1) = none → s.canFetch c = true → c.sq ≠ 0 → s.sys.keysGone = false → s.enabled 0x19 = true → State.firstOf [s1.ioStatus c nsid [0, 2], chk (decide (nlb > 0xFFFF)) .invalidField, s1.lbaStatus nsid slba (nlb + 1), s1.domStatus nsid] = none →
      exec (.verify c nsid slba nlb media) s = .next (r.2.done c (if r.1.all Option.isSome then .success else .unrecoveredRead)))

/-- Zone commands complete. A zone command whose zones no write lies ahead of moves each zone it names to the state the
spec gives, and an append writes at the zone's write pointer. The hypotheses are the conditions under which the
command comes about (log entries 1 and 2). (R298, R284) -/
def Obligations.ZoneCommandsComplete : Prop :=
  (∀ (c : Cmd) (nsid : Nat) (slba : Nat) (all_ : Bool) (s : State),
      let s1 := s.fetch c
      s.pwr.phase = .run → ((s.zonesNamed nsid slba all_ [1, 2]).any fun z => s.behindWrite nsid (z * zoneSize) zoneSize) = false → s.canFetch c = true → c.sq ≠ 0 → s.sys.keysGone = false → s.enabled 0x19 = true → (State.firstOf [s1.zoneStatus c nsid slba all_, chk (!all_ && decide ((s1.zoneAt nsid (slba / zoneSize)).st = 0 ∨ (s1.zoneAt nsid (slba / zoneSize)).st = 4)) .zoneTransition] = none) →
      exec (.zoneClose c nsid slba all_) s = .next ((((s1.zonesNamed nsid slba all_ [1, 2]).foldl (fun (s : State) z => if (s.zoneAt nsid z).wp = 0 then s.zoneTo nsid z 0 else s.zoneTo nsid z 3) s1).mapDone c nsid 0).settle)) ∧
  (∀ (c : Cmd) (nsid : Nat) (slba : Nat) (all_ : Bool) (s : State),
      let s1 := s.fetch c
      s.pwr.phase = .run → ((s.zonesNamed nsid slba all_ [1, 2, 3]).any fun z => s.behindWrite nsid (z * zoneSize) zoneSize) = false → s.canFetch c = true → c.sq ≠ 0 → s.sys.keysGone = false → s.enabled 0x19 = true → State.firstOf [s1.zoneStatus c nsid slba all_, none] = none →
      exec (.zoneFinish c nsid slba all_) s = .next ((((s1.zonesNamed nsid slba all_ [1, 2, 3]).foldl (fun (s : State) z => s.setZone nsid z ⟨4, (s.zoneAt nsid z).wp⟩) s1).mapDone c nsid 0).settle)) ∧
  (∀ (c : Cmd) (nsid : Nat) (slba : Nat) (all_ : Bool) (s : State),
      let s1 := s.fetch c
      s.pwr.phase = .run → ((s.zonesNamed nsid slba all_ [3]).any fun z => s.behindWrite nsid (z * zoneSize) zoneSize) = false → s.canFetch c = true → c.sq ≠ 0 → s.sys.keysGone = false → s.enabled 0x19 = true → State.firstOf [s1.zoneStatus c nsid slba all_, (if all_ then chk (decide (s1.openZones nsid + ((s1.nsOf nsid).zones.filter fun kv => decide (kv.2.st = 3)).length > 256)) .tooManyOpen else State.firstOf [chk (decide ((s1.zoneAt nsid (slba / zoneSize)).st = 4)) .zoneTransition, s1.openStatus nsid (slba / zoneSize)])] = none →
      exec (.zoneOpen c nsid slba all_) s = .next ((((s1.zonesNamed nsid slba all_ [3]).foldl (fun (s : State) z => s.zoneTo nsid z 2) s1).mapDone c nsid 0).settle)) ∧
  (∀ (c : Cmd) (nsid : Nat) (slba : Nat) (all_ : Bool) (s : State),
      let s1 := s.fetch c
      s.pwr.phase = .run → ((s.zonesNamed nsid slba all_ [1, 2, 3, 4]).any fun z => s.behindWrite nsid (z * zoneSize) zoneSize) = false → s.canFetch c = true → c.sq ≠ 0 → s.sys.keysGone = false → s.enabled 0x19 = true → State.firstOf [s1.zoneStatus c nsid slba all_, none] = none →
      exec (.zoneReset c nsid slba all_) s = .next ((((s1.zonesNamed nsid slba all_ [1, 2, 3, 4]).foldl (fun (s : State) z => (s.deallocate nsid (z * zoneSize) zoneSize).setZone nsid z ⟨0, 0⟩) s1).mapDone c nsid 0).settle)) ∧
  (∀ (c : Cmd) (nsid : Nat) (e : Sc) (s : State),
      let s1 := s.fetch c
      s.pwr.phase = .run → s.canFetch c = true → c.sq ≠ 0 → s.sys.keysGone = false → s.enabled 0x19 = true → State.firstOf [s1.ioStatus c nsid [2], some .invalidField] = some e →
      exec (.zoneOffline c nsid) s = .next (s1.done c e)) ∧
  (∀ (c : Cmd) (nsid : Nat) (slba : Nat) (zra : Nat) (s : State),
      let s1 := s.fetch c
      s.pwr.phase = .run → s.canFetch c = true → c.sq ≠ 0 → s.sys.keysGone = false → s.enabled 0x19 = true → State.firstOf [s1.ioStatus c nsid [2], s1.lbaStatus nsid slba 1, chk (decide (zra ≠ 0)) .invalidField] = none →
      exec (.zoneManagementReceive c nsid slba zra) s = .next (s1.doneWith c .success 0 (ofLe (Config.nvmeData "zones" ([slba / zoneSize, (s1.nsOf nsid).nsze / zoneSize] ++ (s1.nsOf nsid).zones.flatMap fun kv => [kv.1, kv.2.st, kv.2.wp]))))) ∧
  (∀ (c : Cmd) (nsid : Nat) (zslba : Nat) (nlb : Nat) (fua : Bool) (data : List Nat) (dptr : Nat) (s : State),
      let s1 := s.fetch c
      let at_ := zslba + (s.zoneAt nsid (zslba / zoneSize)).wp
      s.pwr.phase = .run → s.continues c .append = none → s.canFetch c = true → c.sq ≠ 0 → s.sys.keysGone = false → s.enabled 0x19 = true → State.firstOf [s1.ioStatus c nsid [2], sizeStatus (nlb + 1), s1.lbaStatus nsid zslba 1, dptrStatus dptr, s1.domStatus nsid, s1.roomStatus nsid zslba (nlb + 1) true] = none →
      exec (.zoneAppend c nsid zslba nlb fua data dptr) s = .next ((s1.zoneWritten nsid (zslba / zoneSize) (nlb + 1)).startFlight { s1.newFlight c .append nsid at_ (nlb + 1) fua (data.take (nlb + 1)) with dw0 := at_ }))

/-- Key value commands complete. Store, Retrieve, Delete, Exist and List have their own effects once their checks pass;
the tag of each chunk of a retrieved value is checked. The hypotheses are the conditions under which the command comes
about (log entries 1 and 2). (R299, R284, R408) -/
def Obligations.KeyValueCommandsComplete : Prop :=
  (∀ (c : Cmd) (nsid : Nat) (key : List Nat) (size : Nat) (noOver : Bool) (onlyOver : Bool) (data : List Nat) (dptr : Nat) (s : State),
      let s1 := s.fetch c
      let f := { s1.newFlight c .store nsid 0 (valueBricks size) false (data.take (valueBricks size)) with
        obj := s1.nvme.nextObj, new := some ⟨key, s1.nvme.nextObj, size, [], 0⟩, old := s1.objOf nsid key }
      let r := (s1.onNvme fun x => { x with nextObj := s1.nvme.nextObj + 1 }).tagFlight f
      s.pwr.phase = .run → s.continues c .store = none → s.behindKey nsid key = false → s.canFetch c = true → c.sq ≠ 0 → s.sys.keysGone = false → s.enabled 0x19 = true → State.firstOf [s1.ioStatus c nsid [1], keyStatus key, chk (decide (size > (s1.nsOf nsid).maxValue)) .invalidValueSize, dptrStatus dptr, s1.domStatus nsid, chk (noOver && (s1.objOf nsid key).isSome) .keyExists, chk (onlyOver && (s1.objOf nsid key).isNone) .keyAbsent, chk (decide (valueBricks size > s1.remaining (s1.nsOf nsid).pool)) .capacityExceeded] = none →
      exec (.store c nsid key size noOver onlyOver data dptr) s = .next (r.1.startFlight r.2)) ∧
  (∀ (c : Cmd) (nsid : Nat) (key : List Nat) (bufSize : Nat) (ofs : Nat) (dptr : Nat) (media : List (Nat × Brick)) (o : KvObj) (s : State),
      let s1 := s.fetch c
      s.pwr.phase = .run → s.behindKey nsid key = false → (s.objOf nsid key).bind (fun o => if ofs ≥ o.size then none else s.walkPoison nsid o.obj (State.valueSpan o.size ofs bufSize).1 (State.valueSpan o.size ofs bufSize).2) = none → s.canFetch c = true → c.sq ≠ 0 → s.sys.keysGone = false → s.enabled 0x19 = true → State.firstOf [s1.ioStatus c nsid [1], keyStatus key, dptrStatus dptr, s1.domStatus nsid, chk (s1.objOf nsid key).isNone .keyAbsent, chk ((s1.nsOf nsid).strict && decide (bufSize > 67108864)) .strictLength] = none → s1.objOf nsid key = some o → ofs ≥ o.size →
      exec (.retrieve c nsid key bufSize ofs dptr media) s = .next (s1.doneWith c .success o.size 0)) ∧
  (∀ (c : Cmd) (nsid : Nat) (key : List Nat) (bufSize : Nat) (ofs : Nat) (dptr : Nat) (media : List (Nat × Brick)) (o : KvObj) (s : State),
      let s1 := s.fetch c
      let r := s1.readRun nsid o.obj (State.valueSpan o.size ofs bufSize).1 (State.valueSpan o.size ofs bufSize).2 media
      s.pwr.phase = .run → s.behindKey nsid key = false → (s.objOf nsid key).bind (fun o => if ofs ≥ o.size then none else s.walkPoison nsid o.obj (State.valueSpan o.size ofs bufSize).1 (State.valueSpan o.size ofs bufSize).2) = none → s.canFetch c = true → c.sq ≠ 0 → s.sys.keysGone = false → s.enabled 0x19 = true → State.firstOf [s1.ioStatus c nsid [1], keyStatus key, dptrStatus dptr, s1.domStatus nsid, chk (s1.objOf nsid key).isNone .keyAbsent, chk ((s1.nsOf nsid).strict && decide (bufSize > 67108864)) .strictLength] = none → s1.objOf nsid key = some o → ofs < o.size → bufSize ≠ 0 → s1.unrecKey nsid o.obj = false → r.1.all Option.isSome = true →
      exec (.retrieve c nsid key bufSize ofs dptr media) s = .next (r.2.setFlights (r.2.nvme.flights ++ [{ r.2.newFlight c .retrieve nsid (State.valueSpan o.size ofs bufSize).1 (State.valueSpan o.size ofs bufSize).2 false (r.1.map (·.getD 0)) with obj := o.obj, started := true, new := some o, dw0 := o.size, range := (ofs, min bufSize (o.size - ofs)) }]))) ∧
  (∀ (c : Cmd) (nsid : Nat) (key : List Nat) (o : KvObj) (s : State),
      let s1 := s.fetch c
      s.pwr.phase = .run → s.behindKey nsid key = false → s.canFetch c = true → c.sq ≠ 0 → s.sys.keysGone = false → s.enabled 0x19 = true → State.firstOf [s1.ioStatus c nsid [1], keyStatus key, chk (s1.objOf nsid key).isNone .keyAbsent] = none → s1.objOf nsid key = some o →
      exec (.delete c nsid key) s = .next (((((s1.setNs nsid { s1.nsOf nsid with objs := (s1.nsOf nsid).objs.filter fun x => decide (x.key ≠ key) }).dropObj nsid o.obj).unrecDrop fun e => decide (e.nsid = nsid) && decide (e.kind = 2) && decide (e.count ≠ 0) && decide (e.first = o.obj)).mapDone c nsid 0).settle)) ∧
  (∀ (c : Cmd) (nsid : Nat) (key : List Nat) (s : State),
      let s1 := s.fetch c
      s.pwr.phase = .run → s.behindKey nsid key = false → s.canFetch c = true → c.sq ≠ 0 → s.sys.keysGone = false → s.enabled 0x19 = true → State.firstOf [s1.ioStatus c nsid [1], keyStatus key] = none →
      exec (.exist c nsid key) s = .next (s1.done c (if (s1.objOf nsid key).isSome then .success else .keyAbsent))) ∧
  (∀ (c : Cmd) (nsid : Nat) (key : List Nat) (s : State),
      let s1 := s.fetch c
      s.pwr.phase = .run → s.canFetch c = true → c.sq ≠ 0 → s.sys.keysGone = false → s.enabled 0x19 = true → State.firstOf [s1.ioStatus c nsid [1], chk (decide (key.length > 16)) .invalidKeySize] = none →
      exec (.list c nsid key) s = .next (s1.doneWith c .success 0 (ofLe (Config.nvmeData "keys" (((((s1.nsOf nsid).objs.map (·.key)).foldr State.keyInsert []).filter (State.keyLe key)).flatMap fun k => k.length :: k))))) ∧
  (∀ (c : Cmd) (again : List Nat) (f : Flight) (o : KvObj) (s : State),
      s.pwr.phase = .run → s.flightOf c = some f → f.new = some o → f.kind = .retrieve → State.chunkTag o.tagKey o.obj (f.slba / 256 + f.got) o.size f.nsid ((f.part.drop (256 * f.got)).take 256) = o.tags.getD (f.slba / 256 + f.got) 0 → ¬ 256 * (f.got + 1) ≥ f.total →
      exec (.kvChunkTagCheck c again) s = .next ((s.addTo 0xA CIP.CIP_BYTES.BYTES (min 1048576 (o.size - (f.slba / 256 + f.got) * 1048576))).setFlight { f with got := f.got + 1 }))

/-- Doorbell, controller and port commands complete. Doorbells, enabling, disabling and shutting down a controller, resets
of functions and ports, and a namespace becoming ready complete with their effects. The hypotheses are the conditions
under which the command comes about (log entries 1 and 2). (R281, R282, R290, R274, R278, R292, R297) -/
def Obligations.ControllerCommandsComplete : Prop :=
  (∀ (ctl : Nat) (q : Nat) (value : Nat) (x : Sq) (s : State),
      s.pwr.phase = .run → Tab.find? (s.ctrl ctl).sqs q = some x → value < x.size → (s.ctrl ctl).en = true →
      exec (.sqDoorbellWrite ctl q value) s = .next (s.setCtrl ctl { s.ctrl ctl with sqs := (s.ctrl ctl).sqs.map fun kv => if kv.1 = q then (q, { kv.2 with tail := value }) else kv })) ∧
  (∀ (ctl : Nat) (q : Nat) (value : Nat) (x : Cq) (s : State),
      s.pwr.phase = .run → Tab.find? (s.ctrl ctl).cqs q = some x → value < x.size → (s.ctrl ctl).en = true →
      exec (.cqDoorbellWrite ctl q value) s = .next (s.setCtrl ctl { s.ctrl ctl with cqs := (s.ctrl ctl).cqs.map fun kv => if kv.1 = q then (q, { kv.2 with head := value }) else kv })) ∧
  (∀ (ctl : Nat) (q : Nat) (value : Nat) (x : Sq) (s : State),
      s.pwr.phase = .run → Tab.find? (s.ctrl ctl).sqs q = some x → value ≥ x.size →
      exec (.sqDoorbellWrite ctl q value) s = .next ((s.asyncTo ctl (0, 1, 1)).raise 0x11 9 0)) ∧
  (∀ (s : State),
      s.pwr.phase = .run → s.nvme.full = true → s.nvme.flights.length < 65536 →
      exec (.fetchResume) s = .next (s.onNvme fun n => { n with full := false })) ∧
  (∀ (ctl : Nat) (s : State),
      s.pwr.phase = .run → (s.ctrl ctl).en = true →
      exec (.ccEnClear ctl) s = .next (s.resetCtrl ctl)) ∧
  (∀ (ctl : Nat) (asq : Nat) (acq : Nat) (numVfs : Nat) (s : State),
      let k := s.ctrl ctl
      let vf := ctl % 0x80 - 1
      s.pwr.phase = .run → s.reachable ctl = true → k.en = false → (isPf0 ctl || decide (vf ≤ numVfs)) = true → isPf0 ctl = true → s.serves = true →
      exec (.ccEnSet ctl asq acq numVfs) s = .next (((((s.setCtrl ctl { Ctrl.zero with en := true, rdy := true, attached := (s.ctrl ctl).attached, sqs := [(0, ⟨asq, 0, 0, 0, 0⟩)], cqs := [(0, ⟨acq, 0, 0, 0⟩)] }).set 0x11 (State.vfsOf (portOf ctl)) (min 64 numVfs)).setB 0x11 (State.rdyOf (portOf ctl)) true).clearCfs [ctl]).retarget)) ∧
  (∀ (port : Nat) (fn : Nat) (s : State),
      s.pwr.phase = .run → port < 2 → fn ≤ 65 → fn ≠ 0 → fn ≠ 65 →
      exec (.functionLevelReset port fn) s = .next ((s.hostDisabled port fn).resetCtrl (1 + 0x80 * port + fn))) ∧
  (∀ (port : Nat) (fn : Nat) (s : State),
      s.pwr.phase = .run → port < 2 → fn ≤ 65 → fn = 0 →
      exec (.functionLevelReset port fn) s = .next (((List.range 65).foldl (fun (s : State) f => s.hostDisabled port f) s).resetPort port)) ∧
  (∀ (port : Nat) (cause : Nat) (s : State),
      s.pwr.phase = .run → port < 2 → cause ≠ 0 →
      exec (.portReset port cause) s = .next (((List.range 66).foldl (fun (s : State) f => s.hostDisabled port f) s).portReset port)) ∧
  (∀ (port : Nat) (s : State),
      s.pwr.phase = .run → port < 2 →
      exec (.vfEnableClear port) s = .next (((s.portCtrls port false).foldl State.resetCtrl s).set 0x11 (State.vfsOf port) 0)) ∧
  (∀ (ctl : Nat) (s : State),
      s.pwr.phase = .run → (s.ctrl ctl).en = true → (s.ctrl ctl).shst = 0 →
      exec (.ccShnNormal ctl) s = .next (s.startShutdown ctl)) ∧
  (∀ (ctl : Nat) (s : State),
      s.pwr.phase = .run → (s.ctrl ctl).en = true → (s.ctrl ctl).shst ≤ 1 →
      exec (.ccShnAbrupt ctl) s = .next (((s.setFlights (s.nvme.flights.filter fun f => decide (f.cmd.ctl ≠ ctl) || f.started)).showWaiting).startShutdown ctl)) ∧
  (∀ (nsid : Nat) (sec : Nat) (s : State),
      let n := s.nsOf nsid
      let s1 := s.setNs nsid { n with ready := true }
      s.pwr.phase = .run → n.live = true → n.ready = false → s.poolReady n.pool = true → s.flag 0 DEV.BOOT_STAT.DONE = true → s.fld 2 PWC.PWC_STAT.PS_NOW ≤ 2 → bitOf (s.fld 2 PWC.RAIL_STAT.FAILED) 4 = false →
      exec (.namespaceReady nsid sec) s = .next (if (s1.nvme.ns.all fun kv => !kv.2.live || kv.2.ready) && decide (s.fld 0 DEV.BOOT_T.NS_READY_S = 0xFFFF) then s1.set 0 DEV.BOOT_T.NS_READY_S (min 0xFFFE sec) else s1))

/-- Sideband and PCIe commands complete. Each management command of the sideband is answered through the one sideband
operation with its number and arguments; the sideband's own happenings, the PCIe link's, vectors, bus mastering,
completion time-outs and PCIe errors complete with their effects. The hypotheses are the conditions under which the
command comes about (log entries 1 and 2). (R312, R315, R313, R482, R461, R363, R277) -/
def Obligations.SidebandAndLinkCommandsComplete : Prop :=
  (∀ (i3c : Bool) (pecOk : Bool) (kind : Nat) (portOrCtl : Nat) (s : State),
      s.pwr.phase = .run →
      exec (.miReadDataStructure i3c pecOk kind portOrCtl) s = .next (s.sideband i3c pecOk ⟨0, 0, 0, kind, portOrCtl, 0, 0⟩)) ∧
  (∀ (i3c : Bool) (pecOk : Bool) (s : State),
      s.pwr.phase = .run →
      exec (.miSubsystemHealthPoll i3c pecOk) s = .next (s.sideband i3c pecOk ⟨1, 0, 0, 0, 0, 0, 0⟩)) ∧
  (∀ (i3c : Bool) (pecOk : Bool) (ctl : Nat) (s : State),
      s.pwr.phase = .run →
      exec (.miControllerHealthPoll i3c pecOk ctl) s = .next (s.sideband i3c pecOk ⟨2, 0, ctl, 0, 0, 0, 0⟩)) ∧
  (∀ (i3c : Bool) (pecOk : Bool) (cid : Nat) (s : State),
      s.pwr.phase = .run →
      exec (.miConfigurationGet i3c pecOk cid) s = .next (s.sideband i3c pecOk ⟨3, 0, 0, cid, 0, 0, 0⟩)) ∧
  (∀ (i3c : Bool) (pecOk : Bool) (cid : Nat) (value : Nat) (s : State),
      s.pwr.phase = .run →
      exec (.miConfigurationSet i3c pecOk cid value) s = .next (s.sideband i3c pecOk ⟨4, 0, 0, cid, value, 0, 0⟩)) ∧
  (∀ (i3c : Bool) (pecOk : Bool) (ofs : Nat) (len : Nat) (s : State),
      s.pwr.phase = .run →
      exec (.miVpdRead i3c pecOk ofs len) s = .next (s.sideband i3c pecOk ⟨5, 0, 0, 0, 0, ofs, len⟩)) ∧
  (∀ (i3c : Bool) (pecOk : Bool) (op : Nat) (ctl : Nat) (a : Nat) (b : Nat) (ofs : Nat) (len : Nat) (s : State),
      s.pwr.phase = .run →
      exec (.miTunnelledAdmin i3c pecOk op ctl a b ofs len) s = .next (s.sideband i3c pecOk ⟨6, op, ctl, a, b, ofs, len⟩)) ∧
  (∀ (s : State),
      s.pwr.phase = .run → s.flag 7 SBI.SBI_CFG.SMB_EN = true →
      exec (.smbusTimeout) s = .next ((s.setB 7 SBI.SBI_STAT.BUSY false).raise 7 2 0)) ∧
  (∀ (da : Nat) (s : State),
      s.pwr.phase = .run → s.flag 7 SBI.SBI_CFG.I3C_EN = true → da ≠ 0 →
      exec (.i3cAddressAssigned da) s = .next (((s.set 7 SBI.SBI_STAT.DA da).setB 7 SBI.SBI_STAT.DA_VALID true).raise 7 3 0)) ∧
  (∀ (port : Nat) (speed : Nat) (width : Nat) (s : State),
      let t := s.fld 0x10 PCX.PCX_TARGET.MAX_SPEED
      let top := if 1 ≤ t ∧ t ≤ 5 then t else 5
      let lanes := if s.sys.twoPorts then 8 else 16
      let pr := State.portReg port
      s.pwr.phase = .run → (port = 0 ∨ (port = 1 ∧ s.sys.twoPorts)) → s.sys.perst.contains port = true → (1 ≤ speed ∧ speed ≤ top) → (width ∈ [1, 2, 4, 8, 16] ∧ width ≤ lanes) → (s.sys.sris && s.flag 1 CLKG.CLK_STAT.RING) = false → speed = top → width = lanes →
      exec (.pcieLinkUp port speed width) s = .next ((((((s.setB 0x10 (pr PCX.P0_LINK.DL_UP) true).set 0x10 (pr PCX.P0_LINK.SPEED) speed).set 0x10 (pr PCX.P0_LINK.WIDTH) width).set 0x10 (pr PCX.P0_LINK.PM) 0).set 0x10 (pr PCX.P0_LINK.LTSSM) 4).raise 0x10 0 0)) ∧
  (∀ (port : Nat) (s : State),
      s.pwr.phase = .run → port < 2 → s.flag 0x10 (State.portReg port PCX.P0_LINK.DL_UP) = true →
      exec (.pcieLinkDown port) s = .next ((s.portReset port).raise 0x10 1 0)) ∧
  (∀ (port : Nat) (two : Bool) (sris : Bool) (s : State),
      s.pwr.phase = .run → port < 2 → s.sys.perst.contains port = false → port = 0 → s.sys.strapped = false →
      exec (.perstDeassert port two sris) s = .next (((({ s with sys := { s.sys with perst := s.sys.perst ++ [port], strapped := true, twoPorts := two, sris := sris } } : State).setB 0x10 PCX.PCX_MODE.BIF two).setB 0x10 PCX.PCX_MODE.SRIS sris))) ∧
  (∀ (port : Nat) (v : Nat) (s : State),
      s.pwr.phase = .run → port < 2 → v < 128 → s.io.msixOpen.contains (port * 128 + v) = false →
      exec (.msixVectorUnmask port v) s = .next (
        s.onIo fun i =>
        let hits := (List.range 256).filter fun pg => present i.part pg && i.signals pg && i.flag pg HDR.EV_ROUTE.MSIX && decide (i.msixVector pg = v)
        { i with
          msixOpen := i.msixOpen ++ [port * 128 + v]
          msixSent := i.msixSent ++ (if i.enabled 5 then hits.map fun _ => port * 128 + v else []) })) ∧
  (∀ (port : Nat) (fn : Nat) (s : State),
      s.pwr.phase = .run → port < 2 → fn ≤ 65 →
      exec (.busMasterEnableClear port fn) s = .next (s.hostDisabled port fn)) ∧
  (∀ (c : Option Cmd) (n : Nat) (cmd : Cmd) (s : State),
      s.pwr.phase = .run → c = some cmd → s.flightOf cmd = none → s.canFetch cmd = true →
      exec (.completionTimeout c n) s = .next ((((s.fetch cmd).bump 0x10 (State.portReg (portOf cmd.ctl) PCX.P0_UNC.UNCORR)).raise 0x10 3 0).done cmd .transferError)) ∧
  (∀ (port : Nat) (kind : Nat) (s : State),
      s.pwr.phase = .run → (port = 0 ∨ (port = 1 ∧ s.sys.twoPorts)) → kind ≤ 2 → kind = 0 →
      exec (.pcieErrorDetected port kind) s = .next ((s.bump 0x10 (State.portReg port PCX.P0_ERR.CORR)).raise 0x10 2 0)) ∧
  (∀ (port : Nat) (kind : Nat) (s : State),
      s.pwr.phase = .run → (port = 0 ∨ (port = 1 ∧ s.sys.twoPorts)) → kind ≤ 2 → kind = 1 →
      exec (.pcieErrorDetected port kind) s = .next (s.bump 0x10 (State.portReg port PCX.P0_ERR.RECOV))) ∧
  (∀ (port : Nat) (kind : Nat) (s : State),
      s.pwr.phase = .run → (port = 0 ∨ (port = 1 ∧ s.sys.twoPorts)) → kind ≤ 2 → kind = 2 →
      exec (.pcieErrorDetected port kind) s = .next ((s.bump 0x10 (State.portReg port PCX.P0_UNC.UNCORR)).raise 0x10 3 0))

/-- Buffer memory commands complete. Regions are validated, wiped and cleared; lines of the DRAM are read, written whole
or in part, corrected and scrubbed; the diagnostic port reads and writes. The hypotheses are the conditions under
which the command comes about (log entries 1 and 2). (R318, R324, R325, R323, R327, R330, R343) -/
def Obligations.BufferMemoryCommandsComplete : Prop :=
  (∀ (acc : Accessor) (r : Nat) (s : State),
      s.pwr.phase = .run → r < 16 → s.rgnValid r = false → s.io.locked 0x13 = false →
      exec (.regionValidSet acc r) s = .next (s.rgnValidate r)) ∧
  (∀ (r : Nat) (s : State),
      s.pwr.phase = .run → s.rgnWiping r = true →
      exec (.regionWipeDone r) s = .next (s.setB (pgRgn r) MPS.RGN_STAT.WIPING false)) ∧
  (∀ (acc : Accessor) (r : Nat) (s : State),
      s.pwr.phase = .run → r < 16 → s.rgnValid r = true → s.io.locked 0x13 = false → (s.rgnOwner r = 10 ∨ s.enabled 0x13 = false) →
      exec (.regionValidClear acc r) s = .next ((s.setB (State.pgRgn r) MPS.RGN_CFG.VALID false).setB (State.pgRgn r) MPS.RGN_STAT.WIPING false)) ∧
  (∀ (acc : Accessor) (r : Nat) (s : State),
      s.pwr.phase = .run → r < 16 → s.rgnValid r = true → s.io.locked 0x13 = false → s.rgnOwner r ≠ 10 → s.enabled 0x13 = true →
      exec (.regionValidClear acc r) s = .next (s.rgnRefuse r)) ∧
  (∀ (addr : Nat) (outcome : Nat) (brick : Option Nat) (r : Nat) (s : State),
      s.pwr.phase = .run → s.rgnOf addr = some r → s.rgnWiping r = false →
      exec (.dramRead addr outcome brick) s = .next (s.readLine r (addr / 64) outcome brick)) ∧
  (∀ (addr : Nat) (outcome : Nat) (brick : Option Nat) (s : State),
      s.pwr.phase = .run → s.rgnOf addr = none →
      exec (.dramRead addr outcome brick) s = .next (s.raise 0x13 5 0)) ∧
  (∀ (line : Nat) (s : State),
      s.pwr.phase = .run → s.buf.fixes.contains line = true →
      exec (.correctedWriteBack line) s = .next (s.unfix line)) ∧
  (∀ (addr : Nat) (bytes : List Nat) (outcome : Nat) (brick : Option Nat) (r : Nat) (s : State),
      s.pwr.phase = .run → s.rgnOf addr = some r → inLine addr bytes.length = true → s.rgnWiping r = false → (¬ (addr % s.codeUnit r = 0 ∧ bytes.length % s.codeUnit r = 0)) →
      exec (.dramPartialWrite addr bytes outcome brick) s = .next (s.rmwLine r addr bytes outcome brick)) ∧
  (∀ (addr : Nat) (bytes : List Nat) (r : Nat) (s : State),
      s.pwr.phase = .run → s.rgnOf addr = some r → inLine addr bytes.length = true → s.rgnWiping r = false → addr % s.codeUnit r = 0 → bytes.length % s.codeUnit r = 0 →
      exec (.dramFullWrite addr bytes) s = .next (s.writeLine r addr bytes)) ∧
  (∀ (outcome : Nat) (late : Bool) (lapMin : Nat) (brick : Option Nat) (r line : Nat) (s : State),
      let s1 := s.moved r 64
      s.pwr.phase = .run → s.scrubAt s.scrubRgns s.buf.scrubbed = some (r, line) → (s.enabled 0x13 && s.flag 0x13 MPS.SCRUB_CFG.EN && !s.flag 0x12 DMC.DMC_STAT.SELF_REFRESH && !s.rgnWiping r) = true → late = false →
      exec (.scrubLine outcome late lapMin brick) s = .next ((if s1.poisonedLine line then s1 else if outcome = 1 ∨ s1.injects 0x13 0 then (s1.corrected r line).unfix line else if outcome ≥ 2 ∨ s1.injects 0x13 3 then s1.uncorrectable r line 2 brick else s1).scrubNext lapMin)) ∧
  (∀ (acc : Accessor) (s : State),
      s.pwr.phase = .run → s.dvRgn acc = none →
      exec (.dvDataRead acc) s = .next (((s.lockedWrite 0x13).gave acc 0).dvNext)) ∧
  (∀ (acc : Accessor) (r : Nat) (s : State),
      s.pwr.phase = .run → s.dvRgn acc = some r →
      exec (.dvDataRead acc) s = .next (((s.readLine r (s.dvAddr / 64) 0 none).gave acc (ofLe (s.dramRead s.dvAddr 4))).dvNext)) ∧
  (∀ (acc : Accessor) (value : Word) (r : Nat) (s : State),
      s.pwr.phase = .run → s.dvRgn acc = some r →
      exec (.dvDataWrite acc value) s = .next ((s.writeLine r s.dvAddr (leBytes 4 value.toNat)).dvNext)) ∧
  (∀ (p : Nat) (code : Nat) (s : State),
      s.pwr.phase = .run → p < 4 →
      exec (.tempDerate p code) s = .next ((s.set 0x12 DMC.DMC_TREF.TREF0_3 (s.fld 0x12 DMC.DMC_TREF.TREF0_3 - (bitsOf (s.fld 0x12 DMC.DMC_TREF.TREF0_3) (8 * p + 7) (8 * p)) * 2 ^ (8 * p) + code % 256 * 2 ^ (8 * p))).raise 0x12 3 p))

/-- Write cache commands complete. Destaging by level and by age, the end of a copy, of an eviction and of a fill, and the
cache's disabling complete with their effects. The hypotheses are the conditions under which the command comes about
(log entries 1 and 2). (R338, R335, R339) -/
def Obligations.CacheCommandsComplete : Prop :=
  (∀ (w : Nat) (sub : Nat) (s : State),
      s.pwr.phase = .run → s.copyable w sub = true → ((s.way w).evicting || s.flushWaits || (s.oldestDirty w && (s.aboveStart || decide (s.cacheState = 2)))) = true →
      exec (.destageStart w sub) s = .next (s.startCopy w sub)) ∧
  (∀ (w : Nat) (sub : Nat) (s : State),
      s.pwr.phase = .run → s.copyable w sub = true → s.fld 0x14 SCC.SCC_DESTAGE.AGE ≠ 0 →
      exec (.subBlockAgeExpiry w sub) s = .next (s.startCopy w sub)) ∧
  (∀ (w : Nat) (sub : Nat) (s : State),
      s.pwr.phase = .run → sub < 16 → bitOf (s.way w).copying sub = true →
      exec (.destageCopyDone w sub) s = .next ((s.destageSub w sub).syncCache)) ∧
  (∀ (w : Nat) (s : State),
      let l := s.way w
      s.pwr.phase = .run → l.evicting = true → l.dirty = 0 →
      exec (.evictionDone w) s = .next ((s.bumpN 0x14 SCC.SCC_PF_CNT.UNUSED (State.ones16 l.unread)).setWay w Line.zero)) ∧
  (∀ (w : Nat) (sub : Nat) (data : List Nat) (s : State),
      let l := s.way w
      let s1 := (data.take 16).zipIdx.foldl (fun (s : State) di => s.putWayBrick w (16 * sub + di.2) di.1) s
      s.pwr.phase = .run → sub < 16 → bitOf l.filling sub = true → data.length = 16 →
      exec (.subBlockFillDone w sub data) s = .next (s1.setWay w { l with filling := bitClear l.filling sub, valid := bitSet l.valid sub })) ∧
  (∀ (_x0 : Accessor) (value : Bool) (s : State),
      s.pwr.phase = .run →
      exec (.cacheDisableWrite _x0 value) s = .next ((s.setB 0x14 SCC.SCC_CTL.DISABLE value).syncCache))

/-- Hod's instructions complete. A running channel of Hod whose next instruction meets no bar, hold or fetch fault carries
out that instruction. The hypotheses are the conditions under which the command comes about (log entries 1 and 2).
(R358, R361, R359) -/
def Obligations.HodInstructionsComplete : Prop :=
  (∀ (n : Nat) (s : State),
      s.pwr.phase = .run → n < 32 → s.hodSt n = 1 → (¬ (s.pcSpace n ≤ 1 ∧ s.hodHeld n = true)) → s.fetchBar n = 0 → (s.hodAt n).op = 0 → s.hodEngine (s.hodAt n) = true →
      exec (.hodNop n) s = .next ((s.hodPlain n).syncHod)) ∧
  (∀ (n : Nat) (host : Option (List Nat)) (s : State),
      s.pwr.phase = .run → n < 32 → s.hodSt n = 1 → (¬ (s.pcSpace n ≤ 1 ∧ s.hodHeld n = true)) → s.fetchBar n = 0 → (s.hodAt n).op = 1 → s.hodEngine (s.hodAt n) = true →
      exec (.hodMove n host) s = .next ((s.hodMove n (s.hodAt n) host).syncHod)) ∧
  (∀ (n : Nat) (s : State),
      s.pwr.phase = .run → n < 32 → s.hodSt n = 1 → (¬ (s.pcSpace n ≤ 1 ∧ s.hodHeld n = true)) → s.fetchBar n = 0 → (s.hodAt n).op = 2 → s.hodEngine (s.hodAt n) = true →
      exec (.hodFill n) s = .next ((s.hodFill n (s.hodAt n)).syncHod)) ∧
  (∀ (n : Nat) (hostA : Option (List Nat)) (hostB : Option (List Nat)) (s : State),
      s.pwr.phase = .run → n < 32 → s.hodSt n = 1 → (¬ (s.pcSpace n ≤ 1 ∧ s.hodHeld n = true)) → s.fetchBar n = 0 → (s.hodAt n).op = 3 → s.hodEngine (s.hodAt n) = true →
      exec (.hodCompare n hostA hostB) s = .next ((s.hodCompare n (s.hodAt n) hostA hostB).syncHod)) ∧
  (∀ (n : Nat) (s : State),
      s.pwr.phase = .run → n < 32 → s.hodSt n = 1 → (¬ (s.pcSpace n ≤ 1 ∧ s.hodHeld n = true)) → s.fetchBar n = 0 → (s.hodAt n).op = 4 → s.hodEngine (s.hodAt n) = true →
      exec (.hodWait n) s = .next ((s.hodWait n (s.hodAt n)).syncHod)) ∧
  (∀ (n : Nat) (s : State),
      s.pwr.phase = .run → n < 32 → s.hodSt n = 1 → (¬ (s.pcSpace n ≤ 1 ∧ s.hodHeld n = true)) → s.fetchBar n = 0 → (s.hodAt n).op = 5 → s.hodEngine (s.hodAt n) = true →
      exec (.hodFlip n) s = .next ((s.hodFlip n (s.hodAt n)).syncHod)) ∧
  (∀ (n : Nat) (s : State),
      s.pwr.phase = .run → n < 32 → s.hodSt n = 1 → (¬ (s.pcSpace n ≤ 1 ∧ s.hodHeld n = true)) → s.fetchBar n = 0 → (s.hodAt n).op = 6 → s.hodEngine (s.hodAt n) = true →
      exec (.hodSignal n) s = .next ((s.hodSignal n (s.hodAt n)).syncHod)) ∧
  (∀ (n : Nat) (s : State),
      s.pwr.phase = .run → n < 32 → s.hodSt n = 1 → (¬ (s.pcSpace n ≤ 1 ∧ s.hodHeld n = true)) → s.fetchBar n = 0 → (s.hodAt n).op = 7 → s.hodEngine (s.hodAt n) = true →
      exec (.hodPost n) s = .next ((s.hodPost n (s.hodAt n)).syncHod)) ∧
  (∀ (n : Nat) (s : State),
      s.pwr.phase = .run → n < 32 → s.hodSt n = 1 → (¬ (s.pcSpace n ≤ 1 ∧ s.hodHeld n = true)) → s.fetchBar n = 0 → (s.hodAt n).op = 7 → s.hodEngine (s.hodAt n) = true → bitOf (s.hodAt n).flags 0 = true →
      exec (.hodPostRetry n) s = .next ((s.hodPost n (s.hodAt n)).syncHod)) ∧
  (∀ (n : Nat) (s : State),
      s.pwr.phase = .run → n < 32 → s.hodSt n = 1 → (¬ (s.pcSpace n ≤ 1 ∧ s.hodHeld n = true)) → s.fetchBar n = 0 → (s.hodAt n).op = 8 → s.hodEngine (s.hodAt n) = true →
      exec (.hodBranch n) s = .next ((s.hodBranch n (s.hodAt n)).syncHod)) ∧
  (∀ (n : Nat) (s : State),
      s.pwr.phase = .run → n < 32 → s.hodSt n = 1 → (¬ (s.pcSpace n ≤ 1 ∧ s.hodHeld n = true)) → s.fetchBar n = 0 → (s.hodAt n).op = 9 → s.hodEngine (s.hodAt n) = true →
      exec (.hodSetlc n) s = .next (((s.hset n HOD.CH_LC.LC (s.hodAt n).arg32).hodPlain n).syncHod)) ∧
  (∀ (n : Nat) (s : State),
      s.pwr.phase = .run → n < 32 → s.hodSt n = 1 → (¬ (s.pcSpace n ≤ 1 ∧ s.hodHeld n = true)) → s.fetchBar n = 0 → (s.hodAt n).op = 10 → s.hodEngine (s.hodAt n) = true → bitOf (s.hodAt n).flags 0 = false →
      exec (.hodStop n) s = .next ((((s.hodPlain n).hodLeave n).toHod n 0).syncHod)) ∧
  (∀ (n : Nat) (s : State),
      s.pwr.phase = .run → n < 32 → s.hodSt n = 1 → (¬ (s.pcSpace n ≤ 1 ∧ s.hodHeld n = true)) → s.fetchBar n = 0 → (s.hodAt n).op = 11 → s.hodEngine (s.hodAt n) = true →
      exec (.hodStride n) s = .next (((s.hodNext n).onChan n fun c => { c with stride := some ⟨(s.hodAt n).arg16 + 1, sgn32 (s.hodAt n).a, sgn32 (s.hodAt n).b⟩ }).syncHod)) ∧
  (∀ (n : Nat) (s : State),
      s.pwr.phase = .run → n < 32 → s.hodSt n = 1 → (¬ (s.pcSpace n ≤ 1 ∧ s.hodHeld n = true)) → s.fetchBar n = 0 → (s.hodAt n).op ≥ 12 → s.hodEngine (s.hodAt n) = true →
      exec (.hodIllegal n) s = .next ((s.hodIllegal n).syncHod))

/-- Hod's waits and channel commands complete. A wait is satisfied or times out, a blocked channel goes on, and a channel
is started and aborted. The hypotheses are the conditions under which the command comes about (log entries 1 and 2).
(R361, R364, R356, R365) -/
def Obligations.HodChannelCommandsComplete : Prop :=
  (∀ (n : Nat) (i : HodI) (s : State),
      s.pwr.phase = .run → (s.chan n).wait = some i → n < 32 → s.hodSt n = 2 → i.arg8 = 0 → (s.chan n).woken = true →
      exec (.hodWaitSatisfied n) s = .next ((s.waitDone n).syncHod)) ∧
  (∀ (n : Nat) (i : HodI) (s1 : State) (s : State),
      s.pwr.phase = .run → (s.chan n).wait = some i → n < 32 → s.hodSt n = 2 → i.arg8 = 1 → s.waitHolds i = (true, s1) →
      exec (.hodWaitSatisfied n) s = .next ((s1.waitDone n).syncHod)) ∧
  (∀ (n : Nat) (i : HodI) (s : State),
      s.pwr.phase = .run → (s.chan n).wait = some i → n < 32 → s.hodSt n = 2 → i.arg8 < 2 → i.arg32 ≠ 0 → (s.chan n).woken = false →
      exec (.hodWaitTimeout n) s = .next ((s.hodFault n 6 (State.hodAddr (s.pcSpace n) (s.pcAddr n))).syncHod)) ∧
  (∀ (n : Nat) (s : State),
      s.pwr.phase = .run → n < 32 → s.hodSt n = 3 → s.hodHeld n = false →
      exec (.hodUnblock n) s = .next (((s.toHod n 1).onChan n fun c => { c with blocked := false }).syncHod)) ∧
  (∀ (acc : Accessor) (n : Nat) (s : State),
      s.pwr.phase = .run → n < 32 → acc = .mgp → s.enabled 0x1B = true → s.hodSt n = 0 →
      exec (.hodChannelStart acc n) s = .next ((((s.toHod n 1).hset n HOD.CH_STAT.CAUSE 0).onChan n fun _ => { Chan.zero with by1 := none }).syncHod)) ∧
  (∀ (acc : Accessor) (n : Nat) (s : State),
      s.pwr.phase = .run → n < 32 → acc = .mgp → s.hodSt n ∈ [1, 2, 3] →
      exec (.hodChannelAbort acc n) s = .next ((s.hodAbort n).syncHod))

/-- Shared window and flag commands complete. Event flags, ownership flags, window slots and accesses of the Common Window
complete with their effects. The hypotheses are the conditions under which the command comes about (log entries 1 and
2). (R374, R349, R350, R353, R354, R351) -/
def Obligations.WindowCommandsComplete : Prop :=
  (∀ (acc : Accessor) (mask : Nat) (s : State),
      s.pwr.phase = .run →
      exec (.eventFlagSet acc mask) s = .next (s.setFlags (mask % 2 ^ 64))) ∧
  (∀ (acc : Accessor) (mask : Nat) (s : State),
      s.pwr.phase = .run →
      exec (.eventFlagClear acc mask) s = .next (s.clearFlags (mask % 2 ^ 64))) ∧
  (∀ (agent : Nat) (space : Nat) (addr : Nat) (owner : Nat) (hseq : Nat) (err : Bool) (s : State),
      s.pwr.phase = .run → agentKnown agent = true → agent ≠ 0 → space < 2 →
      exec (.flagWrite agent space addr owner hseq err) s = .next ((s.flagWrite agent space addr owner hseq err).2)) ∧
  (∀ (agent : Nat) (space : Nat) (addr : Nat) (s : State),
      s.pwr.phase = .run → agentKnown agent = true → agent ≠ 0 → space < 2 →
      exec (.flagRead agent space addr) s = .next (
        let r := s.flagRead space addr
        r.2.gaveAgent agent r.1)) ∧
  (∀ (acc : Accessor) (s : State),
      s.pwr.phase = .run →
      exec (.slotAllocateOne acc) s = .next (s.allocFor acc false)) ∧
  (∀ (acc : Accessor) (s : State),
      s.pwr.phase = .run →
      exec (.slotAllocatePair acc) s = .next (s.allocFor acc true)) ∧
  (∀ (agent : Nat) (addr : Nat) (n : Nat) (ecc : Nat) (write : Option (List Nat)) (s : State),
      let k := match write with | some bs => bs.length | none => n
      s.pwr.phase = .run → agentKnown agent = true → agent ≠ 0 → addr + k ≤ cwEnd → ecc < 3 → ecc = 0 → write = none → ((List.range n).filterMap fun i => s.cwBars agent (addr + i)).head? = none →
      exec (.commonWindowAccess agent addr n ecc write) s = .next (s.gaveAgent agent (ofLe ((List.range n).map fun i => if (s.cwBars agent (addr + i)).isSome then 0 else s.memByte 1 (addr + i))))) ∧
  (∀ (agent : Nat) (addr : Nat) (n : Nat) (ecc : Nat) (write : Option (List Nat)) (bs : List Nat) (s : State),
      let k := match write with | some bs => bs.length | none => n
      s.pwr.phase = .run → agentKnown agent = true → agent ≠ 0 → addr + k ≤ cwEnd → ecc < 3 → ecc = 0 → write = some bs → bs.length < 64 → ((List.range bs.length).filterMap fun i => s.cwBars agent (addr + i)).head? = none →
      exec (.commonWindowAccess agent addr n ecc write) s = .next ((bs.zipIdx).foldl (fun (s : State) bi => s.cwPut agent (addr + bi.2) bi.1) s)) ∧
  (∀ (acc : Accessor) (w : Nat) (s : State),
      s.pwr.phase = .run → w < 16 → s.io.locked 0xD = false →
      exec (.windowValidSet acc w) s = .next (s.validate w (agentOf acc)))

/-- FIFO and mailbox commands complete. Items are posted, assembled word by word, popped, committed and rewound; a claim
times out; doorbells are rung and a late exchange is seen. The hypotheses are the conditions under which the command
comes about (log entries 1 and 2). (R368, R369, R371, R372, R373) -/
def Obligations.FifoCommandsComplete : Prop :=
  (∀ (n : Nat) (agent : Nat) (item : Nat) (commit : Bool) (s : State),
      s.pwr.phase = .run → (accOf agent).isNone = true → agent < 256 → commit = false →
      exec (.fifoPost n agent item commit) s = .next ((s.postItem n agent item).2)) ∧
  (∀ (acc : Accessor) (core : Nat) (i : Nat) (value : Word) (s : State),
      s.pwr.phase = .run → i < 4 → s.fifoMay acc s.fifoSel = true → i < s.fifoWords s.fifoSel → i + 1 ≠ s.fifoWords s.fifoSel →
      exec (.fifoDataWrite acc core i value) s = .next (s.onIo fun io => { io with fifoBufs := Tab.put [] io.fifoBufs (writerOf acc core * 1024 + s.fifoSel) ((List.range 4).map fun j => if j = i then value.toNat else (Tab.get [] s.io.fifoBufs (writerOf acc core * 1024 + s.fifoSel)).getD j 0) })) ∧
  (∀ (acc : Accessor) (core : Nat) (x : Nat) (xs : List Nat) (s : State),
      s.pwr.phase = .run → s.enabled 0xC = true → s.mayPop acc s.fifoSel = true → (s.io.fifo s.fifoSel).items = x :: xs →
      exec (.fifoPop acc core) s = .next (((s.onFifo s.fifoSel fun f => { f with items := xs }).onIo fun i => { i with wordLatches := Tab.put [] i.wordLatches ((acc.num + 4 * (core % 8)) * 2 ^ 20 + key 0xC 0x050) [x / 2 ^ 32 % 2 ^ 32, x / 2 ^ 64 % 2 ^ 32, x / 2 ^ 96] }).gave acc (x % 2 ^ 32))) ∧
  (∀ (acc : Accessor) (core : Nat) (s : State),
      s.pwr.phase = .run → s.fifoMay acc s.fifoSel = true →
      exec (.fifoCommit acc core) s = .next (s.commitItems s.fifoSel (writerOf acc core))) ∧
  (∀ (acc : Accessor) (core : Nat) (s : State),
      s.pwr.phase = .run → s.fifoMay acc s.fifoSel = true →
      exec (.fifoRewind acc core) s = .next (s.rewindBy s.fifoSel (writerOf acc core))) ∧
  (∀ (n : Nat) (s : State),
      s.pwr.phase = .run → (s.io.fifo n).claimer.isSome = true →
      exec (.claimTimeout n) s = .next ((s.rewindItems n).raise 0xC 1 0)) ∧
  (∀ (acc : Accessor) (slot : Nat) (s : State),
      s.pwr.phase = .run → acc = .cpx →
      exec (.mbxC2mDoorbell acc slot) s = .next (s.doorbell 0xAD MBX.MBX_CNT.C2M slot)) ∧
  (∀ (acc : Accessor) (slot : Nat) (s : State),
      s.pwr.phase = .run → acc = .mgp →
      exec (.mbxM2cDoorbell acc slot) s = .next (s.doorbell 0xAE MBX.MBX_CNT.M2C slot)) ∧
  (∀ (slot : Nat) (s : State),
      s.pwr.phase = .run → s.hod.exchanges.contains slot = true →
      exec (.exchangeLate slot) s = .next (s.raise 0xB 1 0))

/-- Life-cycle and key domain commands complete. Transitions, tokens and key domains: each command that is allowed has its
effect, and a refused one leaves its mark. The hypotheses are the conditions under which the command comes about (log
entries 1 and 2). (R380, R410, R383, R384, R386, R385, R393, R399, R400) -/
def Obligations.LifeCycleAndKeyCommandsComplete : Prop :=
  (∀ (acc : Accessor) (target : Nat) (places : List BrickPlace) (dur : Nat) (vend : Nat) (s : State),
      let may := acc.isPf1 && !s.flag 8 LCS.LC_STAT.BUSY && decide ((s.lifeCycle, target) ∈ [(1, 2), (1, 3), (0, 4), (1, 4)])
      s.pwr.phase = .run → (!may || s.resetFits places) = true → s.lcsFiltered acc = false → may = true →
      exec (.lcTransitionRequest acc target places dur vend) s = .next (s.transition target places dur vend)) ∧
  (∀ (acc : Accessor) (target : Nat) (places : List BrickPlace) (dur : Nat) (vend : Nat) (s : State),
      let may := acc.isPf1 && !s.flag 8 LCS.LC_STAT.BUSY && decide ((s.lifeCycle, target) ∈ [(1, 2), (1, 3), (0, 4), (1, 4)])
      s.pwr.phase = .run → (!may || s.resetFits places) = true → s.lcsFiltered acc = false → may = false →
      exec (.lcTransitionRequest acc target places dur vend) s = .next (s.lcRefused)) ∧
  (∀ (acc : Accessor) (value : Word) (s : State),
      s.pwr.phase = .run → s.lcsFiltered acc = false → s.sec.tok.length + 4 ≤ 1916 →
      exec (.tokenDataWrite acc value) s = .next ((s.onSec fun x => { x with tok := x.tok ++ leBytes 4 value.toNat }).set 8 LCS.TOK_STAT.BYTES (s.sec.tok.length + 4))) ∧
  (∀ (acc : Accessor) (places : List BrickPlace) (dur : Nat) (vend : Nat) (s : State),
      let allowed := (if acc.isPf1 && decide (s.lifeCycle = 0) && !s.flag 8 LCS.LC_STAT.BUSY then [1] else []) ++ s.clearAllowed
      s.pwr.phase = .run → s.resetFits places = true → s.lcsFiltered acc = false →
      exec (.tokenPresent acc places dur vend) s = .next (s.present_ s.sec.tok (s.tokenResult s.sec.tok allowed) places dur vend)) ∧
  (∀ (tok : List Nat) (places : List BrickPlace) (dur : Nat) (vend : Nat) (s : State),
      let r := if s.lifeCycle = 3 ∧ tok.getD 10 0 = 3 then 1
        else s.tokenResult tok ((if s.lifeCycle = 2 ∧ s.flag 8 LCS.LC_STAT.BUSY = false then [2, 3] else []) ++ s.clearAllowed)
      s.pwr.phase = .run → s.resetFits places = true →
      exec (.jtagLcToken tok places dur vend) s = .next ((s.onSec fun x => { x with tok := tok }).present_ tok r places dur vend)) ∧
  (∀ (acc : Accessor) (w0 : Bool) (w1 : Bool) (s : State),
      let d := s.fld 9 SEC.DOM_SEL.DOM
      s.pwr.phase = .run → acc = .mgp → s.domSt d = 0 →
      exec (.domainCreate acc w0 w1) s = .next ((s.makeKeys d 0 w0 w1).2)) ∧
  (∀ (acc : Accessor) (w0 : Bool) (w1 : Bool) (s : State),
      let d := s.fld 9 SEC.DOM_SEL.DOM
      s.pwr.phase = .run → acc = .mgp → (s.domSt d = 1 ∨ s.domSt d = 3) →
      exec (.domainReplace acc w0 w1) s = .next (((s.makeKeys d (s.fld (pgDom d) SEC.DOM_STAT.NSID) w0 w1).2).spentCheck)) ∧
  (∀ (acc : Accessor) (s : State),
      let d := s.fld 9 SEC.DOM_SEL.DOM
      s.pwr.phase = .run → acc = .mgp → s.domSt d ≠ 0 →
      exec (.domainDestroy acc) s = .next (s.freeDomain d)) ∧
  (∀ (acc : Accessor) (s : State),
      let d := s.fld 9 SEC.DOM_SEL.DOM
      s.pwr.phase = .run → acc = .mgp → s.domSt d = 1 →
      exec (.domainRetire acc) s = .next (s.set (pgDom d) SEC.DOM_STAT.STATE 2)) ∧
  (∀ (e : Nat) (id : Nat) (cls : Nat) (kdom : Nat) (dec : Bool) (fin : Bool) (s : State),
      s.pwr.phase = .run → e ≤ 8 → (decide (e = 8) || clOk s.part e) = true → cls ≤ 2 → (decide (kdom < 1024) || decide (kdom = noKdom)) = true → s.enabled (State.engPage e) = true → s.domainRuns ⟨id, cls, kdom, dec, false⟩ = true → (s.engine e).running = none → fin = false → ((s.engine e).suspended.any fun x => decide (x.cls ≤ cls)) = false → ((s.engine e).waiting.any fun x => decide (x.cls ≤ cls)) = false →
      exec (.xtsMessage e id cls kdom dec fin) s = .next (s.setEngine e { s.engine e with running := some ⟨id, cls, kdom, dec, false⟩ })) ∧
  (∀ (e : Nat) (id : Nat) (cls : Nat) (kdom : Nat) (dec : Bool) (fin : Bool) (s : State),
      s.pwr.phase = .run → e ≤ 8 → (decide (e = 8) || clOk s.part e) = true → cls ≤ 2 → (decide (kdom < 1024) || decide (kdom = noKdom)) = true → s.enabled (State.engPage e) = true → s.domainRuns ⟨id, cls, kdom, dec, false⟩ = false →
      exec (.xtsMessage e id cls kdom dec fin) s = .next (s.keyMiss e)) ∧
  (∀ (e : Nat) (unwrapOk : Bool) (fin : Bool) (m : Msg) (s : State),
      s.pwr.phase = .run → s.firstSuspended e = some m → e ≤ 8 → ((s.engine e).running.all fun r => decide (r.cls < m.cls)) = true → m.wrapped = false → fin = true →
      exec (.xtsMessageResume e unwrapOk fin) s = .next (s.setEngine e { s.engine e with running := none, suspended := (s.engine e).suspended.erase m, waiting := (s.engine e).waiting.filter fun x => decide (x.cls ≥ m.cls) }))

/-- Supply commands complete. The supply's happenings complete: a power loss writes its image and holds the module, dips
and overvoltages are counted, the hold-up time running short, inrush, power up and the hold-up's collapse have their
effects. The hypotheses are the conditions under which the command comes about (log entries 1 and 2). (R418, R415,
R414, R420, R416, R421) -/
def Obligations.SupplyCommandsComplete : Prop :=
  (∀ (places : List BrickPlace) (dur : Nat) (vend : Nat) (s : State),
      let s1 := (s.raise 2 0 0).onPwr fun p => { p with fet := false }
      s.pwr.phase = .run → s1.shutFits places = true →
      exec (.powerLossShutdown places dur vend) s = .next ((s1.shutdown places dur vend).toPhase .held)) ∧
  (∀ (s : State),
      s.pwr.phase ≠ .dead →
      exec (.vinDip) s = .next ((s.bump 2 PWC.SUP_CNT.DIPS).raise 2 5 0)) ∧
  (∀ (s : State),
      s.pwr.phase ≠ .dead →
      exec (.vinHigh) s = .next ((s.bump 2 PWC.SUP_CNT.HIGH).raise 2 4 0)) ∧
  (∀ (beyond : Bool) (places : List BrickPlace) (dur : Nat) (vend : Nat) (s : State),
      let s0 := s.onPwr fun p => { p with fet := false }
      let s1 := if beyond then (s0.raise 2 3 0).breach 3 else s0.raise 2 3 0
      let s2 := s1.raise 2 0 0
      s.pwr.phase ≠ .dead → (decide (s.pwr.phase ≠ .run) || s2.shutFits places) = true → beyond = false → s.pwr.phase = .run →
      exec (.vinOv beyond places dur vend) s = .next ((((s.onPwr fun p => { p with fet := false }).raise 2 3 0).raise 2 0 0).shutdown places dur vend |>.toPhase .held)) ∧
  (∀ (beyond : Bool) (places : List BrickPlace) (dur : Nat) (vend : Nat) (s : State),
      let s0 := s.onPwr fun p => { p with fet := false }
      let s1 := if beyond then (s0.raise 2 3 0).breach 3 else s0.raise 2 3 0
      let s2 := s1.raise 2 0 0
      s.pwr.phase ≠ .dead → (decide (s.pwr.phase ≠ .run) || s2.shutFits places) = true → beyond = false → s.pwr.phase ≠ .run →
      exec (.vinOv beyond places dur vend) s = .next ((s.onPwr fun p => { p with fet := false }).raise 2 3 0)) ∧
  (∀ (places : List BrickPlace) (jseq : Nat) (s : State),
      let s1 := (s.raise 2 0 0).onPwr fun p => { p with fet := false }
      s.pwr.phase = .run → s1.placesOk places = true →
      exec (.holdupShort places jseq) s = .next ((s1.shutdownCut places jseq).toPhase .held)) ∧
  (∀ (s : State),
      s.pwr.fet = true → s.flag 2 PWC.PWC_STAT.INRUSH = true →
      exec (.inrushFail) s = .next (((s.onPwr fun p => { p with fet := false }).setB 2 PWC.PWC_STAT.INRUSH false).raise 2 6 0)) ∧
  (∀ (s : State),
      s.pwr.fet = false → s.pwr.phase ∈ [Phase.aon, .held] →
      exec (.inrushRetry) s = .next ((s.onPwr fun p => { p with fet := true }).setB 2 PWC.PWC_STAT.INRUSH true)) ∧
  (∀ (s : State),
      let up := fun (s : State) => (s.onPwr fun p => { p with fet := true }).setB 2 PWC.PWC_STAT.INRUSH true
      s.pwr.fet = false → s.pwr.phase ∈ [Phase.dead, .aon, .held] →
      exec (.vinPowerUp) s = .next (if s.pwr.phase = .dead then up ((s.onIo fun i => { i with regs := i.regs.filter fun kv => decide (kv.1 / 4096 % 256 ≠ 2), frozen := [], heldPages := [], latches := [], wbufs := [], wordLatches := [] }).toPhase .aon) else up s)) ∧
  (∀ (s : State),
      s.pwr.phase ∈ [Phase.aon, .held, .tripHeld, .faultHold] →
      exec (.vholdCollapse) s = .next (((s.onPwr fun p => { p with fet := false }).onSys fun x => { x with fault := false, resetReq := none }).toPhase .dead))

/-- Rail, crystal and sleep commands complete. Rails that do not come up or are lost, the crystal, sleeping, waking and
the power states complete with their effects. The hypotheses are the conditions under which the command comes about
(log entries 1 and 2). (R423, R424, R425, R426, R427, R437, R428, R430, R429) -/
def Obligations.RailsAndSleepComplete : Prop :=
  (∀ (r : Nat) (dest : Nat) (s : State),
      s.pwr.phase = .run → railOk s r = true → clOk s.part dest = true → Tab.get 0 s.pwr.rails r + 1 < 3 →
      exec (.railPgTimeout r dest) s = .next (s.onPwr fun p => { p with rails := Tab.put 0 p.rails r (Tab.get 0 s.pwr.rails r + 1) })) ∧
  (∀ (r : Nat) (dest : Nat) (s : State),
      s.pwr.phase = .run → railOk s r = true → clOk s.part dest = true → Tab.get 0 s.pwr.rails r + 1 ≥ 3 →
      exec (.railPgTimeout r dest) s = .next ((s.onPwr fun p => { p with rails := Tab.erase p.rails r }).railFails r dest)) ∧
  (∀ (r : Nat) (dest : Nat) (back : Bool) (s : State),
      s.pwr.phase = .run → railOk s r = true → clOk s.part dest = true → back = true →
      exec (.railPgLoss r dest back) s = .next ((railDomains r).foldl State.powerCut s)) ∧
  (∀ (r : Nat) (dest : Nat) (back : Bool) (s : State),
      s.pwr.phase = .run → railOk s r = true → clOk s.part dest = true → back = false →
      exec (.railPgLoss r dest back) s = .next (s.railFails r dest)) ∧
  (∀ (s : State),
      let s1 := (s.setB 1 CLKG.CLK_STAT.XTAL_OK false).setB 1 CLKG.CLK_STAT.RING true
      let s2 := (List.range 8).foldl (fun (s : State) c => s.set (pgKlc c) KLC.RATE.V 0) s1
      s.pwr.phase = .run →
      exec (.xtalSettleTimeout) s = .next ((((s2.raise 1 0 0).raise 1 1 0).degraded).syncCache)) ∧
  (∀ (d : Nat) (s : State),
      s.pwr.phase = .run → s.sleepable d = true → Tab.get 0 s.pwr.backoff d = 0 →
      exec (.sleepRequest d) s = .next (s.askSleep d)) ∧
  (∀ (d : Nat) (pg : Nat) (s : State),
      let asked := s.answers d
      s.pwr.phase = .run → s.sleepable d = true → (asked.any (fun x => decide (x.1 = pg))) = true → ((asked.takeWhile fun x => decide (x.1 ≠ pg)).all (fun x => !x.2)) = true →
      exec (.sleepAnswerTimeout d pg) s = .next (s.refused d pg true)) ∧
  (∀ (d : Nat) (s : State),
      s.pwr.phase = .run → s.sleepable d = true → Tab.get 0 s.pwr.backoff d ≠ 0 →
      exec (.sleepRetry d) s = .next (s.askSleep d)) ∧
  (∀ (d : Nat) (s : State),
      s.pwr.phase = .run → d < 15 →
      exec (.domainWake d) s = .next (s.wake d)) ∧
  (∀ (acc : Accessor) (value : Nat) (s : State),
      let s1 := s.set 2 PWC.DOM_CTL.CL_SLEEP (value % 256)
      s.pwr.phase = .run →
      exec (.clusterSleepWrite acc value) s = .next ((List.range 8).foldl (fun (s : State) c => if s.sleepWanted (domOfCl c) then s else s.wake (domOfCl c)) s1)) ∧
  (∀ (s : State),
      let t := s.psNext
      s.pwr.phase = .run → t ≠ s.fld 2 PWC.PWC_STAT.PS_NOW → t ≤ 4 → (decide (t ≤ 2) || s.mayRest) = true →
      exec (.powerStateEntry) s = .next (s.toPs t)) ∧
  (∀ (s : State),
      let s1 := s.onPwr fun p => { p with required := (p.required.map fun kv => if kv.2 ≥ 3 then (kv.1, p.lastOper) else kv).filter (fun kv => decide (kv.2 ≠ 0)), apst := [] }
      s.pwr.phase = .run → s.fld 2 PWC.PWC_STAT.PS_NOW ≥ 3 →
      exec (.powerStateExit) s = .next ((s1.retarget).toPs s.pwr.lastOper)) ∧
  (∀ (s : State),
      s.pwr.phase = .run → s.fld 2 PWC.PWC_STAT.PS_NOW ≥ 3 → s.pwr.asleep.contains 2 = false → s.sys.cpxDown = false → s.nvme.flights.isEmpty = true →
      exec (.cpxIdleSleep) s = .next (s.enterSleep 2)) ∧
  (∀ (ctl : Nat) (time ps : Nat) (s : State),
      s.pwr.phase = .run → apstEntry s ctl = (time, ps) → s.enabled 2 = true → (s.ctrl ctl).en = true → Tab.get 0 (s.ctrl ctl).feats 0xC % 2 = 1 → time ≠ 0 → (s.requires ctl < ps ∧ ps ≤ 4) → (s.nvme.flights.any fun f => decide (f.cmd.ctl = ctl)) = false →
      exec (.apstIdleTimeout ctl) s = .next ((s.onPwr fun p => { p with apst := Tab.put 0 p.apst ctl ps }).retarget))

/-- Power capping and thermal commands complete. The capping tick, the thermal model, sensors, the case's estimate,
throttling and the thermal trip complete with their effects. The hypotheses are the conditions under which the command
comes about (log entries 1 and 2). (R431, R432, R433, R434, R435) -/
def Obligations.PowerAndThermalControlCompletes : Prop :=
  (∀ (vin : Nat) (vhold : Nat) (pin : Nat) (spent : Bool) (ease : Bool) (s : State),
      let s1 := (((s.set 2 PWC.VIN_MEAS.VIN (min 0xFFFF vin)).set 2 PWC.VIN_MEAS.VHOLD (min 0xFFFF vhold)).set 2 PWC.PIN_MEAS.PIN (min 0xFFFF pin)).showCap
      let n := s.pwr.lever
      let above := decide (pin > 10 * s1.fld 2 PWC.CAP_EFF.CAP_W)
      let n' := if above then (if n = 0 then 1 else if spent then min 4 (n + 1) else n) else if ease then n - 1 else n
      s.pwr.phase = .run →
      exec (.capControlTick vin vhold pin spent ease) s = .next (s1.onPwr fun p => { p with lever := n' })) ∧
  (∀ (powers : List Nat) (raw : List Int) (s : State),
      let temps := (List.range 16).map s.nodeModel
      let case_ := signed 16 (s.fld 3 THM.CASE_T.CASE)
      let s1 := (List.range 16).foldl (fun (t : State) n =>
        t.set (bank 3 n) THM.NODE_T.MODEL (unsigned 16 (Config.thermalNext n powers temps case_))) s
      let s2 := (List.range 30).foldl (fun (t : State) n => t.set (bank 3 n) THM.SENS_T.RAW (unsigned 16 (raw.getD n 0))) s1
      s.watched = true → raw.length = 30 →
      exec (.thermalModelTick powers raw) s = .next (((List.range 30).foldl State.checkSensor s2).syncThermal)) ∧
  (∀ (n : Nat) (s : State),
      let x := s.sensorRaw n
      let close := fun (y : Int) => decide (apart x y ≤ 64)
      s.watched = true → n < 30 → s.suspect n = true → (close (s.nodeModel (nodeOfSensor n)) || (ringNext n).any fun m => close (s.sensorRaw m)) = true →
      exec (.sensorTrustRestore n) s = .next (((s.set 3 THM.SENS_SUSPECT.SUSPECT (bitClear (s.fld 3 THM.SENS_SUSPECT.SUSPECT) n)).raise 3 6 n).syncThermal)) ∧
  (∀ (s : State),
      let good := (List.range 30).filter fun n => !s.suspect n
      let case_ := signed 16 (s.fld 3 THM.CASE_T.CASE)
      let sum := (good.map fun n => s.sensorRaw n - (s.nodeModel (nodeOfSensor n) - case_)).foldl (· + ·) 0
      s.watched = true → good.isEmpty = false →
      exec (.caseTempEstimate) s = .next (s.set 3 THM.CASE_T.CASE (unsigned 16 (Config.divFree sum good.length)))) ∧
  (∀ (s : State),
      let n := s.fld 3 THM.THM_STAT.STEP
      s.pwr.phase = .run → s.enabled 3 = true → s.hotNow > 1600 → n < 15 →
      exec (.throttleStepDown) s = .next ((((s.set 3 THM.THM_STAT.STEP (n + 1)).bump 3 THM.THM_CNT.STEPS_DOWN).raise 3 0 (n + 1)).showCap)) ∧
  (∀ (s : State),
      let n := s.fld 3 THM.THM_STAT.STEP
      s.pwr.phase = .run → s.enabled 3 = true → s.hotNow < 1520 → n > 0 →
      exec (.throttleStepUp) s = .next (((s.set 3 THM.THM_STAT.STEP (n - 1)).raise 3 1 (n - 1)).showCap)) ∧
  (∀ (places : List BrickPlace) (dur : Nat) (vend : Nat) (s : State),
      let s1 := (s.setB 3 THM.THM_STAT.TRIP true).raise 3 4 0
      s.pwr.phase = .run → s.hotNow ≥ 16 * (s.tripTemp : Int) → s1.shutFits places = true →
      exec (.thermalTrip places dur vend) s = .next (((s1.shutdown places dur vend).onSys fun x => { x with resetReq := some 4 }).toPhase .tripHeld)) ∧
  (∀ (memFail : Bool) (badBlobs : List Nat) (attOk : Bool) (badCl : List Nat) (s : State),
      s.pwr.phase = .tripHeld → ((List.range 30).all fun n => s.suspect n || decide (s.sensorRaw n < 1360)) = true →
      exec (.tripCooldownRestart memFail badBlobs attOk badCl) s = .next (s.start memFail badBlobs attOk badCl))

/-- Fault and restart commands complete. Processor faults, their restarts and time-outs, and lost clocks complete with
their effects. The hypotheses are the conditions under which the command comes about (log entries 1 and 2). (R452,
R453, R454, R456, R459, R445) -/
def Obligations.FaultCommandsComplete : Prop :=
  (∀ (core : Nat) (cause : Nat) (recent : Nat) (places : List BrickPlace) (dur : Nat) (vend : Nat) (s : State),
      s.pwr.phase = .run → core < 8 → (1 ≤ cause ∧ cause ≤ 4) → s.sys.cpxDown = false → s.faultFits places = true →
      exec (.cpxFault core cause recent places dur vend) s = .next (s.cpxFault core cause recent places dur vend)) ∧
  (∀ (mchk : Bool) (recent : Nat) (places : List BrickPlace) (dur : Nat) (vend : Nat) (s : State),
      s.pwr.phase = .run → s.sys.mgpDown = false → s.faultFits places = true →
      exec (.mgpFault mchk recent places dur vend) s = .next (s.mgpFault mchk recent places dur vend)) ∧
  (∀ (set : Nat) (ms : Nat) (bad : List Nat) (s : State),
      s.pwr.phase = .run → set < 2 → (if set = 0 then s.sys.cpxDown else s.sys.mgpDown) = true → set = 0 →
      exec (.processorRestartDone set ms bad) s = .next ((((((((s.onSys fun x => { x with cpxDown := false }).setB 0x1D CPX.CPX_STAT.RESTARTING false).set 0x1D CPX.CPX_STAT.CORES 0xFF).set 0xE WDG.WDG_STAT.CPX_ARMED 0xFF).set 0xE WDG.WDG_STAT.CPX_LEFT (max 1 (s.fld 0xE WDG.WDG_CFG.CPX_TO))).set 0x1D CPX.RESTART_T.LAST_MS (min 0xFFFF ms)).raise 0x1D 2 0))) ∧
  (∀ (set : Nat) (ms : Nat) (bad : List Nat) (s : State),
      s.pwr.phase = .run → set < 2 → (if set = 0 then s.sys.cpxDown else s.sys.mgpDown) = true → set = 1 →
      exec (.processorRestartDone set ms bad) s = .next (((((((s.onSys fun x => { x with mgpDown := false }).loadBlobs bad).setB 0xE WDG.WDG_STAT.MGP_ARMED true).set 0xE WDG.WDG_STAT.MGP_LEFT (max 1 (s.fld 0xE WDG.WDG_CFG.MGP_TO))).set 0x1D CPX.RESTART_T.LAST_MS (min 0xFFFF ms)).raise 0x1D 2 1))) ∧
  (∀ (set : Nat) (places : List BrickPlace) (dur : Nat) (vend : Nat) (s : State),
      s.pwr.phase = .run → set < 2 → (if set = 0 then s.sys.cpxDown else s.sys.mgpDown) = true → s.resetFits places = true →
      exec (.restartTimeout set places dur vend) s = .next (s.escalate set places dur vend)) ∧
  (∀ (c : Nat) (acc : Bool) (dest : Nat) (s : State),
      let bit := if acc then 16 + c else 8 + c
      s.pwr.phase = .run → clOk s.part c = true → clOk s.part dest = true → dest ≠ c → s.sys.lostClusters.contains c = false → s.pwr.asleep.contains (domOfCl c) = false →
      exec (.clockUnlockLoss c acc dest) s = .next (((s.set 1 CLKG.CLK_LOCK.LOCK (bitClear (s.fld 1 CLKG.CLK_LOCK.LOCK) bit)).raise 1 2 bit).loseCluster c dest)) ∧
  (∀ (acc : Accessor) (mask : Nat) (s : State),
      s.pwr.phase = .run → acc.isPf1 = false → bitOf mask 5 = false → bitOf mask 6 = false →
      exec (.recStatClear acc mask) s = .next ((s.onNor fun x => { x with recStat := x.recStat - (x.recStat &&& mask) }).set 0x1D CPX.REC_STAT.COND (s.fld 0x1D CPX.REC_STAT.COND - (s.fld 0x1D CPX.REC_STAT.COND &&& (mask % 32))))) ∧
  (∀ (nsid : Nat) (s : State),
      let clean := (s.buf.lines.all fun kv => decide (kv.2.nsid ≠ nsid) || decide (kv.2.dirty = 0)) && s.mason.bricks.all fun b => decide (b.nsid ≠ nsid)
      s.pwr.phase = .run → s.nor.dirtyNs.contains nsid = true → clean = true →
      exec (.dirtyNsClear nsid) s = .next (s.onNor fun x => { x with dirtyNs := x.dirtyNs.filter fun n => decide (n ≠ nsid) }))

/-- Recorder commands complete. The recorder is saved, counts its hours, samples quantities, is frozen and thawed, and
gives a record. The hypotheses are the conditions under which the command comes about (log entries 1 and 2). (R466,
R462, R467, R468, R472) -/
def Obligations.RecorderCommandsComplete : Prop :=
  (∀ (w0 : Bool) (w1 : Bool) (s : State),
      s.pwr.phase = .run → s.io.hst.nor ≠ s.io.hst.mem →
      exec (.recordNorWrite w0 w1) s = .next (s.saveRecords w0 w1)) ∧
  (∀ (s : State),
      let s1 := s.onHst fun h => { h with hours := satAdd 32 h.hours 1, norHours := satAdd 32 h.hours 1 }
      let age := s1.fld 4 CAL.HU_AGE.HOURS
      s.pwr.phase = .run → s.pwr.phase = .run →
      exec (.operatingHourTick) s = .next (if age = 0xFFFF then s1 else s1.set 4 CAL.HU_AGE.HOURS (min 0xFFFF ((s1.io.hst.hours - s1.asc.huAt) / 16)))) ∧
  (∀ (minute : List (Nat × Int)) (s : State),
      s.pwr.phase = .run → s.sys.mgpDown = false →
      exec (.quantitySample minute) s = .next ((List.range 63).foldl (fun (t : State) q => t.sampleQty q (s.qtyNow minute q)) s)) ∧
  (∀ (acc : Accessor) (s : State),
      s.pwr.phase = .run → (acc.isPf1 && decide (s.lifeCycle ≥ 2)) = false →
      exec (.recorderFreeze acc) s = .next (s.freeze)) ∧
  (∀ (acc : Accessor) (s : State),
      s.pwr.phase = .run → (acc.isPf1 && decide (s.lifeCycle ≥ 2)) = false →
      exec (.recorderThaw acc) s = .next (s.thaw)) ∧
  (∀ (acc : Accessor) (r : Rec) (s : State),
      s.pwr.phase = .run → s.recSelected acc = some r →
      exec (.recordRead acc) s = .next (((s.onIo fun i => { i with wordLatches := Tab.put [] i.wordLatches (acc.num * 2 ^ 20 + key 6 0x050) ((List.range 7).map fun j => ofLe (slice r.bytes (4 * (j + 1)) 4)) }).gave acc (ofLe (slice r.bytes (4 * 0) 4)))))

/-- Start, watchdog and recovery commands complete. The module's start, its tables, its watchdogs and kicks, reset
requests, recovery and the firmware area's refresh complete with their effects. The hypotheses are the conditions
under which the command comes about (log entries 1 and 2). (R475, R479, R481, R485, R480, R483, R502) -/
def Obligations.StartCommandsComplete : Prop :=
  (∀ (memFail : Bool) (badBlobs : List Nat) (attOk : Bool) (badCl : List Nat) (s : State),
      ((decide (s.pwr.phase ∈ [Phase.aon, .held]) && (s.pwr.fet || s.sys.resetReq.isSome)) || (decide (s.pwr.phase = .run) && decide (s.fld 0 DEV.BOOT_STAT.STAGE = 0))) = true →
      exec (.moduleStart memFail badBlobs attOk badCl) s = .next (s.start memFail badBlobs attOk badCl)) ∧
  (∀ (ms : Nat) (s : State),
      s.pwr.phase = .run → s.fld 0 DEV.BOOT_STAT.STAGE = 10 → ((List.range 64).all fun n => !bitOf s.nor.bootSlots n || bootSlotUp s n) = true →
      exec (.tableLoad ms) s = .next (((List.range 8).foldl State.showPool (s.tablesLoaded.bootDone ms)).duties)) ∧
  (∀ (s : State),
      s.pwr.phase = .run → s.fld 0 DEV.BOOT_STAT.STAGE ≥ 7 → (s.nvme.ns.any fun kv => kv.2.live && !kv.2.ready) = true →
      exec (.readyLate) s = .next (s.raise 0 4 0)) ∧
  (∀ (places : List BrickPlace) (dur : Nat) (vend : Nat) (s : State),
      let s1 := s.raise 0xE 2 0
      s.pwr.phase = .run → wdgArmed s 9 = true → s1.resetFits places = true →
      exec (.bootWatchdogExpiry places dur vend) s = .next (s1.requestReset 6 places dur vend)) ∧
  (∀ (core : Nat) (recent : Nat) (places : List BrickPlace) (dur : Nat) (vend : Nat) (s : State),
      let s1 := (s.bump 0xE WDG.WDG_CNT.CPX_EXP).raise 0xE 0 core
      s.pwr.phase = .run → core < 8 → wdgArmed s core = true → s.sys.cpxDown = false → s1.faultFits places = true →
      exec (.cpxWatchdogExpiry core recent places dur vend) s = .next (s1.cpxFault core 4 recent places dur vend)) ∧
  (∀ (recent : Nat) (places : List BrickPlace) (dur : Nat) (vend : Nat) (s : State),
      let s1 := (s.bump 0xE WDG.WDG_CNT.MGP_EXP).raise 0xE 1 0
      s.pwr.phase = .run → wdgArmed s 8 = true → s.sys.mgpDown = false → s1.faultFits places = true →
      exec (.mgpWatchdogExpiry recent places dur vend) s = .next (s1.mgpFault false recent places dur vend)) ∧
  (∀ (n : Nat) (s : State),
      s.pwr.phase = .run → wdgArmed s n = true → s.sys.warned.contains n = false → n < 8 →
      exec (.watchdogPrewarn n) s = .next (((s.onSys fun x => { x with warned := x.warned ++ [n] }).raise 0xE 3 n).set 0xE WDG.WDG_STAT.CPX_LEFT (max 1 (s.fld 0xE WDG.WDG_CFG.CPX_TO) / 2))) ∧
  (∀ (acc : Accessor) (value : Word) (s : State),
      s.pwr.phase = .run → acc = .mgp → value.toNat % 16 = 8 → value.toNat / 2 ^ 16 = 0xA55A → wdgArmed s 8 = true →
      exec (.wdgKick acc value) s = .next ((s.onSys fun x => { x with warned := x.warned.filter fun n => decide (n ≠ 8) }).set 0xE WDG.WDG_STAT.MGP_LEFT (max 1 (s.fld 0xE WDG.WDG_CFG.MGP_TO)))) ∧
  (∀ (acc : Accessor) (value : Word) (s : State),
      s.pwr.phase = .run → acc = .mgp → value.toNat / 2 ^ 16 ≠ 0xA55A →
      exec (.wdgKick acc value) s = .next (s.lockedWrite 0xE)) ∧
  (∀ (acc : Accessor) (value : Word) (places : List BrickPlace) (dur : Nat) (vend : Nat) (s : State),
      s.pwr.phase = .run → value.toNat % 2 = 1 → value.toNat / 2 ^ 16 = 0x7128 → s.resetFits places = true →
      exec (.moduleResetRequest acc value places dur vend) s = .next (s.requestReset 2 places dur vend)) ∧
  (∀ (acc : Accessor) (s : State),
      s.pwr.phase = .run → s.flag 0 DEV.BOOT_STAT.RECOVERY = true →
      exec (.recoveryStart acc) s = .next ((s.onSys fun x => { x with rcvOpen := true, rcv := [] }).set 0 DEV.RCV_CTL.RESULT 0)) ∧
  (∀ (acc : Accessor) (value : Word) (s : State),
      s.pwr.phase = .run → s.flag 0 DEV.BOOT_STAT.RECOVERY = true → s.sys.rcvOpen = true → s.sys.rcv.length + 4 ≤ imageMax →
      exec (.recoveryDataWrite acc value) s = .next (s.onSys fun x => { x with rcv := x.rcv ++ leBytes 4 value.toNat })) ∧
  (∀ (acc : Accessor) (w0 : Bool) (w1 : Bool) (s : State),
      s.pwr.phase = .run → s.flag 0 DEV.BOOT_STAT.RECOVERY = true → s.sys.rcvOpen = true → s.fld 0 DEV.RCV_CTL.RESULT = 5 →
      exec (.recoveryCommit acc w0 w1) s = .next ((s.set 0 DEV.RCV_CTL.RESULT 5).onSys fun x => { x with rcvOpen := false, rcv := [] })) ∧
  (∀ (acc : Accessor) (w0 : Bool) (w1 : Bool) (s : State),
      s.pwr.phase = .run → s.flag 0 DEV.BOOT_STAT.RECOVERY = true → s.sys.rcvOpen = true → s.fld 0 DEV.RCV_CTL.RESULT ≠ 5 →
      exec (.recoveryCommit acc w0 w1) s = .next (if imageResult (s.fld 8 LCS.SVN_MIN.SVN) s.sys.rcv = 1 then ((((s.set 0 DEV.RCV_CTL.RESULT 1).onSys fun x => { x with rcvOpen := false, rcv := [] }).writeImage 1 s.sys.rcv w0 w1).writeImage 2 s.sys.rcv w0 w1).requestReset 7 [] 0 0 else (s.set 0 DEV.RCV_CTL.RESULT (imageResult (s.fld 8 LCS.SVN_MIN.SVN) s.sys.rcv)).onSys fun x => { x with rcvOpen := false, rcv := [] })) ∧
  (∀ (acc : Accessor) (places : List BrickPlace) (dur : Nat) (vend : Nat) (s : State),
      let s1 := [1, 2].foldl (fun (s : State) n => (s.set 0 (State.triesOf n) 0).setB 0 (State.failedOf n) false) s
      s.pwr.phase = .run → s1.resetFits places = true →
      exec (.recoveryRetry acc places dur vend) s = .next (s1.requestReset 7 places dur vend)) ∧
  (∀ (port : Nat) (s : State),
      let none_ := decide (s.fld 0 DEV.BOOT_STAT.FAIL_STAGE ≠ 0) || s.flag 0 DEV.BOOT_STAT.RECOVERY || decide (s.lifeCycle ≠ 1 ∧ s.lifeCycle ≠ 2)
        || decide (bitsOf (s.fld 2 PWC.RAIL_STAT.FAILED) 3 2 ≠ 0)
      let ids := (1 + 0x80 * port) :: s.portCtrls port false
      s.pwr.phase = .run → port < 2 → s.sys.perst.contains port = true → none_ = true →
      exec (.serviceFailTimeout port) s = .next ((s.onSys fun x => { x with cfs := x.cfs ++ ids.filter fun i => !x.cfs.contains i }).setB 0x1D CPX.CPX_STAT.CFS true)) ∧
  (∀ (area : Nat) (dev : Nat) (good : Bool) (s : State),
      let k := area * 2 + dev
      s.pwr.phase = .run → dev < 2 → good = true → s.io.hst.hours ≥ Tab.get 0 s.nor.refreshed k + 17520 * 16 →
      exec (.norRefresh area dev good) s = .next (s.onNor fun x => { x with refreshed := Tab.put 0 x.refreshed k s.io.hst.hours }))

/-- An event sets its pending bit and loses none. Raising event source bit of a present page leaves that bit of EV_PEND at
1, and every bit of EV_PEND of every page that was 1 stays 1. (R32, R36, R461) -/
def Obligations.RaisedEventsStayPending : Prop :=
  ∀ (s : State) (pg bit ctx : Nat), present s.part pg = true → bit < 32 →
    bitOf ((s.raise pg bit ctx).fld pg HDR.EV_PEND.V) bit = true ∧
    ∀ q b, bitOf (s.fld q HDR.EV_PEND.V) b = true → bitOf ((s.raise pg bit ctx).fld q HDR.EV_PEND.V) b = true

/-- A header command changes its own page alone. PAGE_LOCK, PAGE_FREEZE, PAGE_THAW, WIN_CFG_STORE, WIN_CFG_SELECT,
ERR_INJ_ONESHOT and ERR_INJ_CONT change no register of another page or of any bank of another page, and nothing but
the shared part of the state; EV_PEND_CLEAR, EV_EN_WRITE and EV_ROUTE_WRITE, which may move EVENT# and send messages,
change besides the shared part nothing but the servo traces' note of an event. (R36, R37, R39, R461) -/
def Obligations.HeaderCommandsTouchTheirPage : Prop :=
  (∀ (c : Instr) (pg : Nat) (s t : State), Claims.ownPage c = some pg → pg < 256 → exec c s = .next t →
      (∀ p off, off < 4096 → p % 256 ≠ pg → t.io.reg p off = s.io.reg p off) ∧ t = { s with io := t.io } ∧
      t.io.fifos = s.io.fifos ∧ t.io.hst = s.io.hst ∧ t.io.msixSent = s.io.msixSent) ∧
    (∀ (acc : Accessor) (pg : Nat) (v : Word) (s t : State),
      (exec (.evPendClear acc pg v) s = .next t ∨ exec (.evEnWrite acc pg v) s = .next t ∨ exec (.evRouteWrite acc pg v) s = .next t) →
      t = { s with io := t.io } ∧
      ∀ p off, off < 4096 → p % 256 ≠ pg % 256 → p % 256 ≠ 5 → p % 256 ≠ 6 → p % 256 ≠ 0xC → t.io.reg p off = s.io.reg p off)

/-- Commands that store nothing leave every byte of memory. A wide list of commands, of every family, leaves every byte of
the buffer memory and of the on-die SRAM as it was. (R330, R356, R32) -/
def Obligations.StorelessCommandsKeepMemory : Prop :=
  ∀ (c : Instr) (s t : State), Claims.storesNothing c = true → exec c s = .next t →
    ∀ space addr, t.memByte space addr = s.memByte space addr

/-- A 64-bit value is read coherently. A low-word read returns bits [31:0] and keeps bits [63:32] of the same instant in
the accessor's latch; a high-word read with the latch valid returns it, whatever the register then holds, and marks it
invalid. Other accessors' latches are untouched. (R35) -/
def Obligations.LowReadLatchesHighHalf : Prop :=
  (∀ (acc : Accessor) (addr : Nat) (s : State), s.pwr.phase = .run → addr < 2 ^ 20 →
      isLow (addrPage addr) (addrOfs addr) = true → present s.part (addrPage addr) = true →
      s.closedRead acc (addrPage addr) (addrOfs addr) = false → s.inReset (addrPage addr) (addrOfs addr) = false →
      ∃ t, exec (.lowWordRead acc addr) s = .next t ∧
        Tab.get 0 t.io.readData acc.num = (s.shown acc (addrPage addr) (addrOfs addr)).toNat % 2 ^ 32 ∧
        t.latch acc (addrPage addr) = some (BitVec.ofNat 32 ((s.shown acc (addrPage addr) (addrOfs addr)).toNat / 2 ^ 32)) ∧
        ∀ acc', acc' ≠ acc → ∀ pg' < 256, t.latch acc' pg' = s.latch acc' pg') ∧
    (∀ (acc : Accessor) (addr : Nat) (w : Word) (s : State), s.pwr.phase = .run → addr < 2 ^ 20 →
      isHigh (addrPage addr) (addrOfs addr) = true → present s.part (addrPage addr) = true →
      s.closedRead acc (addrPage addr) (addrOfs addr) = false → s.inReset (addrPage addr) (addrOfs addr) = false →
      s.latch acc (addrPage addr) = some w →
      ∃ t, exec (.highWordRead acc addr) s = .next t ∧ Tab.get 0 t.io.readData acc.num = w.toNat ∧
        t.latch acc (addrPage addr) = none ∧ t.io.regs = s.io.regs)

/-- LOCK keeps the event routing from every accessor but MGP. While a page is locked, an EV_ROUTE write by an accessor
other than MGP leaves every field of EV_ROUTE, and sets LOCKED_WRITE where the value differs in a field; a write by
MGP, or with LOCK clear, stores the fields. (R34, R37, R36) -/
def Obligations.LockHoldsTheRoute : Prop :=
  (∀ (acc : Accessor) (pg : Nat) (v : Word) (s t : State), s.io.locked pg = true → acc ≠ .mgp →
      exec (.evRouteWrite acc pg v) s = .next t →
      ∀ f ∈ [HDR.EV_ROUTE.VECTOR, HDR.EV_ROUTE.PIN, HDR.EV_ROUTE.MGP, HDR.EV_ROUTE.CPX, HDR.EV_ROUTE.MSIX], t.fld pg f = s.fld pg f) ∧
    (∀ (acc : Accessor) (pg : Nat) (v : Word) (s t : State), s.pwr.phase = .run → present s.part pg = true → s.io.locked pg = true →
      acc ≠ .mgp → s.closedWrite acc pg 0 = false →
      (∃ f ∈ [HDR.EV_ROUTE.VECTOR, HDR.EV_ROUTE.PIN, HDR.EV_ROUTE.MGP, HDR.EV_ROUTE.CPX, HDR.EV_ROUTE.MSIX],
        bitsOf v.toNat f.hi f.lo ≠ s.fld pg f) →
      exec (.evRouteWrite acc pg v) s = .next t → t.flag pg HDR.PG_STAT.LOCKED_WRITE = true) ∧
    (∀ (acc : Accessor) (pg : Nat) (v : Word) (s t : State), s.pwr.phase = .run → present s.part pg = true →
      s.io.locked pg = false ∨ acc = .mgp → s.closedWrite acc pg 0 = false →
      exec (.evRouteWrite acc pg v) s = .next t →
      ∀ f ∈ [HDR.EV_ROUTE.VECTOR, HDR.EV_ROUTE.PIN, HDR.EV_ROUTE.MGP, HDR.EV_ROUTE.CPX, HDR.EV_ROUTE.MSIX],
        t.fld pg f = bitsOf v.toNat f.hi f.lo)

/-- Absent and reserved pages read 0 and ignore writes. On a page that is not present a register read returns 0 and
changes nothing else, and a full-width write changes nothing; on an H7064 the pages of the instances it lacks are not
present. (A write with partial byte enables is another rule's, R31.) (R2, R29) -/
def Obligations.AbsentPagesReadZero : Prop :=
  (∀ (acc : Accessor) (addr : Nat) (v : Word) (s : State), s.pwr.phase = .run → addr < 2 ^ 20 → addr % 4 = 0 →
      present s.part (addrPage addr) = false →
      exec (.rcRegisterRead acc addr) s = .next (s.gave acc 0) ∧ exec (.registerWrite acc addr v true) s = .next s) ∧
    (∀ pg, pg ∈ Claims.absentPages ∨ (0x28 ≤ pg ∧ pg < 0x30) ∨ (0x38 ≤ pg ∧ pg < 0x40) ∨ (0xC0 ≤ pg ∧ pg < 0x100) →
      present .h7064 pg = false ∧ present .h7128 pg = true)

/-- SPk_TARGET.RPM acts within 3,000 to 7,200, and the heads guard it. A write of RPM makes the target the value bounded
to 3,000 to 7,200 (0 stands for NOM_RPM); a write that would make the target differ from NOM_RPM while either actuator
of the slot is not OPEN is ignored with TARGET_REFUSED. (R205) -/
def Obligations.SpindleTargetIsBounded : Prop :=
  ∀ (n rpm : Nat) (s : State), s.pwr.phase = .run → slotOk s.part n = true →
    let nom := s.sp n SPM.SPk_TARGET.NOM_RPM
    let r := rpm % 2 ^ 13
    let target := if r = 0 then nom else min 7200 (max 3000 r)
    (target ≠ nom → s.bothOpen n = false → exec (.targetWrite n rpm) s = .next (s.spRaise n 12)) ∧
    (target = nom ∨ s.bothOpen n = true →
      ∃ t, exec (.targetWrite n rpm) s = .next t ∧ t.sp n SPM.SPk_TARGET.RPM = r ∧ t.targetRpm n = target ∧
        t.sp n SPM.SPk_TARGET.NOM_RPM = nom)

/-- The motor registers take writes only in STOPPED and FAULT. In a state other than STOPPED (0) and FAULT (9) a write to
one of the seven motor and loop registers is ignored and raises COEF_REFUSED; in those two states, where LOCK does not
bind the accessor, every field of the register takes its bits; the cogging table takes a write in any state. (R206) -/
def Obligations.MotorRegistersOnlyWhileStopped : Prop :=
  (∀ (acc : Accessor) (n k : Nat) (v : Word) (s : State), s.pwr.phase = .run → slotOk s.part n = true → k ∈ motorRegs →
      (s.spState n ≠ 0 → s.spState n ≠ 9 → exec (.motorRegisterWrite acc n (k + 0x40 * (n % 4)) v) s = .next (s.spRaise n 10)) ∧
      (s.spState n = 0 ∨ s.spState n = 9 → s.io.locked (pgSpm (n / 4)) = false ∨ acc = .mgp →
        ∃ t, exec (.motorRegisterWrite acc n (k + 0x40 * (n % 4)) v) s = .next t ∧
          ∀ f ∈ tableSPMUnit, f.off = k → t.sp n f = bitsOf v.toNat f.hi f.lo)) ∧
    (∀ (acc : Accessor) (e : Nat) (v : Word) (s : State), s.pwr.phase = .run → engOk s.part e = true →
      ∃ t, exec (.spindleMemAccess acc e true v) s = .next t ∧
        Tab.get 0#16 t.spin.cog ((4 * e + s.fld (pgSpm e) SPM.MEM_ADDR.SLOT) * 512 + s.fld (pgSpm e) SPM.MEM_ADDR.INDEX) = v.setWidth 16 ∧
        t.fld (pgSpm e) SPM.MEM_ADDR.INDEX = (s.fld (pgSpm e) SPM.MEM_ADDR.INDEX + 1) % 512)

/-- A GF FIFO in COMMIT mode holds a writer's items until COMMIT. In COMMIT mode the first post of a writer claims the
FIFO and its items are held, not readable; a COMMIT, or a post with COMMIT, makes them readable together; REWIND
discards them; both end the claim; a post that finds no free stage is refused as FULL and the held items stay held.
(R371) -/
def Obligations.CommitModeFifo : Prop :=
  ∀ (s : State) (n w item : Nat), isGf n = true → s.enabled 0xC = true → s.fifoMode n = 2 →
    (item ≠ s.idleItem n → (s.io.fifo n).claimer = none ∨ (s.io.fifo n).claimer = some w →
      Io.fifoUsed (s.io.fifo n) < Io.fifoDepth n →
      (s.gfPost n w item).1 = true ∧
      (s.gfPost n w item).2.io.fifo n = { s.io.fifo n with held := (s.io.fifo n).held ++ [item], claimer := some w } ∧
      (((s.gfPost n w item).2.commitItems n w).io.fifo n).items = (s.io.fifo n).items ++ (s.io.fifo n).held ++ [item] ∧
      (((s.gfPost n w item).2.commitItems n w).io.fifo n).claimer = none) ∧
    (item ≠ s.idleItem n → (s.io.fifo n).claimer = none ∨ (s.io.fifo n).claimer = some w →
      Io.fifoDepth n ≤ Io.fifoUsed (s.io.fifo n) →
      s.gfPost n w item = (false, s.refuseItem n 0) ∧ (s.refuseItem n 0).io.fifo n = s.io.fifo n) ∧
    ((s.io.fifo n).claimer = some w →
      ((s.commitItems n w).io.fifo n).items = (s.io.fifo n).items ++ (s.io.fifo n).held ∧
      ((s.commitItems n w).io.fifo n).held = [] ∧ ((s.commitItems n w).io.fifo n).claimer = none ∧
      ((s.rewindBy n w).io.fifo n).items = (s.io.fifo n).items ∧
      ((s.rewindBy n w).io.fifo n).held = [] ∧ ((s.rewindBy n w).io.fifo n).claimer = none) ∧
    (∀ acc core, s.pwr.phase = .run → s.fifoMay acc s.fifoSel = true →
      exec (.fifoCommit acc core) s = .next (s.commitItems s.fifoSel (writerOf acc core)) ∧
      exec (.fifoRewind acc core) s = .next (s.rewindBy s.fifoSel (writerOf acc core))) ∧
    (∀ agent, s.pwr.phase = .run → (accOf agent).isNone = true → agent < 256 →
      exec (.fifoPost n agent item true) s =
        .next ((s.gfPost n agent (item % 2 ^ (32 * s.fifoWords n))).2.commitItems n agent))

/-- A NONE line is neither corrected, detected nor poisoned. A NONE region's raw size is its size, with no check bits. A
demand read of its line, whatever the outcome given, only counts bytes moved; the scrubber never visits it; a full
write into it only writes; nothing is corrected, detected or poisoned. (R322) -/
def Obligations.NoneLinesAreUnchecked : Prop :=
  ∀ (s : State) (r : Nat), s.rgnCode r = 0 →
    s.rgnRaw r = 8 * s.fld (pgRgn r) MPS.RGN_GEOM.SIZE ∧ r ∉ s.scrubRgns ∧
    (∀ (addr outcome : Nat) (brick : Option Nat), s.pwr.phase = .run → s.rgnOf addr = some r → s.rgnWiping r = false →
      ∃ t, exec (.dramRead addr outcome brick) s = .next t ∧ t.buf = s.buf ∧
        (∀ p off, off < 4096 → key p off ≠ key 0x12 DMC.DMC_BYTES.BYTES.off → t.io.reg p off = s.io.reg p off)) ∧
    (∀ (addr : Nat) (bytes : List Nat), s.pwr.phase = .run → s.rgnOf addr = some r → s.rgnWiping r = false →
      State.inLine addr bytes.length = true →
      ∃ t, exec (.dramFullWrite addr bytes) s = .next t ∧
        (s.poisonedRange addr bytes.length = false → t.buf.poison = s.buf.poison) ∧ t.buf.fixes = s.buf.fixes.filter (fun x => decide (x ≠ addr / 64)) ∧
        (∀ p off, off < 4096 → key p off ≠ key 0x12 DMC.DMC_BYTES.BYTES.off → t.io.reg p off = s.io.reg p off))

/-- A full write stores its bytes and no others. A DRAM_FULL_WRITE of whole code units within one line of a valid region
that is not being wiped leaves each byte of the span at the value written, every other byte of the buffer memory,
every byte of the on-die SRAM, and every register but DMC_BYTES as they were. (R323, R325, R317) -/
def Obligations.FullWriteStoresItsBytes : Prop :=
  ∀ (addr : Nat) (bytes : List Nat) (r : Nat) (s : State), s.pwr.phase = .run → s.rgnOf addr = some r → s.rgnWiping r = false →
    State.inLine addr bytes.length = true → addr % s.codeUnit r = 0 → bytes.length % s.codeUnit r = 0 →
    ∃ t, exec (.dramFullWrite addr bytes) s = .next t ∧
      (∀ i < bytes.length, t.dramByte (addr + i) = BitVec.ofNat 8 (bytes.getD i 0)) ∧
      (∀ a, a < addr ∨ addr + bytes.length ≤ a → t.dramByte a = s.dramByte a) ∧ t.hod = s.hod ∧
      (∀ p off, off < 4096 → key p off ≠ key 0x12 DMC.DMC_BYTES.BYTES.off → t.io.reg p off = s.io.reg p off)

/-- KSERIAL advances by one at a key creation and stops at its end. DOMAIN_CREATE by MGP on a FREE domain advances KSERIAL
by one, or, at 0xFFFF_FFFF, is refused with KEY_SERIAL_END and leaves KSERIAL; where a NOR device takes the blob the
domain is then ACTIVE under the KSERIAL it was made with. (R387, R386, R385) -/
def Obligations.KeySerialAdvances : Prop :=
  ∀ (w0 w1 : Bool) (s : State), s.pwr.phase = .run →
    let d := s.fld 9 SEC.DOM_SEL.DOM
    s.domSt d = 0 →
    (s.fld 9 SEC.KSERIAL.NEXT = 0xFFFFFFFF → exec (.domainCreate .mgp w0 w1) s = .next (s.raise 9 2 d) ∧
      (s.raise 9 2 d).fld 9 SEC.KSERIAL.NEXT = 0xFFFFFFFF) ∧
    (s.fld 9 SEC.KSERIAL.NEXT ≠ 0xFFFFFFFF → ∃ t, exec (.domainCreate .mgp w0 w1) s = .next t ∧
      t.fld 9 SEC.KSERIAL.NEXT = s.fld 9 SEC.KSERIAL.NEXT + 1 ∧
      (w0 = true ∨ w1 = true → t.domSt d = 1 ∧ t.fld (pgDom d) SEC.DOM_SERIAL.KSERIAL = s.fld 9 SEC.KSERIAL.NEXT))

/-- Every step keeps registers and memories in canonical form. From every state whose register table, buffer memory and
on-die SRAM are in canonical form, whatever command stands in front, a step answers a state of that form. (R29, R36,
R317) -/
def Obligations.StepKeepsCanonicalForm : Prop :=
  ∀ s t : State, s.wf = true → step s = .next t → t.wf = true

/-- No command changes the part, its grade or its revision, and each step takes one command. Whatever command is carried
out, the part, the speed grade and the die revision stay as they are, and the queue loses its front command and
nothing else. (R1, R4, R32) -/
def Obligations.StepKeepsIdentityAndQueue : Prop :=
  ∀ s t : State, step s = .next t →
    t.part = s.part ∧ t.io.grade = s.io.grade ∧ t.io.dieRev = s.io.dieRev ∧ t.pending = s.pending.tail

end
end

