-- ==== Sys2Proof/Laws/Sparse.lean ====
section
/-! SUPPORT. The laws of sparse tables: a read after a write, and the canonical form kept by every operation. -/

namespace Sys2Proof.Machine.Tab

variable {α : Type}

theorem find?_erase_self (m : List (Nat × α)) (q : Nat) : find? (erase m q) q = none := by
  induction m with
  | nil => rfl
  | cons kv m ih => by_cases h : kv.1 = q <;> simp [erase, find?, h, ih]

theorem find?_erase_ne (m : List (Nat × α)) {q k : Nat} (h : k ≠ q) : find? (erase m q) k = find? m k := by
  induction m with
  | nil => rfl
  | cons kv m ih =>
    by_cases h1 : kv.1 = q
    · have : kv.1 ≠ k := fun e => h (e.symm.trans h1)
      simp [erase, find?, h1, ih, h.symm]
    · simp only [erase, h1, if_false, find?, ih]

theorem find?_place_self (m : List (Nat × α)) (q : Nat) (x : α) (h : find? m q = none) : find? (place m q x) q = some x := by
  induction m with
  | nil => simp [place, find?]
  | cons kv m ih =>
    by_cases h1 : kv.1 = q
    · simp [find?, h1] at h
    · simp only [find?, h1, if_false] at h
      by_cases h2 : q < kv.1 <;> simp [place, find?, h1, h2, ih h]

theorem find?_place_ne (m : List (Nat × α)) {q k : Nat} (x : α) (h : k ≠ q) : find? (place m q x) k = find? m k := by
  induction m with
  | nil => simp [place, find?, h.symm]
  | cons kv m ih =>
    by_cases h2 : q < kv.1
    · simp [place, find?, h2, h.symm]
    · simp only [place, h2, if_false, find?, ih]

section
variable [DecidableEq α]

/-- A read after a write to the same key gives the value written. -/
@[simp] theorem get_put_self (d : α) (m : List (Nat × α)) (q : Nat) (x : α) : get d (put d m q x) q = x := by
  unfold get put
  by_cases h : x = d
  · simp [h, find?_erase_self]
  · simp [h, find?_place_self _ _ _ (find?_erase_self m q)]

theorem find?_put_ne (d : α) (m : List (Nat × α)) {q k : Nat} (x : α) (h : k ≠ q) : find? (put d m q x) k = find? m k := by
  unfold put
  by_cases hx : x = d
  · simp [hx, find?_erase_ne m h]
  · simp [hx, find?_place_ne _ x h, find?_erase_ne m h]

/-- A write leaves every other key alone. -/
theorem get_put_ne (d e : α) (m : List (Nat × α)) {q k : Nat} (x : α) (h : k ≠ q) : get e (put d m q x) k = get e m k := by
  unfold get; rw [find?_put_ne d m x h]

end

theorem rising_tail {kv : Nat × α} {m : List (Nat × α)} (h : rising (kv :: m) = true) : rising m = true := by
  cases m with
  | nil => rfl
  | cons kv' m => simp [rising] at h; exact h.2

/-- In a rising table every later key is greater than the first. -/
theorem rising_lt {kv : Nat × α} {m : List (Nat × α)} (h : rising (kv :: m) = true) : ∀ kv' ∈ m, kv.1 < kv'.1 := by
  induction m generalizing kv with
  | nil => simp
  | cons c m ih =>
    simp [rising] at h
    intro kv' hm
    rcases List.mem_cons.mp hm with rfl | hm
    · exact h.1
    · exact lt_trans h.1 (ih h.2 kv' hm)

theorem rising_cons {kv : Nat × α} {m : List (Nat × α)} (h : rising m = true) (hl : ∀ kv' ∈ m, kv.1 < kv'.1) :
    rising (kv :: m) = true := by
  cases m with
  | nil => rfl
  | cons c m => simp [rising, hl c (by simp), h]

theorem rising_filter (t : Nat × α → Bool) {m : List (Nat × α)} (h : rising m = true) : rising (m.filter t) = true := by
  induction m with
  | nil => rfl
  | cons c m ih =>
    have hi := ih (rising_tail h)
    rw [List.filter_cons]
    split
    · exact rising_cons hi fun kv' hm => rising_lt h kv' (List.mem_of_mem_filter hm)
    · exact hi

theorem erase_eq (m : List (Nat × α)) (q : Nat) : erase m q = m.filter fun kv => decide (kv.1 ≠ q) := by
  induction m with
  | nil => rfl
  | cons c m ih => by_cases h : c.1 = q <;> simp [erase, h, ih]

theorem mem_place {kv : Nat × α} {m : List (Nat × α)} {q : Nat} {x : α} (h : kv ∈ place m q x) : kv = (q, x) ∨ kv ∈ m := by
  induction m with
  | nil => simpa [place] using h
  | cons c m ih =>
    simp only [place] at h
    split at h
    · simpa using h
    · rcases List.mem_cons.mp h with rfl | h
      · simp
      · rcases ih h with h | h <;> simp [h]

theorem rising_place {m : List (Nat × α)} {q : Nat} {x : α} (h : rising m = true) (hq : ∀ kv ∈ m, kv.1 ≠ q) :
    rising (place m q x) = true := by
  induction m with
  | nil => rfl
  | cons c m ih =>
    simp only [place]
    split
    · next hlt =>
      exact rising_cons h fun kv' hm => by
        rcases List.mem_cons.mp hm with rfl | hm
        · exact hlt
        · exact lt_trans hlt (rising_lt h kv' hm)
    · next hge =>
      refine rising_cons (ih (rising_tail h) fun kv hm => hq kv (by simp [hm])) fun kv' hm => ?_
      rcases mem_place hm with rfl | hm
      · exact lt_of_le_of_ne (not_lt.mp hge) (hq c (by simp))
      · exact rising_lt h kv' hm

section
variable [DecidableEq α]

theorem wf_filter (d : Nat → α) (t : Nat × α → Bool) {m : List (Nat × α)} (h : wf d m = true) : wf d (m.filter t) = true := by
  unfold wf at *
  simp only [Bool.and_eq_true] at *
  refine ⟨rising_filter t h.1, ?_⟩
  rw [List.all_eq_true] at *
  exact fun kv hm => h.2 kv (List.mem_of_mem_filter hm)

theorem wf_keep (d : Nat → α) (t : Nat → Bool) {m : List (Nat × α)} (h : wf d m = true) : wf d (keep t m) = true :=
  wf_filter d _ h

theorem wf_erase (d : Nat → α) (q : Nat) {m : List (Nat × α)} (h : wf d m = true) : wf d (erase m q) = true := by
  rw [erase_eq]; exact wf_filter d _ h

/-- A write keeps the canonical form. -/
theorem wf_put (d : Nat → α) (q : Nat) (x : α) {m : List (Nat × α)} (h : wf d m = true) : wf d (put (d q) m q x) = true := by
  unfold put
  split
  · exact wf_erase d q h
  · next hx =>
    have he := wf_erase d q h
    unfold wf at *
    simp only [Bool.and_eq_true] at *
    refine ⟨rising_place he.1 ?_, ?_⟩
    · intro kv hm
      rw [erase_eq] at hm
      simpa using (List.mem_filter.mp hm).2
    · rw [List.all_eq_true] at *
      intro kv hm
      rcases mem_place hm with rfl | hm
      · simpa using hx
      · exact he.2 kv hm

@[simp] theorem wf_nil (d : Nat → α) : wf d ([] : List (Nat × α)) = true := rfl

end

end Sys2Proof.Machine.Tab
end

