-- ==== Sys2Proof/Laws/State.lean ====
section
/-! SUPPORT. What each plain update of the state leaves in each of its parts, so that no proof unfolds a record update. -/

namespace Sys2Proof.Machine.State

/-! ### onIo -/

@[simp] theorem onIo_io (s : State) (f : Io → Io) : (s.onIo f).io = f s.io := rfl
@[simp] theorem onIo_link (s : State) (f : Io → Io) : (s.onIo f).link = s.link := rfl
@[simp] theorem onIo_rc (s : State) (f : Io → Io) : (s.onIo f).rc = s.rc := rfl
@[simp] theorem onIo_seq (s : State) (f : Io → Io) : (s.onIo f).seq = s.seq := rfl
@[simp] theorem onIo_servo (s : State) (f : Io → Io) : (s.onIo f).servo = s.servo := rfl
@[simp] theorem onIo_spin (s : State) (f : Io → Io) : (s.onIo f).spin = s.spin := rfl
@[simp] theorem onIo_asc (s : State) (f : Io → Io) : (s.onIo f).asc = s.asc := rfl
@[simp] theorem onIo_media (s : State) (f : Io → Io) : (s.onIo f).media = s.media := rfl
@[simp] theorem onIo_mason (s : State) (f : Io → Io) : (s.onIo f).mason = s.mason := rfl
@[simp] theorem onIo_nvme (s : State) (f : Io → Io) : (s.onIo f).nvme = s.nvme := rfl
@[simp] theorem onIo_buf (s : State) (f : Io → Io) : (s.onIo f).buf = s.buf := rfl
@[simp] theorem onIo_hod (s : State) (f : Io → Io) : (s.onIo f).hod = s.hod := rfl
@[simp] theorem onIo_sec (s : State) (f : Io → Io) : (s.onIo f).sec = s.sec := rfl
@[simp] theorem onIo_nor (s : State) (f : Io → Io) : (s.onIo f).nor = s.nor := rfl
@[simp] theorem onIo_pwr (s : State) (f : Io → Io) : (s.onIo f).pwr = s.pwr := rfl
@[simp] theorem onIo_sys (s : State) (f : Io → Io) : (s.onIo f).sys = s.sys := rfl
@[simp] theorem onIo_free (s : State) (f : Io → Io) : (s.onIo f).free = s.free := rfl
@[simp] theorem onIo_pending (s : State) (f : Io → Io) : (s.onIo f).pending = s.pending := rfl

/-! ### set -/

@[simp] theorem set_io (s : State) (p : Nat) (g : RF) (v : Nat) : (s.set p g v).io = s.io.setFld p g v := onIo_io s _
@[simp] theorem set_link (s : State) (p : Nat) (g : RF) (v : Nat) : (s.set p g v).link = s.link := onIo_link s _
@[simp] theorem set_rc (s : State) (p : Nat) (g : RF) (v : Nat) : (s.set p g v).rc = s.rc := onIo_rc s _
@[simp] theorem set_seq (s : State) (p : Nat) (g : RF) (v : Nat) : (s.set p g v).seq = s.seq := onIo_seq s _
@[simp] theorem set_servo (s : State) (p : Nat) (g : RF) (v : Nat) : (s.set p g v).servo = s.servo := onIo_servo s _
@[simp] theorem set_spin (s : State) (p : Nat) (g : RF) (v : Nat) : (s.set p g v).spin = s.spin := onIo_spin s _
@[simp] theorem set_asc (s : State) (p : Nat) (g : RF) (v : Nat) : (s.set p g v).asc = s.asc := onIo_asc s _
@[simp] theorem set_media (s : State) (p : Nat) (g : RF) (v : Nat) : (s.set p g v).media = s.media := onIo_media s _
@[simp] theorem set_mason (s : State) (p : Nat) (g : RF) (v : Nat) : (s.set p g v).mason = s.mason := onIo_mason s _
@[simp] theorem set_nvme (s : State) (p : Nat) (g : RF) (v : Nat) : (s.set p g v).nvme = s.nvme := onIo_nvme s _
@[simp] theorem set_buf (s : State) (p : Nat) (g : RF) (v : Nat) : (s.set p g v).buf = s.buf := onIo_buf s _
@[simp] theorem set_hod (s : State) (p : Nat) (g : RF) (v : Nat) : (s.set p g v).hod = s.hod := onIo_hod s _
@[simp] theorem set_sec (s : State) (p : Nat) (g : RF) (v : Nat) : (s.set p g v).sec = s.sec := onIo_sec s _
@[simp] theorem set_nor (s : State) (p : Nat) (g : RF) (v : Nat) : (s.set p g v).nor = s.nor := onIo_nor s _
@[simp] theorem set_pwr (s : State) (p : Nat) (g : RF) (v : Nat) : (s.set p g v).pwr = s.pwr := onIo_pwr s _
@[simp] theorem set_sys (s : State) (p : Nat) (g : RF) (v : Nat) : (s.set p g v).sys = s.sys := onIo_sys s _
@[simp] theorem set_free (s : State) (p : Nat) (g : RF) (v : Nat) : (s.set p g v).free = s.free := onIo_free s _
@[simp] theorem set_pending (s : State) (p : Nat) (g : RF) (v : Nat) : (s.set p g v).pending = s.pending := onIo_pending s _

/-! ### setB -/

@[simp] theorem setB_io (s : State) (p : Nat) (g : RF) (b : Bool) : (s.setB p g b).io = s.io.setFlag p g b := onIo_io s _
@[simp] theorem setB_link (s : State) (p : Nat) (g : RF) (b : Bool) : (s.setB p g b).link = s.link := onIo_link s _
@[simp] theorem setB_rc (s : State) (p : Nat) (g : RF) (b : Bool) : (s.setB p g b).rc = s.rc := onIo_rc s _
@[simp] theorem setB_seq (s : State) (p : Nat) (g : RF) (b : Bool) : (s.setB p g b).seq = s.seq := onIo_seq s _
@[simp] theorem setB_servo (s : State) (p : Nat) (g : RF) (b : Bool) : (s.setB p g b).servo = s.servo := onIo_servo s _
@[simp] theorem setB_spin (s : State) (p : Nat) (g : RF) (b : Bool) : (s.setB p g b).spin = s.spin := onIo_spin s _
@[simp] theorem setB_asc (s : State) (p : Nat) (g : RF) (b : Bool) : (s.setB p g b).asc = s.asc := onIo_asc s _
@[simp] theorem setB_media (s : State) (p : Nat) (g : RF) (b : Bool) : (s.setB p g b).media = s.media := onIo_media s _
@[simp] theorem setB_mason (s : State) (p : Nat) (g : RF) (b : Bool) : (s.setB p g b).mason = s.mason := onIo_mason s _
@[simp] theorem setB_nvme (s : State) (p : Nat) (g : RF) (b : Bool) : (s.setB p g b).nvme = s.nvme := onIo_nvme s _
@[simp] theorem setB_buf (s : State) (p : Nat) (g : RF) (b : Bool) : (s.setB p g b).buf = s.buf := onIo_buf s _
@[simp] theorem setB_hod (s : State) (p : Nat) (g : RF) (b : Bool) : (s.setB p g b).hod = s.hod := onIo_hod s _
@[simp] theorem setB_sec (s : State) (p : Nat) (g : RF) (b : Bool) : (s.setB p g b).sec = s.sec := onIo_sec s _
@[simp] theorem setB_nor (s : State) (p : Nat) (g : RF) (b : Bool) : (s.setB p g b).nor = s.nor := onIo_nor s _
@[simp] theorem setB_pwr (s : State) (p : Nat) (g : RF) (b : Bool) : (s.setB p g b).pwr = s.pwr := onIo_pwr s _
@[simp] theorem setB_sys (s : State) (p : Nat) (g : RF) (b : Bool) : (s.setB p g b).sys = s.sys := onIo_sys s _
@[simp] theorem setB_free (s : State) (p : Nat) (g : RF) (b : Bool) : (s.setB p g b).free = s.free := onIo_free s _
@[simp] theorem setB_pending (s : State) (p : Nat) (g : RF) (b : Bool) : (s.setB p g b).pending = s.pending := onIo_pending s _

/-! ### bump -/

@[simp] theorem bump_io (s : State) (p : Nat) (g : RF) : (s.bump p g).io = s.io.bump p g := onIo_io s _
@[simp] theorem bump_link (s : State) (p : Nat) (g : RF) : (s.bump p g).link = s.link := onIo_link s _
@[simp] theorem bump_rc (s : State) (p : Nat) (g : RF) : (s.bump p g).rc = s.rc := onIo_rc s _
@[simp] theorem bump_seq (s : State) (p : Nat) (g : RF) : (s.bump p g).seq = s.seq := onIo_seq s _
@[simp] theorem bump_servo (s : State) (p : Nat) (g : RF) : (s.bump p g).servo = s.servo := onIo_servo s _
@[simp] theorem bump_spin (s : State) (p : Nat) (g : RF) : (s.bump p g).spin = s.spin := onIo_spin s _
@[simp] theorem bump_asc (s : State) (p : Nat) (g : RF) : (s.bump p g).asc = s.asc := onIo_asc s _
@[simp] theorem bump_media (s : State) (p : Nat) (g : RF) : (s.bump p g).media = s.media := onIo_media s _
@[simp] theorem bump_mason (s : State) (p : Nat) (g : RF) : (s.bump p g).mason = s.mason := onIo_mason s _
@[simp] theorem bump_nvme (s : State) (p : Nat) (g : RF) : (s.bump p g).nvme = s.nvme := onIo_nvme s _
@[simp] theorem bump_buf (s : State) (p : Nat) (g : RF) : (s.bump p g).buf = s.buf := onIo_buf s _
@[simp] theorem bump_hod (s : State) (p : Nat) (g : RF) : (s.bump p g).hod = s.hod := onIo_hod s _
@[simp] theorem bump_sec (s : State) (p : Nat) (g : RF) : (s.bump p g).sec = s.sec := onIo_sec s _
@[simp] theorem bump_nor (s : State) (p : Nat) (g : RF) : (s.bump p g).nor = s.nor := onIo_nor s _
@[simp] theorem bump_pwr (s : State) (p : Nat) (g : RF) : (s.bump p g).pwr = s.pwr := onIo_pwr s _
@[simp] theorem bump_sys (s : State) (p : Nat) (g : RF) : (s.bump p g).sys = s.sys := onIo_sys s _
@[simp] theorem bump_free (s : State) (p : Nat) (g : RF) : (s.bump p g).free = s.free := onIo_free s _
@[simp] theorem bump_pending (s : State) (p : Nat) (g : RF) : (s.bump p g).pending = s.pending := onIo_pending s _

/-! ### bumpN -/

@[simp] theorem bumpN_io (s : State) (p : Nat) (g : RF) (n : Nat) : (s.bumpN p g n).io = s.io.bumpN p g n := onIo_io s _
@[simp] theorem bumpN_link (s : State) (p : Nat) (g : RF) (n : Nat) : (s.bumpN p g n).link = s.link := onIo_link s _
@[simp] theorem bumpN_rc (s : State) (p : Nat) (g : RF) (n : Nat) : (s.bumpN p g n).rc = s.rc := onIo_rc s _
@[simp] theorem bumpN_seq (s : State) (p : Nat) (g : RF) (n : Nat) : (s.bumpN p g n).seq = s.seq := onIo_seq s _
@[simp] theorem bumpN_servo (s : State) (p : Nat) (g : RF) (n : Nat) : (s.bumpN p g n).servo = s.servo := onIo_servo s _
@[simp] theorem bumpN_spin (s : State) (p : Nat) (g : RF) (n : Nat) : (s.bumpN p g n).spin = s.spin := onIo_spin s _
@[simp] theorem bumpN_asc (s : State) (p : Nat) (g : RF) (n : Nat) : (s.bumpN p g n).asc = s.asc := onIo_asc s _
@[simp] theorem bumpN_media (s : State) (p : Nat) (g : RF) (n : Nat) : (s.bumpN p g n).media = s.media := onIo_media s _
@[simp] theorem bumpN_mason (s : State) (p : Nat) (g : RF) (n : Nat) : (s.bumpN p g n).mason = s.mason := onIo_mason s _
@[simp] theorem bumpN_nvme (s : State) (p : Nat) (g : RF) (n : Nat) : (s.bumpN p g n).nvme = s.nvme := onIo_nvme s _
@[simp] theorem bumpN_buf (s : State) (p : Nat) (g : RF) (n : Nat) : (s.bumpN p g n).buf = s.buf := onIo_buf s _
@[simp] theorem bumpN_hod (s : State) (p : Nat) (g : RF) (n : Nat) : (s.bumpN p g n).hod = s.hod := onIo_hod s _
@[simp] theorem bumpN_sec (s : State) (p : Nat) (g : RF) (n : Nat) : (s.bumpN p g n).sec = s.sec := onIo_sec s _
@[simp] theorem bumpN_nor (s : State) (p : Nat) (g : RF) (n : Nat) : (s.bumpN p g n).nor = s.nor := onIo_nor s _
@[simp] theorem bumpN_pwr (s : State) (p : Nat) (g : RF) (n : Nat) : (s.bumpN p g n).pwr = s.pwr := onIo_pwr s _
@[simp] theorem bumpN_sys (s : State) (p : Nat) (g : RF) (n : Nat) : (s.bumpN p g n).sys = s.sys := onIo_sys s _
@[simp] theorem bumpN_free (s : State) (p : Nat) (g : RF) (n : Nat) : (s.bumpN p g n).free = s.free := onIo_free s _
@[simp] theorem bumpN_pending (s : State) (p : Nat) (g : RF) (n : Nat) : (s.bumpN p g n).pending = s.pending := onIo_pending s _

/-! ### addTo -/

@[simp] theorem addTo_io (s : State) (p : Nat) (g : RF) (n : Nat) : (s.addTo p g n).io = s.io.addFld p g n := onIo_io s _
@[simp] theorem addTo_link (s : State) (p : Nat) (g : RF) (n : Nat) : (s.addTo p g n).link = s.link := onIo_link s _
@[simp] theorem addTo_rc (s : State) (p : Nat) (g : RF) (n : Nat) : (s.addTo p g n).rc = s.rc := onIo_rc s _
@[simp] theorem addTo_seq (s : State) (p : Nat) (g : RF) (n : Nat) : (s.addTo p g n).seq = s.seq := onIo_seq s _
@[simp] theorem addTo_servo (s : State) (p : Nat) (g : RF) (n : Nat) : (s.addTo p g n).servo = s.servo := onIo_servo s _
@[simp] theorem addTo_spin (s : State) (p : Nat) (g : RF) (n : Nat) : (s.addTo p g n).spin = s.spin := onIo_spin s _
@[simp] theorem addTo_asc (s : State) (p : Nat) (g : RF) (n : Nat) : (s.addTo p g n).asc = s.asc := onIo_asc s _
@[simp] theorem addTo_media (s : State) (p : Nat) (g : RF) (n : Nat) : (s.addTo p g n).media = s.media := onIo_media s _
@[simp] theorem addTo_mason (s : State) (p : Nat) (g : RF) (n : Nat) : (s.addTo p g n).mason = s.mason := onIo_mason s _
@[simp] theorem addTo_nvme (s : State) (p : Nat) (g : RF) (n : Nat) : (s.addTo p g n).nvme = s.nvme := onIo_nvme s _
@[simp] theorem addTo_buf (s : State) (p : Nat) (g : RF) (n : Nat) : (s.addTo p g n).buf = s.buf := onIo_buf s _
@[simp] theorem addTo_hod (s : State) (p : Nat) (g : RF) (n : Nat) : (s.addTo p g n).hod = s.hod := onIo_hod s _
@[simp] theorem addTo_sec (s : State) (p : Nat) (g : RF) (n : Nat) : (s.addTo p g n).sec = s.sec := onIo_sec s _
@[simp] theorem addTo_nor (s : State) (p : Nat) (g : RF) (n : Nat) : (s.addTo p g n).nor = s.nor := onIo_nor s _
@[simp] theorem addTo_pwr (s : State) (p : Nat) (g : RF) (n : Nat) : (s.addTo p g n).pwr = s.pwr := onIo_pwr s _
@[simp] theorem addTo_sys (s : State) (p : Nat) (g : RF) (n : Nat) : (s.addTo p g n).sys = s.sys := onIo_sys s _
@[simp] theorem addTo_free (s : State) (p : Nat) (g : RF) (n : Nat) : (s.addTo p g n).free = s.free := onIo_free s _
@[simp] theorem addTo_pending (s : State) (p : Nat) (g : RF) (n : Nat) : (s.addTo p g n).pending = s.pending := onIo_pending s _

/-! ### post -/

@[simp] theorem post_io (s : State) (n item : Nat) : (s.post n item).io = s.io.fifoPost n item := onIo_io s _
@[simp] theorem post_link (s : State) (n item : Nat) : (s.post n item).link = s.link := onIo_link s _
@[simp] theorem post_rc (s : State) (n item : Nat) : (s.post n item).rc = s.rc := onIo_rc s _
@[simp] theorem post_seq (s : State) (n item : Nat) : (s.post n item).seq = s.seq := onIo_seq s _
@[simp] theorem post_servo (s : State) (n item : Nat) : (s.post n item).servo = s.servo := onIo_servo s _
@[simp] theorem post_spin (s : State) (n item : Nat) : (s.post n item).spin = s.spin := onIo_spin s _
@[simp] theorem post_asc (s : State) (n item : Nat) : (s.post n item).asc = s.asc := onIo_asc s _
@[simp] theorem post_media (s : State) (n item : Nat) : (s.post n item).media = s.media := onIo_media s _
@[simp] theorem post_mason (s : State) (n item : Nat) : (s.post n item).mason = s.mason := onIo_mason s _
@[simp] theorem post_nvme (s : State) (n item : Nat) : (s.post n item).nvme = s.nvme := onIo_nvme s _
@[simp] theorem post_buf (s : State) (n item : Nat) : (s.post n item).buf = s.buf := onIo_buf s _
@[simp] theorem post_hod (s : State) (n item : Nat) : (s.post n item).hod = s.hod := onIo_hod s _
@[simp] theorem post_sec (s : State) (n item : Nat) : (s.post n item).sec = s.sec := onIo_sec s _
@[simp] theorem post_nor (s : State) (n item : Nat) : (s.post n item).nor = s.nor := onIo_nor s _
@[simp] theorem post_pwr (s : State) (n item : Nat) : (s.post n item).pwr = s.pwr := onIo_pwr s _
@[simp] theorem post_sys (s : State) (n item : Nat) : (s.post n item).sys = s.sys := onIo_sys s _
@[simp] theorem post_free (s : State) (n item : Nat) : (s.post n item).free = s.free := onIo_free s _
@[simp] theorem post_pending (s : State) (n item : Nat) : (s.post n item).pending = s.pending := onIo_pending s _

/-! ### lockedWrite -/

@[simp] theorem lockedWrite_io (s : State) (pg : Nat) : (s.lockedWrite pg).io = s.io.setFlag pg HDR.PG_STAT.LOCKED_WRITE true := onIo_io s _
@[simp] theorem lockedWrite_link (s : State) (pg : Nat) : (s.lockedWrite pg).link = s.link := onIo_link s _
@[simp] theorem lockedWrite_rc (s : State) (pg : Nat) : (s.lockedWrite pg).rc = s.rc := onIo_rc s _
@[simp] theorem lockedWrite_seq (s : State) (pg : Nat) : (s.lockedWrite pg).seq = s.seq := onIo_seq s _
@[simp] theorem lockedWrite_servo (s : State) (pg : Nat) : (s.lockedWrite pg).servo = s.servo := onIo_servo s _
@[simp] theorem lockedWrite_spin (s : State) (pg : Nat) : (s.lockedWrite pg).spin = s.spin := onIo_spin s _
@[simp] theorem lockedWrite_asc (s : State) (pg : Nat) : (s.lockedWrite pg).asc = s.asc := onIo_asc s _
@[simp] theorem lockedWrite_media (s : State) (pg : Nat) : (s.lockedWrite pg).media = s.media := onIo_media s _
@[simp] theorem lockedWrite_mason (s : State) (pg : Nat) : (s.lockedWrite pg).mason = s.mason := onIo_mason s _
@[simp] theorem lockedWrite_nvme (s : State) (pg : Nat) : (s.lockedWrite pg).nvme = s.nvme := onIo_nvme s _
@[simp] theorem lockedWrite_buf (s : State) (pg : Nat) : (s.lockedWrite pg).buf = s.buf := onIo_buf s _
@[simp] theorem lockedWrite_hod (s : State) (pg : Nat) : (s.lockedWrite pg).hod = s.hod := onIo_hod s _
@[simp] theorem lockedWrite_sec (s : State) (pg : Nat) : (s.lockedWrite pg).sec = s.sec := onIo_sec s _
@[simp] theorem lockedWrite_nor (s : State) (pg : Nat) : (s.lockedWrite pg).nor = s.nor := onIo_nor s _
@[simp] theorem lockedWrite_pwr (s : State) (pg : Nat) : (s.lockedWrite pg).pwr = s.pwr := onIo_pwr s _
@[simp] theorem lockedWrite_sys (s : State) (pg : Nat) : (s.lockedWrite pg).sys = s.sys := onIo_sys s _
@[simp] theorem lockedWrite_free (s : State) (pg : Nat) : (s.lockedWrite pg).free = s.free := onIo_free s _
@[simp] theorem lockedWrite_pending (s : State) (pg : Nat) : (s.lockedWrite pg).pending = s.pending := onIo_pending s _

/-! ### gave -/

@[simp] theorem gave_link (s : State) (acc : Accessor) (v : Nat) : (s.gave acc v).link = s.link := onIo_link s _
@[simp] theorem gave_rc (s : State) (acc : Accessor) (v : Nat) : (s.gave acc v).rc = s.rc := onIo_rc s _
@[simp] theorem gave_seq (s : State) (acc : Accessor) (v : Nat) : (s.gave acc v).seq = s.seq := onIo_seq s _
@[simp] theorem gave_servo (s : State) (acc : Accessor) (v : Nat) : (s.gave acc v).servo = s.servo := onIo_servo s _
@[simp] theorem gave_spin (s : State) (acc : Accessor) (v : Nat) : (s.gave acc v).spin = s.spin := onIo_spin s _
@[simp] theorem gave_asc (s : State) (acc : Accessor) (v : Nat) : (s.gave acc v).asc = s.asc := onIo_asc s _
@[simp] theorem gave_media (s : State) (acc : Accessor) (v : Nat) : (s.gave acc v).media = s.media := onIo_media s _
@[simp] theorem gave_mason (s : State) (acc : Accessor) (v : Nat) : (s.gave acc v).mason = s.mason := onIo_mason s _
@[simp] theorem gave_nvme (s : State) (acc : Accessor) (v : Nat) : (s.gave acc v).nvme = s.nvme := onIo_nvme s _
@[simp] theorem gave_buf (s : State) (acc : Accessor) (v : Nat) : (s.gave acc v).buf = s.buf := onIo_buf s _
@[simp] theorem gave_hod (s : State) (acc : Accessor) (v : Nat) : (s.gave acc v).hod = s.hod := onIo_hod s _
@[simp] theorem gave_sec (s : State) (acc : Accessor) (v : Nat) : (s.gave acc v).sec = s.sec := onIo_sec s _
@[simp] theorem gave_nor (s : State) (acc : Accessor) (v : Nat) : (s.gave acc v).nor = s.nor := onIo_nor s _
@[simp] theorem gave_pwr (s : State) (acc : Accessor) (v : Nat) : (s.gave acc v).pwr = s.pwr := onIo_pwr s _
@[simp] theorem gave_sys (s : State) (acc : Accessor) (v : Nat) : (s.gave acc v).sys = s.sys := onIo_sys s _
@[simp] theorem gave_free (s : State) (acc : Accessor) (v : Nat) : (s.gave acc v).free = s.free := onIo_free s _
@[simp] theorem gave_pending (s : State) (acc : Accessor) (v : Nat) : (s.gave acc v).pending = s.pending := onIo_pending s _

/-! ### onFifo -/

@[simp] theorem onFifo_io (s : State) (n : Nat) (f : Fifo → Fifo) : (s.onFifo n f).io = s.io.setFifo n (f (s.io.fifo n)) := onIo_io s _
@[simp] theorem onFifo_link (s : State) (n : Nat) (f : Fifo → Fifo) : (s.onFifo n f).link = s.link := onIo_link s _
@[simp] theorem onFifo_rc (s : State) (n : Nat) (f : Fifo → Fifo) : (s.onFifo n f).rc = s.rc := onIo_rc s _
@[simp] theorem onFifo_seq (s : State) (n : Nat) (f : Fifo → Fifo) : (s.onFifo n f).seq = s.seq := onIo_seq s _
@[simp] theorem onFifo_servo (s : State) (n : Nat) (f : Fifo → Fifo) : (s.onFifo n f).servo = s.servo := onIo_servo s _
@[simp] theorem onFifo_spin (s : State) (n : Nat) (f : Fifo → Fifo) : (s.onFifo n f).spin = s.spin := onIo_spin s _
@[simp] theorem onFifo_asc (s : State) (n : Nat) (f : Fifo → Fifo) : (s.onFifo n f).asc = s.asc := onIo_asc s _
@[simp] theorem onFifo_media (s : State) (n : Nat) (f : Fifo → Fifo) : (s.onFifo n f).media = s.media := onIo_media s _
@[simp] theorem onFifo_mason (s : State) (n : Nat) (f : Fifo → Fifo) : (s.onFifo n f).mason = s.mason := onIo_mason s _
@[simp] theorem onFifo_nvme (s : State) (n : Nat) (f : Fifo → Fifo) : (s.onFifo n f).nvme = s.nvme := onIo_nvme s _
@[simp] theorem onFifo_buf (s : State) (n : Nat) (f : Fifo → Fifo) : (s.onFifo n f).buf = s.buf := onIo_buf s _
@[simp] theorem onFifo_hod (s : State) (n : Nat) (f : Fifo → Fifo) : (s.onFifo n f).hod = s.hod := onIo_hod s _
@[simp] theorem onFifo_sec (s : State) (n : Nat) (f : Fifo → Fifo) : (s.onFifo n f).sec = s.sec := onIo_sec s _
@[simp] theorem onFifo_nor (s : State) (n : Nat) (f : Fifo → Fifo) : (s.onFifo n f).nor = s.nor := onIo_nor s _
@[simp] theorem onFifo_pwr (s : State) (n : Nat) (f : Fifo → Fifo) : (s.onFifo n f).pwr = s.pwr := onIo_pwr s _
@[simp] theorem onFifo_sys (s : State) (n : Nat) (f : Fifo → Fifo) : (s.onFifo n f).sys = s.sys := onIo_sys s _
@[simp] theorem onFifo_free (s : State) (n : Nat) (f : Fifo → Fifo) : (s.onFifo n f).free = s.free := onIo_free s _
@[simp] theorem onFifo_pending (s : State) (n : Nat) (f : Fifo → Fifo) : (s.onFifo n f).pending = s.pending := onIo_pending s _

/-! ### drawn -/

@[simp] theorem drawn_io (s : State) : (s.drawn).io = s.io := rfl
@[simp] theorem drawn_link (s : State) : (s.drawn).link = s.link := rfl
@[simp] theorem drawn_rc (s : State) : (s.drawn).rc = s.rc := rfl
@[simp] theorem drawn_seq (s : State) : (s.drawn).seq = s.seq := rfl
@[simp] theorem drawn_servo (s : State) : (s.drawn).servo = s.servo := rfl
@[simp] theorem drawn_spin (s : State) : (s.drawn).spin = s.spin := rfl
@[simp] theorem drawn_asc (s : State) : (s.drawn).asc = s.asc := rfl
@[simp] theorem drawn_media (s : State) : (s.drawn).media = s.media := rfl
@[simp] theorem drawn_mason (s : State) : (s.drawn).mason = s.mason := rfl
@[simp] theorem drawn_nvme (s : State) : (s.drawn).nvme = s.nvme := rfl
@[simp] theorem drawn_buf (s : State) : (s.drawn).buf = s.buf := rfl
@[simp] theorem drawn_hod (s : State) : (s.drawn).hod = s.hod := rfl
@[simp] theorem drawn_sec (s : State) : (s.drawn).sec = s.sec := rfl
@[simp] theorem drawn_nor (s : State) : (s.drawn).nor = s.nor := rfl
@[simp] theorem drawn_pwr (s : State) : (s.drawn).pwr = s.pwr := rfl
@[simp] theorem drawn_sys (s : State) : (s.drawn).sys = s.sys := rfl
@[simp] theorem drawn_free (s : State) : (s.drawn).free = s.free + 1 := rfl
@[simp] theorem drawn_pending (s : State) : (s.drawn).pending = s.pending := rfl

/-! ### onBuf -/

@[simp] theorem onBuf_io (s : State) (f : BufSt → BufSt) : (s.onBuf f).io = s.io := rfl
@[simp] theorem onBuf_link (s : State) (f : BufSt → BufSt) : (s.onBuf f).link = s.link := rfl
@[simp] theorem onBuf_rc (s : State) (f : BufSt → BufSt) : (s.onBuf f).rc = s.rc := rfl
@[simp] theorem onBuf_seq (s : State) (f : BufSt → BufSt) : (s.onBuf f).seq = s.seq := rfl
@[simp] theorem onBuf_servo (s : State) (f : BufSt → BufSt) : (s.onBuf f).servo = s.servo := rfl
@[simp] theorem onBuf_spin (s : State) (f : BufSt → BufSt) : (s.onBuf f).spin = s.spin := rfl
@[simp] theorem onBuf_asc (s : State) (f : BufSt → BufSt) : (s.onBuf f).asc = s.asc := rfl
@[simp] theorem onBuf_media (s : State) (f : BufSt → BufSt) : (s.onBuf f).media = s.media := rfl
@[simp] theorem onBuf_mason (s : State) (f : BufSt → BufSt) : (s.onBuf f).mason = s.mason := rfl
@[simp] theorem onBuf_nvme (s : State) (f : BufSt → BufSt) : (s.onBuf f).nvme = s.nvme := rfl
@[simp] theorem onBuf_buf (s : State) (f : BufSt → BufSt) : (s.onBuf f).buf = f s.buf := rfl
@[simp] theorem onBuf_hod (s : State) (f : BufSt → BufSt) : (s.onBuf f).hod = s.hod := rfl
@[simp] theorem onBuf_sec (s : State) (f : BufSt → BufSt) : (s.onBuf f).sec = s.sec := rfl
@[simp] theorem onBuf_nor (s : State) (f : BufSt → BufSt) : (s.onBuf f).nor = s.nor := rfl
@[simp] theorem onBuf_pwr (s : State) (f : BufSt → BufSt) : (s.onBuf f).pwr = s.pwr := rfl
@[simp] theorem onBuf_sys (s : State) (f : BufSt → BufSt) : (s.onBuf f).sys = s.sys := rfl
@[simp] theorem onBuf_free (s : State) (f : BufSt → BufSt) : (s.onBuf f).free = s.free := rfl
@[simp] theorem onBuf_pending (s : State) (f : BufSt → BufSt) : (s.onBuf f).pending = s.pending := rfl

/-! ### setDramByte -/

@[simp] theorem setDramByte_io (s : State) (a : Nat) (b : Byte) : (s.setDramByte a b).io = s.io := rfl
@[simp] theorem setDramByte_link (s : State) (a : Nat) (b : Byte) : (s.setDramByte a b).link = s.link := rfl
@[simp] theorem setDramByte_rc (s : State) (a : Nat) (b : Byte) : (s.setDramByte a b).rc = s.rc := rfl
@[simp] theorem setDramByte_seq (s : State) (a : Nat) (b : Byte) : (s.setDramByte a b).seq = s.seq := rfl
@[simp] theorem setDramByte_servo (s : State) (a : Nat) (b : Byte) : (s.setDramByte a b).servo = s.servo := rfl
@[simp] theorem setDramByte_spin (s : State) (a : Nat) (b : Byte) : (s.setDramByte a b).spin = s.spin := rfl
@[simp] theorem setDramByte_asc (s : State) (a : Nat) (b : Byte) : (s.setDramByte a b).asc = s.asc := rfl
@[simp] theorem setDramByte_media (s : State) (a : Nat) (b : Byte) : (s.setDramByte a b).media = s.media := rfl
@[simp] theorem setDramByte_mason (s : State) (a : Nat) (b : Byte) : (s.setDramByte a b).mason = s.mason := rfl
@[simp] theorem setDramByte_nvme (s : State) (a : Nat) (b : Byte) : (s.setDramByte a b).nvme = s.nvme := rfl
@[simp] theorem setDramByte_hod (s : State) (a : Nat) (b : Byte) : (s.setDramByte a b).hod = s.hod := rfl
@[simp] theorem setDramByte_sec (s : State) (a : Nat) (b : Byte) : (s.setDramByte a b).sec = s.sec := rfl
@[simp] theorem setDramByte_nor (s : State) (a : Nat) (b : Byte) : (s.setDramByte a b).nor = s.nor := rfl
@[simp] theorem setDramByte_pwr (s : State) (a : Nat) (b : Byte) : (s.setDramByte a b).pwr = s.pwr := rfl
@[simp] theorem setDramByte_sys (s : State) (a : Nat) (b : Byte) : (s.setDramByte a b).sys = s.sys := rfl
@[simp] theorem setDramByte_free (s : State) (a : Nat) (b : Byte) : (s.setDramByte a b).free = s.free := rfl
@[simp] theorem setDramByte_pending (s : State) (a : Nat) (b : Byte) : (s.setDramByte a b).pending = s.pending := rfl

/-! ### onHod -/

@[simp] theorem onHod_io (s : State) (f : HodSt → HodSt) : (s.onHod f).io = s.io := rfl
@[simp] theorem onHod_link (s : State) (f : HodSt → HodSt) : (s.onHod f).link = s.link := rfl
@[simp] theorem onHod_rc (s : State) (f : HodSt → HodSt) : (s.onHod f).rc = s.rc := rfl
@[simp] theorem onHod_seq (s : State) (f : HodSt → HodSt) : (s.onHod f).seq = s.seq := rfl
@[simp] theorem onHod_servo (s : State) (f : HodSt → HodSt) : (s.onHod f).servo = s.servo := rfl
@[simp] theorem onHod_spin (s : State) (f : HodSt → HodSt) : (s.onHod f).spin = s.spin := rfl
@[simp] theorem onHod_asc (s : State) (f : HodSt → HodSt) : (s.onHod f).asc = s.asc := rfl
@[simp] theorem onHod_media (s : State) (f : HodSt → HodSt) : (s.onHod f).media = s.media := rfl
@[simp] theorem onHod_mason (s : State) (f : HodSt → HodSt) : (s.onHod f).mason = s.mason := rfl
@[simp] theorem onHod_nvme (s : State) (f : HodSt → HodSt) : (s.onHod f).nvme = s.nvme := rfl
@[simp] theorem onHod_buf (s : State) (f : HodSt → HodSt) : (s.onHod f).buf = s.buf := rfl
@[simp] theorem onHod_hod (s : State) (f : HodSt → HodSt) : (s.onHod f).hod = f s.hod := rfl
@[simp] theorem onHod_sec (s : State) (f : HodSt → HodSt) : (s.onHod f).sec = s.sec := rfl
@[simp] theorem onHod_nor (s : State) (f : HodSt → HodSt) : (s.onHod f).nor = s.nor := rfl
@[simp] theorem onHod_pwr (s : State) (f : HodSt → HodSt) : (s.onHod f).pwr = s.pwr := rfl
@[simp] theorem onHod_sys (s : State) (f : HodSt → HodSt) : (s.onHod f).sys = s.sys := rfl
@[simp] theorem onHod_free (s : State) (f : HodSt → HodSt) : (s.onHod f).free = s.free := rfl
@[simp] theorem onHod_pending (s : State) (f : HodSt → HodSt) : (s.onHod f).pending = s.pending := rfl

/-! ### onSec -/

@[simp] theorem onSec_io (s : State) (f : SecSt → SecSt) : (s.onSec f).io = s.io := rfl
@[simp] theorem onSec_link (s : State) (f : SecSt → SecSt) : (s.onSec f).link = s.link := rfl
@[simp] theorem onSec_rc (s : State) (f : SecSt → SecSt) : (s.onSec f).rc = s.rc := rfl
@[simp] theorem onSec_seq (s : State) (f : SecSt → SecSt) : (s.onSec f).seq = s.seq := rfl
@[simp] theorem onSec_servo (s : State) (f : SecSt → SecSt) : (s.onSec f).servo = s.servo := rfl
@[simp] theorem onSec_spin (s : State) (f : SecSt → SecSt) : (s.onSec f).spin = s.spin := rfl
@[simp] theorem onSec_asc (s : State) (f : SecSt → SecSt) : (s.onSec f).asc = s.asc := rfl
@[simp] theorem onSec_media (s : State) (f : SecSt → SecSt) : (s.onSec f).media = s.media := rfl
@[simp] theorem onSec_mason (s : State) (f : SecSt → SecSt) : (s.onSec f).mason = s.mason := rfl
@[simp] theorem onSec_nvme (s : State) (f : SecSt → SecSt) : (s.onSec f).nvme = s.nvme := rfl
@[simp] theorem onSec_buf (s : State) (f : SecSt → SecSt) : (s.onSec f).buf = s.buf := rfl
@[simp] theorem onSec_hod (s : State) (f : SecSt → SecSt) : (s.onSec f).hod = s.hod := rfl
@[simp] theorem onSec_sec (s : State) (f : SecSt → SecSt) : (s.onSec f).sec = f s.sec := rfl
@[simp] theorem onSec_nor (s : State) (f : SecSt → SecSt) : (s.onSec f).nor = s.nor := rfl
@[simp] theorem onSec_pwr (s : State) (f : SecSt → SecSt) : (s.onSec f).pwr = s.pwr := rfl
@[simp] theorem onSec_sys (s : State) (f : SecSt → SecSt) : (s.onSec f).sys = s.sys := rfl
@[simp] theorem onSec_free (s : State) (f : SecSt → SecSt) : (s.onSec f).free = s.free := rfl
@[simp] theorem onSec_pending (s : State) (f : SecSt → SecSt) : (s.onSec f).pending = s.pending := rfl

/-! ### onNor -/

@[simp] theorem onNor_io (s : State) (f : NorSt → NorSt) : (s.onNor f).io = s.io := rfl
@[simp] theorem onNor_link (s : State) (f : NorSt → NorSt) : (s.onNor f).link = s.link := rfl
@[simp] theorem onNor_rc (s : State) (f : NorSt → NorSt) : (s.onNor f).rc = s.rc := rfl
@[simp] theorem onNor_seq (s : State) (f : NorSt → NorSt) : (s.onNor f).seq = s.seq := rfl
@[simp] theorem onNor_servo (s : State) (f : NorSt → NorSt) : (s.onNor f).servo = s.servo := rfl
@[simp] theorem onNor_spin (s : State) (f : NorSt → NorSt) : (s.onNor f).spin = s.spin := rfl
@[simp] theorem onNor_asc (s : State) (f : NorSt → NorSt) : (s.onNor f).asc = s.asc := rfl
@[simp] theorem onNor_media (s : State) (f : NorSt → NorSt) : (s.onNor f).media = s.media := rfl
@[simp] theorem onNor_mason (s : State) (f : NorSt → NorSt) : (s.onNor f).mason = s.mason := rfl
@[simp] theorem onNor_nvme (s : State) (f : NorSt → NorSt) : (s.onNor f).nvme = s.nvme := rfl
@[simp] theorem onNor_buf (s : State) (f : NorSt → NorSt) : (s.onNor f).buf = s.buf := rfl
@[simp] theorem onNor_hod (s : State) (f : NorSt → NorSt) : (s.onNor f).hod = s.hod := rfl
@[simp] theorem onNor_sec (s : State) (f : NorSt → NorSt) : (s.onNor f).sec = s.sec := rfl
@[simp] theorem onNor_nor (s : State) (f : NorSt → NorSt) : (s.onNor f).nor = f s.nor := rfl
@[simp] theorem onNor_pwr (s : State) (f : NorSt → NorSt) : (s.onNor f).pwr = s.pwr := rfl
@[simp] theorem onNor_sys (s : State) (f : NorSt → NorSt) : (s.onNor f).sys = s.sys := rfl
@[simp] theorem onNor_free (s : State) (f : NorSt → NorSt) : (s.onNor f).free = s.free := rfl
@[simp] theorem onNor_pending (s : State) (f : NorSt → NorSt) : (s.onNor f).pending = s.pending := rfl

/-! ### onNvme -/

@[simp] theorem onNvme_io (s : State) (f : NvmeSt → NvmeSt) : (s.onNvme f).io = s.io := rfl
@[simp] theorem onNvme_link (s : State) (f : NvmeSt → NvmeSt) : (s.onNvme f).link = s.link := rfl
@[simp] theorem onNvme_rc (s : State) (f : NvmeSt → NvmeSt) : (s.onNvme f).rc = s.rc := rfl
@[simp] theorem onNvme_seq (s : State) (f : NvmeSt → NvmeSt) : (s.onNvme f).seq = s.seq := rfl
@[simp] theorem onNvme_servo (s : State) (f : NvmeSt → NvmeSt) : (s.onNvme f).servo = s.servo := rfl
@[simp] theorem onNvme_spin (s : State) (f : NvmeSt → NvmeSt) : (s.onNvme f).spin = s.spin := rfl
@[simp] theorem onNvme_asc (s : State) (f : NvmeSt → NvmeSt) : (s.onNvme f).asc = s.asc := rfl
@[simp] theorem onNvme_media (s : State) (f : NvmeSt → NvmeSt) : (s.onNvme f).media = s.media := rfl
@[simp] theorem onNvme_mason (s : State) (f : NvmeSt → NvmeSt) : (s.onNvme f).mason = s.mason := rfl
@[simp] theorem onNvme_nvme (s : State) (f : NvmeSt → NvmeSt) : (s.onNvme f).nvme = f s.nvme := rfl
@[simp] theorem onNvme_buf (s : State) (f : NvmeSt → NvmeSt) : (s.onNvme f).buf = s.buf := rfl
@[simp] theorem onNvme_hod (s : State) (f : NvmeSt → NvmeSt) : (s.onNvme f).hod = s.hod := rfl
@[simp] theorem onNvme_sec (s : State) (f : NvmeSt → NvmeSt) : (s.onNvme f).sec = s.sec := rfl
@[simp] theorem onNvme_nor (s : State) (f : NvmeSt → NvmeSt) : (s.onNvme f).nor = s.nor := rfl
@[simp] theorem onNvme_pwr (s : State) (f : NvmeSt → NvmeSt) : (s.onNvme f).pwr = s.pwr := rfl
@[simp] theorem onNvme_sys (s : State) (f : NvmeSt → NvmeSt) : (s.onNvme f).sys = s.sys := rfl
@[simp] theorem onNvme_free (s : State) (f : NvmeSt → NvmeSt) : (s.onNvme f).free = s.free := rfl
@[simp] theorem onNvme_pending (s : State) (f : NvmeSt → NvmeSt) : (s.onNvme f).pending = s.pending := rfl

/-! ### onMason -/

@[simp] theorem onMason_io (s : State) (f : MasonSt → MasonSt) : (s.onMason f).io = s.io := rfl
@[simp] theorem onMason_link (s : State) (f : MasonSt → MasonSt) : (s.onMason f).link = s.link := rfl
@[simp] theorem onMason_rc (s : State) (f : MasonSt → MasonSt) : (s.onMason f).rc = s.rc := rfl
@[simp] theorem onMason_seq (s : State) (f : MasonSt → MasonSt) : (s.onMason f).seq = s.seq := rfl
@[simp] theorem onMason_servo (s : State) (f : MasonSt → MasonSt) : (s.onMason f).servo = s.servo := rfl
@[simp] theorem onMason_spin (s : State) (f : MasonSt → MasonSt) : (s.onMason f).spin = s.spin := rfl
@[simp] theorem onMason_asc (s : State) (f : MasonSt → MasonSt) : (s.onMason f).asc = s.asc := rfl
@[simp] theorem onMason_media (s : State) (f : MasonSt → MasonSt) : (s.onMason f).media = s.media := rfl
@[simp] theorem onMason_mason (s : State) (f : MasonSt → MasonSt) : (s.onMason f).mason = f s.mason := rfl
@[simp] theorem onMason_nvme (s : State) (f : MasonSt → MasonSt) : (s.onMason f).nvme = s.nvme := rfl
@[simp] theorem onMason_buf (s : State) (f : MasonSt → MasonSt) : (s.onMason f).buf = s.buf := rfl
@[simp] theorem onMason_hod (s : State) (f : MasonSt → MasonSt) : (s.onMason f).hod = s.hod := rfl
@[simp] theorem onMason_sec (s : State) (f : MasonSt → MasonSt) : (s.onMason f).sec = s.sec := rfl
@[simp] theorem onMason_nor (s : State) (f : MasonSt → MasonSt) : (s.onMason f).nor = s.nor := rfl
@[simp] theorem onMason_pwr (s : State) (f : MasonSt → MasonSt) : (s.onMason f).pwr = s.pwr := rfl
@[simp] theorem onMason_sys (s : State) (f : MasonSt → MasonSt) : (s.onMason f).sys = s.sys := rfl
@[simp] theorem onMason_free (s : State) (f : MasonSt → MasonSt) : (s.onMason f).free = s.free := rfl
@[simp] theorem onMason_pending (s : State) (f : MasonSt → MasonSt) : (s.onMason f).pending = s.pending := rfl

/-! ### onPwr -/

@[simp] theorem onPwr_io (s : State) (f : PwrSt → PwrSt) : (s.onPwr f).io = s.io := rfl
@[simp] theorem onPwr_link (s : State) (f : PwrSt → PwrSt) : (s.onPwr f).link = s.link := rfl
@[simp] theorem onPwr_rc (s : State) (f : PwrSt → PwrSt) : (s.onPwr f).rc = s.rc := rfl
@[simp] theorem onPwr_seq (s : State) (f : PwrSt → PwrSt) : (s.onPwr f).seq = s.seq := rfl
@[simp] theorem onPwr_servo (s : State) (f : PwrSt → PwrSt) : (s.onPwr f).servo = s.servo := rfl
@[simp] theorem onPwr_spin (s : State) (f : PwrSt → PwrSt) : (s.onPwr f).spin = s.spin := rfl
@[simp] theorem onPwr_asc (s : State) (f : PwrSt → PwrSt) : (s.onPwr f).asc = s.asc := rfl
@[simp] theorem onPwr_media (s : State) (f : PwrSt → PwrSt) : (s.onPwr f).media = s.media := rfl
@[simp] theorem onPwr_mason (s : State) (f : PwrSt → PwrSt) : (s.onPwr f).mason = s.mason := rfl
@[simp] theorem onPwr_nvme (s : State) (f : PwrSt → PwrSt) : (s.onPwr f).nvme = s.nvme := rfl
@[simp] theorem onPwr_buf (s : State) (f : PwrSt → PwrSt) : (s.onPwr f).buf = s.buf := rfl
@[simp] theorem onPwr_hod (s : State) (f : PwrSt → PwrSt) : (s.onPwr f).hod = s.hod := rfl
@[simp] theorem onPwr_sec (s : State) (f : PwrSt → PwrSt) : (s.onPwr f).sec = s.sec := rfl
@[simp] theorem onPwr_nor (s : State) (f : PwrSt → PwrSt) : (s.onPwr f).nor = s.nor := rfl
@[simp] theorem onPwr_pwr (s : State) (f : PwrSt → PwrSt) : (s.onPwr f).pwr = f s.pwr := rfl
@[simp] theorem onPwr_sys (s : State) (f : PwrSt → PwrSt) : (s.onPwr f).sys = s.sys := rfl
@[simp] theorem onPwr_free (s : State) (f : PwrSt → PwrSt) : (s.onPwr f).free = s.free := rfl
@[simp] theorem onPwr_pending (s : State) (f : PwrSt → PwrSt) : (s.onPwr f).pending = s.pending := rfl

/-! ### onSys -/

@[simp] theorem onSys_io (s : State) (f : SysSt → SysSt) : (s.onSys f).io = s.io := rfl
@[simp] theorem onSys_link (s : State) (f : SysSt → SysSt) : (s.onSys f).link = s.link := rfl
@[simp] theorem onSys_rc (s : State) (f : SysSt → SysSt) : (s.onSys f).rc = s.rc := rfl
@[simp] theorem onSys_seq (s : State) (f : SysSt → SysSt) : (s.onSys f).seq = s.seq := rfl
@[simp] theorem onSys_servo (s : State) (f : SysSt → SysSt) : (s.onSys f).servo = s.servo := rfl
@[simp] theorem onSys_spin (s : State) (f : SysSt → SysSt) : (s.onSys f).spin = s.spin := rfl
@[simp] theorem onSys_asc (s : State) (f : SysSt → SysSt) : (s.onSys f).asc = s.asc := rfl
@[simp] theorem onSys_media (s : State) (f : SysSt → SysSt) : (s.onSys f).media = s.media := rfl
@[simp] theorem onSys_mason (s : State) (f : SysSt → SysSt) : (s.onSys f).mason = s.mason := rfl
@[simp] theorem onSys_nvme (s : State) (f : SysSt → SysSt) : (s.onSys f).nvme = s.nvme := rfl
@[simp] theorem onSys_buf (s : State) (f : SysSt → SysSt) : (s.onSys f).buf = s.buf := rfl
@[simp] theorem onSys_hod (s : State) (f : SysSt → SysSt) : (s.onSys f).hod = s.hod := rfl
@[simp] theorem onSys_sec (s : State) (f : SysSt → SysSt) : (s.onSys f).sec = s.sec := rfl
@[simp] theorem onSys_nor (s : State) (f : SysSt → SysSt) : (s.onSys f).nor = s.nor := rfl
@[simp] theorem onSys_pwr (s : State) (f : SysSt → SysSt) : (s.onSys f).pwr = s.pwr := rfl
@[simp] theorem onSys_sys (s : State) (f : SysSt → SysSt) : (s.onSys f).sys = f s.sys := rfl
@[simp] theorem onSys_free (s : State) (f : SysSt → SysSt) : (s.onSys f).free = s.free := rfl
@[simp] theorem onSys_pending (s : State) (f : SysSt → SysSt) : (s.onSys f).pending = s.pending := rfl

/-! ### onAsc -/

@[simp] theorem onAsc_io (s : State) (f : AscSt → AscSt) : (s.onAsc f).io = s.io := rfl
@[simp] theorem onAsc_link (s : State) (f : AscSt → AscSt) : (s.onAsc f).link = s.link := rfl
@[simp] theorem onAsc_rc (s : State) (f : AscSt → AscSt) : (s.onAsc f).rc = s.rc := rfl
@[simp] theorem onAsc_seq (s : State) (f : AscSt → AscSt) : (s.onAsc f).seq = s.seq := rfl
@[simp] theorem onAsc_servo (s : State) (f : AscSt → AscSt) : (s.onAsc f).servo = s.servo := rfl
@[simp] theorem onAsc_spin (s : State) (f : AscSt → AscSt) : (s.onAsc f).spin = s.spin := rfl
@[simp] theorem onAsc_asc (s : State) (f : AscSt → AscSt) : (s.onAsc f).asc = f s.asc := rfl
@[simp] theorem onAsc_media (s : State) (f : AscSt → AscSt) : (s.onAsc f).media = s.media := rfl
@[simp] theorem onAsc_mason (s : State) (f : AscSt → AscSt) : (s.onAsc f).mason = s.mason := rfl
@[simp] theorem onAsc_nvme (s : State) (f : AscSt → AscSt) : (s.onAsc f).nvme = s.nvme := rfl
@[simp] theorem onAsc_buf (s : State) (f : AscSt → AscSt) : (s.onAsc f).buf = s.buf := rfl
@[simp] theorem onAsc_hod (s : State) (f : AscSt → AscSt) : (s.onAsc f).hod = s.hod := rfl
@[simp] theorem onAsc_sec (s : State) (f : AscSt → AscSt) : (s.onAsc f).sec = s.sec := rfl
@[simp] theorem onAsc_nor (s : State) (f : AscSt → AscSt) : (s.onAsc f).nor = s.nor := rfl
@[simp] theorem onAsc_pwr (s : State) (f : AscSt → AscSt) : (s.onAsc f).pwr = s.pwr := rfl
@[simp] theorem onAsc_sys (s : State) (f : AscSt → AscSt) : (s.onAsc f).sys = s.sys := rfl
@[simp] theorem onAsc_free (s : State) (f : AscSt → AscSt) : (s.onAsc f).free = s.free := rfl
@[simp] theorem onAsc_pending (s : State) (f : AscSt → AscSt) : (s.onAsc f).pending = s.pending := rfl

/-! ### Events: they reach the shared part and the servo traces alone -/

@[simp] theorem noteTrace_link (s : State) (pg bit : Nat) : (s.noteTrace pg bit).link = s.link := by
  unfold noteTrace; dsimp only; split <;> [split <;> rfl; rfl]

@[simp] theorem raise_link (s : State) (pg bit ctx : Nat) : (s.raise pg bit ctx).link = s.link := by
  unfold raise; split <;> simp

@[simp] theorem noteTrace_rc (s : State) (pg bit : Nat) : (s.noteTrace pg bit).rc = s.rc := by
  unfold noteTrace; dsimp only; split <;> [split <;> rfl; rfl]

@[simp] theorem raise_rc (s : State) (pg bit ctx : Nat) : (s.raise pg bit ctx).rc = s.rc := by
  unfold raise; split <;> simp

@[simp] theorem noteTrace_seq (s : State) (pg bit : Nat) : (s.noteTrace pg bit).seq = s.seq := by
  unfold noteTrace; dsimp only; split <;> [split <;> rfl; rfl]

@[simp] theorem raise_seq (s : State) (pg bit ctx : Nat) : (s.raise pg bit ctx).seq = s.seq := by
  unfold raise; split <;> simp

@[simp] theorem noteTrace_spin (s : State) (pg bit : Nat) : (s.noteTrace pg bit).spin = s.spin := by
  unfold noteTrace; dsimp only; split <;> [split <;> rfl; rfl]

@[simp] theorem raise_spin (s : State) (pg bit ctx : Nat) : (s.raise pg bit ctx).spin = s.spin := by
  unfold raise; split <;> simp

@[simp] theorem noteTrace_asc (s : State) (pg bit : Nat) : (s.noteTrace pg bit).asc = s.asc := by
  unfold noteTrace; dsimp only; split <;> [split <;> rfl; rfl]

@[simp] theorem raise_asc (s : State) (pg bit ctx : Nat) : (s.raise pg bit ctx).asc = s.asc := by
  unfold raise; split <;> simp

@[simp] theorem noteTrace_media (s : State) (pg bit : Nat) : (s.noteTrace pg bit).media = s.media := by
  unfold noteTrace; dsimp only; split <;> [split <;> rfl; rfl]

@[simp] theorem raise_media (s : State) (pg bit ctx : Nat) : (s.raise pg bit ctx).media = s.media := by
  unfold raise; split <;> simp

@[simp] theorem noteTrace_mason (s : State) (pg bit : Nat) : (s.noteTrace pg bit).mason = s.mason := by
  unfold noteTrace; dsimp only; split <;> [split <;> rfl; rfl]

@[simp] theorem raise_mason (s : State) (pg bit ctx : Nat) : (s.raise pg bit ctx).mason = s.mason := by
  unfold raise; split <;> simp

@[simp] theorem noteTrace_nvme (s : State) (pg bit : Nat) : (s.noteTrace pg bit).nvme = s.nvme := by
  unfold noteTrace; dsimp only; split <;> [split <;> rfl; rfl]

@[simp] theorem raise_nvme (s : State) (pg bit ctx : Nat) : (s.raise pg bit ctx).nvme = s.nvme := by
  unfold raise; split <;> simp

@[simp] theorem noteTrace_buf (s : State) (pg bit : Nat) : (s.noteTrace pg bit).buf = s.buf := by
  unfold noteTrace; dsimp only; split <;> [split <;> rfl; rfl]

@[simp] theorem raise_buf (s : State) (pg bit ctx : Nat) : (s.raise pg bit ctx).buf = s.buf := by
  unfold raise; split <;> simp

@[simp] theorem noteTrace_hod (s : State) (pg bit : Nat) : (s.noteTrace pg bit).hod = s.hod := by
  unfold noteTrace; dsimp only; split <;> [split <;> rfl; rfl]

@[simp] theorem raise_hod (s : State) (pg bit ctx : Nat) : (s.raise pg bit ctx).hod = s.hod := by
  unfold raise; split <;> simp

@[simp] theorem noteTrace_sec (s : State) (pg bit : Nat) : (s.noteTrace pg bit).sec = s.sec := by
  unfold noteTrace; dsimp only; split <;> [split <;> rfl; rfl]

@[simp] theorem raise_sec (s : State) (pg bit ctx : Nat) : (s.raise pg bit ctx).sec = s.sec := by
  unfold raise; split <;> simp

@[simp] theorem noteTrace_nor (s : State) (pg bit : Nat) : (s.noteTrace pg bit).nor = s.nor := by
  unfold noteTrace; dsimp only; split <;> [split <;> rfl; rfl]

@[simp] theorem raise_nor (s : State) (pg bit ctx : Nat) : (s.raise pg bit ctx).nor = s.nor := by
  unfold raise; split <;> simp

@[simp] theorem noteTrace_pwr (s : State) (pg bit : Nat) : (s.noteTrace pg bit).pwr = s.pwr := by
  unfold noteTrace; dsimp only; split <;> [split <;> rfl; rfl]

@[simp] theorem raise_pwr (s : State) (pg bit ctx : Nat) : (s.raise pg bit ctx).pwr = s.pwr := by
  unfold raise; split <;> simp

@[simp] theorem noteTrace_sys (s : State) (pg bit : Nat) : (s.noteTrace pg bit).sys = s.sys := by
  unfold noteTrace; dsimp only; split <;> [split <;> rfl; rfl]

@[simp] theorem raise_sys (s : State) (pg bit ctx : Nat) : (s.raise pg bit ctx).sys = s.sys := by
  unfold raise; split <;> simp

@[simp] theorem noteTrace_free (s : State) (pg bit : Nat) : (s.noteTrace pg bit).free = s.free := by
  unfold noteTrace; dsimp only; split <;> [split <;> rfl; rfl]

@[simp] theorem raise_free (s : State) (pg bit ctx : Nat) : (s.raise pg bit ctx).free = s.free := by
  unfold raise; split <;> simp

@[simp] theorem noteTrace_pending (s : State) (pg bit : Nat) : (s.noteTrace pg bit).pending = s.pending := by
  unfold noteTrace; dsimp only; split <;> [split <;> rfl; rfl]

@[simp] theorem raise_pending (s : State) (pg bit ctx : Nat) : (s.raise pg bit ctx).pending = s.pending := by
  unfold raise; split <;> simp

@[simp] theorem noteTrace_io (s : State) (pg bit : Nat) : (s.noteTrace pg bit).io = s.io := by
  unfold noteTrace; dsimp only; split <;> [split <;> rfl; rfl]

/-- What an event leaves in the shared part. -/
theorem raise_io (s : State) (pg bit ctx : Nat) : (s.raise pg bit ctx).io =
    if s.io.injects pg bit then (s.io.raiseI pg bit ctx true).injected pg bit else s.io.raise pg bit ctx := by
  unfold raise; split <;> simp

end Sys2Proof.Machine.State
end

