-- ==== Sys2Proof/Laws/Register.lean ====
section
/-! SUPPORT. The laws of registers and fields: a read after a write to the same field, a disjoint field or another register. -/

namespace Sys2Proof.Machine

/-- A register's key gives its page and its offset back. -/
theorem key_inj {p q a b : Nat} (ha : a < 4096) (hb : b < 4096) (h : key p a = key q b) : p = q ∧ a = b := by
  unfold key at h; omega

theorem key_ne_page {p q a b : Nat} (ha : a < 4096) (hb : b < 4096) (h : p ≠ q) : key p a ≠ key q b :=
  fun e => h (key_inj ha hb e).1

theorem key_ne_off (p : Nat) {a b : Nat} (h : a ≠ b) : key p a ≠ key p b := by
  unfold key; omega

namespace Io

@[simp] theorem reg_setReg_self (io : Io) (p off : Nat) (w : DWord) : (io.setReg p off w).reg p off = w := by
  have h := Tab.get_put_self (regDefault (key p off)) io.regs (key p off) w
  simpa [reg, setReg, Tab.get] using h

theorem reg_setReg_ne (io : Io) {p off q o : Nat} (w : DWord) (h : key q o ≠ key p off) : (io.setReg p off w).reg q o = io.reg q o := by
  simp [reg, setReg, Tab.find?_put_ne _ _ _ h]

theorem reg_setFld_ne (io : Io) {p q o : Nat} {f : RF} (v : Nat) (h : key q o ≠ key p f.off) : (io.setFld p f v).reg q o = io.reg q o :=
  reg_setReg_ne io _ h

theorem withFld_testBit (w : DWord) (f : RF) (v i : Nat) (h : f.lo ≤ f.hi) (h' : f.hi < 64) :
    (withFld w f v).getLsbD i = if f.lo ≤ i ∧ i ≤ f.hi then v.testBit (i - f.lo) else w.getLsbD i := by
  have hw : f.width = f.hi + 1 - f.lo := rfl
  simp only [withFld, fmask, BitVec.getLsbD_or, BitVec.getLsbD_and, BitVec.getLsbD_not, BitVec.getLsbD_shiftLeft,
    BitVec.getLsbD_ofNat, maxOf, Nat.testBit_two_pow_sub_one, Nat.testBit_mod_two_pow]
  simp only [hw]
  by_cases h2 : f.lo ≤ i
  · have a : ¬ i < f.lo := by omega
    by_cases h3 : i ≤ f.hi
    · have b : i - f.lo < f.hi + 1 - f.lo := by omega
      have c : i - f.lo < 64 := by omega
      simp [a, b, c, h2, h3, show i < 64 by omega]
    · have b : ¬ i - f.lo < f.hi + 1 - f.lo := by omega
      by_cases h1 : i < 64
      · simp [b, h3, h1]
      · simp [h1, h3, BitVec.getLsbD_of_ge w i (by omega)]
  · have a : i < f.lo := by omega
    simp [a, h2, show i < 64 by omega]

/-- The bits of a field. -/
theorem fld_eq (io : Io) (p : Nat) (f : RF) :
    ∀ i, (io.fld p f).testBit i = (decide (i < f.width) && (io.reg p f.off).getLsbD (f.lo + i)) := by
  intro i
  simp [fld, Nat.testBit_mod_two_pow, BitVec.getLsbD, Nat.testBit_shiftRight]

/-- A field read after it is written: the value, cut to the field's width. -/
theorem fld_setFld_self (io : Io) (p : Nat) (f : RF) (v : Nat) (h : f.lo ≤ f.hi) (h' : f.hi < 64) :
    (io.setFld p f v).fld p f = v % 2 ^ f.width := by
  have hw : f.width = f.hi + 1 - f.lo := rfl
  apply Nat.eq_of_testBit_eq
  intro i
  rw [fld_eq, setFld, reg_setReg_self, withFld_testBit _ _ _ _ h h', Nat.testBit_mod_two_pow]
  by_cases hi : i < f.width
  · have : f.lo + i ≤ f.hi := by omega
    simp [hi, this]
  · simp [hi]

/-- A field of the same register whose bits lie apart keeps its value. -/
theorem fld_setFld_apart (io : Io) (p : Nat) {f g : RF} (v : Nat) (ho : g.off = f.off) (h : f.lo ≤ f.hi) (h' : f.hi < 64)
    (hg : g.lo ≤ g.hi) (hd : g.hi < f.lo ∨ f.hi < g.lo) : (io.setFld p f v).fld p g = io.fld p g := by
  have hw : g.width = g.hi + 1 - g.lo := rfl
  apply Nat.eq_of_testBit_eq
  intro i
  rw [fld_eq, fld_eq, setFld, ho, reg_setReg_self, withFld_testBit _ _ _ _ h h']
  by_cases hi : i < g.width
  · have : ¬ (f.lo ≤ g.lo + i ∧ g.lo + i ≤ f.hi) := by omega
    simp only [if_neg this]
  · simp [hi]

/-- A field of another register keeps its value. -/
theorem fld_setFld_ne (io : Io) {p q : Nat} {f g : RF} (v : Nat) (h : key q g.off ≠ key p f.off) :
    (io.setFld p f v).fld q g = io.fld q g := by
  unfold fld; rw [reg_setFld_ne io v h]

theorem fld_lt (io : Io) (p : Nat) (f : RF) : io.fld p f < 2 ^ f.width := Nat.mod_lt _ (by positivity)

end Io

end Sys2Proof.Machine
end

