-- ==== Sys2Proof/Laws/Events.lean ====
section
/-! SUPPORT. What raising an event can reach: a few registers of the page that raises it, those of EVC, HST and FIF with its
banks, the two notice FIFOs, the recorder, the window counters and the messages sent; nothing else of the shared part. -/

namespace Sys2Proof.Machine.Io

/-- The registers of its own page that an event can change: EV_PEND, WIN_LASTING, ERR_INJ, and OBS_LASTING of SPM and DEC_LAST
of LDP. -/
def evOffs : List Nat := [0x14, 0x2C, 0x30, 0x54, 0x5C]

/-- `j` differs from `i` at most in those registers of page `pg`, in the registers of EVC, HST and FIF with their banks, in the notice
FIFOs, in the recorder, in the window counters and in the messages sent. -/
structure Event (pg : Nat) (i j : Io) : Prop where
  part : j.part = i.part
  grade : j.grade = i.grade
  dieRev : j.dieRev = i.dieRev
  reg : ∀ p off, off < 4096 → (p % 256 = pg % 256 → off ∉ evOffs) → p % 256 ≠ 5 → p % 256 ≠ 6 → p % 256 ≠ 0xC → j.reg p off = i.reg p off
  hdr : ∀ p off, off < 0x40 → off ∉ [0x14, 0x2C, 0x30] → j.reg p off = i.reg p off
  fifo : ∀ n, n ≠ 0xA9 → n ≠ 0xAA → j.fifo n = i.fifo n
  fifoBufs : j.fifoBufs = i.fifoBufs
  frozen : j.frozen = i.frozen
  heldPages : j.heldPages = i.heldPages
  latches : j.latches = i.latches
  wbufs : j.wbufs = i.wbufs
  wordLatches : j.wordLatches = i.wordLatches
  readData : j.readData = i.readData
  off : j.off = i.off
  msixOpen : j.msixOpen = i.msixOpen

namespace Event

theorem refl (pg : Nat) (i : Io) : Event pg i i :=
  ⟨rfl, rfl, rfl, fun _ _ _ _ _ _ _ => rfl, fun _ _ _ _ => rfl, fun _ _ _ => rfl, rfl, rfl, rfl, rfl, rfl, rfl, rfl, rfl, rfl⟩

theorem trans {pg : Nat} {i j k : Io} (h : Event pg i j) (h' : Event pg j k) : Event pg i k :=
  ⟨h'.part.trans h.part, h'.grade.trans h.grade, h'.dieRev.trans h.dieRev,
    fun p o ho a b c d => (h'.reg p o ho a b c d).trans (h.reg p o ho a b c d),
    fun p o a b => (h'.hdr p o a b).trans (h.hdr p o a b), fun n a b => (h'.fifo n a b).trans (h.fifo n a b), h'.fifoBufs.trans h.fifoBufs, h'.frozen.trans h.frozen,
    h'.heldPages.trans h.heldPages, h'.latches.trans h.latches, h'.wbufs.trans h.wbufs, h'.wordLatches.trans h.wordLatches,
    h'.readData.trans h.readData, h'.off.trans h.off, h'.msixOpen.trans h.msixOpen⟩

/-- What an event of EVC, HST or FIF reaches, every event does. -/
theorem mono {q pg : Nat} {i j : Io} (hq : q % 256 = 5 ∨ q % 256 = 6 ∨ q % 256 = 0xC) (h : Event q i j) : Event pg i j :=
  ⟨h.part, h.grade, h.dieRev, fun p o ho _ b c d => h.reg p o ho (fun e => absurd e (by rcases hq with e | e | e <;> rw [e] <;> assumption)) b c d,
    h.hdr, h.fifo, h.fifoBufs, h.frozen, h.heldPages, h.latches, h.wbufs, h.wordLatches, h.readData, h.off, h.msixOpen⟩

/-- A field of one of its pages is set. -/
theorem setFld {pg : Nat} {i j : Io} (h : Event pg i j) (q : Nat) (f : RF) (v : Nat) (hf : f.off < 4096)
    (hq : (q % 256 = pg % 256 ∧ f.off ∈ evOffs) ∨ q % 256 = 5 ∨ q % 256 = 6 ∨ q % 256 = 0xC)
    (hh : f.off ∈ [0x14, 0x2C, 0x30] ∨ 0x40 ≤ f.off := by decide) : Event pg i (j.setFld q f v) := by
  refine h.trans ⟨rfl, rfl, rfl, fun p o ho a b c d => ?_, fun p o ho a => ?_, fun _ _ _ => rfl, rfl, rfl, rfl, rfl, rfl, rfl, rfl, rfl, rfl⟩
  all_goals
    refine reg_setFld_ne _ _ fun e => ?_
    obtain ⟨rfl, rfl⟩ := key_inj (by omega) hf e
  · rcases hq with ⟨e, m⟩ | e | e | e
    · exact a e m
    all_goals contradiction
  · rcases hh with m | m
    · exact a m
    · omega

theorem setFlag {pg : Nat} {i j : Io} (h : Event pg i j) (q : Nat) (f : RF) (b : Bool) (hf : f.off < 4096)
    (hq : (q % 256 = pg % 256 ∧ f.off ∈ evOffs) ∨ q % 256 = 5 ∨ q % 256 = 6 ∨ q % 256 = 0xC)
    (hh : f.off ∈ [0x14, 0x2C, 0x30] ∨ 0x40 ≤ f.off := by decide) : Event pg i (j.setFlag q f b) := h.setFld q f _ hf hq hh

theorem ite {pg : Nat} {i j k : Io} {c : Prop} [Decidable c] (h : Event pg i j) (h' : Event pg i k) :
    Event pg i (if c then j else k) := by split <;> assumption

end Event

/-- The fields that events set stand within a page. -/
theorem setHst_event {pg : Nat} {i j : Io} (h : Event pg i j) (r : Recorder) : Event pg i (j.setHst r) := by
  unfold setHst
  have h0 : Event pg i { j with hst := r } :=
    h.trans ⟨rfl, rfl, rfl, fun _ _ _ _ _ _ _ => rfl, fun _ _ _ _ => rfl, fun _ _ _ => rfl, rfl, rfl, rfl, rfl, rfl, rfl, rfl, rfl, rfl⟩
  exact ((((h0.setFld 6 HST.HST_STAT.HELD _ (by decide) (.inr (.inr (.inl rfl)))).setFld 6 HST.HST_STAT.FIRST_CNT _ (by decide) (.inr (.inr (.inl rfl)))).setFld
    6 HST.MISSED.COUNT _ (by decide) (.inr (.inr (.inl rfl)))).setFld 6 HST.RSEQ.NEXT _ (by decide) (.inr (.inr (.inl rfl)))).setFld
    6 HST.CLEARS.COUNT _ (by decide) (.inr (.inr (.inl rfl)))

/-- A way of raising further events that stays within EVC, HST and FIF. -/
def UpOk (pg : Nat) (up : Nat → Nat → Io → Io) : Prop :=
  ∀ p b i j, p = 5 ∨ p = 6 ∨ p = 0xC → Event pg i j → Event pg i (up p b j)

section
variable {pg : Nat} {up : Nat → Nat → Io → Io} (hu : UpOk pg up) {i j : Io} (h : Event pg i j)
include hu h

theorem addRec_event (r : Rec) : Event pg i (addRec up j r) := by
  unfold addRec
  have h1 := hu 6 0 _ _ (by decide) (setHst_event h { j.hst with mem := j.hst.mem.add r })
  exact Event.ite (hu 6 1 _ _ (by decide) h1) h1

theorem makeRec_event (r : Rec) : Event pg i (makeRec up j r) := by
  unfold makeRec
  repeat' first
    | with_reducible exact addRec_event hu h r
    | exact hu 6 3 _ _ (.inr (.inl rfl)) (setHst_event h _)
    | exact setHst_event h _
    | with_reducible apply Event.ite
    | split

theorem freezeRec_event : Event pg i (freezeRec up j) := by
  unfold freezeRec
  refine Event.ite h (hu 6 2 _ _ (by decide) ?_)
  exact ((makeRec_event hu h _).setFlag 6 _ _ (by decide) (.inr (.inr (.inl rfl)))).setFlag 6 _ _ (by decide) (.inr (.inr (.inl rfl)))

theorem syncPin_event : Event pg i (syncPin up j) := by
  unfold syncPin
  exact Event.ite h (hu 5 1 _ _ (by decide) (h.setFlag 5 _ _ (by decide) (.inr (.inl rfl))))

omit hu in
theorem setFifo_event {n : Nat} (hn : n = 0xA9 ∨ n = 0xAA) (f : Fifo) : Event pg i (j.setFifo n f) := by
  have hp : fifoPg n % 256 = 0xC := by rcases hn with rfl | rfl <;> rfl
  have h0 : Event pg i { j with fifos := Tab.put Fifo.zero j.fifos n f } := by
    refine h.trans ⟨rfl, rfl, rfl, fun _ _ _ _ _ _ _ => rfl, fun _ _ _ _ => rfl, fun m a b => ?_, rfl, rfl, rfl, rfl, rfl, rfl, rfl, rfl, rfl⟩
    refine Tab.get_put_ne _ _ _ _ ?_
    rcases hn with rfl | rfl <;> assumption
  unfold setFifo
  refine ((((h0.setFld _ _ _ ?_ ?_).setFld _ _ _ ?_ ?_).setFlag _ _ _ ?_ ?_).setFld _ _ _ ?_ ?_).setFld _ _ _ ?_ ?_ <;>
    first | decide | exact .inr (.inr (.inr hp))

theorem postNotice_event {n : Nat} (hn : n = 0xA9 ∨ n = 0xAA) (cnt : RF) (hc : cnt.off < 4096) (hc' : 0x40 ≤ cnt.off) (item : Nat) :
    Event pg i (postNotice up j n cnt item) := by
  have hp : fifoPg n % 256 = 0xC := by rcases hn with rfl | rfl <;> rfl
  unfold postNotice
  refine Event.ite (setFifo_event h hn _) (hu 5 0 _ _ (by decide) (hu 0xC 0 _ _ (by decide) ?_))
  exact (h.setFld _ _ _ (by decide) (.inr (.inr (.inr hp)))).setFld 5 _ _ hc (.inr (.inl rfl)) (.inr hc')

end

theorem sendMsix_event {pg : Nat} {i j : Io} (h : Event pg i j) (q : Nat) : Event pg i (j.sendMsix q) := by
  unfold sendMsix
  refine Event.ite (h.trans ?_) h
  exact ⟨rfl, rfl, rfl, fun _ _ _ _ _ _ _ => rfl, fun _ _ _ _ => rfl, fun _ _ _ => rfl, rfl, rfl, rfl, rfl, rfl, rfl, rfl, rfl, rfl⟩

theorem countWin_event {pg : Nat} {i j : Io} (h : Event pg i j) (q bit unit : Nat) : Event pg i (j.countWin q bit unit) := by
  unfold countWin
  refine Event.ite h (h.trans ?_)
  exact ⟨rfl, rfl, rfl, fun _ _ _ _ _ _ _ => rfl, fun _ _ _ _ => rfl, fun _ _ _ => rfl, rfl, rfl, rfl, rfl, rfl, rfl, rfl, rfl, rfl⟩

theorem nameUnit_event {pg : Nat} {i j : Io} (h : Event pg i j) (bit unit : Nat) : Event pg i (j.nameUnit pg bit unit) := by
  unfold nameUnit
  exact Event.ite (h.setFld pg _ _ (by decide) (.inl ⟨rfl, by decide⟩)) (Event.ite (h.setFld pg _ _ (by decide) (.inl ⟨rfl, by decide⟩)) h)

/-- One firing stays within what an event reaches. -/
theorem fire_event (n : Nat) : ∀ (pg bit ctx : Nat) (inj : Bool) (i j : Io), Event pg i j → Event pg i (fire n pg bit ctx inj j) := by
  induction n with
  | zero => intro pg bit ctx inj i j h; exact h
  | succ n ih =>
    intro pg bit ctx inj i j h
    have hu : UpOk pg (fun p b k => fire n p b 0 false k) := fun p b a k hp hk =>
      hk.trans (Event.mono (q := p) (by omega) (ih p b 0 false k k (Event.refl _ _)))
    unfold fire
    refine Event.ite ?_ h
    dsimp only
    refine syncPin_event hu ?_
    have h1 := countWin_event (h.setFld pg HDR.EV_PEND.V (bitSet (j.fld pg HDR.EV_PEND.V) bit) (by decide) (.inl ⟨rfl, by decide⟩)) pg bit ctx
    cases evtOf pg bit <;> dsimp only <;>
    repeat' first
      | with_reducible exact h1
      | with_reducible apply Event.ite
      | with_reducible refine sendMsix_event ?_ _
      | with_reducible refine postNotice_event hu ?_ (by decide) _ (by decide) (by decide) _
      | with_reducible refine makeRec_event hu ?_ _
      | with_reducible refine freezeRec_event hu ?_
      | with_reducible refine nameUnit_event ?_ _ _
      | with_reducible exact Event.refl _ _
      | with_reducible refine Event.setFld ?_ _ _ _ (by decide) (.inl ⟨rfl, by decide⟩)

/-- What an event of a page leaves alone. -/
theorem raise_event (io : Io) (pg bit ctx : Nat) : Event pg io (io.raise pg bit ctx) := fire_event _ _ _ _ _ _ _ (Event.refl _ _)

end Sys2Proof.Machine.Io

namespace Sys2Proof.Machine.State

/-- What an event of a page leaves alone. -/
theorem raise_event (s : State) (pg bit ctx : Nat) : Io.Event pg s.io (s.raise pg bit ctx).io := by
  rw [raise_io]
  refine Io.Event.ite ?_ (Io.raise_event _ _ _ _)
  have h : Io.Event pg s.io (s.io.raiseI pg bit ctx true) := Io.fire_event _ _ _ _ _ _ _ (Io.Event.refl _ _)
  unfold Io.injected
  exact Io.Event.ite (h.setFlag pg _ _ (by decide) (.inl ⟨rfl, by decide⟩)) h

end Sys2Proof.Machine.State
end

