-- ==== Sys2Proof/Laws/Keep.lean ====
section
/-! SUPPORT. What every operation keeps: the queue of commands, the part, its grade and its revision, and the canonical form of
registers and memories. The files beside this one say it of each operation. -/

namespace Sys2Proof.Machine

/-- `j` keeps what stands in the shared part `i`. -/
structure IoKeep (i j : Io) : Prop where
  part : j.part = i.part
  grade : j.grade = i.grade
  rev : j.dieRev = i.dieRev
  wf : i.wf = true → j.wf = true

/-- `s` keeps what stands in `r`. -/
structure Keep (r s : State) : Prop where
  queue : s.pending = r.pending
  io : IoKeep r.io s.io
  dram : Memory.wf r.buf.dram = true → Memory.wf s.buf.dram = true
  sram : Memory.wf r.hod.sram = true → Memory.wf s.hod.sram = true

/-- The command ends in a next state, which keeps what stands in `r`. -/
def Good (r : State) (o : Out) : Prop := ∃ t, o = .next t ∧ Keep r t

/-- A fact on the way. -/
theorem Keep.cut {a b : Prop} (h : a) (h' : a → b) : b := h' h

theorem IoKeep.refl (i : Io) : IoKeep i i := ⟨rfl, rfl, rfl, id⟩

theorem IoKeep.trans {i j k : Io} (h : IoKeep i j) (h' : IoKeep j k) : IoKeep i k :=
  ⟨h'.part.trans h.part, h'.grade.trans h.grade, h'.rev.trans h.rev, fun w => h'.wf (h.wf w)⟩

theorem Keep.refl (r : State) : Keep r r := ⟨rfl, IoKeep.refl _, id, id⟩

theorem Keep.trans {q r s : State} (h : Keep q r) (h' : Keep r s) : Keep q s :=
  ⟨h'.queue.trans h.queue, h.io.trans h'.io, fun w => h'.dram (h.dram w), fun w => h'.sram (h.sram w)⟩

/-- The canonical form of a kept state. -/
theorem Keep.wf {r s : State} (h : Keep r s) (w : r.wf = true) : s.wf = true := by
  unfold State.wf at *
  simp only [Bool.and_eq_true] at *
  exact ⟨⟨h.io.wf w.1.1, h.dram w.1.2⟩, h.sram w.2⟩

/-! ### The shared part -/

theorem IoKeep.setReg {i j : Io} (h : IoKeep i j) (p off : Nat) (w : DWord) : IoKeep i (j.setReg p off w) :=
  ⟨h.part, h.grade, h.rev, fun hw => Tab.wf_put Io.regDefault _ _ (h.wf hw)⟩

/-- A change of the shared part that leaves registers and identity alone. -/
theorem IoKeep.mk' {i j : Io} (h : IoKeep i j) (fz : List (Nat × DWord)) (hp : List Nat) (la wb : List (Nat × Option Word))
    (wl : List (Nat × List Nat)) (rd : List (Nat × Nat)) (wi : List (Nat × Win)) (hs : Recorder) (ff : List (Nat × Fifo))
    (fb : List (Nat × List Nat)) (of_ mo ms : List Nat) :
    IoKeep i ⟨j.part, j.grade, j.dieRev, j.regs, fz, hp, la, wb, wl, rd, wi, hs, ff, fb, of_, mo, ms⟩ :=
  ⟨h.part, h.grade, h.rev, fun hw => h.wf hw⟩

/-- The same where registers are left out. -/
theorem IoKeep.filter {i j : Io} (h : IoKeep i j) (t : Nat × DWord → Bool) (fz : List (Nat × DWord)) (hp : List Nat)
    (la wb : List (Nat × Option Word)) (wl : List (Nat × List Nat)) (rd : List (Nat × Nat)) (wi : List (Nat × Win)) (hs : Recorder)
    (ff : List (Nat × Fifo)) (fb : List (Nat × List Nat)) (of_ mo ms : List Nat) :
    IoKeep i ⟨j.part, j.grade, j.dieRev, j.regs.filter t, fz, hp, la, wb, wl, rd, wi, hs, ff, fb, of_, mo, ms⟩ :=
  ⟨h.part, h.grade, h.rev, fun hw => Tab.wf_filter Io.regDefault t (h.wf hw)⟩

theorem ioKeep_foldl {β : Type} {i j : Io} (l : List β) (f : Io → β → Io) (h : IoKeep i j)
    (hf : ∀ k x, IoKeep i k → IoKeep i (f k x)) : IoKeep i (l.foldl f j) := by
  induction l generalizing j with
  | nil => exact h
  | cons x l ih => exact ih (hf j x h)

theorem ioKeep_ite {r i j : Io} {c : Prop} [Decidable c] (h : IoKeep r i) (h' : IoKeep r j) : IoKeep r (if c then i else j) := by
  split <;> assumption

/-! ### The state -/

theorem keep_ite {r s t : State} {c : Prop} [Decidable c] (h : Keep r s) (h' : Keep r t) : Keep r (if c then s else t) := by
  split <;> assumption

theorem keep_id {r s : State} (h : Keep r s) : Keep r (id s) := h

theorem good_ite {r : State} {o o' : Out} {c : Prop} [Decidable c] (h : Good r o) (h' : Good r o') : Good r (if c then o else o') := by
  split <;> assumption

theorem keep_foldl {β : Type} {r s : State} (l : List β) (f : State → β → State) (h : Keep r s)
    (hf : ∀ u x, Keep r u → Keep r (f u x)) : Keep r (l.foldl f s) := by
  induction l generalizing s with
  | nil => exact h
  | cons x l ih => exact ih (hf s x h)

/-- A fold that carries a state in the second place of a pair. -/
theorem keep_foldl_snd {β γ : Type} {r : State} (l : List β) (f : γ × State → β → γ × State) (p : γ × State) (h : Keep r p.2)
    (hf : ∀ q x, Keep r q.2 → Keep r (f q x).2) : Keep r (l.foldl f p).2 := by
  induction l generalizing p with
  | nil => exact h
  | cons x l ih => exact ih _ (hf p x h)

/-- A fold that carries a state in the first place of a pair. -/
theorem keep_foldl_fst {β γ : Type} {r : State} (l : List β) (f : State × γ → β → State × γ) (p : State × γ) (h : Keep r p.1)
    (hf : ∀ q x, Keep r q.1 → Keep r (f q x).1) : Keep r (l.foldl f p).1 := by
  induction l generalizing p with
  | nil => exact h
  | cons x l ih => exact ih _ (hf p x h)

theorem Keep.fst {α : Type} {r t : State} {a : α} {p : State × α} (e : p = (t, a)) (h : Keep r p.1) : Keep r t := by
  rw [e] at h; exact h

theorem Keep.snd {α : Type} {r t : State} {a : α} {p : α × State} (e : p = (a, t)) (h : Keep r p.2) : Keep r t := by
  rw [e] at h; exact h

theorem Keep.thd {α β : Type} {r t : State} {a : α} {b : β} {p : α × β × State} (e : p = (a, b, t)) (h : Keep r p.2.2) : Keep r t := by
  rw [e] at h; exact h

/-- A change of the shared part. -/
theorem keep_onIo {r s : State} (f : Io → Io) (h : Keep r s) (hf : ∀ i, IoKeep r.io i → IoKeep r.io (f i)) : Keep r (s.onIo f) :=
  ⟨h.queue, hf _ h.io, h.dram, h.sram⟩

/-- A change of parts of the state that are not the queue, the shared part, DRAM and SRAM. -/
theorem Keep.mk' {r s : State} (h : Keep r s) (link : LinkSt) (rc : RcSt) (seq : SeqSt) (servo : ServoSt) (spin : SpinSt) (asc : AscSt)
    (media : MediaSt) (mason : MasonSt) (nvme : NvmeSt) (sec : SecSt) (nor : NorSt) (pwr : PwrSt) (sys : SysSt) (free : Nat) :
    Keep r ⟨s.io, link, rc, seq, servo, spin, asc, media, mason, nvme, s.buf, s.hod, sec, nor, pwr, sys, free, s.pending⟩ :=
  ⟨h.queue, h.io, h.dram, h.sram⟩

/-- A change of the buffer memory. -/
theorem Keep.buf' {r s : State} (h : Keep r s) (b : BufSt) (hb : Memory.wf s.buf.dram = true → Memory.wf b.dram = true) :
    Keep r { s with buf := b } :=
  ⟨h.queue, h.io, fun w => hb (h.dram w), h.sram⟩

/-- A change of Hod's state. -/
theorem Keep.hod' {r s : State} (h : Keep r s) (b : HodSt) (hb : Memory.wf s.hod.sram = true → Memory.wf b.sram = true) :
    Keep r { s with hod := b } :=
  ⟨h.queue, h.io, h.dram, fun w => hb (h.sram w)⟩

theorem good_ok {r s : State} (h : Keep r s) : Good r (ok s) := ⟨s, rfl, h⟩

theorem good_okIf {r s t : State} (c : Bool) (h : Keep r s) (h' : Keep r t) : Good r (okIf c s t) := by
  unfold okIf; split
  · exact ⟨_, rfl, h'⟩
  · exact ⟨_, rfl, h⟩

theorem good_okAon {r s t : State} (c : Bool) (h : Keep r s) (h' : Keep r t) : Good r (okAon c s t) := by
  unfold okAon; split
  · exact ⟨_, rfl, h'⟩
  · exact ⟨_, rfl, h⟩

/-- A good command answers a next state. -/
theorem Good.next {r : State} {o : Out} (h : Good r o) : ∃ t, o = .next t := by
  obtain ⟨t, e, _⟩ := h; exact ⟨t, e⟩

/-- What a good command answers keeps what stands in `r`. -/
theorem Good.keep {r t : State} {o : Out} (h : Good r o) (e : o = .next t) : Keep r t := by
  obtain ⟨u, e', k⟩ := h
  rw [e'] at e; injection e with e; exact e ▸ k

end Sys2Proof.Machine
end

