-- ==== Sys2Proof/Laws/KeepOps.lean ====
section
/-! SUPPORT. What the operations of Machine/Ops.lean keep. -/

namespace Sys2Proof.Machine

set_option linter.unreachableTactic false
set_option linter.unusedTactic false

theorem Io.setFld_keep {r0 io : Io} {p : Nat} {f : RF} {v : Nat} (hk : IoKeep r0 io) :
    IoKeep r0 (Io.setFld io p f v) := by
  unfold Io.setFld
  all_goals repeat' first
    | intro _
    | with_reducible assumption
    | with_reducible apply ioKeep_ite
    | with_reducible apply IoKeep.setReg
    | split
    | dsimp only

theorem Io.setFlag_keep {r0 io : Io} {p : Nat} {f : RF} {b : Bool} (hk : IoKeep r0 io) :
    IoKeep r0 (Io.setFlag io p f b) := by
  unfold Io.setFlag
  all_goals repeat' first
    | intro _
    | with_reducible assumption
    | with_reducible apply Io.setFld_keep
    | with_reducible apply ioKeep_ite
    | split
    | dsimp only

theorem Io.bumpN_keep {r0 io : Io} {p : Nat} {f : RF} {n : Nat} (hk : IoKeep r0 io) :
    IoKeep r0 (Io.bumpN io p f n) := by
  unfold Io.bumpN
  all_goals repeat' first
    | intro _
    | with_reducible assumption
    | with_reducible apply Io.setFld_keep
    | with_reducible apply ioKeep_ite
    | split
    | dsimp only

theorem Io.bump_keep {r0 io : Io} {p : Nat} {f : RF} (hk : IoKeep r0 io) :
    IoKeep r0 (Io.bump io p f) := by
  unfold Io.bump
  all_goals repeat' first
    | intro _
    | with_reducible assumption
    | with_reducible apply Io.bumpN_keep
    | with_reducible apply ioKeep_ite
    | split
    | dsimp only

theorem Io.addFld_keep {r0 io : Io} {p : Nat} {f : RF} {n : Nat} (hk : IoKeep r0 io) :
    IoKeep r0 (Io.addFld io p f n) := by
  unfold Io.addFld
  all_goals repeat' first
    | intro _
    | with_reducible assumption
    | with_reducible apply Io.setFld_keep
    | with_reducible apply ioKeep_ite
    | split
    | dsimp only

theorem Io.resetRegs_keep {r0 io : Io} {pg : Nat} {kept : Nat → RF → Bool} (hk : IoKeep r0 io) : IoKeep r0 (io.resetRegs pg kept) := by
  unfold Io.resetRegs
  exact ioKeep_foldl _ _ hk fun _ _ h => h.setReg _ _ _

end Sys2Proof.Machine
end

