-- ==== Sys2Proof/Laws/KeepFlags.lean ====
section
/-! SUPPORT. What the operations of Machine/Flags.lean keep. -/

namespace Sys2Proof.Machine

set_option linter.unreachableTactic false
set_option linter.unusedTactic false

/-- Raising from inside an event operation keeps what stands. -/
def UpKeep (up : Nat → Nat → Io → Io) : Prop := ∀ r i p b, IoKeep r i → IoKeep r (up p b i)

theorem Io.injected_keep {r0 io : Io} {pg : Nat} {bit : Nat} (hk : IoKeep r0 io) :
    IoKeep r0 (Io.injected io pg bit) := by
  unfold Io.injected
  all_goals repeat' first
    | intro _
    | with_reducible assumption
    | with_reducible apply Io.setFlag_keep
    | with_reducible apply ioKeep_ite
    | split
    | dsimp only

theorem Io.syncPin_keep {r0 io : Io} {up : Nat → Nat → Io → Io} (hup : UpKeep up) (hk : IoKeep r0 io) :
    IoKeep r0 (Io.syncPin up io) := by
  unfold Io.syncPin
  try dsimp only
  repeat' first
    | with_reducible exact hup
    | intro _
    | with_reducible assumption
    | apply hup
    | with_reducible apply Io.setFlag_keep
    | with_reducible apply ioKeep_ite
    | with_reducible apply ioKeep_foldl
    | split
    | dsimp only

theorem Io.sendMsix_keep {r0 io : Io} {pg : Nat} (hk : IoKeep r0 io) :
    IoKeep r0 (Io.sendMsix io pg) := by
  unfold Io.sendMsix
  all_goals repeat' first
    | intro _
    | with_reducible assumption
    | with_reducible apply ioKeep_ite
    | split
    | with_reducible apply IoKeep.mk'
    | dsimp only

theorem Io.setFifo_keep {r0 io : Io} {n : Nat} {f : Fifo} (hk : IoKeep r0 io) :
    IoKeep r0 (Io.setFifo io n f) := by
  unfold Io.setFifo
  all_goals repeat' first
    | intro _
    | with_reducible assumption
    | with_reducible apply Io.setFld_keep
    | with_reducible apply Io.setFlag_keep
    | with_reducible apply ioKeep_ite
    | split
    | with_reducible apply IoKeep.mk'
    | dsimp only

theorem Io.fifoPush_keep {r0 io : Io} {n : Nat} {item : Nat} (hk : IoKeep r0 io) :
    IoKeep r0 (Io.fifoPush io n item) := by
  unfold Io.fifoPush
  extract_lets x1
  try clear_value x1
  all_goals repeat' first
    | intro _
    | with_reducible assumption
    | with_reducible apply Io.setFifo_keep
    | with_reducible apply ioKeep_ite
    | split
    | dsimp only

theorem Io.postNotice_keep {r0 io : Io} {up : Nat → Nat → Io → Io} {n : Nat} {cnt : RF} {item : Nat} (hup : UpKeep up) (hk : IoKeep r0 io) :
    IoKeep r0 (Io.postNotice up io n cnt item) := by
  unfold Io.postNotice
  try dsimp only
  repeat' first
    | with_reducible exact hup
    | intro _
    | with_reducible assumption
    | apply hup
    | with_reducible apply Io.fifoPush_keep
    | with_reducible apply Io.bump_keep
    | with_reducible apply ioKeep_ite
    | with_reducible apply ioKeep_foldl
    | split
    | dsimp only

theorem Io.setHst_keep {r0 io : Io} {h : Recorder} (hk : IoKeep r0 io) :
    IoKeep r0 (Io.setHst io h) := by
  unfold Io.setHst
  all_goals repeat' first
    | intro _
    | with_reducible assumption
    | with_reducible apply Io.setFld_keep
    | with_reducible apply ioKeep_ite
    | split
    | with_reducible apply IoKeep.mk'
    | dsimp only

theorem Io.addRec_keep {r0 io : Io} {up : Nat → Nat → Io → Io} {r : Rec} (hup : UpKeep up) (hk : IoKeep r0 io) :
    IoKeep r0 (Io.addRec up io r) := by
  unfold Io.addRec
  try dsimp only
  repeat' first
    | with_reducible exact hup
    | intro _
    | with_reducible assumption
    | apply hup
    | with_reducible apply Io.setHst_keep
    | with_reducible apply ioKeep_ite
    | with_reducible apply ioKeep_foldl
    | split
    | dsimp only

theorem Io.makeRec_keep {r0 io : Io} {up : Nat → Nat → Io → Io} {r : Rec} (hup : UpKeep up) (hk : IoKeep r0 io) :
    IoKeep r0 (Io.makeRec up io r) := by
  unfold Io.makeRec
  try dsimp only
  repeat' first
    | with_reducible exact hup
    | intro _
    | with_reducible assumption
    | apply hup
    | with_reducible apply Io.setHst_keep
    | with_reducible apply Io.addRec_keep
    | with_reducible apply ioKeep_ite
    | with_reducible apply ioKeep_foldl
    | split
    | dsimp only

theorem Io.freezeRec_keep {r0 io : Io} {up : Nat → Nat → Io → Io} (hup : UpKeep up) (hk : IoKeep r0 io) :
    IoKeep r0 (Io.freezeRec up io) := by
  unfold Io.freezeRec
  try dsimp only
  repeat' first
    | with_reducible exact hup
    | intro _
    | with_reducible assumption
    | apply hup
    | with_reducible apply Io.makeRec_keep
    | with_reducible apply Io.setFlag_keep
    | with_reducible apply ioKeep_ite
    | with_reducible apply ioKeep_foldl
    | split
    | dsimp only

theorem Io.nameUnit_keep {r0 io : Io} {pg : Nat} {bit : Nat} {unit : Nat} (hk : IoKeep r0 io) :
    IoKeep r0 (Io.nameUnit io pg bit unit) := by
  unfold Io.nameUnit
  all_goals repeat' first
    | intro _
    | with_reducible assumption
    | with_reducible apply Io.setFld_keep
    | with_reducible apply ioKeep_ite
    | split
    | dsimp only

theorem Io.setWin_keep {r0 io : Io} {pg : Nat} {bit : Nat} {w : Win} (hk : IoKeep r0 io) :
    IoKeep r0 (Io.setWin io pg bit w) := by
  unfold Io.setWin
  all_goals repeat' first
    | intro _
    | with_reducible assumption
    | with_reducible apply ioKeep_ite
    | split
    | with_reducible apply IoKeep.mk'
    | dsimp only

theorem Io.countWin_keep {r0 io : Io} {pg : Nat} {bit : Nat} {unit : Nat} (hk : IoKeep r0 io) :
    IoKeep r0 (Io.countWin io pg bit unit) := by
  unfold Io.countWin
  extract_lets x1
  try clear_value x1
  all_goals repeat' first
    | intro _
    | with_reducible assumption
    | with_reducible apply Io.setWin_keep
    | with_reducible apply ioKeep_ite
    | split
    | dsimp only

theorem Io.fire_keep {r0 io : Io} {n pg bit ctx : Nat} {inj : Bool} (hk : IoKeep r0 io) : IoKeep r0 (Io.fire n pg bit ctx inj io) := by
  induction n generalizing r0 pg bit ctx inj io with
  | zero => exact hk
  | succ n ih =>
    have hup : UpKeep fun p b i => Io.fire n p b 0 false i := fun _ _ _ _ h => ih h
    unfold Io.fire
    extract_lets up was lasting i1 evt fl i2 i3 i4 i5 i6 i7
    clear_value was lasting evt fl
    refine Keep.cut (a := IoKeep r0 i1) ?_ fun k1 => ?_
    unfold i1
    rotate_left
    clear_value i1
    refine Keep.cut (a := IoKeep r0 i2) ?_ fun k2 => ?_
    unfold i2
    rotate_left
    clear_value i2
    refine Keep.cut (a := IoKeep r0 i3) ?_ fun k3 => ?_
    unfold i3
    rotate_left
    clear_value i3
    refine Keep.cut (a := IoKeep r0 i4) ?_ fun k4 => ?_
    unfold i4
    rotate_left
    clear_value i4
    refine Keep.cut (a := IoKeep r0 i5) ?_ fun k5 => ?_
    unfold i5
    rotate_left
    clear_value i5
    refine Keep.cut (a := IoKeep r0 i6) ?_ fun k6 => ?_
    unfold i6
    rotate_left
    clear_value i6
    refine Keep.cut (a := IoKeep r0 i7) ?_ fun k7 => ?_
    unfold i7
    rotate_left
    clear_value i7
    all_goals repeat' first
      | exact hup
      | intro _
      | with_reducible assumption
      | with_reducible apply ioKeep_ite
      | with_reducible apply Io.syncPin_keep
      | with_reducible apply Io.sendMsix_keep
      | with_reducible apply Io.postNotice_keep
      | with_reducible apply Io.makeRec_keep
      | with_reducible apply Io.freezeRec_keep
      | with_reducible apply Io.nameUnit_keep
      | with_reducible apply Io.countWin_keep
      | with_reducible apply Io.setFld_keep
      | split
      | dsimp only

theorem Io.raiseI_keep {r0 io : Io} {pg : Nat} {bit : Nat} {ctx : Nat} {inj : Bool} (hk : IoKeep r0 io) :
    IoKeep r0 (Io.raiseI io pg bit ctx inj) := by
  unfold Io.raiseI
  all_goals repeat' first
    | intro _
    | with_reducible assumption
    | with_reducible apply Io.fire_keep
    | with_reducible apply ioKeep_ite
    | split
    | dsimp only

theorem Io.raise_keep {r0 io : Io} {pg : Nat} {bit : Nat} {ctx : Nat} (hk : IoKeep r0 io) :
    IoKeep r0 (Io.raise io pg bit ctx) := by
  unfold Io.raise
  all_goals repeat' first
    | intro _
    | with_reducible assumption
    | with_reducible apply Io.fire_keep
    | with_reducible apply ioKeep_ite
    | split
    | dsimp only

theorem Io.fifoPost_keep {r0 io : Io} {n : Nat} {item : Nat} (hk : IoKeep r0 io) :
    IoKeep r0 (Io.fifoPost io n item) := by
  unfold Io.fifoPost
  all_goals repeat' first
    | intro _
    | with_reducible assumption
    | with_reducible apply Io.fifoPush_keep
    | with_reducible apply Io.raise_keep
    | with_reducible apply Io.bump_keep
    | with_reducible apply ioKeep_ite
    | split
    | dsimp only

theorem Io.thawRec_keep {r0 io : Io} {up : Nat → Nat → Io → Io} (hup : UpKeep up) (hk : IoKeep r0 io) :
    IoKeep r0 (Io.thawRec up io) := by
  unfold Io.thawRec
  try dsimp only
  repeat' first
    | with_reducible exact hup
    | intro _
    | with_reducible assumption
    | apply hup
    | with_reducible apply Io.addRec_keep
    | with_reducible apply Io.setHst_keep
    | with_reducible apply Io.setFlag_keep
    | with_reducible apply ioKeep_ite
    | with_reducible apply ioKeep_foldl
    | split
    | dsimp only

theorem Io.up_upKeep : UpKeep Io.up := fun _ _ _ _ h => Io.fire_keep h

theorem Io.up_keep {r0 io : Io} {pg bit : Nat} (hk : IoKeep r0 io) : IoKeep r0 (Io.up pg bit io) := Io.fire_keep hk

theorem Io.fifoPass_keep {r0 io : Io} {n : Nat} {item : Nat} (hk : IoKeep r0 io) :
    IoKeep r0 (Io.fifoPass io n item) := by
  unfold Io.fifoPass
  all_goals repeat' first
    | intro _
    | with_reducible assumption
    | with_reducible apply Io.setFifo_keep
    | with_reducible apply Io.fifoPush_keep
    | with_reducible apply Io.fifoPost_keep
    | with_reducible apply ioKeep_ite
    | split
    | dsimp only

end Sys2Proof.Machine
end

