-- ==== Sys2Proof/Laws/KeepBufOps.lean ====
section
/-! SUPPORT. What the operations of Machine/BufOps.lean keep. -/

namespace Sys2Proof.Machine

set_option linter.unreachableTactic false
set_option linter.unusedTactic false

theorem State.onBuf_keep {r0 s : State} {f : BufSt → BufSt} (hk : Keep r0 s)
    (hf : ∀ b, Memory.wf b.dram = true → Memory.wf (f b).dram = true) : Keep r0 (State.onBuf s f) := hk.buf' _ (hf _)

theorem State.setPoison_keep {r0 s : State} {line : Nat} {m : Nat} (hk : Keep r0 s) :
    Keep r0 (State.setPoison s line m) := by
  unfold State.setPoison
  all_goals repeat' first
    | intro _
    | with_reducible assumption
    | with_reducible apply State.onBuf_keep
    | with_reducible apply keep_ite
    | exact fun _ hb => hb
    | split
    | dsimp only

theorem State.cleanWrite_keep {r0 s : State} {addr : Nat} {n : Nat} (hk : Keep r0 s) :
    Keep r0 (State.cleanWrite s addr n) := by
  unfold State.cleanWrite
  all_goals repeat' first
    | intro _
    | with_reducible assumption
    | with_reducible apply State.setPoison_keep
    | with_reducible apply keep_ite
    | with_reducible apply keep_foldl
    | split
    | dsimp only

theorem State.setDramByte_keep {r0 s : State} {addr : Nat} {b : Byte} (hk : Keep r0 s) : Keep r0 (State.setDramByte s addr b) :=
  hk.buf' _ fun h => Tab.wf_put (fun _ => 0#8) _ _ h

theorem State.dramWrite_keep {r0 s : State} {addr : Nat} {bs : List Nat} (hk : Keep r0 s) : Keep r0 (State.dramWrite s addr bs) := by
  induction bs generalizing s addr with
  | nil => exact hk
  | cons b bs ih => exact ih (State.setDramByte_keep hk)

end Sys2Proof.Machine
end

