-- ==== Sys2Proof/Laws/KeepStateOps.lean ====
section
/-! SUPPORT. What the operations of Machine/StateOps.lean keep. -/

namespace Sys2Proof.Machine

set_option linter.unreachableTactic false
set_option linter.unusedTactic false

theorem State.setB_keep {r0 s : State} {p : Nat} {f : RF} {b : Bool} (hk : Keep r0 s) :
    Keep r0 (State.setB s p f b) := by
  unfold State.setB
  all_goals repeat' first
    | intro _
    | with_reducible assumption
    | with_reducible apply Io.setFlag_keep
    | with_reducible apply keep_onIo
    | with_reducible apply keep_ite
    | with_reducible apply ioKeep_ite
    | split
    | dsimp only

theorem State.noteTrace_keep {r0 s : State} {pg : Nat} {bit : Nat} (hk : Keep r0 s) :
    Keep r0 (State.noteTrace s pg bit) := by
  unfold State.noteTrace
  extract_lets x1 x2 x3
  try clear_value x1
  try clear_value x2
  try clear_value x3
  all_goals repeat' first
    | intro _
    | with_reducible assumption
    | with_reducible apply keep_ite
    | split
    | with_reducible apply Keep.mk'
    | dsimp only

theorem State.raise_keep {r0 s : State} {pg : Nat} {bit : Nat} {ctx : Nat} (hk : Keep r0 s) :
    Keep r0 (State.raise s pg bit ctx) := by
  unfold State.raise
  all_goals repeat' first
    | intro _
    | with_reducible assumption
    | with_reducible apply State.noteTrace_keep
    | with_reducible apply Io.injected_keep
    | with_reducible apply Io.raiseI_keep
    | with_reducible apply Io.raise_keep
    | with_reducible apply keep_onIo
    | with_reducible apply keep_ite
    | with_reducible apply ioKeep_ite
    | split
    | dsimp only

theorem State.addTo_keep {r0 s : State} {p : Nat} {f : RF} {n : Nat} (hk : Keep r0 s) :
    Keep r0 (State.addTo s p f n) := by
  unfold State.addTo
  all_goals repeat' first
    | intro _
    | with_reducible assumption
    | with_reducible apply Io.addFld_keep
    | with_reducible apply keep_onIo
    | with_reducible apply keep_ite
    | with_reducible apply ioKeep_ite
    | split
    | dsimp only

theorem State.bump_keep {r0 s : State} {p : Nat} {f : RF} (hk : Keep r0 s) :
    Keep r0 (State.bump s p f) := by
  unfold State.bump
  all_goals repeat' first
    | intro _
    | with_reducible assumption
    | with_reducible apply Io.bump_keep
    | with_reducible apply keep_onIo
    | with_reducible apply keep_ite
    | with_reducible apply ioKeep_ite
    | split
    | dsimp only

theorem State.set_keep {r0 s : State} {p : Nat} {f : RF} {v : Nat} (hk : Keep r0 s) :
    Keep r0 (State.set s p f v) := by
  unfold State.set
  all_goals repeat' first
    | intro _
    | with_reducible assumption
    | with_reducible apply Io.setFld_keep
    | with_reducible apply keep_onIo
    | with_reducible apply keep_ite
    | with_reducible apply ioKeep_ite
    | split
    | dsimp only

theorem State.post_keep {r0 s : State} {n : Nat} {item : Nat} (hk : Keep r0 s) :
    Keep r0 (State.post s n item) := by
  unfold State.post
  all_goals repeat' first
    | intro _
    | with_reducible assumption
    | with_reducible apply Io.fifoPost_keep
    | with_reducible apply keep_onIo
    | with_reducible apply keep_ite
    | with_reducible apply ioKeep_ite
    | split
    | dsimp only

theorem State.drawn_keep {r0 s : State}  (hk : Keep r0 s) :
    Keep r0 (State.drawn s) := by
  unfold State.drawn
  all_goals repeat' first
    | intro _
    | with_reducible assumption
    | with_reducible apply keep_ite
    | split
    | with_reducible apply Keep.mk'
    | dsimp only

theorem State.lockedWrite_keep {r0 s : State} {pg : Nat} (hk : Keep r0 s) :
    Keep r0 (State.lockedWrite s pg) := by
  unfold State.lockedWrite
  all_goals repeat' first
    | intro _
    | with_reducible assumption
    | with_reducible apply State.setB_keep
    | with_reducible apply keep_ite
    | split
    | dsimp only

theorem State.bumpN_keep {r0 s : State} {p : Nat} {f : RF} {n : Nat} (hk : Keep r0 s) :
    Keep r0 (State.bumpN s p f n) := by
  unfold State.bumpN
  all_goals repeat' first
    | intro _
    | with_reducible assumption
    | with_reducible apply Io.bumpN_keep
    | with_reducible apply keep_onIo
    | with_reducible apply keep_ite
    | with_reducible apply ioKeep_ite
    | split
    | dsimp only

theorem State.rwl_keep {r0 s t : State} {acc : Accessor} {pg : Nat} (hk : Keep r0 s) (ht : Keep r0 t) : Keep r0 (State.rwl s acc pg t) := by
  unfold State.rwl
  repeat' first
    | intro _
    | with_reducible assumption
    | with_reducible apply State.lockedWrite_keep
    | with_reducible apply keep_ite
    | split
    | dsimp only

theorem State.gave_keep {r0 s : State} {acc : Accessor} {v : Nat} (hk : Keep r0 s) :
    Keep r0 (State.gave s acc v) := by
  unfold State.gave
  all_goals repeat' first
    | intro _
    | with_reducible assumption
    | with_reducible apply keep_onIo
    | with_reducible apply keep_ite
    | with_reducible apply ioKeep_ite
    | split
    | with_reducible apply IoKeep.mk'
    | dsimp only

end Sys2Proof.Machine
end

