-- ==== Sys2Proof/Laws/KeepLinkOps.lean ====
section
/-! SUPPORT. What the operations of Machine/LinkOps.lean keep. -/

namespace Sys2Proof.Machine

set_option linter.unreachableTactic false
set_option linter.unusedTactic false

theorem State.setLk_keep {r0 s : State} {a : Nat} {l : Link} (hk : Keep r0 s) :
    Keep r0 (State.setLk s a l) := by
  unfold State.setLk
  extract_lets x1
  try clear_value x1
  all_goals repeat' first
    | intro _
    | with_reducible assumption
    | with_reducible apply keep_ite
    | split
    | with_reducible apply Keep.mk'
    | dsimp only

theorem State.onLk_keep {r0 s : State} {a : Nat} {f : Link → Link} (hk : Keep r0 s) :
    Keep r0 (State.onLk s a f) := by
  unfold State.onLk
  all_goals repeat' first
    | intro _
    | with_reducible assumption
    | with_reducible apply State.setLk_keep
    | with_reducible apply keep_ite
    | split
    | dsimp only

theorem State.syncRetract_keep {r0 s : State} {c : Nat} (hk : Keep r0 s) :
    Keep r0 (State.syncRetract s c) := by
  unfold State.syncRetract
  all_goals repeat' first
    | intro _
    | with_reducible assumption
    | with_reducible apply State.setB_keep
    | with_reducible apply keep_ite
    | split
    | dsimp only

theorem State.onRetract_keep {r0 s : State} {c : Nat} {f : Retract → Retract} (hk : Keep r0 s) :
    Keep r0 (State.onRetract s c f) := by
  unfold State.onRetract
  extract_lets x1
  try clear_value x1
  all_goals repeat' first
    | intro _
    | with_reducible assumption
    | with_reducible apply State.syncRetract_keep
    | with_reducible apply keep_ite
    | split
    | with_reducible apply Keep.mk'
    | dsimp only

theorem State.sendCmd_keep {r0 s : State} {a : Nat} {op : Nat} {arg : Nat} (hk : Keep r0 s) :
    Keep r0 (State.sendCmd s a op arg) := by
  unfold State.sendCmd
  all_goals repeat' first
    | intro _
    | with_reducible assumption
    | with_reducible apply State.onLk_keep
    | with_reducible apply keep_ite
    | split
    | dsimp only

theorem State.sendDn_keep {r0 s : State} {a : Nat} {d : DnItem} (hk : Keep r0 s) :
    Keep r0 (State.sendDn s a d) := by
  unfold State.sendDn
  all_goals repeat' first
    | intro _
    | with_reducible assumption
    | with_reducible apply State.onLk_keep
    | with_reducible apply keep_ite
    | split
    | dsimp only

theorem State.setLinkBit_keep {r0 s : State} {a : Nat} {f : RF} {b : Bool} (hk : Keep r0 s) :
    Keep r0 (State.setLinkBit s a f b) := by
  unfold State.setLinkBit
  all_goals repeat' first
    | intro _
    | with_reducible assumption
    | with_reducible apply State.set_keep
    | with_reducible apply keep_ite
    | split
    | dsimp only

theorem State.assertUnacked_keep {r0 s : State} {a : Nat} (hk : Keep r0 s) :
    Keep r0 (State.assertUnacked s a) := by
  unfold State.assertUnacked
  all_goals repeat' first
    | intro _
    | with_reducible assumption
    | with_reducible apply State.set_keep
    | with_reducible apply State.onRetract_keep
    | with_reducible apply keep_ite
    | split
    | dsimp only

theorem State.onLane_keep {r0 s : State} {a : Nat} {n : Lane} {f : LaneRx → LaneRx} (hk : Keep r0 s) :
    Keep r0 (State.onLane s a n f) := by
  unfold State.onLane
  all_goals repeat' first
    | intro _
    | with_reducible assumption
    | with_reducible apply State.onLk_keep
    | with_reducible apply keep_ite
    | split
    | dsimp only

theorem State.settleUnacked_keep {r0 s : State} {a : Nat} (hk : Keep r0 s) :
    Keep r0 (State.settleUnacked s a) := by
  unfold State.settleUnacked
  all_goals repeat' first
    | intro _
    | with_reducible assumption
    | with_reducible apply State.onRetract_keep
    | with_reducible apply keep_ite
    | split
    | dsimp only

theorem State.takeAck_keep {r0 s : State} {a : Nat} {seq : Nat} (hk : Keep r0 s) :
    Keep r0 (State.takeAck s a seq) := by
  unfold State.takeAck
  all_goals repeat' first
    | intro _
    | with_reducible assumption
    | with_reducible apply State.onLk_keep
    | with_reducible apply keep_ite
    | split
    | dsimp only

theorem State.resend_keep {r0 s : State} {a : Nat} {ps : List Pkt} (hk : Keep r0 s) :
    Keep r0 (State.resend s a ps) := by
  unfold State.resend
  all_goals repeat' first
    | intro _
    | with_reducible assumption
    | with_reducible apply State.bumpN_keep
    | with_reducible apply State.onLk_keep
    | with_reducible apply keep_ite
    | split
    | dsimp only

end Sys2Proof.Machine
end

