-- ==== Sys2Proof/Laws/KeepAscOps.lean ====
section
/-! SUPPORT. What the operations of Machine/AscOps.lean keep. -/

namespace Sys2Proof.Machine

set_option linter.unreachableTactic false
set_option linter.unusedTactic false

theorem State.putBytes_keep {r0 s : State} {addr : Nat} {bs : List Nat} (hk : Keep r0 s) :
    Keep r0 (State.putBytes s addr bs) := by
  unfold State.putBytes
  all_goals repeat' first
    | intro _
    | with_reducible assumption
    | with_reducible apply State.cleanWrite_keep
    | with_reducible apply State.dramWrite_keep
    | with_reducible apply keep_ite
    | split
    | dsimp only

theorem State.restoreBlock_keep {r0 s : State} {a : Nat} {addr : Nat} {k : Nat} (hk : Keep r0 s) :
    Keep r0 (State.restoreBlock s a addr k) := by
  unfold State.restoreBlock
  all_goals repeat' first
    | intro _
    | with_reducible assumption
    | with_reducible apply State.putBytes_keep
    | with_reducible apply keep_ite
    | split
    | dsimp only

theorem State.loadEntry_keep {r0 s : State} {a : Nat} {kv : Nat × Nat} (hk : Keep r0 s) :
    Keep r0 (State.loadEntry a s kv) := by
  unfold State.loadEntry
  extract_lets x1 x2 x3
  try clear_value x1
  try clear_value x2
  try clear_value x3
  all_goals repeat' first
    | intro _
    | with_reducible assumption
    | with_reducible apply State.setDramByte_keep
    | with_reducible apply keep_ite
    | split
    | with_reducible apply Keep.mk'
    | dsimp only

theorem State.loadCal_keep {r0 s : State} {a : Nat} (hk : Keep r0 s) :
    Keep r0 (State.loadCal s a) := by
  unfold State.loadCal
  extract_lets x1
  try clear_value x1
  all_goals repeat' first
    | intro _
    | with_reducible assumption
    | with_reducible apply State.loadEntry_keep
    | with_reducible apply State.setB_keep
    | with_reducible apply State.set_keep
    | with_reducible apply keep_ite
    | with_reducible apply keep_foldl
    | split
    | dsimp only

theorem State.loadCoef_keep {r0 s : State} {a : Nat} (hk : Keep r0 s) :
    Keep r0 (State.loadCoef s a) := by
  unfold State.loadCoef
  all_goals repeat' first
    | intro _
    | with_reducible assumption
    | with_reducible apply State.loadEntry_keep
    | with_reducible apply keep_ite
    | with_reducible apply keep_foldl
    | split
    | dsimp only

theorem State.showChecks_keep {r0 s : State}  (hk : Keep r0 s) :
    Keep r0 (State.showChecks s) := by
  unfold State.showChecks
  extract_lets x1
  try clear_value x1
  all_goals repeat' first
    | intro _
    | with_reducible assumption
    | with_reducible apply State.set_keep
    | with_reducible apply keep_ite
    | split
    | dsimp only

theorem State.setHeadWork_keep {r0 s : State} {a : Nat} {h : Nat} {w : HeadWork} (hk : Keep r0 s) :
    Keep r0 (State.setHeadWork s a h w) := by
  unfold State.setHeadWork
  extract_lets x1
  try clear_value x1
  all_goals repeat' first
    | intro _
    | with_reducible assumption
    | with_reducible apply keep_ite
    | split
    | with_reducible apply Keep.mk'
    | dsimp only

theorem State.abandonChecks_keep {r0 s : State} {a : Nat} (hk : Keep r0 s) :
    Keep r0 (State.abandonChecks s a) := by
  unfold State.abandonChecks
  extract_lets x1
  try clear_value x1
  all_goals repeat' first
    | intro _
    | with_reducible assumption
    | with_reducible apply State.showChecks_keep
    | with_reducible apply State.setHeadWork_keep
    | with_reducible apply keep_ite
    | with_reducible apply keep_foldl
    | split
    | dsimp only

theorem State.setHeadModel_keep {r0 s : State} {a : Nat} {h : Nat} {m : HeadModel} (hk : Keep r0 s) :
    Keep r0 (State.setHeadModel s a h m) := by
  unfold State.setHeadModel
  extract_lets x1
  try clear_value x1
  all_goals repeat' first
    | intro _
    | with_reducible assumption
    | with_reducible apply keep_ite
    | split
    | with_reducible apply Keep.mk'
    | dsimp only

theorem State.assistSet_keep {r0 s : State} {a : Nat} {level : Nat} (hk : Keep r0 s) :
    Keep r0 (State.assistSet s a level) := by
  unfold State.assistSet
  extract_lets x1
  try clear_value x1
  all_goals repeat' first
    | intro _
    | with_reducible assumption
    | with_reducible apply State.setHeadModel_keep
    | with_reducible apply State.sendCmd_keep
    | with_reducible apply keep_ite
    | split
    | dsimp only

theorem State.assistAuto_keep {r0 s : State} {a : Nat} {h : Nat} (hk : Keep r0 s) :
    Keep r0 (State.assistAuto s a h) := by
  unfold State.assistAuto
  extract_lets x1 x2 x3 x4
  try clear_value x1
  try clear_value x2
  try clear_value x3
  refine Keep.cut (a := Keep r0 x4) ?_ fun kx4 => ?_
  unfold x4
  rotate_left
  clear_value x4
  all_goals repeat' first
    | intro _
    | with_reducible assumption
    | with_reducible apply State.assistSet_keep
    | with_reducible apply State.restoreBlock_keep
    | with_reducible apply State.raise_keep
    | with_reducible apply State.bump_keep
    | with_reducible apply keep_ite
    | split
    | dsimp only

theorem State.setTileCnt_keep {r0 s : State} {a : Nat} {h : Nat} {n : Nat} (hk : Keep r0 s) :
    Keep r0 (State.setTileCnt s a h n) := by
  unfold State.setTileCnt
  all_goals repeat' first
    | intro _
    | with_reducible assumption
    | with_reducible apply State.dramWrite_keep
    | with_reducible apply keep_ite
    | split
    | dsimp only

theorem State.setHeadRec_keep {r0 s : State} {a : Nat} {h : Nat} {r : HeadRec} (hk : Keep r0 s) :
    Keep r0 (State.setHeadRec s a h r) := by
  unfold State.setHeadRec
  all_goals repeat' first
    | intro _
    | with_reducible assumption
    | with_reducible apply State.putBytes_keep
    | with_reducible apply keep_ite
    | split
    | dsimp only

end Sys2Proof.Machine
end

