-- ==== Sys2Proof/Laws/KeepPlaceOps.lean ====
section
/-! SUPPORT. What the operations of Machine/PlaceOps.lean keep. -/

namespace Sys2Proof.Machine

set_option linter.unreachableTactic false
set_option linter.unusedTactic false

theorem State.onMason_keep {r0 s : State} {f : MasonSt → MasonSt} (hk : Keep r0 s) :
    Keep r0 (State.onMason s f) := by
  unfold State.onMason
  all_goals repeat' first
    | intro _
    | with_reducible assumption
    | with_reducible apply keep_ite
    | split
    | with_reducible apply Keep.mk'
    | dsimp only

theorem State.jrnAppend_keep {r0 s : State} {group : Nat} {b : JrnBody} (hk : Keep r0 s) :
    Keep r0 (State.jrnAppend s group b) := by
  unfold State.jrnAppend
  extract_lets x1
  try clear_value x1
  all_goals repeat' first
    | intro _
    | with_reducible assumption
    | with_reducible apply State.onMason_keep
    | with_reducible apply State.set_keep
    | with_reducible apply keep_ite
    | split
    | dsimp only

theorem State.journal_keep {r0 s : State} {bs : List JrnBody} (hk : Keep r0 s) :
    Keep r0 (State.journal s bs) := by
  unfold State.journal
  extract_lets x1 x2 x3
  try clear_value x1
  try clear_value x2
  refine Keep.cut (a := Keep r0 x3) ?_ fun kx3 => ?_
  unfold x3
  rotate_left
  clear_value x3
  all_goals repeat' first
    | intro _
    | with_reducible assumption
    | with_reducible apply State.jrnAppend_keep
    | with_reducible apply State.raise_keep
    | with_reducible apply keep_ite
    | with_reducible apply keep_foldl
    | split
    | dsimp only

theorem State.putCourse_keep {r0 s : State} {n : Nat} {c : Course} (hk : Keep r0 s) :
    Keep r0 (State.putCourse s n c) := by
  unfold State.putCourse
  all_goals repeat' first
    | intro _
    | with_reducible assumption
    | with_reducible apply State.onMason_keep
    | with_reducible apply keep_ite
    | split
    | dsimp only

theorem State.setCourse_keep {r0 s : State} {n : Nat} {c : Course} (hk : Keep r0 s) :
    Keep r0 (State.setCourse s n c) := by
  unfold State.setCourse
  all_goals repeat' first
    | intro _
    | with_reducible assumption
    | with_reducible apply State.putCourse_keep
    | with_reducible apply State.journal_keep
    | with_reducible apply keep_ite
    | split
    | dsimp only

theorem State.putExtent_keep {r0 s : State} {i : Nat} {e : Extent} (hk : Keep r0 s) :
    Keep r0 (State.putExtent s i e) := by
  unfold State.putExtent
  all_goals repeat' first
    | intro _
    | with_reducible assumption
    | with_reducible apply State.onMason_keep
    | with_reducible apply keep_ite
    | split
    | dsimp only

theorem State.setExtent_keep {r0 s : State} {i : Nat} {e : Extent} (hk : Keep r0 s) :
    Keep r0 (State.setExtent s i e) := by
  unfold State.setExtent
  all_goals repeat' first
    | intro _
    | with_reducible assumption
    | with_reducible apply State.putExtent_keep
    | with_reducible apply State.journal_keep
    | with_reducible apply keep_ite
    | split
    | dsimp only

theorem State.putTile_keep {r0 s : State} {id : Nat} {t : TileRec} (hk : Keep r0 s) :
    Keep r0 (State.putTile s id t) := by
  unfold State.putTile
  all_goals repeat' first
    | intro _
    | with_reducible assumption
    | with_reducible apply State.onMason_keep
    | with_reducible apply keep_ite
    | split
    | dsimp only

theorem State.setTile_keep {r0 s : State} {id : Nat} {t : TileRec} (hk : Keep r0 s) :
    Keep r0 (State.setTile s id t) := by
  unfold State.setTile
  all_goals repeat' first
    | intro _
    | with_reducible assumption
    | with_reducible apply State.putTile_keep
    | with_reducible apply State.journal_keep
    | with_reducible apply keep_ite
    | split
    | dsimp only

theorem State.recordVoid_keep {r0 s : State} {id : Nat} {slot : Nat} (hk : Keep r0 s) :
    Keep r0 (State.recordVoid s id slot) := by
  unfold State.recordVoid
  extract_lets x1 x2
  try clear_value x1
  try clear_value x2
  all_goals repeat' first
    | intro _
    | with_reducible assumption
    | with_reducible apply State.raise_keep
    | with_reducible apply State.setTile_keep
    | with_reducible apply State.putTile_keep
    | with_reducible apply State.journal_keep
    | with_reducible apply keep_ite
    | split
    | dsimp only

theorem State.setQueue_keep {r0 s : State} {a : Nat} {q : List Nat} (hk : Keep r0 s) :
    Keep r0 (State.setQueue s a q) := by
  unfold State.setQueue
  all_goals repeat' first
    | intro _
    | with_reducible assumption
    | with_reducible apply State.set_keep
    | with_reducible apply State.onMason_keep
    | with_reducible apply keep_ite
    | split
    | dsimp only

theorem State.enqueue_keep {r0 s : State} {a : Nat} {pred : Nat} (hk : Keep r0 s) :
    Keep r0 (State.enqueue s a pred) := by
  unfold State.enqueue
  all_goals repeat' first
    | intro _
    | with_reducible assumption
    | with_reducible apply State.setQueue_keep
    | with_reducible apply keep_ite
    | split
    | dsimp only

theorem State.dequeue_keep {r0 s : State} {a : Nat} (hk : Keep r0 s) :
    Keep r0 (State.dequeue s a) := by
  unfold State.dequeue
  all_goals repeat' first
    | intro _
    | with_reducible assumption
    | with_reducible apply State.setQueue_keep
    | with_reducible apply keep_ite
    | split
    | dsimp only

end Sys2Proof.Machine
end

