-- ==== Sys2Proof/Laws/KeepSecOps.lean ====
section
/-! SUPPORT. What the operations of Machine/SecOps.lean keep. -/

namespace Sys2Proof.Machine

set_option linter.unreachableTactic false
set_option linter.unusedTactic false

theorem State.onNor_keep {r0 s : State} {f : NorSt → NorSt} (hk : Keep r0 s) :
    Keep r0 (State.onNor s f) := by
  unfold State.onNor
  all_goals repeat' first
    | intro _
    | with_reducible assumption
    | with_reducible apply keep_ite
    | split
    | with_reducible apply Keep.mk'
    | dsimp only

theorem State.onSec_keep {r0 s : State} {f : SecSt → SecSt} (hk : Keep r0 s) :
    Keep r0 (State.onSec s f) := by
  unfold State.onSec
  all_goals repeat' first
    | intro _
    | with_reducible assumption
    | with_reducible apply keep_ite
    | split
    | with_reducible apply Keep.mk'
    | dsimp only

theorem State.setEngine_keep {r0 s : State} {e : Nat} {g : Engine} (hk : Keep r0 s) :
    Keep r0 (State.setEngine s e g) := by
  unfold State.setEngine
  extract_lets x1 x2 x3 x4
  try clear_value x2
  try clear_value x3
  refine Keep.cut (a := Keep r0 x1) ?_ fun kx1 => ?_
  unfold x1
  rotate_left
  clear_value x1
  refine Keep.cut (a := Keep r0 x4) ?_ fun kx4 => ?_
  unfold x4
  rotate_left
  clear_value x4
  all_goals repeat' first
    | intro _
    | with_reducible assumption
    | with_reducible apply State.onSec_keep
    | with_reducible apply State.set_keep
    | with_reducible apply State.setB_keep
    | with_reducible apply keep_ite
    | with_reducible apply keep_foldl
    | split
    | dsimp only

theorem State.setSlot_keep {r0 s : State} {d : Nat} {k : Keys} (hk : Keep r0 s) :
    Keep r0 (State.setSlot s d k) := by
  unfold State.setSlot
  all_goals repeat' first
    | intro _
    | with_reducible assumption
    | with_reducible apply State.onSec_keep
    | with_reducible apply keep_ite
    | split
    | dsimp only

theorem State.askRekey_keep {r0 s : State} {d : Nat} (hk : Keep r0 s) :
    Keep r0 (State.askRekey s d) := by
  unfold State.askRekey
  extract_lets x1
  refine Keep.cut (a := Keep r0 x1) ?_ fun kx1 => ?_
  unfold x1
  rotate_left
  clear_value x1
  all_goals repeat' first
    | intro _
    | with_reducible assumption
    | with_reducible apply State.onSec_keep
    | with_reducible apply State.raise_keep
    | with_reducible apply keep_ite
    | split
    | dsimp only

theorem State.markSpent_keep {r0 s : State} {kdom : Nat} (hk : Keep r0 s) :
    Keep r0 (State.markSpent s kdom) := by
  unfold State.markSpent
  extract_lets x1
  try clear_value x1
  all_goals repeat' first
    | intro _
    | with_reducible assumption
    | with_reducible apply State.askRekey_keep
    | with_reducible apply State.set_keep
    | with_reducible apply keep_ite
    | with_reducible apply keep_foldl
    | split
    | dsimp only

theorem State.spentCheck_keep {r0 s : State}  (hk : Keep r0 s) :
    Keep r0 (State.spentCheck s) := by
  unfold State.spentCheck
  extract_lets x1 x2 x3
  try clear_value x1
  try clear_value x2
  try clear_value x3
  all_goals repeat' first
    | intro _
    | with_reducible assumption
    | with_reducible apply State.raise_keep
    | with_reducible apply State.setTile_keep
    | with_reducible apply keep_ite
    | with_reducible apply keep_foldl
    | split
    | dsimp only

theorem State.keyMiss_keep {r0 s : State} {e : Nat} (hk : Keep r0 s) :
    Keep r0 (State.keyMiss s e) := by
  unfold State.keyMiss
  all_goals repeat' first
    | intro _
    | with_reducible assumption
    | with_reducible apply State.raise_keep
    | with_reducible apply State.bump_keep
    | with_reducible apply keep_ite
    | split
    | dsimp only

theorem State.endMessages_keep {r0 s : State} {d : Nat} (hk : Keep r0 s) :
    Keep r0 (State.endMessages s d) := by
  unfold State.endMessages
  extract_lets x1
  try clear_value x1
  all_goals repeat' first
    | intro _
    | with_reducible assumption
    | with_reducible apply State.keyMiss_keep
    | with_reducible apply State.setEngine_keep
    | with_reducible apply keep_ite
    | with_reducible apply keep_foldl
    | split
    | dsimp only

theorem State.setDom_keep {r0 s : State} {d : Nat} {st : Nat} {nsid : Nat} {serial : Nat} (hk : Keep r0 s) :
    Keep r0 (State.setDom s d st nsid serial) := by
  unfold State.setDom
  all_goals repeat' first
    | intro _
    | with_reducible assumption
    | with_reducible apply State.set_keep
    | with_reducible apply keep_ite
    | split
    | dsimp only

theorem State.freeDomain_keep {r0 s : State} {d : Nat} (hk : Keep r0 s) :
    Keep r0 (State.freeDomain s d) := by
  unfold State.freeDomain
  all_goals repeat' first
    | intro _
    | with_reducible assumption
    | with_reducible apply State.spentCheck_keep
    | with_reducible apply State.endMessages_keep
    | with_reducible apply State.onNor_keep
    | with_reducible apply State.setSlot_keep
    | with_reducible apply State.setDom_keep
    | with_reducible apply keep_ite
    | split
    | dsimp only

theorem State.drawKeys_keep {r0 s : State}  (hk : Keep r0 s) :
    Keep r0 (State.drawKeys s).2 := by
  unfold State.drawKeys
  all_goals repeat' first
    | intro _
    | with_reducible assumption
    | with_reducible apply keep_ite
    | split
    | with_reducible apply Keep.mk'
    | dsimp only

theorem State.norWrite_keep {r0 s : State} {w0 : Bool} {w1 : Bool} (hk : Keep r0 s) :
    Keep r0 (State.norWrite s w0 w1) := by
  unfold State.norWrite
  all_goals repeat' first
    | intro _
    | with_reducible assumption
    | with_reducible apply State.raise_keep
    | with_reducible apply State.setB_keep
    | with_reducible apply keep_ite
    | split
    | dsimp only

theorem State.makeKeys_keep {r0 s : State} {d : Nat} {nsid : Nat} {w0 : Bool} {w1 : Bool} (hk : Keep r0 s) :
    Keep r0 (State.makeKeys s d nsid w0 w1).2 := by
  unfold State.makeKeys
  extract_lets x1
  try clear_value x1
  all_goals repeat' first
    | intro _
    | with_reducible assumption
    | with_reducible apply State.raise_keep
    | with_reducible apply State.drawKeys_keep
    | with_reducible apply State.set_keep
    | with_reducible apply State.endMessages_keep
    | with_reducible apply State.onNor_keep
    | with_reducible apply State.norWrite_keep
    | with_reducible apply State.setDom_keep
    | with_reducible apply State.setSlot_keep
    | refine Keep.snd (by with_reducible assumption) ?_
    | with_reducible apply keep_ite
    | split
    | dsimp only

theorem State.decrypt_keep {r0 s : State} {c : Nat} {b : Brick} (hk : Keep r0 s) :
    Keep r0 (State.decrypt s c b).2 := by
  unfold State.decrypt
  all_goals repeat' first
    | intro _
    | with_reducible assumption
    | with_reducible apply State.bump_keep
    | with_reducible apply State.keyMiss_keep
    | with_reducible apply keep_ite
    | split
    | dsimp only

end Sys2Proof.Machine
end

