-- ==== Sys2Proof/Laws/KeepMasonOps.lean ====
section
/-! SUPPORT. What the operations of Machine/MasonOps.lean keep. -/

namespace Sys2Proof.Machine

set_option linter.unreachableTactic false
set_option linter.unusedTactic false

theorem State.breach_keep {r0 s : State} {n : Nat} (hk : Keep r0 s) :
    Keep r0 (State.breach s n) := by
  unfold State.breach
  all_goals repeat' first
    | intro _
    | with_reducible assumption
    | with_reducible apply State.raise_keep
    | with_reducible apply State.set_keep
    | with_reducible apply State.onNor_keep
    | with_reducible apply keep_ite
    | split
    | dsimp only

theorem State.complete_keep {r0 s : State} {e : Cqe} (hk : Keep r0 s) :
    Keep r0 (State.complete s e) := by
  unfold State.complete
  extract_lets x1 x2 x3 x4 x5 x6 x7 x8
  try clear_value x3
  try clear_value x5
  try clear_value x6
  try clear_value x7
  try clear_value x8
  refine Keep.cut (a := Keep r0 x1) ?_ fun kx1 => ?_
  unfold x1
  rotate_left
  clear_value x1
  refine Keep.cut (a := Keep r0 x2) ?_ fun kx2 => ?_
  unfold x2
  rotate_left
  clear_value x2
  refine Keep.cut (a := Keep r0 x4) ?_ fun kx4 => ?_
  unfold x4
  rotate_left
  clear_value x4
  all_goals repeat' first
    | intro _
    | with_reducible assumption
    | with_reducible apply State.addTo_keep
    | with_reducible apply State.bump_keep
    | with_reducible apply keep_ite
    | split
    | with_reducible apply Keep.mk'
    | dsimp only

theorem State.setCtrl_keep {r0 s : State} {id : Nat} {c : Ctrl} (hk : Keep r0 s) :
    Keep r0 (State.setCtrl s id c) := by
  unfold State.setCtrl
  extract_lets x1
  try clear_value x1
  all_goals repeat' first
    | intro _
    | with_reducible assumption
    | with_reducible apply keep_ite
    | split
    | with_reducible apply Keep.mk'
    | dsimp only

theorem State.asyncTo_keep {r0 s : State} {id : Nat} {ev : Nat × Nat × Nat} (hk : Keep r0 s) :
    Keep r0 (State.asyncTo s id ev) := by
  unfold State.asyncTo
  extract_lets x1
  try clear_value x1
  all_goals repeat' first
    | intro _
    | with_reducible assumption
    | with_reducible apply State.complete_keep
    | with_reducible apply State.setCtrl_keep
    | with_reducible apply keep_ite
    | split
    | dsimp only

theorem State.async_keep {r0 s : State} {bit : Nat} {ev : Nat × Nat × Nat} (hk : Keep r0 s) :
    Keep r0 (State.async s bit ev) := by
  unfold State.async
  all_goals repeat' first
    | intro _
    | with_reducible assumption
    | with_reducible apply State.asyncTo_keep
    | with_reducible apply keep_ite
    | with_reducible apply keep_foldl
    | split
    | dsimp only

theorem State.unrecChanged_keep {r0 s : State}  (hk : Keep r0 s) :
    Keep r0 (State.unrecChanged s) := by
  unfold State.unrecChanged
  extract_lets x1
  try clear_value x1
  all_goals repeat' first
    | intro _
    | with_reducible assumption
    | with_reducible apply State.raise_keep
    | with_reducible apply State.async_keep
    | with_reducible apply keep_ite
    | split
    | with_reducible apply Keep.mk'
    | dsimp only

theorem State.unrecAdd_keep {r0 s : State} {es : List UnrecEnt} (hk : Keep r0 s) :
    Keep r0 (State.unrecAdd s es) := by
  unfold State.unrecAdd
  extract_lets x1 x2
  try clear_value x1
  try clear_value x2
  all_goals repeat' first
    | intro _
    | with_reducible assumption
    | with_reducible apply State.unrecChanged_keep
    | with_reducible apply keep_ite
    | split
    | with_reducible apply Keep.mk'
    | dsimp only

theorem State.dropReplica_keep {r0 s : State} {ix : Nat} (hk : Keep r0 s) :
    Keep r0 (State.dropReplica s ix) := by
  unfold State.dropReplica
  extract_lets x1 x2 x3
  try clear_value x1
  try clear_value x2
  refine Keep.cut (a := Keep r0 x3) ?_ fun kx3 => ?_
  unfold x3
  rotate_left
  clear_value x3
  all_goals repeat' first
    | intro _
    | with_reducible assumption
    | with_reducible apply State.bump_keep
    | with_reducible apply State.setExtent_keep
    | with_reducible apply State.setCourse_keep
    | with_reducible apply keep_ite
    | split
    | dsimp only

theorem State.unrecCut_keep {r0 s : State} {nsid : Nat} {first : Nat} {count : Nat} (hk : Keep r0 s) :
    Keep r0 (State.unrecCut s nsid first count) := by
  unfold State.unrecCut
  extract_lets x1 x2
  try clear_value x1
  try clear_value x2
  all_goals repeat' first
    | intro _
    | with_reducible assumption
    | with_reducible apply State.unrecChanged_keep
    | with_reducible apply keep_ite
    | split
    | with_reducible apply Keep.mk'
    | dsimp only

theorem State.setFlights_keep {r0 s : State} {fs : List Flight} (hk : Keep r0 s) :
    Keep r0 (State.setFlights s fs) := by
  unfold State.setFlights
  extract_lets x1 x2 x3
  try clear_value x1
  try clear_value x3
  refine Keep.cut (a := Keep r0 x2) ?_ fun kx2 => ?_
  unfold x2
  rotate_left
  clear_value x2
  all_goals repeat' first
    | intro _
    | with_reducible assumption
    | with_reducible apply State.set_keep
    | with_reducible apply State.raise_keep
    | with_reducible apply keep_ite
    | split
    | with_reducible apply Keep.mk'
    | dsimp only

theorem State.showPool_keep {r0 s : State} {p : Nat} (hk : Keep r0 s) :
    Keep r0 (State.showPool s p) := by
  unfold State.showPool
  extract_lets x1
  try clear_value x1
  all_goals repeat' first
    | intro _
    | with_reducible assumption
    | with_reducible apply State.setB_keep
    | with_reducible apply State.set_keep
    | with_reducible apply keep_ite
    | split
    | dsimp only

theorem State.closeCourse_keep {r0 s : State} {n : Nat} (hk : Keep r0 s) :
    Keep r0 (State.closeCourse s n) := by
  unfold State.closeCourse
  extract_lets x1 x2 x3
  try clear_value x1
  try clear_value x2
  refine Keep.cut (a := Keep r0 x3) ?_ fun kx3 => ?_
  unfold x3
  rotate_left
  clear_value x3
  all_goals repeat' first
    | intro _
    | with_reducible assumption
    | with_reducible apply State.setTile_keep
    | with_reducible apply State.setCourse_keep
    | with_reducible apply State.showPool_keep
    | with_reducible apply State.onMason_keep
    | with_reducible apply keep_ite
    | with_reducible apply keep_foldl
    | split
    | dsimp only

theorem State.brickLost_keep {r0 s : State} {ix : Nat} {i : Nat} {reason : Nat} (hk : Keep r0 s) :
    Keep r0 (State.brickLost s ix i reason) := by
  unfold State.brickLost
  extract_lets x1
  try clear_value x1
  all_goals repeat' first
    | intro _
    | with_reducible assumption
    | with_reducible apply State.raise_keep
    | with_reducible apply State.bump_keep
    | with_reducible apply State.unrecAdd_keep
    | with_reducible apply State.setExtent_keep
    | with_reducible apply keep_ite
    | split
    | dsimp only

theorem State.beyondM_keep {r0 s : State} {n : Nat} (hk : Keep r0 s) :
    Keep r0 (State.beyondM s n) := by
  unfold State.beyondM
  extract_lets x1 x2 x3 x4
  try clear_value x1
  try clear_value x2
  try clear_value x3
  try clear_value x4
  all_goals repeat' first
    | intro _
    | with_reducible assumption
    | with_reducible apply State.breach_keep
    | with_reducible apply State.brickLost_keep
    | with_reducible apply keep_ite
    | with_reducible apply keep_foldl
    | split
    | dsimp only

theorem State.loseTiles_keep {r0 s : State} {n : Nat} {hit : Nat → Bool} (hk : Keep r0 s) :
    Keep r0 (State.loseTiles s n hit) := by
  unfold State.loseTiles
  extract_lets x1 x2 x3 x4 x5 x6 x7 x8 x9 x10
  try clear_value x1
  try clear_value x2
  try clear_value x3
  try clear_value x4
  try clear_value x6
  try clear_value x7
  refine Keep.cut (a := Keep r0 x5) ?_ fun kx5 => ?_
  unfold x5
  rotate_left
  clear_value x5
  refine Keep.cut (a := Keep r0 x8) ?_ fun kx8 => ?_
  unfold x8
  rotate_left
  clear_value x8
  refine Keep.cut (a := Keep r0 x9) ?_ fun kx9 => ?_
  unfold x9
  rotate_left
  clear_value x9
  refine Keep.cut (a := Keep r0 x10) ?_ fun kx10 => ?_
  unfold x10
  rotate_left
  clear_value x10
  all_goals repeat' first
    | intro _
    | with_reducible assumption
    | with_reducible apply State.setCourse_keep
    | with_reducible apply State.closeCourse_keep
    | with_reducible apply State.putCourse_keep
    | with_reducible apply State.raise_keep
    | with_reducible apply State.dropReplica_keep
    | with_reducible apply State.beyondM_keep
    | with_reducible apply State.showPool_keep
    | with_reducible apply keep_ite
    | with_reducible apply keep_foldl
    | split
    | dsimp only

theorem State.loseMembers_keep {r0 s : State} {n : Nat} {a : Nat} (hk : Keep r0 s) :
    Keep r0 (State.loseMembers s n a) := by
  unfold State.loseMembers
  all_goals repeat' first
    | intro _
    | with_reducible assumption
    | with_reducible apply State.loseTiles_keep
    | with_reducible apply keep_ite
    | split
    | dsimp only

theorem State.toSlot_keep {r0 s : State} {n : Nat} {st : Nat} (hk : Keep r0 s) :
    Keep r0 (State.toSlot s n st) := by
  unfold State.toSlot
  all_goals repeat' first
    | intro _
    | with_reducible assumption
    | with_reducible apply State.async_keep
    | with_reducible apply State.set_keep
    | with_reducible apply keep_ite
    | split
    | dsimp only

theorem State.tryExclude_keep {r0 s : State} {n : Nat} (hk : Keep r0 s) :
    Keep r0 (State.tryExclude s n) := by
  unfold State.tryExclude
  all_goals repeat' first
    | intro _
    | with_reducible assumption
    | with_reducible apply State.toSlot_keep
    | with_reducible apply keep_ite
    | split
    | dsimp only

theorem State.loseActuator_keep {r0 s : State} {a : Nat} (hk : Keep r0 s) :
    Keep r0 (State.loseActuator s a) := by
  unfold State.loseActuator
  extract_lets x1 x2 x3 x4
  try clear_value x2
  try clear_value x3
  refine Keep.cut (a := Keep r0 x1) ?_ fun kx1 => ?_
  unfold x1
  rotate_left
  clear_value x1
  refine Keep.cut (a := Keep r0 x4) ?_ fun kx4 => ?_
  unfold x4
  rotate_left
  clear_value x4
  all_goals repeat' first
    | intro _
    | with_reducible assumption
    | with_reducible apply State.onMason_keep
    | with_reducible apply State.loseMembers_keep
    | with_reducible apply State.tryExclude_keep
    | with_reducible apply State.raise_keep
    | with_reducible apply State.toSlot_keep
    | with_reducible apply keep_ite
    | with_reducible apply keep_foldl
    | split
    | dsimp only

theorem State.resetTile_keep {r0 s : State} {id : Nat} (hk : Keep r0 s) :
    Keep r0 (State.resetTile s id) := by
  unfold State.resetTile
  extract_lets x1
  try clear_value x1
  all_goals repeat' first
    | intro _
    | with_reducible assumption
    | with_reducible apply State.markSpent_keep
    | with_reducible apply State.setTile_keep
    | with_reducible apply keep_ite
    | split
    | dsimp only

theorem State.rekeyCheck_keep {r0 s : State}  (hk : Keep r0 s) :
    Keep r0 (State.rekeyCheck s) := by
  unfold State.rekeyCheck
  extract_lets x1
  try clear_value x1
  all_goals repeat' first
    | intro _
    | with_reducible assumption
    | with_reducible apply State.freeDomain_keep
    | with_reducible apply State.raise_keep
    | with_reducible apply State.onMason_keep
    | with_reducible apply keep_ite
    | with_reducible apply keep_foldl
    | split
    | dsimp only

theorem State.freeCourse_keep {r0 s : State} {n : Nat} (hk : Keep r0 s) :
    Keep r0 (State.freeCourse s n) := by
  unfold State.freeCourse
  extract_lets x1 x2 x3
  try clear_value x1
  refine Keep.cut (a := Keep r0 x2) ?_ fun kx2 => ?_
  unfold x2
  rotate_left
  clear_value x2
  refine Keep.cut (a := Keep r0 x3) ?_ fun kx3 => ?_
  unfold x3
  rotate_left
  clear_value x3
  all_goals repeat' first
    | intro _
    | with_reducible assumption
    | with_reducible apply State.setCourse_keep
    | with_reducible apply State.resetTile_keep
    | with_reducible apply State.spentCheck_keep
    | with_reducible apply State.rekeyCheck_keep
    | with_reducible apply State.showPool_keep
    | with_reducible apply State.tryExclude_keep
    | with_reducible apply keep_ite
    | with_reducible apply keep_foldl
    | split
    | dsimp only

theorem State.showQueues_keep {r0 s : State}  (hk : Keep r0 s) :
    Keep r0 (State.showQueues s) := by
  unfold State.showQueues
  extract_lets x1
  try clear_value x1
  all_goals repeat' first
    | intro _
    | with_reducible assumption
    | with_reducible apply State.set_keep
    | with_reducible apply keep_ite
    | with_reducible apply keep_foldl
    | split
    | dsimp only

theorem State.shutdownStep_keep {r0 s : State} {id : Nat} (hk : Keep r0 s) :
    Keep r0 (State.shutdownStep s id) := by
  unfold State.shutdownStep
  extract_lets x1 x2 x3 x4 x5
  try clear_value x1
  try clear_value x2
  try clear_value x3
  try clear_value x5
  refine Keep.cut (a := Keep r0 x4) ?_ fun kx4 => ?_
  unfold x4
  rotate_left
  clear_value x4
  all_goals repeat' first
    | intro _
    | with_reducible assumption
    | with_reducible apply State.raise_keep
    | with_reducible apply State.setCtrl_keep
    | with_reducible apply keep_ite
    | split
    | with_reducible apply Keep.mk'
    | dsimp only

theorem State.settle_keep {r0 s : State}  (hk : Keep r0 s) :
    Keep r0 (State.settle s) := by
  unfold State.settle
  extract_lets x1 x2 x3 x4 x5
  try clear_value x1
  try clear_value x2
  try clear_value x4
  refine Keep.cut (a := Keep r0 x3) ?_ fun kx3 => ?_
  unfold x3
  rotate_left
  clear_value x3
  refine Keep.cut (a := Keep r0 x5) ?_ fun kx5 => ?_
  unfold x5
  rotate_left
  clear_value x5
  all_goals repeat' first
    | intro _
    | with_reducible assumption
    | with_reducible apply State.complete_keep
    | with_reducible apply State.setCtrl_keep
    | with_reducible apply State.setFlights_keep
    | with_reducible apply State.showQueues_keep
    | with_reducible apply State.shutdownStep_keep
    | with_reducible apply keep_ite
    | with_reducible apply keep_foldl
    | with_reducible apply ioKeep_foldl
    | split
    | with_reducible apply Keep.mk'
    | dsimp only

theorem State.setFlight_keep {r0 s : State} {f : Flight} (hk : Keep r0 s) :
    Keep r0 (State.setFlight s f) := by
  unfold State.setFlight
  extract_lets x1
  try clear_value x1
  all_goals repeat' first
    | intro _
    | with_reducible assumption
    | with_reducible apply keep_ite
    | split
    | with_reducible apply Keep.mk'
    | dsimp only

theorem State.renewTiles_keep {r0 s : State} {n : Nat} {fresh : Bool} (hk : Keep r0 s) :
    Keep r0 (State.renewTiles s n fresh) := by
  unfold State.renewTiles
  extract_lets x1
  refine Keep.cut (a := Keep r0 x1) ?_ fun kx1 => ?_
  unfold x1
  rotate_left
  clear_value x1
  all_goals repeat' first
    | intro _
    | with_reducible assumption
    | with_reducible apply State.setTile_keep
    | with_reducible apply State.onMason_keep
    | with_reducible apply keep_ite
    | with_reducible apply keep_foldl
    | split
    | dsimp only

theorem State.finish_keep {r0 s : State} {f : Flight} {sc : Sc} {data : Nat} (hk : Keep r0 s) :
    Keep r0 (State.finish s f sc data) := by
  unfold State.finish
  all_goals repeat' first
    | intro _
    | with_reducible assumption
    | with_reducible apply State.settle_keep
    | with_reducible apply State.complete_keep
    | with_reducible apply State.setFlights_keep
    | with_reducible apply keep_ite
    | split
    | dsimp only

theorem State.unrecDrop_keep {r0 s : State} {p : UnrecEnt → Bool} (hk : Keep r0 s) :
    Keep r0 (State.unrecDrop s p) := by
  unfold State.unrecDrop
  extract_lets x1 x2
  try clear_value x1
  try clear_value x2
  all_goals repeat' first
    | intro _
    | with_reducible assumption
    | with_reducible apply State.unrecChanged_keep
    | with_reducible apply keep_ite
    | split
    | with_reducible apply Keep.mk'
    | dsimp only

theorem State.loseHead_keep {r0 s : State} {a : Nat} {h : Nat} (hk : Keep r0 s) :
    Keep r0 (State.loseHead s a h) := by
  unfold State.loseHead
  extract_lets x1 x2 x3 x4 x5 x6 x7 x8 x9
  try clear_value x1
  try clear_value x2
  try clear_value x3
  try clear_value x4
  try clear_value x9
  refine Keep.cut (a := Keep r0 x5) ?_ fun kx5 => ?_
  unfold x5
  rotate_left
  refine Keep.cut (a := Keep r0 x6) ?_ fun kx6 => ?_
  unfold x6
  rotate_left
  refine Keep.cut (a := Keep r0 x7) ?_ fun kx7 => ?_
  unfold x7
  rotate_left
  refine Keep.cut (a := Keep r0 x8) ?_ fun kx8 => ?_
  unfold x8
  rotate_left
  all_goals repeat' first
    | intro _
    | with_reducible assumption
    | with_reducible apply State.journal_keep
    | with_reducible apply State.loseTiles_keep
    | with_reducible apply State.setTile_keep
    | with_reducible apply State.dramWrite_keep
    | with_reducible apply keep_ite
    | with_reducible apply keep_foldl
    | with_reducible apply ioKeep_foldl
    | split
    | with_reducible apply Keep.mk'
    | dsimp only

theorem State.takeBack_keep {r0 s : State} {a : Nat} (hk : Keep r0 s) :
    Keep r0 (State.takeBack s a) := by
  unfold State.takeBack
  extract_lets x1 x2
  refine Keep.cut (a := Keep r0 x1) ?_ fun kx1 => ?_
  unfold x1
  rotate_left
  clear_value x1
  refine Keep.cut (a := Keep r0 x2) ?_ fun kx2 => ?_
  unfold x2
  rotate_left
  clear_value x2
  all_goals repeat' first
    | intro _
    | with_reducible assumption
    | with_reducible apply State.onMason_keep
    | with_reducible apply State.resetTile_keep
    | with_reducible apply State.showPool_keep
    | with_reducible apply State.setCourse_keep
    | with_reducible apply State.unrecDrop_keep
    | with_reducible apply keep_ite
    | with_reducible apply keep_foldl
    | split
    | dsimp only

end Sys2Proof.Machine
end

