-- ==== Sys2Proof/Laws/KeepWinOps.lean ====
section
/-! SUPPORT. What the operations of Machine/WinOps.lean keep. -/

namespace Sys2Proof.Machine

set_option linter.unreachableTactic false
set_option linter.unusedTactic false

theorem State.flagRefused_keep {r0 s : State} {agent : Nat} {w : Nat} {cause : Nat} (hk : Keep r0 s) :
    Keep r0 (State.flagRefused s agent w cause) := by
  unfold State.flagRefused
  extract_lets x1
  refine Keep.cut (a := Keep r0 x1) ?_ fun kx1 => ?_
  unfold x1
  rotate_left
  clear_value x1
  all_goals repeat' first
    | intro _
    | with_reducible assumption
    | with_reducible apply State.set_keep
    | with_reducible apply State.raise_keep
    | with_reducible apply State.bump_keep
    | with_reducible apply keep_ite
    | split
    | dsimp only

theorem State.showFree_keep {r0 s : State} {w : Nat} (hk : Keep r0 s) :
    Keep r0 (State.showFree s w) := by
  unfold State.showFree
  all_goals repeat' first
    | intro _
    | with_reducible assumption
    | with_reducible apply State.set_keep
    | with_reducible apply keep_ite
    | split
    | dsimp only

theorem State.onHod_keep {r0 s : State} {f : HodSt → HodSt} (hk : Keep r0 s)
    (hf : ∀ b, Memory.wf b.sram = true → Memory.wf (f b).sram = true) : Keep r0 (State.onHod s f) := hk.hod' _ (hf _)

theorem State.regain_keep {r0 s : State} {w : Nat} {n : Nat} (hk : Keep r0 s) :
    Keep r0 (State.regain s w n) := by
  unfold State.regain
  all_goals repeat' first
    | intro _
    | with_reducible assumption
    | with_reducible apply State.showFree_keep
    | with_reducible apply State.onHod_keep
    | with_reducible apply keep_ite
    | exact fun _ hb => hb
    | split
    | dsimp only

theorem State.onChan_keep {r0 s : State} {n : Nat} {f : Chan → Chan} (hk : Keep r0 s) :
    Keep r0 (State.onChan s n f) := by
  unfold State.onChan
  all_goals repeat' first
    | intro _
    | with_reducible assumption
    | with_reducible apply State.onHod_keep
    | with_reducible apply keep_ite
    | exact fun _ hb => hb
    | split
    | dsimp only

theorem State.setFlagBit_keep {r0 s : State} {f : Nat} (hk : Keep r0 s) :
    Keep r0 (State.setFlagBit s f) := by
  unfold State.setFlagBit
  extract_lets x1 x2 x3
  try clear_value x1
  try clear_value x2
  refine Keep.cut (a := Keep r0 x3) ?_ fun kx3 => ?_
  unfold x3
  rotate_left
  clear_value x3
  all_goals repeat' first
    | intro _
    | with_reducible assumption
    | with_reducible apply State.onChan_keep
    | with_reducible apply State.set_keep
    | with_reducible apply keep_ite
    | with_reducible apply keep_foldl
    | split
    | dsimp only

theorem State.onPallets_keep {r0 s : State} {a : Nat} {f : List Pallet → List Pallet} (hk : Keep r0 s) :
    Keep r0 (State.onPallets s a f) := by
  unfold State.onPallets
  extract_lets x1
  try clear_value x1
  all_goals repeat' first
    | intro _
    | with_reducible assumption
    | with_reducible apply keep_ite
    | split
    | with_reducible apply Keep.mk'
    | dsimp only

theorem State.palletFlip_keep {r0 s : State} {slot : Nat} {addr : Nat} {old : Nat} {new : Nat} {by_ : Nat} (hk : Keep r0 s) :
    Keep r0 (State.palletFlip s slot addr old new by_) := by
  unfold State.palletFlip
  extract_lets x1
  refine Keep.cut (a := Keep r0 x1) ?_ fun kx1 => ?_
  unfold x1
  rotate_left
  clear_value x1
  all_goals repeat' first
    | intro _
    | with_reducible assumption
    | with_reducible apply State.onPallets_keep
    | with_reducible apply keep_ite
    | split
    | dsimp only

theorem State.flipped_keep {r0 s : State} {w : Nat} {n : Nat} {space : Nat} {addr : Nat} {old : Nat} {owner : Nat} {hseq : Nat} {by_ : Nat} (hk : Keep r0 s) :
    Keep r0 (State.flipped s w n space addr old owner hseq by_) := by
  unfold State.flipped
  extract_lets x1 x2 x3 x4 x5 x6
  try clear_value x2
  try clear_value x3
  refine Keep.cut (a := Keep r0 x1) ?_ fun kx1 => ?_
  unfold x1
  rotate_left
  clear_value x1
  refine Keep.cut (a := Keep r0 x4) ?_ fun kx4 => ?_
  unfold x4
  rotate_left
  clear_value x4
  refine Keep.cut (a := Keep r0 x5) ?_ fun kx5 => ?_
  unfold x5
  rotate_left
  clear_value x5
  refine Keep.cut (a := Keep r0 x6) ?_ fun kx6 => ?_
  unfold x6
  rotate_left
  clear_value x6
  all_goals repeat' first
    | intro _
    | with_reducible assumption
    | with_reducible apply State.regain_keep
    | with_reducible apply State.post_keep
    | with_reducible apply State.setFlagBit_keep
    | with_reducible apply State.onHod_keep
    | with_reducible apply State.palletFlip_keep
    | with_reducible apply keep_ite
    | exact fun _ hb => hb
    | split
    | dsimp only

theorem State.clearFlagPoison_keep {r0 s : State} {space : Nat} {addr : Nat} (hk : Keep r0 s) :
    Keep r0 (State.clearFlagPoison s space addr) := by
  unfold State.clearFlagPoison
  all_goals repeat' first
    | intro _
    | with_reducible assumption
    | with_reducible apply State.setPoison_keep
    | with_reducible apply keep_ite
    | split
    | dsimp only

theorem State.setMemByte_keep {r0 s : State} {space addr b : Nat} (hk : Keep r0 s) : Keep r0 (State.setMemByte s space addr b) := by
  unfold State.setMemByte
  split
  · exact State.setDramByte_keep hk
  · exact State.onHod_keep hk fun _ h => Tab.wf_put (fun _ => 0#8) _ _ h

theorem State.memWrite_keep {r0 s : State} {space addr : Nat} {bs : List Nat} (hk : Keep r0 s) :
    Keep r0 (State.memWrite s space addr bs) := by
  induction bs generalizing s addr with
  | nil => exact hk
  | cons b bs ih => exact ih (State.setMemByte_keep hk)

theorem State.putFlag_keep {r0 s : State} {space : Nat} {addr : Nat} {owner : Nat} {hseq : Nat} {err : Bool} (hk : Keep r0 s) :
    Keep r0 (State.putFlag s space addr owner hseq err) := by
  unfold State.putFlag
  all_goals repeat' first
    | intro _
    | with_reducible assumption
    | with_reducible apply State.clearFlagPoison_keep
    | with_reducible apply State.memWrite_keep
    | with_reducible apply keep_ite
    | split
    | dsimp only

theorem State.flagWrite_keep {r0 s : State} {agent : Nat} {space : Nat} {addr : Nat} {owner : Nat} {hseq : Nat} {err : Bool} (hk : Keep r0 s) :
    Keep r0 (State.flagWrite s agent space addr owner hseq err).2 := by
  unfold State.flagWrite
  extract_lets x1
  try clear_value x1
  all_goals repeat' first
    | intro _
    | with_reducible assumption
    | with_reducible apply State.flagRefused_keep
    | with_reducible apply State.flipped_keep
    | with_reducible apply State.putFlag_keep
    | with_reducible apply keep_ite
    | split
    | dsimp only

theorem State.flip_keep {r0 s : State} {agent : Nat} {space : Nat} {addr : Nat} {owner : Nat} {err : Bool} (hk : Keep r0 s) :
    Keep r0 (State.flip s agent space addr owner err).2 := by
  unfold State.flip
  all_goals repeat' first
    | intro _
    | with_reducible assumption
    | with_reducible apply State.flagWrite_keep
    | refine Keep.snd (by with_reducible assumption) ?_
    | with_reducible apply keep_ite
    | split
    | dsimp only

theorem State.unitTo_keep {r0 s : State} {u : Nat} {owner : Nat} (hk : Keep r0 s) :
    Keep r0 (State.unitTo s u owner) := by
  unfold State.unitTo
  all_goals repeat' first
    | intro _
    | with_reducible assumption
    | with_reducible apply State.flip_keep
    | refine Keep.snd (by with_reducible assumption) ?_
    | with_reducible apply keep_ite
    | split
    | dsimp only

theorem State.flagRead_keep {r0 s : State} {space : Nat} {addr : Nat} (hk : Keep r0 s) :
    Keep r0 (State.flagRead s space addr).2 := by
  unfold State.flagRead
  all_goals repeat' first
    | intro _
    | with_reducible assumption
    | with_reducible apply State.raise_keep
    | with_reducible apply keep_ite
    | split
    | dsimp only

theorem State.setFlags_keep {r0 s : State} {mask : Nat} (hk : Keep r0 s) :
    Keep r0 (State.setFlags s mask) := by
  unfold State.setFlags
  all_goals repeat' first
    | intro _
    | with_reducible assumption
    | with_reducible apply State.setFlagBit_keep
    | with_reducible apply keep_ite
    | with_reducible apply keep_foldl
    | split
    | dsimp only

theorem State.clearFlags_keep {r0 s : State} {mask : Nat} (hk : Keep r0 s) :
    Keep r0 (State.clearFlags s mask) := by
  unfold State.clearFlags
  extract_lets x1
  try clear_value x1
  all_goals repeat' first
    | intro _
    | with_reducible assumption
    | with_reducible apply State.set_keep
    | with_reducible apply keep_ite
    | split
    | dsimp only

theorem State.giveSlot_keep {r0 s : State} {w : Nat} {n : Nat} {agent : Nat} {pair : Bool} (hk : Keep r0 s) :
    Keep r0 (State.giveSlot s w n agent pair) := by
  unfold State.giveSlot
  extract_lets x1 x2
  try clear_value x1
  refine Keep.cut (a := Keep r0 x2) ?_ fun kx2 => ?_
  unfold x2
  rotate_left
  clear_value x2
  all_goals repeat' first
    | intro _
    | with_reducible assumption
    | with_reducible apply State.onHod_keep
    | with_reducible apply State.showFree_keep
    | with_reducible apply State.putFlag_keep
    | with_reducible apply keep_ite
    | exact fun _ hb => hb
    | split
    | dsimp only

theorem State.takeUnit_keep {r0 s : State} {u : Nat} {c : Nat} {pair : Bool} (hk : Keep r0 s) :
    Keep r0 (State.takeUnit s u c pair) := by
  unfold State.takeUnit
  all_goals repeat' first
    | intro _
    | with_reducible assumption
    | with_reducible apply State.giveSlot_keep
    | with_reducible apply keep_ite
    | split
    | dsimp only

theorem State.allocate1_keep {r0 s : State} {w : Nat} {agent : Nat} {pair : Bool} (hk : Keep r0 s) :
    Keep r0 (State.allocate1 s w agent pair).2 := by
  unfold State.allocate1
  all_goals repeat' first
    | intro _
    | with_reducible assumption
    | with_reducible apply State.giveSlot_keep
    | with_reducible apply State.raise_keep
    | with_reducible apply keep_ite
    | split
    | dsimp only

end Sys2Proof.Machine
end

