-- ==== Sys2Proof/Laws/KeepRcOps.lean ====
section
/-! SUPPORT. What the operations of Machine/RcOps.lean keep. -/

namespace Sys2Proof.Machine

set_option linter.unreachableTactic false
set_option linter.unusedTactic false

theorem State.report_keep {r0 s : State} {r : Report} (hk : Keep r0 s) :
    Keep r0 (State.report s r) := by
  unfold State.report
  extract_lets x1 x2 x3
  try clear_value x1
  try clear_value x3
  refine Keep.cut (a := Keep r0 x2) ?_ fun kx2 => ?_
  unfold x2
  rotate_left
  clear_value x2
  all_goals repeat' first
    | intro _
    | with_reducible assumption
    | with_reducible apply State.post_keep
    | with_reducible apply State.drawn_keep
    | with_reducible apply keep_ite
    | split
    | with_reducible apply Keep.mk'
    | dsimp only

theorem State.reportRec_keep {r0 s : State} {k : ReportKind} {r : Record} {lv : Nat} (hk : Keep r0 s) :
    Keep r0 (State.reportRec s k r lv) := by
  unfold State.reportRec
  all_goals repeat' first
    | intro _
    | with_reducible assumption
    | with_reducible apply State.report_keep
    | with_reducible apply keep_ite
    | split
    | dsimp only

theorem State.freeUnits_keep {r0 s : State} {u : Nat} (hk : Keep r0 s) :
    Keep r0 (State.freeUnits s u) := by
  unfold State.freeUnits
  extract_lets x1
  try clear_value x1
  all_goals repeat' first
    | intro _
    | with_reducible assumption
    | with_reducible apply State.unitTo_keep
    | with_reducible apply keep_ite
    | split
    | with_reducible apply Keep.mk'
    | dsimp only

theorem State.setPool_keep {r0 s : State} {c : Nat} {p : Pool} (hk : Keep r0 s) :
    Keep r0 (State.setPool s c p) := by
  unfold State.setPool
  extract_lets x1 x2 x3
  try clear_value x1
  try clear_value x3
  refine Keep.cut (a := Keep r0 x2) ?_ fun kx2 => ?_
  unfold x2
  rotate_left
  clear_value x2
  all_goals repeat' first
    | intro _
    | with_reducible assumption
    | with_reducible apply State.set_keep
    | with_reducible apply keep_ite
    | split
    | with_reducible apply Keep.mk'
    | dsimp only

theorem State.startRetries_keep {r0 s : State} {n c : Nat} (hk : Keep r0 s) : Keep r0 (State.startRetries n s c) := by
  induction n generalizing s with
  | zero => exact hk
  | succ n ih =>
    unfold State.startRetries
    dsimp only
    repeat' first
      | intro _
      | with_reducible apply ih
      | with_reducible assumption
      | with_reducible apply State.setPool_keep
      | with_reducible apply keep_ite
      | split
      | dsimp only

theorem State.settlePool_keep {r0 s : State} {c : Nat} (hk : Keep r0 s) :
    Keep r0 (State.settlePool s c) := by
  unfold State.settlePool
  extract_lets x1 x2
  try clear_value x1
  refine Keep.cut (a := Keep r0 x2) ?_ fun kx2 => ?_
  unfold x2
  rotate_left
  clear_value x2
  all_goals repeat' first
    | intro _
    | with_reducible assumption
    | with_reducible apply State.setPool_keep
    | with_reducible apply State.startRetries_keep
    | with_reducible apply keep_ite
    | split
    | dsimp only

theorem State.onDet_keep {r0 s : State} {a : Nat} {f : Det → Det} (hk : Keep r0 s) :
    Keep r0 (State.onDet s a f) := by
  unfold State.onDet
  extract_lets x1 x2 x3
  try clear_value x1
  try clear_value x2
  refine Keep.cut (a := Keep r0 x3) ?_ fun kx3 => ?_
  unfold x3
  rotate_left
  clear_value x3
  all_goals repeat' first
    | intro _
    | with_reducible assumption
    | with_reducible apply State.set_keep
    | with_reducible apply keep_ite
    | split
    | with_reducible apply Keep.mk'
    | dsimp only

theorem State.abandonWin_keep {r0 s : State} {a : Nat} {k : ReportKind} (hk : Keep r0 s) :
    Keep r0 (State.abandonWin s a k) := by
  unfold State.abandonWin
  extract_lets x1 x2
  try clear_value x2
  refine Keep.cut (a := Keep r0 x1) ?_ fun kx1 => ?_
  unfold x1
  rotate_left
  clear_value x1
  all_goals repeat' first
    | intro _
    | with_reducible assumption
    | with_reducible apply State.onDet_keep
    | with_reducible apply State.reportRec_keep
    | with_reducible apply State.setPool_keep
    | with_reducible apply keep_ite
    | split
    | dsimp only

theorem State.setRingRec_keep {r0 s : State} {a : Nat} {u : Nat} {r : Record} (hk : Keep r0 s) :
    Keep r0 (State.setRingRec s a u r) := by
  unfold State.setRingRec
  all_goals repeat' first
    | intro _
    | with_reducible assumption
    | with_reducible apply State.onDet_keep
    | with_reducible apply keep_ite
    | split
    | dsimp only

theorem State.setPin_keep {r0 s : State} {a : Nat} {u : Nat} {b : Bool} (hk : Keep r0 s) :
    Keep r0 (State.setPin s a u b) := by
  unfold State.setPin
  extract_lets x1 x2
  try clear_value x1
  try clear_value x2
  all_goals repeat' first
    | intro _
    | with_reducible assumption
    | with_reducible apply State.set_keep
    | with_reducible apply keep_ite
    | split
    | dsimp only

theorem State.toLadder_keep {r0 s : State} {a : Nat} {u : Nat} {reason : Nat} (hk : Keep r0 s) :
    Keep r0 (State.toLadder s a u reason) := by
  unfold State.toLadder
  extract_lets x1 x2 x3
  try clear_value x1
  try clear_value x2
  refine Keep.cut (a := Keep r0 x3) ?_ fun kx3 => ?_
  unfold x3
  rotate_left
  clear_value x3
  all_goals repeat' first
    | intro _
    | with_reducible assumption
    | with_reducible apply State.setRingRec_keep
    | with_reducible apply State.setPin_keep
    | with_reducible apply State.reportRec_keep
    | with_reducible apply State.raise_keep
    | with_reducible apply keep_ite
    | split
    | dsimp only

theorem State.setDec_keep {r0 s : State} {a : Nat} {done : Bool} {pass : Bool} (hk : Keep r0 s) :
    Keep r0 (State.setDec s a done pass) := by
  unfold State.setDec
  extract_lets x1 x2
  try clear_value x1
  try clear_value x2
  all_goals repeat' first
    | intro _
    | with_reducible assumption
    | with_reducible apply keep_ite
    | split
    | with_reducible apply Keep.mk'
    | dsimp only

theorem State.releaseKept_keep {r0 s : State} {tile : Nat} {slot : Nat} (hk : Keep r0 s) :
    Keep r0 (State.releaseKept s tile slot) := by
  unfold State.releaseKept
  extract_lets x1 x2 x3
  try clear_value x1
  try clear_value x3
  refine Keep.cut (a := Keep r0 x2) ?_ fun kx2 => ?_
  unfold x2
  rotate_left
  clear_value x2
  all_goals repeat' first
    | intro _
    | with_reducible assumption
    | with_reducible apply State.freeUnits_keep
    | with_reducible apply keep_ite
    | with_reducible apply keep_foldl
    | with_reducible apply ioKeep_foldl
    | split
    | with_reducible apply Keep.mk'
    | dsimp only

theorem State.readOver_keep {r0 s : State} {r : Record} (hk : Keep r0 s) :
    Keep r0 (State.readOver s r) := by
  unfold State.readOver
  extract_lets x1
  try clear_value x1
  all_goals repeat' first
    | intro _
    | with_reducible assumption
    | with_reducible apply State.releaseKept_keep
    | with_reducible apply keep_ite
    | split
    | with_reducible apply Keep.mk'
    | dsimp only

theorem State.postRetry_keep {r0 s : State} {c : Nat} {j : RetryJob} (hk : Keep r0 s) :
    Keep r0 (State.postRetry s c j) := by
  unfold State.postRetry
  extract_lets x1
  try clear_value x1
  all_goals repeat' first
    | intro _
    | with_reducible assumption
    | with_reducible apply State.raise_keep
    | with_reducible apply State.settlePool_keep
    | with_reducible apply State.unitTo_keep
    | with_reducible apply State.setPool_keep
    | with_reducible apply keep_ite
    | split
    | dsimp only

theorem State.holdBrick_keep {r0 s : State} {a : Nat} {r : Record} {ciph : Nat} {b : Brick} (hk : Keep r0 s) :
    Keep r0 (State.holdBrick s a r ciph b) := by
  unfold State.holdBrick
  extract_lets x1
  try clear_value x1
  all_goals repeat' first
    | intro _
    | with_reducible assumption
    | with_reducible apply keep_ite
    | split
    | with_reducible apply Keep.mk'
    | dsimp only

theorem State.judge_keep {r0 s : State} {c : Nat} {a : Nat} {o : Nat} (hk : Keep r0 s) :
    Keep r0 (State.judge s c a o) := by
  unfold State.judge
  all_goals repeat' first
    | intro _
    | with_reducible assumption
    | with_reducible apply State.raise_keep
    | with_reducible apply State.bump_keep
    | with_reducible apply keep_ite
    | split
    | dsimp only

theorem State.placeLive_keep {r0 s : State} {c : Nat} {j : LiveJob} (hk : Keep r0 s) :
    Keep r0 (State.placeLive s c j) := by
  unfold State.placeLive
  extract_lets x1
  try clear_value x1
  all_goals repeat' first
    | intro _
    | with_reducible assumption
    | with_reducible apply State.setPool_keep
    | with_reducible apply State.raise_keep
    | with_reducible apply State.bump_keep
    | with_reducible apply keep_ite
    | split
    | dsimp only

theorem State.setStored_keep {r0 s : State} {u : Nat} {r : Record} (hk : Keep r0 s) :
    Keep r0 (State.setStored s u r) := by
  unfold State.setStored
  extract_lets x1
  try clear_value x1
  all_goals repeat' first
    | intro _
    | with_reducible assumption
    | with_reducible apply keep_ite
    | split
    | with_reducible apply Keep.mk'
    | dsimp only

end Sys2Proof.Machine
end

