-- ==== Sys2Proof/Laws/KeepCacheOps.lean ====
section
/-! SUPPORT. What the operations of Machine/CacheOps.lean keep. -/

namespace Sys2Proof.Machine

set_option linter.unreachableTactic false
set_option linter.unusedTactic false

theorem State.setWay_keep {r0 s : State} {w : Nat} {l : Line} (hk : Keep r0 s) :
    Keep r0 (State.setWay s w l) := by
  unfold State.setWay
  all_goals repeat' first
    | intro _
    | with_reducible assumption
    | with_reducible apply State.onBuf_keep
    | with_reducible apply keep_ite
    | exact fun _ hb => hb
    | split
    | dsimp only

theorem State.dropSub_keep {r0 s : State} {w : Nat} {sub : Nat} (hk : Keep r0 s) :
    Keep r0 (State.dropSub s w sub) := by
  unfold State.dropSub
  extract_lets x1 x2
  try clear_value x1
  try clear_value x2
  all_goals repeat' first
    | intro _
    | with_reducible assumption
    | with_reducible apply State.setWay_keep
    | with_reducible apply keep_ite
    | split
    | dsimp only

theorem State.ownerAction_keep {r0 s : State} {r : Nat} {line : Nat} {brick : Option Nat} (hk : Keep r0 s) :
    Keep r0 (State.ownerAction s r line brick) := by
  unfold State.ownerAction
  extract_lets x1 x2 x3 x4 x5 x6 x7 x8 x9 x10 x11
  try clear_value x1
  try clear_value x2
  try clear_value x3
  try clear_value x4
  try clear_value x5
  try clear_value x6
  try clear_value x7
  try clear_value x8
  try clear_value x9
  try clear_value x10
  try clear_value x11
  all_goals repeat' first
    | intro _
    | with_reducible assumption
    | with_reducible apply State.onMason_keep
    | with_reducible apply State.setPoison_keep
    | with_reducible apply State.breach_keep
    | with_reducible apply State.raise_keep
    | with_reducible apply State.unrecAdd_keep
    | with_reducible apply State.dropSub_keep
    | with_reducible apply State.reportRec_keep
    | with_reducible apply State.freeUnits_keep
    | with_reducible apply State.restoreBlock_keep
    | with_reducible apply keep_ite
    | split
    | dsimp only

theorem State.uncorrectable_keep {r0 s : State} {r : Nat} {line : Nat} {source : Nat} {brick : Option Nat} (hk : Keep r0 s) :
    Keep r0 (State.uncorrectable s r line source brick) := by
  unfold State.uncorrectable
  extract_lets x1
  refine Keep.cut (a := Keep r0 x1) ?_ fun kx1 => ?_
  unfold x1
  rotate_left
  clear_value x1
  all_goals repeat' first
    | intro _
    | with_reducible assumption
    | with_reducible apply State.set_keep
    | with_reducible apply State.bump_keep
    | with_reducible apply State.setPoison_keep
    | with_reducible apply State.ownerAction_keep
    | with_reducible apply State.raise_keep
    | with_reducible apply keep_ite
    | split
    | dsimp only

theorem State.toPallets_keep {r0 s : State} {nsid : Nat} {obj : Nat} {lba : Nat} {data : Nat} {len : Nat} {order : Nat} {stream : Nat × Nat} (hk : Keep r0 s) :
    Keep r0 (State.toPallets s nsid obj lba data len order stream) := by
  unfold State.toPallets
  extract_lets x1
  try clear_value x1
  all_goals repeat' first
    | intro _
    | with_reducible assumption
    | with_reducible apply State.onMason_keep
    | with_reducible apply keep_ite
    | split
    | dsimp only

theorem State.destageSub_keep {r0 s : State} {w : Nat} {sub : Nat} (hk : Keep r0 s) :
    Keep r0 (State.destageSub s w sub) := by
  unfold State.destageSub
  extract_lets x1 x2 x3 x4
  try clear_value x1
  try clear_value x2
  try clear_value x3
  refine Keep.cut (a := Keep r0 x4) ?_ fun kx4 => ?_
  unfold x4
  rotate_left
  clear_value x4
  all_goals repeat' first
    | intro _
    | with_reducible assumption
    | with_reducible apply State.toPallets_keep
    | with_reducible apply State.setWay_keep
    | with_reducible apply keep_ite
    | with_reducible apply keep_foldl
    | split
    | dsimp only

theorem State.setCeil_keep {r0 s : State} {c : Nat} (hk : Keep r0 s) :
    Keep r0 (State.setCeil s c) := by
  unfold State.setCeil
  all_goals repeat' first
    | intro _
    | with_reducible assumption
    | with_reducible apply State.raise_keep
    | with_reducible apply State.set_keep
    | with_reducible apply keep_ite
    | split
    | dsimp only

theorem State.toCache_keep {r0 s : State} {st : Nat} (hk : Keep r0 s) :
    Keep r0 (State.toCache s st) := by
  unfold State.toCache
  extract_lets x1 x2
  refine Keep.cut (a := Keep r0 x1) ?_ fun kx1 => ?_
  unfold x1
  rotate_left
  clear_value x1
  refine Keep.cut (a := Keep r0 x2) ?_ fun kx2 => ?_
  unfold x2
  rotate_left
  clear_value x2
  all_goals repeat' first
    | intro _
    | with_reducible assumption
    | with_reducible apply State.raise_keep
    | with_reducible apply State.set_keep
    | with_reducible apply State.onBuf_keep
    | with_reducible apply keep_ite
    | exact fun _ hb => hb
    | split
    | dsimp only

theorem State.syncCache_keep {r0 s : State}  (hk : Keep r0 s) :
    Keep r0 (State.syncCache s) := by
  unfold State.syncCache
  extract_lets x1 x2 x3 x4 x5 x6
  try clear_value x1
  try clear_value x2
  try clear_value x4
  refine Keep.cut (a := Keep r0 x3) ?_ fun kx3 => ?_
  unfold x3
  rotate_left
  clear_value x3
  refine Keep.cut (a := Keep r0 x5) ?_ fun kx5 => ?_
  unfold x5
  rotate_left
  clear_value x5
  refine Keep.cut (a := Keep r0 x6) ?_ fun kx6 => ?_
  unfold x6
  rotate_left
  clear_value x6
  all_goals repeat' first
    | intro _
    | with_reducible assumption
    | with_reducible apply State.onBuf_keep
    | with_reducible apply State.setCeil_keep
    | with_reducible apply State.set_keep
    | with_reducible apply State.toCache_keep
    | with_reducible apply keep_ite
    | exact fun _ hb => hb
    | split
    | dsimp only

theorem State.putWayBrick_keep {r0 s : State} {w : Nat} {brick : Nat} {data : Nat} (hk : Keep r0 s) :
    Keep r0 (State.putWayBrick s w brick data) := by
  unfold State.putWayBrick
  all_goals repeat' first
    | intro _
    | with_reducible assumption
    | with_reducible apply State.cleanWrite_keep
    | with_reducible apply State.dramWrite_keep
    | with_reducible apply keep_ite
    | split
    | dsimp only

theorem State.dropClean_keep {r0 s : State} {w : Nat} (hk : Keep r0 s) :
    Keep r0 (State.dropClean s w) := by
  unfold State.dropClean
  extract_lets x1
  try clear_value x1
  all_goals repeat' first
    | intro _
    | with_reducible assumption
    | with_reducible apply State.setWay_keep
    | with_reducible apply State.bumpN_keep
    | with_reducible apply State.bump_keep
    | with_reducible apply keep_ite
    | split
    | dsimp only

theorem State.allocate_keep {r0 s : State} {nsid : Nat} {l : Nat} (hk : Keep r0 s) :
    Keep r0 (State.allocate s nsid l).2 := by
  unfold State.allocate
  extract_lets x1 x2 x3 x4 x5 x6
  try clear_value x1
  try clear_value x2
  try clear_value x3
  try clear_value x4
  try clear_value x5
  refine Keep.cut (a := Keep r0 x6) ?_ fun kx6 => ?_
  unfold x6
  rotate_left
  clear_value x6
  all_goals repeat' first
    | intro _
    | with_reducible assumption
    | with_reducible apply State.setWay_keep
    | with_reducible apply State.set_keep
    | with_reducible apply State.dropClean_keep
    | with_reducible apply State.bump_keep
    | with_reducible apply keep_ite
    | split
    | dsimp only

theorem State.dropLines_keep {r0 s : State} {nsid : Option Nat} (hk : Keep r0 s) :
    Keep r0 (State.dropLines s nsid) := by
  unfold State.dropLines
  all_goals repeat' first
    | intro _
    | with_reducible assumption
    | with_reducible apply State.onBuf_keep
    | with_reducible apply keep_ite
    | exact fun _ hb => hb
    | split
    | dsimp only

theorem State.corrected_keep {r0 s : State} {r : Nat} {line : Nat} (hk : Keep r0 s) :
    Keep r0 (State.corrected s r line) := by
  unfold State.corrected
  all_goals repeat' first
    | intro _
    | with_reducible assumption
    | with_reducible apply State.onBuf_keep
    | with_reducible apply State.raise_keep
    | with_reducible apply State.bump_keep
    | with_reducible apply keep_ite
    | exact fun _ hb => hb
    | split
    | dsimp only

theorem State.wayFor_keep {r0 s : State} {nsid : Nat} {l : Nat} (hk : Keep r0 s) :
    Keep r0 (State.wayFor s nsid l).2 := by
  unfold State.wayFor
  all_goals repeat' first
    | intro _
    | with_reducible assumption
    | with_reducible apply State.allocate_keep
    | refine Keep.snd (by with_reducible assumption) ?_
    | with_reducible apply keep_ite
    | split
    | dsimp only

end Sys2Proof.Machine
end

