-- ==== Sys2Proof/Laws/KeepServoOps.lean ====
section
/-! SUPPORT. What the operations of Machine/ServoOps.lean keep. -/

namespace Sys2Proof.Machine

set_option linter.unreachableTactic false
set_option linter.unusedTactic false

theorem State.setChanBit_keep {r0 s : State} {a : Nat} {f : RF} {b : Bool} (hk : Keep r0 s) :
    Keep r0 (State.setChanBit s a f b) := by
  unfold State.setChanBit
  all_goals repeat' first
    | intro _
    | with_reducible assumption
    | with_reducible apply State.set_keep
    | with_reducible apply keep_ite
    | split
    | dsimp only

theorem State.setCauses_keep {r0 s : State} {a : Nat} {c : Nat} (hk : Keep r0 s) :
    Keep r0 (State.setCauses s a c) := by
  unfold State.setCauses
  extract_lets x1 x2
  try clear_value x1
  refine Keep.cut (a := Keep r0 x2) ?_ fun kx2 => ?_
  unfold x2
  rotate_left
  clear_value x2
  all_goals repeat' first
    | intro _
    | with_reducible assumption
    | with_reducible apply State.setChanBit_keep
    | with_reducible apply State.setB_keep
    | with_reducible apply State.set_keep
    | with_reducible apply State.raise_keep
    | with_reducible apply State.bump_keep
    | with_reducible apply keep_ite
    | split
    | dsimp only

theorem State.setCause_keep {r0 s : State} {a : Nat} {n : Nat} {b : Bool} (hk : Keep r0 s) :
    Keep r0 (State.setCause s a n b) := by
  unfold State.setCause
  all_goals repeat' first
    | intro _
    | with_reducible assumption
    | with_reducible apply State.setCauses_keep
    | with_reducible apply keep_ite
    | split
    | dsimp only

theorem State.syncEngine_keep {r0 s : State} {e : Nat} (hk : Keep r0 s) :
    Keep r0 (State.syncEngine s e) := by
  unfold State.syncEngine
  extract_lets x1
  try clear_value x1
  all_goals repeat' first
    | intro _
    | with_reducible assumption
    | with_reducible apply State.setCause_keep
    | with_reducible apply keep_ite
    | with_reducible apply keep_foldl
    | split
    | dsimp only

theorem State.reloadOpen_keep {r0 s : State} {a : Nat} (hk : Keep r0 s) :
    Keep r0 (State.reloadOpen s a) := by
  unfold State.reloadOpen
  extract_lets x1
  try clear_value x1
  all_goals repeat' first
    | intro _
    | with_reducible assumption
    | with_reducible apply State.loadCoef_keep
    | with_reducible apply keep_ite
    | split
    | with_reducible apply Keep.mk'
    | dsimp only

theorem State.settleEngine_keep {r0 s : State} {e : Nat} (hk : Keep r0 s) :
    Keep r0 (State.settleEngine s e) := by
  unfold State.settleEngine
  all_goals repeat' first
    | intro _
    | with_reducible assumption
    | with_reducible apply State.set_keep
    | with_reducible apply keep_ite
    | split
    | dsimp only

theorem State.syncFollow_keep {r0 s : State} {a : Nat} (hk : Keep r0 s) :
    Keep r0 (State.syncFollow s a) := by
  unfold State.syncFollow
  all_goals repeat' first
    | intro _
    | with_reducible assumption
    | with_reducible apply State.setCause_keep
    | with_reducible apply keep_ite
    | split
    | dsimp only

theorem State.toLoop_keep {r0 s : State} {a : Nat} {st : Nat} (hk : Keep r0 s) :
    Keep r0 (State.toLoop s a st) := by
  unfold State.toLoop
  extract_lets x1
  refine Keep.cut (a := Keep r0 x1) ?_ fun kx1 => ?_
  unfold x1
  rotate_left
  clear_value x1
  all_goals repeat' first
    | intro _
    | with_reducible assumption
    | with_reducible apply State.abandonChecks_keep
    | with_reducible apply State.settleEngine_keep
    | with_reducible apply State.syncFollow_keep
    | with_reducible apply State.setB_keep
    | with_reducible apply State.setChanBit_keep
    | with_reducible apply State.set_keep
    | with_reducible apply keep_ite
    | split
    | dsimp only

theorem State.toState_keep {r0 s : State} {a : Nat} {st : Nat} (hk : Keep r0 s) :
    Keep r0 (State.toState s a st) := by
  unfold State.toState
  all_goals repeat' first
    | intro _
    | with_reducible assumption
    | with_reducible apply State.reloadOpen_keep
    | with_reducible apply State.toLoop_keep
    | with_reducible apply keep_ite
    | split
    | dsimp only

theorem State.sendUnload_keep {r0 s : State} {a : Nat} (hk : Keep r0 s) :
    Keep r0 (State.sendUnload s a) := by
  unfold State.sendUnload
  extract_lets x1
  refine Keep.cut (a := Keep r0 x1) ?_ fun kx1 => ?_
  unfold x1
  rotate_left
  clear_value x1
  all_goals repeat' first
    | intro _
    | with_reducible assumption
    | with_reducible apply State.sendCmd_keep
    | with_reducible apply State.toState_keep
    | with_reducible apply keep_ite
    | split
    | dsimp only

theorem State.retractLoop_keep {r0 s : State} {a : Nat} (hk : Keep r0 s) :
    Keep r0 (State.retractLoop s a) := by
  unfold State.retractLoop
  all_goals repeat' first
    | intro _
    | with_reducible assumption
    | with_reducible apply State.toState_keep
    | with_reducible apply keep_ite
    | split
    | dsimp only

theorem State.setLoop_keep {r0 s : State} {a : Nat} {l : Loop} (hk : Keep r0 s) :
    Keep r0 (State.setLoop s a l) := by
  unfold State.setLoop
  extract_lets x1
  try clear_value x1
  all_goals repeat' first
    | intro _
    | with_reducible assumption
    | with_reducible apply keep_ite
    | split
    | with_reducible apply Keep.mk'
    | dsimp only

theorem State.onLoop_keep {r0 s : State} {a : Nat} {f : Loop → Loop} (hk : Keep r0 s) :
    Keep r0 (State.onLoop s a f) := by
  unfold State.onLoop
  all_goals repeat' first
    | intro _
    | with_reducible assumption
    | with_reducible apply State.setLoop_keep
    | with_reducible apply keep_ite
    | split
    | dsimp only

theorem State.missLimit_keep {r0 s : State} {a : Nat} {m : Nat} (hk : Keep r0 s) :
    Keep r0 (State.missLimit s a m) := by
  unfold State.missLimit
  all_goals repeat' first
    | intro _
    | with_reducible assumption
    | with_reducible apply State.toState_keep
    | with_reducible apply State.onLoop_keep
    | with_reducible apply State.bump_keep
    | with_reducible apply keep_ite
    | split
    | dsimp only

theorem State.dropLoop_keep {r0 s : State} {a : Nat} (hk : Keep r0 s) :
    Keep r0 (State.dropLoop s a) := by
  unfold State.dropLoop
  all_goals repeat' first
    | intro _
    | with_reducible assumption
    | with_reducible apply State.raise_keep
    | with_reducible apply State.toState_keep
    | with_reducible apply keep_ite
    | split
    | dsimp only

theorem State.loadRequest_keep {r0 s : State} {a : Nat} (hk : Keep r0 s) :
    Keep r0 (State.loadRequest s a) := by
  unfold State.loadRequest
  all_goals repeat' first
    | intro _
    | with_reducible assumption
    | with_reducible apply State.toState_keep
    | with_reducible apply State.onLoop_keep
    | with_reducible apply State.sendCmd_keep
    | with_reducible apply State.raise_keep
    | with_reducible apply keep_ite
    | split
    | dsimp only

theorem State.seekRequest_keep {r0 s : State} {a : Nat} {t : Int} (hk : Keep r0 s) :
    Keep r0 (State.seekRequest s a t) := by
  unfold State.seekRequest
  extract_lets x1
  refine Keep.cut (a := Keep r0 x1) ?_ fun kx1 => ?_
  unfold x1
  rotate_left
  clear_value x1
  all_goals repeat' first
    | intro _
    | with_reducible assumption
    | with_reducible apply State.onLoop_keep
    | with_reducible apply State.set_keep
    | with_reducible apply State.setB_keep
    | with_reducible apply keep_ite
    | split
    | dsimp only

theorem State.unloadLoaded_keep {r0 s : State} {a : Nat} (hk : Keep r0 s) :
    Keep r0 (State.unloadLoaded s a) := by
  unfold State.unloadLoaded
  all_goals repeat' first
    | intro _
    | with_reducible assumption
    | with_reducible apply State.sendUnload_keep
    | with_reducible apply keep_ite
    | split
    | dsimp only

theorem State.shock_keep {r0 s : State} {a : Nat} (hk : Keep r0 s) :
    Keep r0 (State.shock s a) := by
  unfold State.shock
  extract_lets x1 x2 x3 x4
  try clear_value x1
  try clear_value x2
  refine Keep.cut (a := Keep r0 x3) ?_ fun kx3 => ?_
  unfold x3
  rotate_left
  clear_value x3
  refine Keep.cut (a := Keep r0 x4) ?_ fun kx4 => ?_
  unfold x4
  rotate_left
  clear_value x4
  all_goals repeat' first
    | intro _
    | with_reducible assumption
    | with_reducible apply State.raise_keep
    | with_reducible apply State.bump_keep
    | with_reducible apply State.onLoop_keep
    | with_reducible apply State.setCause_keep
    | with_reducible apply State.set_keep
    | with_reducible apply keep_ite
    | with_reducible apply keep_foldl
    | split
    | dsimp only

theorem State.parkedLoop_keep {r0 s : State} {a : Nat} (hk : Keep r0 s) :
    Keep r0 (State.parkedLoop s a) := by
  unfold State.parkedLoop
  all_goals repeat' first
    | intro _
    | with_reducible assumption
    | with_reducible apply State.toState_keep
    | with_reducible apply keep_ite
    | split
    | dsimp only

theorem State.shockTick_keep {r0 s : State} {a : Nat} (hk : Keep r0 s) :
    Keep r0 (State.shockTick s a) := by
  unfold State.shockTick
  extract_lets x1 x2 x3
  try clear_value x1
  refine Keep.cut (a := Keep r0 x2) ?_ fun kx2 => ?_
  unfold x2
  rotate_left
  clear_value x2
  refine Keep.cut (a := Keep r0 x3) ?_ fun kx3 => ?_
  unfold x3
  rotate_left
  clear_value x3
  all_goals repeat' first
    | intro _
    | with_reducible assumption
    | with_reducible apply State.onLoop_keep
    | with_reducible apply State.setCause_keep
    | with_reducible apply State.set_keep
    | with_reducible apply keep_ite
    | split
    | dsimp only

theorem State.toSet_keep {r0 s : State} {a : Nat} {n : Nat} (hk : Keep r0 s) :
    Keep r0 (State.toSet s a n) := by
  unfold State.toSet
  all_goals repeat' first
    | intro _
    | with_reducible assumption
    | with_reducible apply State.syncFollow_keep
    | with_reducible apply State.set_keep
    | with_reducible apply keep_ite
    | split
    | dsimp only

end Sys2Proof.Machine
end

