-- ==== Sys2Proof/Laws/KeepFifoOps.lean ====
section
/-! SUPPORT. What the operations of Machine/FifoOps.lean keep. -/

namespace Sys2Proof.Machine

set_option linter.unreachableTactic false
set_option linter.unusedTactic false

theorem State.onFifo_keep {r0 s : State} {n : Nat} {f : Fifo → Fifo} (hk : Keep r0 s) :
    Keep r0 (State.onFifo s n f) := by
  unfold State.onFifo
  all_goals repeat' first
    | intro _
    | with_reducible assumption
    | with_reducible apply Io.setFifo_keep
    | with_reducible apply keep_onIo
    | with_reducible apply keep_ite
    | with_reducible apply ioKeep_ite
    | split
    | dsimp only

theorem State.rewindItems_keep {r0 s : State} {n : Nat} (hk : Keep r0 s) :
    Keep r0 (State.rewindItems s n) := by
  unfold State.rewindItems
  all_goals repeat' first
    | intro _
    | with_reducible assumption
    | with_reducible apply State.onFifo_keep
    | with_reducible apply keep_ite
    | split
    | dsimp only

theorem State.rewindAll_keep {r0 s : State} {writer : Nat} (hk : Keep r0 s) :
    Keep r0 (State.rewindAll s writer) := by
  unfold State.rewindAll
  all_goals repeat' first
    | intro _
    | with_reducible assumption
    | with_reducible apply State.raise_keep
    | with_reducible apply State.rewindItems_keep
    | with_reducible apply keep_ite
    | with_reducible apply keep_foldl
    | split
    | dsimp only

theorem State.refuseItem_keep {r0 s : State} {n : Nat} {bit : Nat} (hk : Keep r0 s) :
    Keep r0 (State.refuseItem s n bit) := by
  unfold State.refuseItem
  all_goals repeat' first
    | intro _
    | with_reducible assumption
    | with_reducible apply State.raise_keep
    | with_reducible apply State.bump_keep
    | with_reducible apply keep_ite
    | split
    | dsimp only

theorem State.releaseItems_keep {r0 s : State} {n : Nat} (hk : Keep r0 s) :
    Keep r0 (State.releaseItems s n) := by
  unfold State.releaseItems
  all_goals repeat' first
    | intro _
    | with_reducible assumption
    | with_reducible apply State.onFifo_keep
    | with_reducible apply keep_ite
    | split
    | dsimp only

theorem State.openPacket_keep {r0 s : State} {n : Nat} {writer : Nat} {item : Nat} (hk : Keep r0 s) :
    Keep r0 (State.openPacket s n writer item).2 := by
  unfold State.openPacket
  extract_lets x1 x2
  try clear_value x1
  refine Keep.cut (a := Keep r0 x2) ?_ fun kx2 => ?_
  unfold x2
  rotate_left
  clear_value x2
  all_goals repeat' first
    | intro _
    | with_reducible assumption
    | with_reducible apply State.refuseItem_keep
    | with_reducible apply State.onFifo_keep
    | with_reducible apply State.releaseItems_keep
    | with_reducible apply keep_ite
    | split
    | dsimp only

theorem State.packetItem_keep {r0 s : State} {n : Nat} {item : Nat} (hk : Keep r0 s) :
    Keep r0 (State.packetItem s n item) := by
  unfold State.packetItem
  extract_lets x1
  refine Keep.cut (a := Keep r0 x1) ?_ fun kx1 => ?_
  unfold x1
  rotate_left
  clear_value x1
  all_goals repeat' first
    | intro _
    | with_reducible assumption
    | with_reducible apply State.onFifo_keep
    | with_reducible apply State.releaseItems_keep
    | with_reducible apply keep_ite
    | split
    | dsimp only

theorem State.gfPost_keep {r0 s : State} {n : Nat} {writer : Nat} {item : Nat} (hk : Keep r0 s) :
    Keep r0 (State.gfPost s n writer item).2 := by
  unfold State.gfPost
  extract_lets x1
  try clear_value x1
  all_goals repeat' first
    | intro _
    | with_reducible assumption
    | with_reducible apply State.bump_keep
    | with_reducible apply State.raise_keep
    | with_reducible apply State.refuseItem_keep
    | with_reducible apply Io.fifoPush_keep
    | with_reducible apply State.packetItem_keep
    | with_reducible apply State.openPacket_keep
    | with_reducible apply State.onFifo_keep
    | refine Keep.snd (by with_reducible assumption) ?_
    | with_reducible apply keep_onIo
    | with_reducible apply keep_ite
    | with_reducible apply ioKeep_ite
    | split
    | dsimp only

theorem State.fixedPost_keep {r0 s : State} {n : Nat} {item : Nat} (hk : Keep r0 s) :
    Keep r0 (State.fixedPost s n item).2 := by
  unfold State.fixedPost
  extract_lets x1 x2 x3
  try clear_value x1
  refine Keep.cut (a := Keep r0 x2) ?_ fun kx2 => ?_
  unfold x2
  rotate_left
  clear_value x2
  refine Keep.cut (a := Keep r0 x3) ?_ fun kx3 => ?_
  unfold x3
  rotate_left
  clear_value x3
  all_goals repeat' first
    | intro _
    | with_reducible assumption
    | with_reducible apply Io.fifoPass_keep
    | with_reducible apply State.post_keep
    | with_reducible apply State.raise_keep
    | with_reducible apply State.enqueue_keep
    | with_reducible apply State.postRetry_keep
    | with_reducible apply State.seekRequest_keep
    | with_reducible apply State.recordVoid_keep
    | with_reducible apply keep_onIo
    | with_reducible apply keep_ite
    | with_reducible apply ioKeep_ite
    | split
    | dsimp only

theorem State.postItem_keep {r0 s : State} {n : Nat} {writer : Nat} {item : Nat} (hk : Keep r0 s) :
    Keep r0 (State.postItem s n writer item).2 := by
  unfold State.postItem
  extract_lets x1
  try clear_value x1
  all_goals repeat' first
    | intro _
    | with_reducible assumption
    | with_reducible apply State.gfPost_keep
    | with_reducible apply State.fixedPost_keep
    | refine Keep.snd (by with_reducible assumption) ?_
    | with_reducible apply keep_ite
    | split
    | dsimp only

theorem State.rewindBy_keep {r0 s : State} {n : Nat} {writer : Nat} (hk : Keep r0 s) :
    Keep r0 (State.rewindBy s n writer) := by
  unfold State.rewindBy
  all_goals repeat' first
    | intro _
    | with_reducible assumption
    | with_reducible apply State.rewindItems_keep
    | with_reducible apply keep_ite
    | split
    | dsimp only

theorem State.commitItems_keep {r0 s : State} {n : Nat} {writer : Nat} (hk : Keep r0 s) :
    Keep r0 (State.commitItems s n writer) := by
  unfold State.commitItems
  all_goals repeat' first
    | intro _
    | with_reducible assumption
    | with_reducible apply State.releaseItems_keep
    | with_reducible apply keep_ite
    | split
    | dsimp only

end Sys2Proof.Machine
end

