-- ==== Sys2Proof/Laws/KeepHodOps.lean ====
section
/-! SUPPORT. What the operations of Machine/HodOps.lean keep. -/

namespace Sys2Proof.Machine

set_option linter.unreachableTactic false
set_option linter.unusedTactic false

/-- A fold over the bytes of a run. -/
theorem keep_foldl_run {β : Type} {r : State} (l : List β) (f : HodRun → β → HodRun) (m : HodRun) (h : Keep r m.s)
    (hf : ∀ q x, Keep r q.s → Keep r (f q x).s) : Keep r (l.foldl f m).s := by
  induction l generalizing m with
  | nil => exact h
  | cons x l ih => exact ih _ (hf m x h)

theorem State.syncHod_keep {r0 s : State}  (hk : Keep r0 s) :
    Keep r0 (State.syncHod s) := by
  unfold State.syncHod
  extract_lets x1
  try clear_value x1
  all_goals repeat' first
    | intro _
    | with_reducible assumption
    | with_reducible apply State.set_keep
    | with_reducible apply keep_ite
    | with_reducible apply keep_foldl
    | split
    | dsimp only

theorem State.hset_keep {r0 s : State} {n : Nat} {f : RF} {v : Nat} (hk : Keep r0 s) :
    Keep r0 (State.hset s n f v) := by
  unfold State.hset
  all_goals repeat' first
    | intro _
    | with_reducible assumption
    | with_reducible apply State.set_keep
    | with_reducible apply keep_ite
    | split
    | dsimp only

theorem State.toHod_keep {r0 s : State} {n : Nat} {st : Nat} (hk : Keep r0 s) :
    Keep r0 (State.toHod s n st) := by
  unfold State.toHod
  all_goals repeat' first
    | intro _
    | with_reducible assumption
    | with_reducible apply State.hset_keep
    | with_reducible apply keep_ite
    | split
    | dsimp only

theorem State.hodLeave_keep {r0 s : State} {n : Nat} (hk : Keep r0 s) :
    Keep r0 (State.hodLeave s n) := by
  unfold State.hodLeave
  all_goals repeat' first
    | intro _
    | with_reducible assumption
    | with_reducible apply State.onChan_keep
    | with_reducible apply State.rewindAll_keep
    | with_reducible apply keep_ite
    | split
    | dsimp only

theorem State.hodPend_keep {r0 s : State} {n : Nat} {f : RF} {ev : Nat} (hk : Keep r0 s) :
    Keep r0 (State.hodPend s n f ev) := by
  unfold State.hodPend
  all_goals repeat' first
    | intro _
    | with_reducible assumption
    | with_reducible apply State.raise_keep
    | with_reducible apply State.set_keep
    | with_reducible apply keep_ite
    | split
    | dsimp only

theorem State.hodFault_keep {r0 s : State} {n : Nat} {cause : Nat} {addr : Nat} (hk : Keep r0 s) :
    Keep r0 (State.hodFault s n cause addr) := by
  unfold State.hodFault
  extract_lets x1 x2
  refine Keep.cut (a := Keep r0 x1) ?_ fun kx1 => ?_
  unfold x1
  rotate_left
  clear_value x1
  refine Keep.cut (a := Keep r0 x2) ?_ fun kx2 => ?_
  unfold x2
  rotate_left
  clear_value x2
  all_goals repeat' first
    | intro _
    | with_reducible assumption
    | with_reducible apply State.hset_keep
    | with_reducible apply State.toHod_keep
    | with_reducible apply State.hodLeave_keep
    | with_reducible apply State.raise_keep
    | with_reducible apply State.hodPend_keep
    | with_reducible apply keep_ite
    | split
    | dsimp only

theorem State.hodIllegal_keep {r0 s : State} {n : Nat} (hk : Keep r0 s) :
    Keep r0 (State.hodIllegal s n) := by
  unfold State.hodIllegal
  all_goals repeat' first
    | intro _
    | with_reducible assumption
    | with_reducible apply State.hodFault_keep
    | with_reducible apply keep_ite
    | split
    | dsimp only

theorem State.hodBlock_keep {r0 s : State} {n : Nat} (hk : Keep r0 s) :
    Keep r0 (State.hodBlock s n) := by
  unfold State.hodBlock
  extract_lets x1
  refine Keep.cut (a := Keep r0 x1) ?_ fun kx1 => ?_
  unfold x1
  rotate_left
  clear_value x1
  all_goals repeat' first
    | intro _
    | with_reducible assumption
    | with_reducible apply State.toHod_keep
    | with_reducible apply State.onChan_keep
    | with_reducible apply State.raise_keep
    | with_reducible apply keep_ite
    | split
    | dsimp only

theorem State.hodStep_good {s : State} {n : Nat} {ops : Nat → Bool} {f : HodI → State → State}
    (hf : ∀ i t, Keep s t → Keep s (f i t)) : Good s (State.hodStep s n ops f) := by
  have hk := Keep.refl s
  unfold State.hodStep
  dsimp only
  repeat' first
    | intro _
    | with_reducible apply good_okIf
    | apply hf
    | with_reducible assumption
    | with_reducible apply State.syncHod_keep
    | with_reducible apply State.hodBlock_keep
    | with_reducible apply State.hodFault_keep
    | with_reducible apply keep_ite
    | split
    | dsimp only

theorem State.setPc_keep {r0 s : State} {n : Nat} {addr : Nat} (hk : Keep r0 s) :
    Keep r0 (State.setPc s n addr) := by
  unfold State.setPc
  all_goals repeat' first
    | intro _
    | with_reducible assumption
    | with_reducible apply State.hset_keep
    | with_reducible apply keep_ite
    | split
    | dsimp only

theorem State.hodNext_keep {r0 s : State} {n : Nat} (hk : Keep r0 s) :
    Keep r0 (State.hodNext s n) := by
  unfold State.hodNext
  all_goals repeat' first
    | intro _
    | with_reducible assumption
    | with_reducible apply State.setPc_keep
    | with_reducible apply keep_ite
    | split
    | dsimp only

theorem State.hodPlain_keep {r0 s : State} {n : Nat} (hk : Keep r0 s) :
    Keep r0 (State.hodPlain s n) := by
  unfold State.hodPlain
  all_goals repeat' first
    | intro _
    | with_reducible assumption
    | with_reducible apply State.hodNext_keep
    | with_reducible apply State.onChan_keep
    | with_reducible apply keep_ite
    | split
    | dsimp only

theorem State.hodPut_keep {r0 s : State} {n : Nat} {space : Nat} {addr : Nat} {func : Nat} {b : Nat} (hk : Keep r0 s) :
    Keep r0 (State.hodPut s n space addr func b) := by
  unfold State.hodPut
  all_goals repeat' first
    | intro _
    | with_reducible assumption
    | with_reducible apply State.onHod_keep
    | with_reducible apply State.setMemByte_keep
    | with_reducible apply keep_ite
    | exact fun _ hb => hb
    | split
    | dsimp only

theorem State.copyByte_keep {r0 : State} {n len spB fB b : Nat} {dst : Int} {src : State → Nat → Nat × Nat × Nat} {m : HodRun} {k : Nat} (hk : Keep r0 m.s) :
    Keep r0 (State.copyByte n len spB fB b dst src m k).s := by
  unfold State.copyByte
  try dsimp only
  repeat' first
    | intro _
    | with_reducible assumption
    | with_reducible apply State.hodPut_keep
    | split
    | dsimp only

theorem State.xfMove_keep {r0 : State} {n : Nat} {i : HodI} {st : Stride} {host : List Nat} {m : HodRun} {k : Nat} (hk : Keep r0 m.s) :
    Keep r0 (State.xfMove n i st host m k).s := by
  unfold State.xfMove
  try dsimp only
  repeat' first
    | intro _
    | with_reducible assumption
    | with_reducible apply State.bump_keep
    | with_reducible apply keep_foldl_run
    | with_reducible apply State.copyByte_keep
    | split
    | dsimp only

theorem State.cwRefusals_keep {r0 s : State} {n : Nat} {addrs : List Nat} (hk : Keep r0 s) :
    Keep r0 (State.cwRefusals s n addrs) := by
  unfold State.cwRefusals
  extract_lets x1
  try clear_value x1
  all_goals repeat' first
    | intro _
    | with_reducible assumption
    | with_reducible apply State.flagRefused_keep
    | with_reducible apply keep_ite
    | with_reducible apply keep_foldl
    | split
    | dsimp only

theorem State.dataEnd_keep {r0 s : State} {n : Nat} {i : HodI} {total : Nat} {done : Nat} {stop : Option (Nat × Nat)} (hk : Keep r0 s) :
    Keep r0 (State.dataEnd s n i total done stop) := by
  unfold State.dataEnd
  extract_lets x1 x2 x3 x4
  refine Keep.cut (a := ∀ u0 u1 u2, Keep r0 u0 → Keep r0 (x1 u0 u1 u2)) ?_ fun kx1 => ?_
  unfold x1
  rotate_left
  clear_value x1
  refine Keep.cut (a := Keep r0 x2) ?_ fun kx2 => ?_
  unfold x2
  rotate_left
  clear_value x2
  refine Keep.cut (a := Keep r0 x3) ?_ fun kx3 => ?_
  unfold x3
  rotate_left
  clear_value x3
  refine Keep.cut (a := Keep r0 x4) ?_ fun kx4 => ?_
  unfold x4
  rotate_left
  clear_value x4
  all_goals repeat' first
    | intro _
    | with_reducible assumption
    | with_reducible apply kx1
    | with_reducible apply State.post_keep
    | with_reducible apply State.addTo_keep
    | with_reducible apply State.hset_keep
    | with_reducible apply State.hodPend_keep
    | with_reducible apply State.hodFault_keep
    | with_reducible apply State.hodNext_keep
    | with_reducible apply State.onChan_keep
    | with_reducible apply keep_ite
    | split
    | dsimp only

theorem State.rowsClean_keep {r0 s : State} {spB : Nat} {b : Nat} {len : Nat} {rows : Nat} {dst : Int} {done : Nat} (hk : Keep r0 s) :
    Keep r0 (State.rowsClean s spB b len rows dst done) := by
  unfold State.rowsClean
  all_goals repeat' first
    | intro _
    | with_reducible assumption
    | with_reducible apply State.cleanWrite_keep
    | with_reducible apply keep_ite
    | with_reducible apply keep_foldl
    | split
    | dsimp only

theorem State.hodFill_keep {r0 s : State} {n : Nat} {i : HodI} (hk : Keep r0 s) :
    Keep r0 (State.hodFill s n i) := by
  unfold State.hodFill
  extract_lets x1 x2 x3
  try clear_value x1
  refine Keep.cut (a := Keep r0 x2) ?_ fun kx2 => ?_
  unfold x2
  rotate_left
  clear_value x2
  refine Keep.cut (a := Keep r0 x3.s) ?_ fun kx3 => ?_
  unfold x3
  rotate_left
  clear_value x3
  all_goals repeat' first
    | intro _
    | with_reducible assumption
    | with_reducible apply State.hodFault_keep
    | with_reducible apply State.cwRefusals_keep
    | with_reducible apply State.copyByte_keep
    | with_reducible apply State.dataEnd_keep
    | with_reducible apply State.rowsClean_keep
    | with_reducible apply keep_foldl_run
    | with_reducible apply keep_ite
    | with_reducible apply keep_foldl
    | split
    | dsimp only

theorem State.hodMove_keep {r0 s : State} {n : Nat} {i : HodI} {host : Option (List Nat)} (hk : Keep r0 s) :
    Keep r0 (State.hodMove s n i host) := by
  unfold State.hodMove
  extract_lets x1 x2 x3 x4 x5 x6
  try clear_value x1
  try clear_value x2
  try clear_value x5
  refine Keep.cut (a := Keep r0 x3) ?_ fun kx3 => ?_
  unfold x3
  rotate_left
  clear_value x3
  refine Keep.cut (a := Keep r0 x4.s) ?_ fun kx4 => ?_
  unfold x4
  rotate_left
  clear_value x4
  refine Keep.cut (a := Keep r0 x6.s) ?_ fun kx6 => ?_
  unfold x6
  rotate_left
  clear_value x6
  all_goals repeat' first
    | intro _
    | with_reducible assumption
    | with_reducible apply State.hodFault_keep
    | with_reducible apply State.raise_keep
    | with_reducible apply State.cwRefusals_keep
    | with_reducible apply State.xfMove_keep
    | with_reducible apply State.copyByte_keep
    | with_reducible apply State.dataEnd_keep
    | with_reducible apply State.rowsClean_keep
    | with_reducible apply keep_foldl_run
    | with_reducible apply keep_ite
    | with_reducible apply keep_foldl
    | split
    | dsimp only

theorem State.hodCompare_keep {r0 s : State} {n : Nat} {i : HodI} {hA : Option (List Nat)} {hB : Option (List Nat)} (hk : Keep r0 s) :
    Keep r0 (State.hodCompare s n i hA hB) := by
  unfold State.hodCompare
  extract_lets x1 x2 x3 x4
  try clear_value x1
  try clear_value x2
  refine Keep.cut (a := Keep r0 x3) ?_ fun kx3 => ?_
  unfold x3
  rotate_left
  clear_value x3
  refine Keep.cut (a := ∀ u0 u1 u2, Keep r0 u0 → Keep r0 (x4 u0 u1 u2)) ?_ fun kx4 => ?_
  unfold x4
  rotate_left
  clear_value x4
  all_goals repeat' first
    | intro _
    | with_reducible assumption
    | with_reducible apply kx4
    | with_reducible apply State.cwRefusals_keep
    | with_reducible apply State.hodNext_keep
    | with_reducible apply State.onChan_keep
    | with_reducible apply State.hset_keep
    | with_reducible apply State.hodFault_keep
    | with_reducible apply keep_ite
    | split
    | dsimp only

end Sys2Proof.Machine
end

