-- ==== Sys2Proof/Laws/KeepHod.lean ====
section
/-! SUPPORT. What the operations of Machine/Hod.lean keep. -/

namespace Sys2Proof.Machine

set_option linter.unreachableTactic false
set_option linter.unusedTactic false

theorem State.domainLost_keep {r0 s : State} {d : Nat} (hk : Keep r0 s) :
    Keep r0 (State.domainLost s d) := by
  unfold State.domainLost
  all_goals repeat' first
    | intro _
    | with_reducible assumption
    | with_reducible apply State.syncHod_keep
    | with_reducible apply State.hodFault_keep
    | with_reducible apply keep_ite
    | with_reducible apply keep_foldl
    | split
    | dsimp only

theorem execHodSetlc_good (n : Nat) (s : State) : Good s (execHodSetlc n s) := by
  have hk := Keep.refl s
  unfold execHodSetlc
  all_goals repeat' first
    | intro _
    | with_reducible apply good_okIf
    | with_reducible apply good_okAon
    | with_reducible apply good_ok
    | with_reducible apply good_ite
    | with_reducible assumption
    | with_reducible apply State.hodStep_good
    | with_reducible apply State.hodPlain_keep
    | with_reducible apply State.hset_keep
    | with_reducible apply keep_ite
    | split
    | dsimp only

theorem State.hodSignal_keep {r0 s : State} {n : Nat} {i : HodI} (hk : Keep r0 s) :
    Keep r0 (State.hodSignal s n i) := by
  unfold State.hodSignal
  extract_lets x1
  refine Keep.cut (a := Keep r0 x1) ?_ fun kx1 => ?_
  unfold x1
  rotate_left
  clear_value x1
  all_goals repeat' first
    | intro _
    | with_reducible assumption
    | with_reducible apply State.hodIllegal_keep
    | with_reducible apply State.setFlags_keep
    | with_reducible apply State.clearFlags_keep
    | with_reducible apply State.hodPlain_keep
    | with_reducible apply State.hodPend_keep
    | with_reducible apply keep_ite
    | split
    | dsimp only

theorem State.hodAbort_keep {r0 s : State} {n : Nat} (hk : Keep r0 s) :
    Keep r0 (State.hodAbort s n) := by
  unfold State.hodAbort
  all_goals repeat' first
    | intro _
    | with_reducible assumption
    | with_reducible apply State.hodFault_keep
    | with_reducible apply keep_ite
    | split
    | dsimp only

theorem State.hodDisable_keep {r0 s : State}  (hk : Keep r0 s) :
    Keep r0 (State.hodDisable s) := by
  unfold State.hodDisable
  all_goals repeat' first
    | intro _
    | with_reducible assumption
    | with_reducible apply State.syncHod_keep
    | with_reducible apply State.hodAbort_keep
    | with_reducible apply keep_ite
    | with_reducible apply keep_foldl
    | split
    | dsimp only

theorem State.hodPost_keep {r0 s : State} {n : Nat} {i : HodI} (hk : Keep r0 s) :
    Keep r0 (State.hodPost s n i) := by
  unfold State.hodPost
  extract_lets x1
  try clear_value x1
  all_goals repeat' first
    | intro _
    | with_reducible assumption
    | with_reducible apply State.hodPlain_keep
    | with_reducible apply State.hset_keep
    | with_reducible apply State.rewindBy_keep
    | with_reducible apply State.postItem_keep
    | with_reducible apply State.bump_keep
    | with_reducible apply State.commitItems_keep
    | refine Keep.snd (by with_reducible assumption) ?_
    | with_reducible apply keep_ite
    | split
    | dsimp only

theorem execHodPostRetry_good (n : Nat) (s : State) : Good s (execHodPostRetry n s) := by
  have hk := Keep.refl s
  unfold execHodPostRetry
  all_goals repeat' first
    | intro _
    | with_reducible apply good_okIf
    | with_reducible apply good_okAon
    | with_reducible apply good_ok
    | with_reducible apply good_ite
    | with_reducible assumption
    | with_reducible apply State.hodStep_good
    | with_reducible apply State.hodPost_keep
    | with_reducible apply keep_ite
    | split
    | dsimp only

theorem execHodIllegal_good (n : Nat) (s : State) : Good s (execHodIllegal n s) := by
  have hk := Keep.refl s
  unfold execHodIllegal
  all_goals repeat' first
    | intro _
    | with_reducible apply good_okIf
    | with_reducible apply good_okAon
    | with_reducible apply good_ok
    | with_reducible apply good_ite
    | with_reducible assumption
    | with_reducible apply State.hodStep_good
    | with_reducible apply State.hodIllegal_keep
    | with_reducible apply keep_ite
    | split
    | dsimp only

theorem execHodChannelAbort_good (acc : Accessor) (n : Nat) (s : State) : Good s (execHodChannelAbort acc n s) := by
  have hk := Keep.refl s
  unfold execHodChannelAbort
  all_goals repeat' first
    | intro _
    | with_reducible apply good_okIf
    | with_reducible apply good_okAon
    | with_reducible apply good_ok
    | with_reducible apply good_ite
    | with_reducible assumption
    | with_reducible apply State.lockedWrite_keep
    | with_reducible apply State.syncHod_keep
    | with_reducible apply State.hodAbort_keep
    | with_reducible apply keep_ite
    | split
    | dsimp only

theorem execHodUnblock_good (n : Nat) (s : State) : Good s (execHodUnblock n s) := by
  have hk := Keep.refl s
  unfold execHodUnblock
  all_goals repeat' first
    | intro _
    | with_reducible apply good_okIf
    | with_reducible apply good_okAon
    | with_reducible apply good_ok
    | with_reducible apply good_ite
    | with_reducible assumption
    | with_reducible apply State.syncHod_keep
    | with_reducible apply State.onChan_keep
    | with_reducible apply State.toHod_keep
    | with_reducible apply keep_ite
    | split
    | dsimp only

theorem State.waitHolds_keep {r0 s : State} {i : HodI} (hk : Keep r0 s) :
    Keep r0 (State.waitHolds s i).2 := by
  unfold State.waitHolds
  extract_lets x1
  refine Keep.cut (a := Keep r0 (x1).2) ?_ fun kx1 => ?_
  unfold x1
  rotate_left
  clear_value x1
  all_goals repeat' first
    | intro _
    | with_reducible assumption
    | with_reducible apply State.flagRead_keep
    | refine Keep.snd (by with_reducible assumption) ?_
    | with_reducible apply keep_ite
    | split
    | dsimp only

theorem execHodPost_good (n : Nat) (s : State) : Good s (execHodPost n s) := by
  have hk := Keep.refl s
  unfold execHodPost
  all_goals repeat' first
    | intro _
    | with_reducible apply good_okIf
    | with_reducible apply good_okAon
    | with_reducible apply good_ok
    | with_reducible apply good_ite
    | with_reducible assumption
    | with_reducible apply State.hodStep_good
    | with_reducible apply State.hodPost_keep
    | with_reducible apply keep_ite
    | split
    | dsimp only

theorem State.branchTaken_keep {r0 s : State} {n : Nat} {k : Nat} (hk : Keep r0 s) :
    Keep r0 (State.branchTaken s n k).2 := by
  unfold State.branchTaken
  extract_lets x1 x2
  try clear_value x1
  try clear_value x2
  all_goals repeat' first
    | intro _
    | with_reducible assumption
    | with_reducible apply State.hset_keep
    | with_reducible apply keep_ite
    | split
    | dsimp only

theorem State.hodFlip_keep {r0 s : State} {n : Nat} {i : HodI} (hk : Keep r0 s) :
    Keep r0 (State.hodFlip s n i) := by
  unfold State.hodFlip
  all_goals repeat' first
    | intro _
    | with_reducible assumption
    | with_reducible apply State.hodIllegal_keep
    | with_reducible apply State.hodFault_keep
    | with_reducible apply State.flip_keep
    | with_reducible apply State.hset_keep
    | with_reducible apply State.hodPlain_keep
    | refine Keep.snd (by with_reducible assumption) ?_
    | with_reducible apply keep_ite
    | split
    | dsimp only

theorem execHodFlip_good (n : Nat) (s : State) : Good s (execHodFlip n s) := by
  have hk := Keep.refl s
  unfold execHodFlip
  all_goals repeat' first
    | intro _
    | with_reducible apply good_okIf
    | with_reducible apply good_okAon
    | with_reducible apply good_ok
    | with_reducible apply good_ite
    | with_reducible assumption
    | with_reducible apply State.hodStep_good
    | with_reducible apply State.hodFlip_keep
    | with_reducible apply keep_ite
    | split
    | dsimp only

theorem execHodStride_good (n : Nat) (s : State) : Good s (execHodStride n s) := by
  have hk := Keep.refl s
  unfold execHodStride
  all_goals repeat' first
    | intro _
    | with_reducible apply good_okIf
    | with_reducible apply good_okAon
    | with_reducible apply good_ok
    | with_reducible apply good_ite
    | with_reducible assumption
    | with_reducible apply State.hodStep_good
    | with_reducible apply State.onChan_keep
    | with_reducible apply State.hodNext_keep
    | with_reducible apply keep_ite
    | split
    | dsimp only

theorem execHodStop_good (n : Nat) (s : State) : Good s (execHodStop n s) := by
  have hk := Keep.refl s
  unfold execHodStop
  all_goals repeat' first
    | intro _
    | with_reducible apply good_okIf
    | with_reducible apply good_okAon
    | with_reducible apply good_ok
    | with_reducible apply good_ite
    | with_reducible assumption
    | with_reducible apply State.hodStep_good
    | with_reducible apply State.toHod_keep
    | with_reducible apply State.hodLeave_keep
    | with_reducible apply State.hodPlain_keep
    | with_reducible apply State.hodPend_keep
    | with_reducible apply keep_ite
    | split
    | dsimp only

theorem State.hostDisabled_keep {r0 s : State} {port : Nat} {fn : Nat} (hk : Keep r0 s) :
    Keep r0 (State.hostDisabled s port fn) := by
  unfold State.hostDisabled
  all_goals repeat' first
    | intro _
    | with_reducible assumption
    | with_reducible apply State.syncHod_keep
    | with_reducible apply State.hodFault_keep
    | with_reducible apply keep_ite
    | with_reducible apply keep_foldl
    | split
    | dsimp only

theorem State.waitDone_keep {r0 s : State} {n : Nat} (hk : Keep r0 s) :
    Keep r0 (State.waitDone s n) := by
  unfold State.waitDone
  all_goals repeat' first
    | intro _
    | with_reducible assumption
    | with_reducible apply State.hodPlain_keep
    | with_reducible apply State.onChan_keep
    | with_reducible apply State.toHod_keep
    | with_reducible apply keep_ite
    | split
    | dsimp only

theorem execHodWaitSatisfied_good (n : Nat) (s : State) : Good s (execHodWaitSatisfied n s) := by
  have hk := Keep.refl s
  unfold execHodWaitSatisfied
  all_goals repeat' first
    | intro _
    | with_reducible apply good_okIf
    | with_reducible apply good_okAon
    | with_reducible apply good_ok
    | with_reducible apply good_ite
    | with_reducible assumption
    | with_reducible apply State.waitHolds_keep
    | with_reducible apply State.syncHod_keep
    | with_reducible apply State.waitDone_keep
    | refine Keep.snd (by with_reducible assumption) ?_
    | with_reducible apply keep_ite
    | split
    | dsimp only

theorem execBusMasterEnableClear_good (port : Nat) (fn : Nat) (s : State) : Good s (execBusMasterEnableClear port fn s) := by
  have hk := Keep.refl s
  unfold execBusMasterEnableClear
  all_goals repeat' first
    | intro _
    | with_reducible apply good_okIf
    | with_reducible apply good_okAon
    | with_reducible apply good_ok
    | with_reducible apply good_ite
    | with_reducible assumption
    | with_reducible apply State.hostDisabled_keep
    | with_reducible apply keep_ite
    | split
    | dsimp only

theorem State.hodWait_keep {r0 s : State} {n : Nat} {i : HodI} (hk : Keep r0 s) :
    Keep r0 (State.hodWait s n i) := by
  unfold State.hodWait
  all_goals repeat' first
    | intro _
    | with_reducible assumption
    | with_reducible apply State.hodIllegal_keep
    | with_reducible apply State.hodFault_keep
    | with_reducible apply State.waitHolds_keep
    | with_reducible apply State.waitDone_keep
    | with_reducible apply State.clearFlags_keep
    | with_reducible apply State.onChan_keep
    | with_reducible apply State.toHod_keep
    | refine Keep.snd (by with_reducible assumption) ?_
    | with_reducible apply keep_ite
    | split
    | dsimp only

theorem execHodWait_good (n : Nat) (s : State) : Good s (execHodWait n s) := by
  have hk := Keep.refl s
  unfold execHodWait
  all_goals repeat' first
    | intro _
    | with_reducible apply good_okIf
    | with_reducible apply good_okAon
    | with_reducible apply good_ok
    | with_reducible apply good_ite
    | with_reducible assumption
    | with_reducible apply State.hodStep_good
    | with_reducible apply State.hodWait_keep
    | with_reducible apply keep_ite
    | split
    | dsimp only

theorem State.hodBranch_keep {r0 s : State} {n : Nat} {i : HodI} (hk : Keep r0 s) :
    Keep r0 (State.hodBranch s n i) := by
  unfold State.hodBranch
  all_goals repeat' first
    | intro _
    | with_reducible assumption
    | with_reducible apply State.hodIllegal_keep
    | with_reducible apply State.branchTaken_keep
    | with_reducible apply State.hodPlain_keep
    | with_reducible apply State.setPc_keep
    | refine Keep.snd (by with_reducible assumption) ?_
    | with_reducible apply keep_ite
    | split
    | dsimp only

theorem execHodBranch_good (n : Nat) (s : State) : Good s (execHodBranch n s) := by
  have hk := Keep.refl s
  unfold execHodBranch
  all_goals repeat' first
    | intro _
    | with_reducible apply good_okIf
    | with_reducible apply good_okAon
    | with_reducible apply good_ok
    | with_reducible apply good_ite
    | with_reducible assumption
    | with_reducible apply State.hodStep_good
    | with_reducible apply State.hodBranch_keep
    | with_reducible apply keep_ite
    | split
    | dsimp only

theorem execHodMove_good (n : Nat) (host : Option (List Nat)) (s : State) : Good s (execHodMove n host s) := by
  have hk := Keep.refl s
  unfold execHodMove
  all_goals repeat' first
    | intro _
    | with_reducible apply good_okIf
    | with_reducible apply good_okAon
    | with_reducible apply good_ok
    | with_reducible apply good_ite
    | with_reducible assumption
    | with_reducible apply State.hodStep_good
    | with_reducible apply State.hodMove_keep
    | with_reducible apply keep_ite
    | split
    | dsimp only

theorem execHodNop_good (n : Nat) (s : State) : Good s (execHodNop n s) := by
  have hk := Keep.refl s
  unfold execHodNop
  all_goals repeat' first
    | intro _
    | with_reducible apply good_okIf
    | with_reducible apply good_okAon
    | with_reducible apply good_ok
    | with_reducible apply good_ite
    | with_reducible assumption
    | with_reducible apply State.hodStep_good
    | with_reducible apply State.hodPlain_keep
    | with_reducible apply keep_ite
    | split
    | dsimp only

theorem execHodCompare_good (n : Nat) (hostA : Option (List Nat)) (hostB : Option (List Nat)) (s : State) : Good s (execHodCompare n hostA hostB s) := by
  have hk := Keep.refl s
  unfold execHodCompare
  all_goals repeat' first
    | intro _
    | with_reducible apply good_okIf
    | with_reducible apply good_okAon
    | with_reducible apply good_ok
    | with_reducible apply good_ite
    | with_reducible assumption
    | with_reducible apply State.hodStep_good
    | with_reducible apply State.hodCompare_keep
    | with_reducible apply keep_ite
    | split
    | dsimp only

theorem execHodSignal_good (n : Nat) (s : State) : Good s (execHodSignal n s) := by
  have hk := Keep.refl s
  unfold execHodSignal
  all_goals repeat' first
    | intro _
    | with_reducible apply good_okIf
    | with_reducible apply good_okAon
    | with_reducible apply good_ok
    | with_reducible apply good_ite
    | with_reducible assumption
    | with_reducible apply State.hodStep_good
    | with_reducible apply State.hodSignal_keep
    | with_reducible apply keep_ite
    | split
    | dsimp only

theorem execHodChannelStart_good (acc : Accessor) (n : Nat) (s : State) : Good s (execHodChannelStart acc n s) := by
  have hk := Keep.refl s
  unfold execHodChannelStart
  extract_lets x1 x2
  try clear_value x1
  try clear_value x2
  all_goals repeat' first
    | intro _
    | with_reducible apply good_okIf
    | with_reducible apply good_okAon
    | with_reducible apply good_ok
    | with_reducible apply good_ite
    | with_reducible assumption
    | with_reducible apply State.lockedWrite_keep
    | with_reducible apply State.syncHod_keep
    | with_reducible apply State.onChan_keep
    | with_reducible apply State.hset_keep
    | with_reducible apply State.toHod_keep
    | with_reducible apply keep_ite
    | split
    | dsimp only

theorem execHodWaitTimeout_good (n : Nat) (s : State) : Good s (execHodWaitTimeout n s) := by
  have hk := Keep.refl s
  unfold execHodWaitTimeout
  all_goals repeat' first
    | intro _
    | with_reducible apply good_okIf
    | with_reducible apply good_okAon
    | with_reducible apply good_ok
    | with_reducible apply good_ite
    | with_reducible assumption
    | with_reducible apply State.syncHod_keep
    | with_reducible apply State.hodFault_keep
    | with_reducible apply keep_ite
    | split
    | dsimp only

theorem execHodFill_good (n : Nat) (s : State) : Good s (execHodFill n s) := by
  have hk := Keep.refl s
  unfold execHodFill
  all_goals repeat' first
    | intro _
    | with_reducible apply good_okIf
    | with_reducible apply good_okAon
    | with_reducible apply good_ok
    | with_reducible apply good_ite
    | with_reducible assumption
    | with_reducible apply State.hodStep_good
    | with_reducible apply State.hodFill_keep
    | with_reducible apply keep_ite
    | split
    | dsimp only

end Sys2Proof.Machine
end

