-- ==== Sys2Proof/Laws/KeepSeqOps.lean ====
section
/-! SUPPORT. What the operations of Machine/SeqOps.lean keep. -/

namespace Sys2Proof.Machine

set_option linter.unreachableTactic false
set_option linter.unusedTactic false

theorem State.syncGate_keep {r0 s : State} {a : Nat} (hk : Keep r0 s) :
    Keep r0 (State.syncGate s a) := by
  unfold State.syncGate
  all_goals repeat' first
    | intro _
    | with_reducible assumption
    | with_reducible apply State.setB_keep
    | with_reducible apply keep_ite
    | split
    | dsimp only

theorem State.onThr_keep {r0 s : State} {a : Nat} {f : Thread → Thread} (hk : Keep r0 s) :
    Keep r0 (State.onThr s a f) := by
  unfold State.onThr
  extract_lets x1
  try clear_value x1
  all_goals repeat' first
    | intro _
    | with_reducible assumption
    | with_reducible apply keep_ite
    | split
    | with_reducible apply Keep.mk'
    | dsimp only

theorem State.emitBits_keep {r0 s : State} {a : Nat} {bits : List Bool} {x : Option GateSlot} {closes : Bool} (hk : Keep r0 s) :
    Keep r0 (State.emitBits s a bits x closes) := by
  unfold State.emitBits
  extract_lets x1 x2
  try clear_value x1
  try clear_value x2
  all_goals repeat' first
    | intro _
    | with_reducible assumption
    | with_reducible apply State.syncGate_keep
    | with_reducible apply State.onLk_keep
    | with_reducible apply State.onThr_keep
    | with_reducible apply keep_ite
    | split
    | dsimp only

theorem State.setCsWord_keep {r0 s : State} {c : Nat} {n : Nat} {w : Nat} (hk : Keep r0 s) :
    Keep r0 (State.setCsWord s c n w) := by
  unfold State.setCsWord
  extract_lets x1
  try clear_value x1
  all_goals repeat' first
    | intro _
    | with_reducible assumption
    | with_reducible apply keep_ite
    | split
    | with_reducible apply Keep.mk'
    | dsimp only

theorem State.postVoids_keep {r0 s : State} {a : Nat} {g : Gate} {vs : List Nat} (hk : Keep r0 s) :
    Keep r0 (State.postVoids s a g vs) := by
  unfold State.postVoids
  all_goals repeat' first
    | intro _
    | with_reducible assumption
    | with_reducible apply State.recordVoid_keep
    | with_reducible apply State.bump_keep
    | with_reducible apply Io.fifoPass_keep
    | with_reducible apply keep_onIo
    | with_reducible apply keep_ite
    | with_reducible apply ioKeep_ite
    | with_reducible apply keep_foldl
    | with_reducible apply ioKeep_foldl
    | split
    | dsimp only

theorem State.killGates_keep {r0 s : State} {a : Nat} (hk : Keep r0 s) :
    Keep r0 (State.killGates s a) := by
  unfold State.killGates
  extract_lets x1 x2
  try clear_value x1
  refine Keep.cut (a := Keep r0 x2) ?_ fun kx2 => ?_
  unfold x2
  rotate_left
  clear_value x2
  all_goals repeat' first
    | intro _
    | with_reducible assumption
    | with_reducible apply State.onThr_keep
    | with_reducible apply State.sendDn_keep
    | with_reducible apply State.syncGate_keep
    | with_reducible apply State.assistSet_keep
    | with_reducible apply State.raise_keep
    | with_reducible apply State.bump_keep
    | with_reducible apply keep_ite
    | split
    | dsimp only

theorem State.dropGate_keep {r0 s : State} {a : Nat} {g : Gate} {bits : Option Nat} (hk : Keep r0 s) :
    Keep r0 (State.dropGate s a g bits) := by
  unfold State.dropGate
  extract_lets x1 x2 x3 x4 x5 x6
  try clear_value x1
  try clear_value x3
  try clear_value x6
  refine Keep.cut (a := Keep r0 x2) ?_ fun kx2 => ?_
  unfold x2
  rotate_left
  clear_value x2
  refine Keep.cut (a := Keep r0 x4) ?_ fun kx4 => ?_
  unfold x4
  rotate_left
  clear_value x4
  refine Keep.cut (a := Keep r0 x5) ?_ fun kx5 => ?_
  unfold x5
  rotate_left
  clear_value x5
  all_goals repeat' first
    | intro _
    | with_reducible assumption
    | with_reducible apply State.postVoids_keep
    | with_reducible apply State.set_keep
    | with_reducible apply State.onThr_keep
    | with_reducible apply State.assistSet_keep
    | with_reducible apply State.raise_keep
    | with_reducible apply State.bump_keep
    | with_reducible apply State.syncGate_keep
    | with_reducible apply State.killGates_keep
    | with_reducible apply keep_ite
    | with_reducible apply keep_foldl
    | split
    | dsimp only

theorem State.gatesLost_keep {r0 s : State} {a : Nat} (hk : Keep r0 s) :
    Keep r0 (State.gatesLost s a) := by
  unfold State.gatesLost
  all_goals repeat' first
    | intro _
    | with_reducible assumption
    | with_reducible apply State.onThr_keep
    | with_reducible apply State.dropGate_keep
    | with_reducible apply keep_ite
    | with_reducible apply keep_foldl
    | split
    | dsimp only

theorem State.toSq_keep {r0 s : State} {a : Nat} {st : Nat} (hk : Keep r0 s) :
    Keep r0 (State.toSq s a st) := by
  unfold State.toSq
  extract_lets x1 x2
  try clear_value x1
  refine Keep.cut (a := Keep r0 x2) ?_ fun kx2 => ?_
  unfold x2
  rotate_left
  clear_value x2
  all_goals repeat' first
    | intro _
    | with_reducible assumption
    | with_reducible apply State.set_keep
    | with_reducible apply State.setB_keep
    | with_reducible apply keep_ite
    | split
    | dsimp only

theorem State.token_keep {r0 s : State} {a : Nat} {status : Nat} (hk : Keep r0 s) :
    Keep r0 (State.token s a status) := by
  unfold State.token
  all_goals repeat' first
    | intro _
    | with_reducible assumption
    | with_reducible apply State.onThr_keep
    | with_reducible apply State.dequeue_keep
    | with_reducible apply State.setB_keep
    | with_reducible apply State.bump_keep
    | with_reducible apply State.post_keep
    | with_reducible apply keep_ite
    | split
    | dsimp only

theorem State.emitPart_keep {r0 s : State} {a : Nat} {g : Staged} {lead : List Bool} {resumed : Bool} (hk : Keep r0 s) :
    Keep r0 (State.emitPart s a g lead resumed) := by
  unfold State.emitPart
  extract_lets x1
  try clear_value x1
  all_goals repeat' first
    | intro _
    | with_reducible assumption
    | with_reducible apply State.onThr_keep
    | with_reducible apply State.emitBits_keep
    | with_reducible apply keep_ite
    | split
    | dsimp only

theorem State.emitRest_keep {r0 s : State} {a : Nat} {g : Staged} {lead : List Bool} {resumed : Bool} (hk : Keep r0 s) :
    Keep r0 (State.emitRest s a g lead resumed) := by
  unfold State.emitRest
  all_goals repeat' first
    | intro _
    | with_reducible assumption
    | with_reducible apply State.emitPart_keep
    | with_reducible apply State.onThr_keep
    | with_reducible apply State.emitBits_keep
    | with_reducible apply keep_ite
    | split
    | dsimp only

theorem State.emitBrick_keep {r0 s : State} {a : Nat} (hk : Keep r0 s) :
    Keep r0 (State.emitBrick s a) := by
  unfold State.emitBrick
  all_goals repeat' first
    | intro _
    | with_reducible assumption
    | with_reducible apply State.emitRest_keep
    | with_reducible apply keep_ite
    | split
    | dsimp only

theorem State.stage_keep {r0 s : State} {a : Nat} {n : Nat} (hk : Keep r0 s) :
    Keep r0 (State.stage s a n) := by
  unfold State.stage
  extract_lets x1
  try clear_value x1
  all_goals repeat' first
    | intro _
    | with_reducible assumption
    | with_reducible apply State.onThr_keep
    | with_reducible apply keep_ite
    | split
    | dsimp only

theorem State.restage_keep {r0 s : State} {a : Nat} (hk : Keep r0 s) :
    Keep r0 (State.restage s a) := by
  unfold State.restage
  all_goals repeat' first
    | intro _
    | with_reducible assumption
    | with_reducible apply State.stage_keep
    | with_reducible apply keep_ite
    | split
    | dsimp only

theorem State.emitSplit_keep {r0 s : State} {a : Nat} (hk : Keep r0 s) :
    Keep r0 (State.emitSplit s a) := by
  unfold State.emitSplit
  all_goals repeat' first
    | intro _
    | with_reducible assumption
    | with_reducible apply State.emitPart_keep
    | with_reducible apply keep_ite
    | split
    | dsimp only

theorem State.emitResume_keep {r0 s : State} {a : Nat} (hk : Keep r0 s) :
    Keep r0 (State.emitResume s a) := by
  unfold State.emitResume
  all_goals repeat' first
    | intro _
    | with_reducible assumption
    | with_reducible apply State.emitRest_keep
    | with_reducible apply keep_ite
    | split
    | dsimp only

theorem State.returnPallet_keep {r0 s : State} {a : Nat} {p : Pallet} (hk : Keep r0 s) :
    Keep r0 (State.returnPallet s a p) := by
  unfold State.returnPallet
  all_goals repeat' first
    | intro _
    | with_reducible assumption
    | with_reducible apply State.flip_keep
    | with_reducible apply State.dramWrite_keep
    | refine Keep.snd (by with_reducible assumption) ?_
    | with_reducible apply keep_ite
    | split
    | dsimp only

theorem State.toZone_keep {r0 s : State} {a : Nat} {z : Nat} (hk : Keep r0 s) :
    Keep r0 (State.toZone s a z) := by
  unfold State.toZone
  extract_lets x1 x2 x3
  try clear_value x1
  try clear_value x3
  refine Keep.cut (a := Keep r0 x2) ?_ fun kx2 => ?_
  unfold x2
  rotate_left
  clear_value x2
  all_goals repeat' first
    | intro _
    | with_reducible assumption
    | with_reducible apply State.set_keep
    | with_reducible apply State.onThr_keep
    | with_reducible apply keep_ite
    | split
    | dsimp only

theorem State.commitSlot_keep {r0 s : State} {id : Nat} {slot : Nat} {entry : Nat} {a : Nat} (hk : Keep r0 s) :
    Keep r0 (State.commitSlot s id slot entry a) := by
  unfold State.commitSlot
  extract_lets x1 x2
  try clear_value x1
  refine Keep.cut (a := Keep r0 x2) ?_ fun kx2 => ?_
  unfold x2
  rotate_left
  clear_value x2
  all_goals repeat' first
    | intro _
    | with_reducible assumption
    | with_reducible apply State.onThr_keep
    | with_reducible apply State.putTile_keep
    | with_reducible apply State.putCourse_keep
    | with_reducible apply keep_ite
    | split
    | dsimp only

theorem State.cleanGate_keep {r0 s : State} {a : Nat} {g : Gate} (hk : Keep r0 s) :
    Keep r0 (State.cleanGate s a g) := by
  unfold State.cleanGate
  extract_lets x1 x2 x3
  try clear_value x2
  refine Keep.cut (a := Keep r0 x1) ?_ fun kx1 => ?_
  unfold x1
  rotate_left
  clear_value x1
  refine Keep.cut (a := Keep r0 x3) ?_ fun kx3 => ?_
  unfold x3
  rotate_left
  clear_value x3
  all_goals repeat' first
    | intro _
    | with_reducible assumption
    | with_reducible apply State.commitSlot_keep
    | with_reducible apply State.onThr_keep
    | with_reducible apply State.syncGate_keep
    | with_reducible apply State.returnPallet_keep
    | with_reducible apply keep_ite
    | with_reducible apply keep_foldl
    | split
    | dsimp only

theorem State.gateEnd_keep {r0 s : State} {a : Nat} {tag : Nat} {bits : Nat} {drop : Bool} (hk : Keep r0 s) :
    Keep r0 (State.gateEnd s a tag bits drop) := by
  unfold State.gateEnd
  extract_lets x1 x2
  try clear_value x1
  refine Keep.cut (a := Keep r0 x2) ?_ fun kx2 => ?_
  unfold x2
  rotate_left
  clear_value x2
  all_goals repeat' first
    | intro _
    | with_reducible assumption
    | with_reducible apply State.onThr_keep
    | with_reducible apply State.dropGate_keep
    | with_reducible apply State.cleanGate_keep
    | with_reducible apply keep_ite
    | split
    | dsimp only

end Sys2Proof.Machine
end

