-- ==== Sys2Proof/Laws/KeepServo.lean ====
section
/-! SUPPORT. What the operations of Machine/Servo.lean keep. -/

namespace Sys2Proof.Machine

set_option linter.unreachableTactic false
set_option linter.unusedTactic false

theorem State.setTrace_keep {r0 s : State} {e : Nat} {t : Trace} (hk : Keep r0 s) :
    Keep r0 (State.setTrace s e t) := by
  unfold State.setTrace
  extract_lets x1
  try clear_value x1
  all_goals repeat' first
    | intro _
    | with_reducible assumption
    | with_reducible apply keep_ite
    | split
    | with_reducible apply Keep.mk'
    | dsimp only

theorem State.runLaws_keep {r0 s : State} {a : Nat} {wedge : Nat} {badBias : Option Nat} {badProf : Option Nat} (hk : Keep r0 s) :
    Keep r0 (State.runLaws s a wedge badBias badProf) := by
  unfold State.runLaws
  extract_lets x1 x2 x3 x4 x5
  try clear_value x1
  try clear_value x2
  try clear_value x3
  try clear_value x4
  try clear_value x5
  all_goals repeat' first
    | intro _
    | with_reducible assumption
    | with_reducible apply State.bumpN_keep
    | with_reducible apply State.set_keep
    | with_reducible apply State.sendDn_keep
    | with_reducible apply State.onLoop_keep
    | with_reducible apply State.raise_keep
    | with_reducible apply keep_ite
    | split
    | dsimp only

theorem execLoopAcquired_good (a : Nat) (s : State) : Good s (execLoopAcquired a s) := by
  have hk := Keep.refl s
  unfold execLoopAcquired
  extract_lets x1
  try clear_value x1
  all_goals repeat' first
    | intro _
    | with_reducible apply good_okIf
    | with_reducible apply good_okAon
    | with_reducible apply good_ok
    | with_reducible apply good_ite
    | with_reducible assumption
    | with_reducible apply State.toState_keep
    | with_reducible apply State.set_keep
    | with_reducible apply State.onLoop_keep
    | with_reducible apply keep_ite
    | split
    | dsimp only

theorem execLoadingOutputTick_good (a : Nat) (s : State) : Good s (execLoadingOutputTick a s) := by
  have hk := Keep.refl s
  unfold execLoadingOutputTick
  extract_lets x1
  try clear_value x1
  all_goals repeat' first
    | intro _
    | with_reducible apply good_okIf
    | with_reducible apply good_okAon
    | with_reducible apply good_ok
    | with_reducible apply good_ite
    | with_reducible assumption
    | with_reducible apply State.set_keep
    | with_reducible apply State.sendDn_keep
    | with_reducible apply keep_ite
    | split
    | dsimp only

theorem State.storeTrCtl_keep {r0 s : State} {e : Nat} {v : Word} (hk : Keep r0 s) :
    Keep r0 (State.storeTrCtl s e v) := by
  unfold State.storeTrCtl
  all_goals repeat' first
    | intro _
    | with_reducible assumption
    | with_reducible apply State.set_keep
    | with_reducible apply keep_ite
    | split
    | dsimp only

theorem execTraceStop_good (e : Nat) (value : Word) (s : State) : Good s (execTraceStop e value s) := by
  have hk := Keep.refl s
  unfold execTraceStop
  extract_lets x1
  refine Keep.cut (a := Keep s x1) ?_ fun kx1 => ?_
  unfold x1
  rotate_left
  clear_value x1
  all_goals repeat' first
    | intro _
    | with_reducible apply good_okIf
    | with_reducible apply good_okAon
    | with_reducible apply good_ok
    | with_reducible apply good_ite
    | with_reducible assumption
    | with_reducible apply State.storeTrCtl_keep
    | with_reducible apply State.set_keep
    | with_reducible apply keep_ite
    | split
    | dsimp only

theorem State.nextIndex_keep {r0 s : State} {e : Nat} (hk : Keep r0 s) :
    Keep r0 (State.nextIndex s e) := by
  unfold State.nextIndex
  all_goals repeat' first
    | intro _
    | with_reducible assumption
    | with_reducible apply State.set_keep
    | with_reducible apply keep_ite
    | split
    | dsimp only

theorem State.traceKeep_keep {r0 s : State} {e : Nat} {row : List Int} (hk : Keep r0 s) :
    Keep r0 (State.traceKeep s e row) := by
  unfold State.traceKeep
  extract_lets x1 x2 x3 x4 x5 x6
  try clear_value x1
  try clear_value x2
  try clear_value x3
  try clear_value x4
  try clear_value x5
  try clear_value x6
  all_goals repeat' first
    | intro _
    | with_reducible assumption
    | with_reducible apply State.set_keep
    | with_reducible apply State.setTrace_keep
    | with_reducible apply keep_ite
    | split
    | dsimp only

theorem State.traceClock_keep {r0 s : State} {e : Nat} (hk : Keep r0 s) :
    Keep r0 (State.traceClock s e) := by
  unfold State.traceClock
  extract_lets x1 x2
  try clear_value x1
  try clear_value x2
  all_goals repeat' first
    | intro _
    | with_reducible assumption
    | with_reducible apply State.traceKeep_keep
    | with_reducible apply State.setTrace_keep
    | with_reducible apply keep_ite
    | split
    | dsimp only

theorem State.traceCurrent_keep {r0 s : State} {slot : Nat} (hk : Keep r0 s) :
    Keep r0 (State.traceCurrent s slot) := by
  unfold State.traceCurrent
  extract_lets x1
  try clear_value x1
  all_goals repeat' first
    | intro _
    | with_reducible assumption
    | with_reducible apply State.traceClock_keep
    | with_reducible apply keep_ite
    | split
    | dsimp only

theorem execTraceDone_good (e : Nat) (s : State) : Good s (execTraceDone e s) := by
  have hk := Keep.refl s
  unfold execTraceDone
  all_goals repeat' first
    | intro _
    | with_reducible apply good_okIf
    | with_reducible apply good_okAon
    | with_reducible apply good_ok
    | with_reducible apply good_ite
    | with_reducible assumption
    | with_reducible apply State.raise_keep
    | with_reducible apply State.set_keep
    | with_reducible apply keep_ite
    | split
    | dsimp only

theorem execLoadRequest_good (a : Nat) (s : State) : Good s (execLoadRequest a s) := by
  have hk := Keep.refl s
  unfold execLoadRequest
  all_goals repeat' first
    | intro _
    | with_reducible apply good_okIf
    | with_reducible apply good_okAon
    | with_reducible apply good_ok
    | with_reducible apply good_ite
    | with_reducible assumption
    | with_reducible apply State.loadRequest_keep
    | with_reducible apply keep_ite
    | split
    | dsimp only

theorem State.coefLost_keep {r0 s : State} {a : Nat} {ue : Nat} (hk : Keep r0 s) :
    Keep r0 (State.coefLost s a ue) := by
  unfold State.coefLost
  extract_lets x1
  refine Keep.cut (a := Keep r0 x1) ?_ fun kx1 => ?_
  unfold x1
  rotate_left
  clear_value x1
  all_goals repeat' first
    | intro _
    | with_reducible assumption
    | with_reducible apply State.raise_keep
    | with_reducible apply State.bump_keep
    | with_reducible apply State.unloadLoaded_keep
    | with_reducible apply State.set_keep
    | with_reducible apply State.setB_keep
    | with_reducible apply keep_ite
    | split
    | dsimp only

theorem State.updateErrs_keep {r0 s : State} {a : Nat} {ce : Nat} {ue : Nat} (hk : Keep r0 s) :
    Keep r0 (State.updateErrs s a ce ue) := by
  unfold State.updateErrs
  extract_lets x1
  refine Keep.cut (a := Keep r0 x1) ?_ fun kx1 => ?_
  unfold x1
  rotate_left
  clear_value x1
  all_goals repeat' first
    | intro _
    | with_reducible assumption
    | with_reducible apply State.raise_keep
    | with_reducible apply State.bumpN_keep
    | with_reducible apply State.coefLost_keep
    | with_reducible apply keep_ite
    | split
    | dsimp only

theorem State.acquire_keep {r0 s : State} {a : Nat} {w : WedgeRec} (hk : Keep r0 s) :
    Keep r0 (State.acquire s a w) := by
  unfold State.acquire
  extract_lets x1
  try clear_value x1
  all_goals repeat' first
    | intro _
    | with_reducible assumption
    | with_reducible apply State.onLoop_keep
    | with_reducible apply keep_ite
    | split
    | dsimp only

theorem State.takePosition_keep {r0 s : State} {a : Nat} {p : Int} (hk : Keep r0 s) :
    Keep r0 (State.takePosition s a p) := by
  unfold State.takePosition
  extract_lets x1 x2 x3
  try clear_value x1
  try clear_value x2
  try clear_value x3
  all_goals repeat' first
    | intro _
    | with_reducible assumption
    | with_reducible apply State.set_keep
    | with_reducible apply State.onLoop_keep
    | with_reducible apply keep_ite
    | split
    | dsimp only

theorem State.invalidWedge_keep {r0 s : State} {a : Nat} (hk : Keep r0 s) :
    Keep r0 (State.invalidWedge s a) := by
  unfold State.invalidWedge
  extract_lets x1 x2
  try clear_value x1
  refine Keep.cut (a := Keep r0 x2) ?_ fun kx2 => ?_
  unfold x2
  rotate_left
  clear_value x2
  all_goals repeat' first
    | intro _
    | with_reducible assumption
    | with_reducible apply State.setCause_keep
    | with_reducible apply State.onLoop_keep
    | with_reducible apply State.set_keep
    | with_reducible apply State.missLimit_keep
    | with_reducible apply keep_ite
    | split
    | dsimp only

theorem State.applySeek_keep {r0 s : State} {a : Nat} (hk : Keep r0 s) :
    Keep r0 (State.applySeek s a) := by
  unfold State.applySeek
  all_goals repeat' first
    | intro _
    | with_reducible assumption
    | with_reducible apply State.onLoop_keep
    | with_reducible apply State.setB_keep
    | with_reducible apply State.bump_keep
    | with_reducible apply State.toSet_keep
    | with_reducible apply keep_ite
    | split
    | dsimp only

theorem State.limitCauses_keep {r0 s : State} {a : Nat} {prev : Int} (hk : Keep r0 s) :
    Keep r0 (State.limitCauses s a prev) := by
  unfold State.limitCauses
  extract_lets x1 x2 x3 x4 x5 x6 x7 x8 x9 x10 x11
  try clear_value x1
  try clear_value x2
  try clear_value x3
  try clear_value x4
  try clear_value x5
  try clear_value x6
  try clear_value x8
  try clear_value x9
  try clear_value x10
  try clear_value x11
  refine Keep.cut (a := Keep r0 x7) ?_ fun kx7 => ?_
  unfold x7
  rotate_left
  clear_value x7
  all_goals repeat' first
    | intro _
    | with_reducible assumption
    | with_reducible apply State.onLoop_keep
    | with_reducible apply State.setCauses_keep
    | with_reducible apply keep_ite
    | split
    | dsimp only

theorem State.shockTest_keep {r0 s : State} {a : Nat} (hk : Keep r0 s) :
    Keep r0 (State.shockTest s a) := by
  unfold State.shockTest
  extract_lets x1 x2 x3
  try clear_value x1
  try clear_value x2
  refine Keep.cut (a := Keep r0 x3) ?_ fun kx3 => ?_
  unfold x3
  rotate_left
  clear_value x3
  all_goals repeat' first
    | intro _
    | with_reducible assumption
    | with_reducible apply State.onLoop_keep
    | with_reducible apply State.shock_keep
    | with_reducible apply State.shockTick_keep
    | with_reducible apply keep_ite
    | split
    | dsimp only

theorem State.changeSet_keep {r0 s : State} {a : Nat} (hk : Keep r0 s) :
    Keep r0 (State.changeSet s a) := by
  unfold State.changeSet
  extract_lets x1 x2 x3 x4 x5 x6
  try clear_value x1
  try clear_value x2
  try clear_value x3
  try clear_value x4
  try clear_value x5
  try clear_value x6
  all_goals repeat' first
    | intro _
    | with_reducible assumption
    | with_reducible apply State.onLoop_keep
    | with_reducible apply keep_ite
    | split
    | dsimp only

theorem State.followSeek_keep {r0 s : State} {a : Nat} (hk : Keep r0 s) :
    Keep r0 (State.followSeek s a) := by
  unfold State.followSeek
  extract_lets x1 x2 x3 x4 x5
  try clear_value x1
  try clear_value x2
  try clear_value x3
  try clear_value x4
  refine Keep.cut (a := Keep r0 x5) ?_ fun kx5 => ?_
  unfold x5
  rotate_left
  clear_value x5
  all_goals repeat' first
    | intro _
    | with_reducible assumption
    | with_reducible apply State.toSet_keep
    | with_reducible apply State.onLoop_keep
    | with_reducible apply State.setB_keep
    | with_reducible apply keep_ite
    | split
    | dsimp only

theorem State.closedUpdate_keep {r0 s : State} {a : Nat} {w : WedgeRec} {badBias : Option Nat} {badProf : Option Nat} (hk : Keep r0 s) :
    Keep r0 (State.closedUpdate s a w badBias badProf) := by
  unfold State.closedUpdate
  extract_lets x1 x2 x3 x4 x5 x6 x7 x8 x9
  try clear_value x1
  try clear_value x4
  refine Keep.cut (a := Keep r0 x2) ?_ fun kx2 => ?_
  unfold x2
  rotate_left
  clear_value x2
  refine Keep.cut (a := Keep r0 x3) ?_ fun kx3 => ?_
  unfold x3
  rotate_left
  clear_value x3
  refine Keep.cut (a := Keep r0 x5) ?_ fun kx5 => ?_
  unfold x5
  rotate_left
  clear_value x5
  refine Keep.cut (a := Keep r0 x6) ?_ fun kx6 => ?_
  unfold x6
  rotate_left
  clear_value x6
  refine Keep.cut (a := Keep r0 x7) ?_ fun kx7 => ?_
  unfold x7
  rotate_left
  clear_value x7
  refine Keep.cut (a := Keep r0 x8) ?_ fun kx8 => ?_
  unfold x8
  rotate_left
  clear_value x8
  refine Keep.cut (a := Keep r0 x9) ?_ fun kx9 => ?_
  unfold x9
  rotate_left
  clear_value x9
  all_goals repeat' first
    | intro _
    | with_reducible assumption
    | with_reducible apply State.takePosition_keep
    | with_reducible apply State.applySeek_keep
    | with_reducible apply State.onLoop_keep
    | with_reducible apply State.set_keep
    | with_reducible apply State.limitCauses_keep
    | with_reducible apply State.shockTest_keep
    | with_reducible apply State.changeSet_keep
    | with_reducible apply State.followSeek_keep
    | with_reducible apply State.runLaws_keep
    | with_reducible apply keep_ite
    | split
    | dsimp only

theorem State.lostOutput_keep {r0 s : State} {a : Nat} {wedge : Nat} {badBias : Option Nat} (hk : Keep r0 s) :
    Keep r0 (State.lostOutput s a wedge badBias) := by
  unfold State.lostOutput
  extract_lets x1 x2
  try clear_value x1
  try clear_value x2
  all_goals repeat' first
    | intro _
    | with_reducible assumption
    | with_reducible apply State.set_keep
    | with_reducible apply State.sendDn_keep
    | with_reducible apply State.onLoop_keep
    | with_reducible apply State.bumpN_keep
    | with_reducible apply State.raise_keep
    | with_reducible apply keep_ite
    | split
    | dsimp only

theorem State.traceUpdate_keep {r0 s : State} {a : Nat} (hk : Keep r0 s) :
    Keep r0 (State.traceUpdate s a) := by
  unfold State.traceUpdate
  extract_lets x1
  try clear_value x1
  all_goals repeat' first
    | intro _
    | with_reducible assumption
    | with_reducible apply State.traceClock_keep
    | with_reducible apply keep_ite
    | split
    | dsimp only

theorem State.update_keep {r0 s : State} {a : Nat} {w : WedgeRec} {lat : Nat} {ce : Nat} {ue : Nat} {ueIdx : Nat} (hk : Keep r0 s) :
    Keep r0 (State.update s a w lat ce ue ueIdx) := by
  unfold State.update
  extract_lets x1 x2 x3 x4 x5 x6 x7 x8 x9
  try clear_value x1
  try clear_value x2
  try clear_value x3
  try clear_value x6
  refine Keep.cut (a := Keep r0 x4) ?_ fun kx4 => ?_
  unfold x4
  rotate_left
  clear_value x4
  refine Keep.cut (a := Keep r0 x5) ?_ fun kx5 => ?_
  unfold x5
  rotate_left
  clear_value x5
  refine Keep.cut (a := Keep r0 x7) ?_ fun kx7 => ?_
  unfold x7
  rotate_left
  clear_value x7
  refine Keep.cut (a := Keep r0 x8) ?_ fun kx8 => ?_
  unfold x8
  rotate_left
  clear_value x8
  refine Keep.cut (a := Keep r0 x9) ?_ fun kx9 => ?_
  unfold x9
  rotate_left
  clear_value x9
  all_goals repeat' first
    | intro _
    | with_reducible assumption
    | with_reducible apply State.set_keep
    | with_reducible apply State.onLoop_keep
    | with_reducible apply State.updateErrs_keep
    | with_reducible apply State.acquire_keep
    | with_reducible apply State.shockTick_keep
    | with_reducible apply State.takePosition_keep
    | with_reducible apply State.invalidWedge_keep
    | with_reducible apply State.closedUpdate_keep
    | with_reducible apply State.lostOutput_keep
    | with_reducible apply State.traceUpdate_keep
    | with_reducible apply keep_ite
    | split
    | dsimp only

theorem execTraceArm_good (e : Nat) (value : Word) (s : State) : Good s (execTraceArm e value s) := by
  have hk := Keep.refl s
  unfold execTraceArm
  all_goals repeat' first
    | intro _
    | with_reducible apply good_okIf
    | with_reducible apply good_okAon
    | with_reducible apply good_ok
    | with_reducible apply good_ite
    | with_reducible assumption
    | with_reducible apply State.set_keep
    | with_reducible apply State.setTrace_keep
    | with_reducible apply State.storeTrCtl_keep
    | with_reducible apply keep_ite
    | split
    | dsimp only

theorem execLostTimeout_good (a : Nat) (s : State) : Good s (execLostTimeout a s) := by
  have hk := Keep.refl s
  unfold execLostTimeout
  all_goals repeat' first
    | intro _
    | with_reducible apply good_okIf
    | with_reducible apply good_okAon
    | with_reducible apply good_ok
    | with_reducible apply good_ite
    | with_reducible assumption
    | with_reducible apply State.raise_keep
    | with_reducible apply State.sendUnload_keep
    | with_reducible apply keep_ite
    | split
    | dsimp only

theorem execRetractLoopUnload_good (a : Nat) (s : State) : Good s (execRetractLoopUnload a s) := by
  have hk := Keep.refl s
  unfold execRetractLoopUnload
  all_goals repeat' first
    | intro _
    | with_reducible apply good_okIf
    | with_reducible apply good_okAon
    | with_reducible apply good_ok
    | with_reducible apply good_ite
    | with_reducible assumption
    | with_reducible apply State.retractLoop_keep
    | with_reducible apply keep_ite
    | split
    | dsimp only

theorem State.takeRecord_keep {r0 s u : State} {e pipe a : Nat} {w : WedgeRec} (hk : Keep r0 s) (e0 : State.takeRecord s e pipe = some (a, w, u)) :
    Keep r0 u := by
  unfold State.takeRecord at e0
  split at e0
  · cases e0
  · cases e0; exact hk.mk' _ _ _ _ _ _ _ _ _ _ _ _ _ _

theorem execServoUpdate_good (e : Nat) (pipe : Nat) (lat : Nat) (ce : Nat) (ue : Nat) (ueIdx : Nat) (s : State) : Good s (execServoUpdate e pipe lat ce ue ueIdx s) := by
  have hk := Keep.refl s
  unfold execServoUpdate
  all_goals repeat' first
    | intro _
    | with_reducible apply good_okIf
    | with_reducible apply good_okAon
    | with_reducible apply good_ok
    | with_reducible apply good_ite
    | with_reducible assumption
    | refine State.takeRecord_keep ?_ (by with_reducible assumption)
    | with_reducible apply State.update_keep
    | with_reducible apply keep_ite
    | split
    | dsimp only

theorem execLoopClear_good (a : Nat) (s : State) : Good s (execLoopClear a s) := by
  have hk := Keep.refl s
  unfold execLoopClear
  all_goals repeat' first
    | intro _
    | with_reducible apply good_okIf
    | with_reducible apply good_okAon
    | with_reducible apply good_ok
    | with_reducible apply good_ite
    | with_reducible assumption
    | with_reducible apply State.toState_keep
    | with_reducible apply keep_ite
    | split
    | dsimp only

theorem execSetWrite_good (a : Nat) (n : Nat) (s : State) : Good s (execSetWrite a n s) := by
  have hk := Keep.refl s
  unfold execSetWrite
  all_goals repeat' first
    | intro _
    | with_reducible apply good_okIf
    | with_reducible apply good_okAon
    | with_reducible apply good_ok
    | with_reducible apply good_ite
    | with_reducible assumption
    | with_reducible apply State.setB_keep
    | with_reducible apply State.toSet_keep
    | with_reducible apply State.onLoop_keep
    | with_reducible apply keep_ite
    | split
    | dsimp only

theorem execSeekRequest_good (a : Nat) (track : Nat) (s : State) : Good s (execSeekRequest a track s) := by
  have hk := Keep.refl s
  unfold execSeekRequest
  all_goals repeat' first
    | intro _
    | with_reducible apply good_okIf
    | with_reducible apply good_okAon
    | with_reducible apply good_ok
    | with_reducible apply good_ite
    | with_reducible assumption
    | with_reducible apply State.seekRequest_keep
    | with_reducible apply keep_ite
    | split
    | dsimp only

theorem State.coefWrite_keep {r0 s : State} {a : Nat} {i : Nat} {v : Word} (hk : Keep r0 s) :
    Keep r0 (State.coefWrite s a i v) := by
  unfold State.coefWrite
  extract_lets x1 x2
  try clear_value x1
  refine Keep.cut (a := Keep r0 x2) ?_ fun kx2 => ?_
  unfold x2
  rotate_left
  clear_value x2
  all_goals repeat' first
    | intro _
    | with_reducible assumption
    | with_reducible apply State.set_keep
    | with_reducible apply State.setB_keep
    | with_reducible apply keep_ite
    | split
    | with_reducible apply Keep.mk'
    | dsimp only

theorem execCoefMemWrite_good (e : Nat) (value : Word) (s : State) : Good s (execCoefMemWrite e value s) := by
  have hk := Keep.refl s
  unfold execCoefMemWrite
  extract_lets x1 x2 x3
  try clear_value x1
  try clear_value x2
  try clear_value x3
  all_goals repeat' first
    | intro _
    | with_reducible apply good_okIf
    | with_reducible apply good_okAon
    | with_reducible apply good_ok
    | with_reducible apply good_ite
    | with_reducible assumption
    | with_reducible apply State.nextIndex_keep
    | with_reducible apply State.coefWrite_keep
    | with_reducible apply State.raise_keep
    | with_reducible apply State.bump_keep
    | with_reducible apply keep_ite
    | split
    | with_reducible apply Keep.mk'
    | dsimp only

theorem execLoadTimeout_good (a : Nat) (s : State) : Good s (execLoadTimeout a s) := by
  have hk := Keep.refl s
  unfold execLoadTimeout
  all_goals repeat' first
    | intro _
    | with_reducible apply good_okIf
    | with_reducible apply good_okAon
    | with_reducible apply good_ok
    | with_reducible apply good_ite
    | with_reducible assumption
    | with_reducible apply State.raise_keep
    | with_reducible apply State.sendUnload_keep
    | with_reducible apply keep_ite
    | split
    | dsimp only

theorem execSettleTimeout_good (a : Nat) (s : State) : Good s (execSettleTimeout a s) := by
  have hk := Keep.refl s
  unfold execSettleTimeout
  extract_lets x1
  try clear_value x1
  all_goals repeat' first
    | intro _
    | with_reducible apply good_okIf
    | with_reducible apply good_okAon
    | with_reducible apply good_ok
    | with_reducible apply good_ite
    | with_reducible assumption
    | with_reducible apply State.raise_keep
    | with_reducible apply State.bump_keep
    | with_reducible apply State.onLoop_keep
    | with_reducible apply keep_ite
    | split
    | dsimp only

theorem execUnloadRequest_good (a : Nat) (byThread : Bool) (s : State) : Good s (execUnloadRequest a byThread s) := by
  have hk := Keep.refl s
  unfold execUnloadRequest
  all_goals repeat' first
    | intro _
    | with_reducible apply good_okIf
    | with_reducible apply good_okAon
    | with_reducible apply good_ok
    | with_reducible apply good_ite
    | with_reducible assumption
    | with_reducible apply State.sendUnload_keep
    | with_reducible apply State.assistSet_keep
    | with_reducible apply keep_ite
    | split
    | dsimp only

theorem execServoMemRead_good (acc : Accessor) (e : Nat) (s : State) : Good s (execServoMemRead acc e s) := by
  have hk := Keep.refl s
  unfold execServoMemRead
  all_goals repeat' first
    | intro _
    | with_reducible apply good_okIf
    | with_reducible apply good_okAon
    | with_reducible apply good_ok
    | with_reducible apply good_ite
    | with_reducible assumption
    | with_reducible apply State.nextIndex_keep
    | with_reducible apply keep_onIo
    | with_reducible apply keep_ite
    | with_reducible apply ioKeep_ite
    | split
    | with_reducible apply IoKeep.mk'
    | dsimp only

end Sys2Proof.Machine
end

