-- ==== Sys2Proof/Laws/KeepSpinOps.lean ====
section
/-! SUPPORT. What the operations of Machine/SpinOps.lean keep. -/

namespace Sys2Proof.Machine

set_option linter.unreachableTactic false
set_option linter.unusedTactic false

theorem State.onCh_keep {r0 s : State} {n : Nat} {f : Spin → Spin} (hk : Keep r0 s) :
    Keep r0 (State.onCh s n f) := by
  unfold State.onCh
  extract_lets x1
  try clear_value x1
  all_goals repeat' first
    | intro _
    | with_reducible assumption
    | with_reducible apply keep_ite
    | split
    | with_reducible apply Keep.mk'
    | dsimp only

theorem State.spinOut_keep {r0 s : State} {n : Nat} {u : Nat} {v : Nat} {w : Nat} {mode : Nat} (hk : Keep r0 s) :
    Keep r0 (State.spinOut s n u v w mode) := by
  unfold State.spinOut
  extract_lets x1
  refine Keep.cut (a := Keep r0 x1) ?_ fun kx1 => ?_
  unfold x1
  rotate_left
  clear_value x1
  all_goals repeat' first
    | intro _
    | with_reducible assumption
    | with_reducible apply State.sendDn_keep
    | with_reducible apply State.onCh_keep
    | with_reducible apply keep_ite
    | split
    | dsimp only

theorem State.spinFree_keep {r0 s : State} {n : Nat} (hk : Keep r0 s) :
    Keep r0 (State.spinFree s n) := by
  unfold State.spinFree
  all_goals repeat' first
    | intro _
    | with_reducible assumption
    | with_reducible apply State.spinOut_keep
    | with_reducible apply keep_ite
    | split
    | dsimp only

theorem State.spStatBit_keep {r0 s : State} {n : Nat} {f : RF} {b : Bool} (hk : Keep r0 s) :
    Keep r0 (State.spStatBit s n f b) := by
  unfold State.spStatBit
  all_goals repeat' first
    | intro _
    | with_reducible assumption
    | with_reducible apply State.set_keep
    | with_reducible apply keep_ite
    | split
    | dsimp only

theorem State.spSet_keep {r0 s : State} {n : Nat} {f : RF} {v : Nat} (hk : Keep r0 s) :
    Keep r0 (State.spSet s n f v) := by
  unfold State.spSet
  all_goals repeat' first
    | intro _
    | with_reducible assumption
    | with_reducible apply State.set_keep
    | with_reducible apply keep_ite
    | split
    | dsimp only

theorem State.spRaise_keep {r0 s : State} {n : Nat} {bit : Nat} (hk : Keep r0 s) :
    Keep r0 (State.spRaise s n bit) := by
  unfold State.spRaise
  all_goals repeat' first
    | intro _
    | with_reducible assumption
    | with_reducible apply State.raise_keep
    | with_reducible apply keep_ite
    | split
    | dsimp only

theorem State.loseSpeed_keep {r0 s : State} {n : Nat} (hk : Keep r0 s) :
    Keep r0 (State.loseSpeed s n) := by
  unfold State.loseSpeed
  extract_lets x1
  refine Keep.cut (a := Keep r0 x1) ?_ fun kx1 => ?_
  unfold x1
  rotate_left
  clear_value x1
  all_goals repeat' first
    | intro _
    | with_reducible assumption
    | with_reducible apply State.spStatBit_keep
    | with_reducible apply State.spSet_keep
    | with_reducible apply State.spRaise_keep
    | with_reducible apply keep_ite
    | split
    | dsimp only

theorem State.setPlaces_keep {r0 s : State} {ps : List Nat} (hk : Keep r0 s) :
    Keep r0 (State.setPlaces s ps) := by
  unfold State.setPlaces
  extract_lets x1 x2
  try clear_value x1
  refine Keep.cut (a := Keep r0 x2) ?_ fun kx2 => ?_
  unfold x2
  rotate_left
  clear_value x2
  all_goals repeat' first
    | intro _
    | with_reducible assumption
    | with_reducible apply State.set_keep
    | with_reducible apply keep_ite
    | with_reducible apply keep_foldl
    | with_reducible apply ioKeep_foldl
    | split
    | with_reducible apply Keep.mk'
    | dsimp only

theorem State.freePlace_keep {r0 s : State} {n : Nat} (hk : Keep r0 s) :
    Keep r0 (State.freePlace s n) := by
  unfold State.freePlace
  all_goals repeat' first
    | intro _
    | with_reducible assumption
    | with_reducible apply State.spStatBit_keep
    | with_reducible apply State.setPlaces_keep
    | with_reducible apply keep_ite
    | split
    | dsimp only

theorem State.spBump_keep {r0 s : State} {n : Nat} {f : RF} (hk : Keep r0 s) :
    Keep r0 (State.spBump s n f) := by
  unfold State.spBump
  all_goals repeat' first
    | intro _
    | with_reducible assumption
    | with_reducible apply State.bump_keep
    | with_reducible apply keep_ite
    | split
    | dsimp only

theorem State.toSpin_keep {r0 s : State} {n : Nat} {st : Nat} (hk : Keep r0 s) :
    Keep r0 (State.toSpin s n st) := by
  unfold State.toSpin
  extract_lets x1 x2 x3 x4
  refine Keep.cut (a := Keep r0 x1) ?_ fun kx1 => ?_
  unfold x1
  rotate_left
  clear_value x1
  refine Keep.cut (a := Keep r0 x2) ?_ fun kx2 => ?_
  unfold x2
  rotate_left
  clear_value x2
  refine Keep.cut (a := Keep r0 x3) ?_ fun kx3 => ?_
  unfold x3
  rotate_left
  clear_value x3
  refine Keep.cut (a := Keep r0 x4) ?_ fun kx4 => ?_
  unfold x4
  rotate_left
  clear_value x4
  all_goals repeat' first
    | intro _
    | with_reducible assumption
    | with_reducible apply State.spStatBit_keep
    | with_reducible apply State.spSet_keep
    | with_reducible apply State.loseSpeed_keep
    | with_reducible apply State.freePlace_keep
    | with_reducible apply State.spRaise_keep
    | with_reducible apply State.spBump_keep
    | with_reducible apply keep_ite
    | split
    | dsimp only

theorem State.spCause_keep {r0 s : State} {n : Nat} {c : Nat} (hk : Keep r0 s) :
    Keep r0 (State.spCause s n c) := by
  unfold State.spCause
  all_goals repeat' first
    | intro _
    | with_reducible assumption
    | with_reducible apply State.spSet_keep
    | with_reducible apply keep_ite
    | split
    | dsimp only

theorem State.noLink_keep {r0 s : State} {n : Nat} (hk : Keep r0 s) :
    Keep r0 (State.noLink s n) := by
  unfold State.noLink
  extract_lets x1 x2 x3
  try clear_value x1
  try clear_value x2
  refine Keep.cut (a := Keep r0 x3) ?_ fun kx3 => ?_
  unfold x3
  rotate_left
  clear_value x3
  all_goals repeat' first
    | intro _
    | with_reducible assumption
    | with_reducible apply State.onCh_keep
    | with_reducible apply State.toSpin_keep
    | with_reducible apply State.spCause_keep
    | with_reducible apply keep_ite
    | split
    | with_reducible apply Keep.mk'
    | dsimp only

theorem State.unloadSlot_keep {r0 s : State} {n : Nat} (hk : Keep r0 s) :
    Keep r0 (State.unloadSlot s n) := by
  unfold State.unloadSlot
  extract_lets x1
  refine Keep.cut (a := Keep r0 x1) ?_ fun kx1 => ?_
  unfold x1
  rotate_left
  clear_value x1
  all_goals repeat' first
    | intro _
    | with_reducible assumption
    | with_reducible apply State.sendUnload_keep
    | with_reducible apply keep_ite
    | split
    | dsimp only

theorem State.enterRun_keep {r0 s : State} {n : Nat} {speed : Int} (hk : Keep r0 s) :
    Keep r0 (State.enterRun s n speed) := by
  unfold State.enterRun
  all_goals repeat' first
    | intro _
    | with_reducible assumption
    | with_reducible apply State.onCh_keep
    | with_reducible apply State.spSet_keep
    | with_reducible apply State.toSpin_keep
    | with_reducible apply keep_ite
    | split
    | dsimp only

theorem State.stopRun_keep {r0 s : State} {n : Nat} {why : Nat} (hk : Keep r0 s) :
    Keep r0 (State.stopRun s n why) := by
  unfold State.stopRun
  all_goals repeat' first
    | intro _
    | with_reducible assumption
    | with_reducible apply State.spinFree_keep
    | with_reducible apply State.onCh_keep
    | with_reducible apply State.toSpin_keep
    | with_reducible apply State.spCause_keep
    | with_reducible apply State.unloadSlot_keep
    | with_reducible apply keep_ite
    | split
    | dsimp only

theorem State.stopGoesOn_keep {r0 s : State} {n : Nat} (hk : Keep r0 s) :
    Keep r0 (State.stopGoesOn s n) := by
  unfold State.stopGoesOn
  all_goals repeat' first
    | intro _
    | with_reducible assumption
    | with_reducible apply State.spRaise_keep
    | with_reducible apply State.onCh_keep
    | with_reducible apply State.stopRun_keep
    | with_reducible apply keep_ite
    | split
    | dsimp only

theorem State.coastDown_keep {r0 s : State} {n : Nat} {forced : Bool} (hk : Keep r0 s) :
    Keep r0 (State.coastDown s n forced) := by
  unfold State.coastDown
  all_goals repeat' first
    | intro _
    | with_reducible assumption
    | with_reducible apply State.spinFree_keep
    | with_reducible apply State.onCh_keep
    | with_reducible apply State.toSpin_keep
    | with_reducible apply keep_ite
    | split
    | dsimp only

theorem State.stopSpin_keep {r0 s : State} {n : Nat} {why : Nat} (hk : Keep r0 s) :
    Keep r0 (State.stopSpin s n why) := by
  unfold State.stopSpin
  extract_lets x1
  try clear_value x1
  all_goals repeat' first
    | intro _
    | with_reducible assumption
    | with_reducible apply State.toSpin_keep
    | with_reducible apply State.coastDown_keep
    | with_reducible apply State.stopRun_keep
    | with_reducible apply keep_ite
    | split
    | with_reducible apply Keep.mk'
    | dsimp only

theorem State.drive_keep {r0 s : State} {n : Nat} {iu : Int} {iv : Int} {idRef : Int} {iqRef : Int} {th : Nat} (hk : Keep r0 s) :
    Keep r0 (State.drive s n iu iv idRef iqRef th) := by
  unfold State.drive
  extract_lets x1 x2 x3 x4
  try clear_value x1
  try clear_value x2
  try clear_value x3
  try clear_value x4
  all_goals repeat' first
    | intro _
    | with_reducible assumption
    | with_reducible apply State.onCh_keep
    | with_reducible apply State.spSet_keep
    | with_reducible apply State.spinOut_keep
    | with_reducible apply keep_ite
    | split
    | dsimp only

theorem State.cogErrs_keep {r0 s : State} {n : Nat} {ce : Nat} {ue : Nat} (hk : Keep r0 s) :
    Keep r0 (State.cogErrs s n ce ue) := by
  unfold State.cogErrs
  extract_lets x1 x2
  try clear_value x1
  refine Keep.cut (a := Keep r0 x2) ?_ fun kx2 => ?_
  unfold x2
  rotate_left
  clear_value x2
  all_goals repeat' first
    | intro _
    | with_reducible assumption
    | with_reducible apply State.bumpN_keep
    | with_reducible apply State.spRaise_keep
    | with_reducible apply State.bump_keep
    | with_reducible apply keep_ite
    | split
    | dsimp only

theorem State.currentTick_keep {r0 s : State} {n : Nat} {iu : Int} {iv : Int} {ce : Nat} {ue : Nat} (hk : Keep r0 s) :
    Keep r0 (State.currentTick s n iu iv ce ue) := by
  unfold State.currentTick
  extract_lets x1 x2 x3 x4 x5 x6 x7 x8
  try clear_value x1
  try clear_value x3
  try clear_value x6
  try clear_value x7
  refine Keep.cut (a := Keep r0 x2) ?_ fun kx2 => ?_
  unfold x2
  rotate_left
  clear_value x2
  refine Keep.cut (a := Keep r0 x4) ?_ fun kx4 => ?_
  unfold x4
  rotate_left
  clear_value x4
  refine Keep.cut (a := Keep r0 x5) ?_ fun kx5 => ?_
  unfold x5
  rotate_left
  clear_value x5
  refine Keep.cut (a := Keep r0 x8) ?_ fun kx8 => ?_
  unfold x8
  rotate_left
  clear_value x8
  all_goals repeat' first
    | intro _
    | with_reducible assumption
    | with_reducible apply State.onCh_keep
    | with_reducible apply State.drawn_keep
    | with_reducible apply State.spinOut_keep
    | with_reducible apply State.spinFree_keep
    | with_reducible apply State.drive_keep
    | with_reducible apply State.spSet_keep
    | with_reducible apply State.cogErrs_keep
    | with_reducible apply keep_ite
    | split
    | dsimp only

theorem State.observerLoss_keep {r0 s : State} {n : Nat} (hk : Keep r0 s) :
    Keep r0 (State.observerLoss s n) := by
  unfold State.observerLoss
  all_goals repeat' first
    | intro _
    | with_reducible assumption
    | with_reducible apply State.spinFree_keep
    | with_reducible apply State.toSpin_keep
    | with_reducible apply State.spCause_keep
    | with_reducible apply State.spRaise_keep
    | with_reducible apply State.spBump_keep
    | with_reducible apply keep_ite
    | split
    | dsimp only

end Sys2Proof.Machine
end

