-- ==== Sys2Proof/Laws/KeepLink.lean ====
section
/-! SUPPORT. What the operations of Machine/Link.lean keep. -/

namespace Sys2Proof.Machine

set_option linter.unreachableTactic false
set_option linter.unusedTactic false

theorem State.gapHits_keep {r0 s : State} {a : Nat} (hk : Keep r0 s) :
    Keep r0 (State.gapHits s a) := by
  unfold State.gapHits
  extract_lets x1
  refine Keep.cut (a := Keep r0 x1) ?_ fun kx1 => ?_
  unfold x1
  rotate_left
  clear_value x1
  all_goals repeat' first
    | intro _
    | with_reducible assumption
    | with_reducible apply State.abandonWin_keep
    | with_reducible apply State.onDet_keep
    | with_reducible apply keep_ite
    | split
    | dsimp only

theorem State.sampleGap_keep {r0 s : State} {a : Nat} (hk : Keep r0 s) :
    Keep r0 (State.sampleGap s a) := by
  unfold State.sampleGap
  all_goals repeat' first
    | intro _
    | with_reducible assumption
    | with_reducible apply State.gapHits_keep
    | with_reducible apply State.bump_keep
    | with_reducible apply State.raise_keep
    | with_reducible apply keep_ite
    | split
    | dsimp only

theorem State.lateInvalid_keep {r0 s : State} {a : Nat} (hk : Keep r0 s) :
    Keep r0 (State.lateInvalid s a) := by
  unfold State.lateInvalid
  extract_lets x1 x2 x3
  try clear_value x1
  refine Keep.cut (a := Keep r0 x2) ?_ fun kx2 => ?_
  unfold x2
  rotate_left
  clear_value x2
  refine Keep.cut (a := Keep r0 x3) ?_ fun kx3 => ?_
  unfold x3
  rotate_left
  clear_value x3
  all_goals repeat' first
    | intro _
    | with_reducible assumption
    | with_reducible apply State.set_keep
    | with_reducible apply State.raise_keep
    | with_reducible apply State.bump_keep
    | with_reducible apply State.setCause_keep
    | with_reducible apply State.onLoop_keep
    | with_reducible apply State.missLimit_keep
    | with_reducible apply keep_ite
    | split
    | dsimp only

theorem State.groupFails'_keep {r0 s : State} {a : Nat} {lo : Nat} {hi : Nat} (hk : Keep r0 s) :
    Keep r0 (State.groupFails' s a lo hi) := by
  unfold State.groupFails'
  extract_lets x1 x2 x3 x4 x5 x6 x7 x8 x9 x10 x11 x12 x13 x14 x15 x16
  try clear_value x1
  try clear_value x2
  try clear_value x4
  try clear_value x5
  try clear_value x8
  try clear_value x9
  try clear_value x12
  try clear_value x13
  try clear_value x14
  try clear_value x15
  try clear_value x16
  refine Keep.cut (a := Keep r0 x3) ?_ fun kx3 => ?_
  unfold x3
  rotate_left
  clear_value x3
  refine Keep.cut (a := Keep r0 x6) ?_ fun kx6 => ?_
  unfold x6
  rotate_left
  clear_value x6
  refine Keep.cut (a := Keep r0 x7) ?_ fun kx7 => ?_
  unfold x7
  rotate_left
  clear_value x7
  refine Keep.cut (a := Keep r0 x10) ?_ fun kx10 => ?_
  unfold x10
  rotate_left
  clear_value x10
  refine Keep.cut (a := Keep r0 x11) ?_ fun kx11 => ?_
  unfold x11
  rotate_left
  clear_value x11
  all_goals repeat' first
    | intro _
    | with_reducible assumption
    | with_reducible apply State.gapHits_keep
    | with_reducible apply State.reportRec_keep
    | with_reducible apply State.setPool_keep
    | with_reducible apply State.onDet_keep
    | with_reducible apply State.report_keep
    | with_reducible apply State.lateInvalid_keep
    | with_reducible apply keep_ite
    | with_reducible apply keep_foldl
    | with_reducible apply ioKeep_foldl
    | split
    | with_reducible apply Keep.mk'
    | dsimp only

theorem State.cutSamples_keep {r0 s : State} {a : Nat} (hk : Keep r0 s) :
    Keep r0 (State.cutSamples s a) := by
  unfold State.cutSamples
  extract_lets x1 x2
  refine Keep.cut (a := Keep r0 x1) ?_ fun kx1 => ?_
  unfold x1
  rotate_left
  clear_value x1
  refine Keep.cut (a := ∀ u0 u1, Keep r0 u0 → Keep r0 (x2 u0 u1)) ?_ fun kx2 => ?_
  unfold x2
  rotate_left
  clear_value x2
  all_goals repeat' first
    | intro _
    | with_reducible assumption
    | with_reducible apply kx2
    | with_reducible apply State.sampleGap_keep
    | with_reducible apply State.groupFails'_keep
    | with_reducible apply keep_ite
    | split
    | dsimp only

theorem State.spinCfg_keep {r0 s : State} {a : Nat} (hk : Keep r0 s) :
    Keep r0 (State.spinCfg s a) := by
  unfold State.spinCfg
  all_goals repeat' first
    | intro _
    | with_reducible assumption
    | with_reducible apply State.sendCmd_keep
    | with_reducible apply keep_ite
    | split
    | dsimp only

theorem State.showOwner_keep {r0 s : State} {n : Nat} (hk : Keep r0 s) :
    Keep r0 (State.showOwner s n) := by
  unfold State.showOwner
  extract_lets x1 x2
  try clear_value x1
  try clear_value x2
  all_goals repeat' first
    | intro _
    | with_reducible assumption
    | with_reducible apply State.setB_keep
    | with_reducible apply keep_ite
    | split
    | dsimp only

theorem State.settleOwner_keep {r0 s : State} {n : Nat} (hk : Keep r0 s) :
    Keep r0 (State.settleOwner s n) := by
  unfold State.settleOwner
  extract_lets x1 x2 x3 x4 x5 x6
  try clear_value x1
  try clear_value x2
  try clear_value x3
  try clear_value x4
  try clear_value x6
  refine Keep.cut (a := Keep r0 x5) ?_ fun kx5 => ?_
  unfold x5
  rotate_left
  clear_value x5
  all_goals repeat' first
    | intro _
    | with_reducible assumption
    | with_reducible apply State.spinCfg_keep
    | with_reducible apply State.sendCmd_keep
    | with_reducible apply State.showOwner_keep
    | with_reducible apply keep_ite
    | split
    | with_reducible apply Keep.mk'
    | dsimp only

theorem State.moveLink_keep {r0 s : State} {a : Nat} {st : Nat} (hk : Keep r0 s) :
    Keep r0 (State.moveLink s a st) := by
  unfold State.moveLink
  extract_lets x1 x2 x3 x4 x5 x6 x7 x8
  try clear_value x1
  try clear_value x2
  refine Keep.cut (a := Keep r0 x3) ?_ fun kx3 => ?_
  unfold x3
  rotate_left
  clear_value x3
  refine Keep.cut (a := Keep r0 x4) ?_ fun kx4 => ?_
  unfold x4
  rotate_left
  clear_value x4
  refine Keep.cut (a := Keep r0 x5) ?_ fun kx5 => ?_
  unfold x5
  rotate_left
  clear_value x5
  refine Keep.cut (a := Keep r0 x6) ?_ fun kx6 => ?_
  unfold x6
  rotate_left
  clear_value x6
  refine Keep.cut (a := Keep r0 x7) ?_ fun kx7 => ?_
  unfold x7
  rotate_left
  clear_value x7
  refine Keep.cut (a := Keep r0 x8) ?_ fun kx8 => ?_
  unfold x8
  rotate_left
  clear_value x8
  all_goals repeat' first
    | intro _
    | with_reducible assumption
    | with_reducible apply State.cutSamples_keep
    | with_reducible apply State.abandonChecks_keep
    | with_reducible apply State.setLinkBit_keep
    | with_reducible apply State.set_keep
    | with_reducible apply State.setB_keep
    | with_reducible apply State.raise_keep
    | with_reducible apply State.gatesLost_keep
    | with_reducible apply State.noLink_keep
    | with_reducible apply State.settleOwner_keep
    | with_reducible apply State.loseActuator_keep
    | with_reducible apply keep_ite
    | split
    | dsimp only

theorem State.startTrain_keep {r0 s : State} {a : Nat} {phase : Nat} {attempt : Nat} (hk : Keep r0 s) :
    Keep r0 (State.startTrain s a phase attempt) := by
  unfold State.startTrain
  all_goals repeat' first
    | intro _
    | with_reducible assumption
    | with_reducible apply State.bump_keep
    | with_reducible apply State.setB_keep
    | with_reducible apply State.set_keep
    | with_reducible apply State.moveLink_keep
    | with_reducible apply keep_ite
    | split
    | dsimp only

theorem State.bridgeGone_keep {r0 s : State} {a : Nat} {told : Bool} (hk : Keep r0 s) :
    Keep r0 (State.bridgeGone s a told) := by
  unfold State.bridgeGone
  extract_lets x1 x2 x3 x4
  try clear_value x3
  refine Keep.cut (a := Keep r0 x1) ?_ fun kx1 => ?_
  unfold x1
  rotate_left
  clear_value x1
  refine Keep.cut (a := Keep r0 x2) ?_ fun kx2 => ?_
  unfold x2
  rotate_left
  clear_value x2
  refine Keep.cut (a := Keep r0 x4) ?_ fun kx4 => ?_
  unfold x4
  rotate_left
  clear_value x4
  all_goals repeat' first
    | intro _
    | with_reducible assumption
    | with_reducible apply State.setLinkBit_keep
    | with_reducible apply State.raise_keep
    | with_reducible apply State.toSlot_keep
    | with_reducible apply State.tryExclude_keep
    | with_reducible apply keep_ite
    | split
    | dsimp only

theorem State.finishLeave_keep {r0 s : State} {a : Nat} {target : Nat} (hk : Keep r0 s) :
    Keep r0 (State.finishLeave s a target) := by
  unfold State.finishLeave
  extract_lets x1
  refine Keep.cut (a := Keep r0 x1) ?_ fun kx1 => ?_
  unfold x1
  rotate_left
  clear_value x1
  all_goals repeat' first
    | intro _
    | with_reducible assumption
    | with_reducible apply State.onLk_keep
    | with_reducible apply State.startTrain_keep
    | with_reducible apply State.bridgeGone_keep
    | with_reducible apply State.dropLoop_keep
    | with_reducible apply State.moveLink_keep
    | with_reducible apply keep_ite
    | split
    | dsimp only

theorem State.leaveActive_keep {r0 s : State} {a : Nat} {target : Nat} (hk : Keep r0 s) :
    Keep r0 (State.leaveActive s a target) := by
  unfold State.leaveActive
  extract_lets x1 x2 x3
  try clear_value x2
  refine Keep.cut (a := Keep r0 x1) ?_ fun kx1 => ?_
  unfold x1
  rotate_left
  clear_value x1
  refine Keep.cut (a := Keep r0 x3) ?_ fun kx3 => ?_
  unfold x3
  rotate_left
  clear_value x3
  all_goals repeat' first
    | intro _
    | with_reducible assumption
    | with_reducible apply State.onLk_keep
    | with_reducible apply State.killGates_keep
    | with_reducible apply State.sendDn_keep
    | with_reducible apply State.sendUnload_keep
    | with_reducible apply State.sendCmd_keep
    | with_reducible apply State.finishLeave_keep
    | with_reducible apply keep_ite
    | split
    | dsimp only

theorem execLongStall_good (a : Nat) (_n : Lane) (s : State) : Good s (execLongStall a _n s) := by
  have hk := Keep.refl s
  unfold execLongStall
  all_goals repeat' first
    | intro _
    | with_reducible apply good_okIf
    | with_reducible apply good_okAon
    | with_reducible apply good_ok
    | with_reducible apply good_ite
    | with_reducible assumption
    | with_reducible apply State.leaveActive_keep
    | with_reducible apply State.raise_keep
    | with_reducible apply keep_ite
    | split
    | dsimp only

theorem execUnloadAckTimeout_good (a : Nat) (signalLost : Bool) (s : State) : Good s (execUnloadAckTimeout a signalLost s) := by
  have hk := Keep.refl s
  unfold execUnloadAckTimeout
  all_goals repeat' first
    | intro _
    | with_reducible apply good_okIf
    | with_reducible apply good_okAon
    | with_reducible apply good_ok
    | with_reducible apply good_ite
    | with_reducible assumption
    | with_reducible apply State.finishLeave_keep
    | with_reducible apply State.assertUnacked_keep
    | with_reducible apply keep_ite
    | split
    | dsimp only

theorem State.checkFails_keep {r0 s : State} {a : Nat} {n : Lane} {whole : Bool} (hk : Keep r0 s) :
    Keep r0 (State.checkFails s a n whole) := by
  unfold State.checkFails
  extract_lets x1 x2 x3
  try clear_value x1
  refine Keep.cut (a := Keep r0 x2) ?_ fun kx2 => ?_
  unfold x2
  rotate_left
  clear_value x2
  refine Keep.cut (a := Keep r0 x3) ?_ fun kx3 => ?_
  unfold x3
  rotate_left
  clear_value x3
  all_goals repeat' first
    | intro _
    | with_reducible assumption
    | with_reducible apply State.raise_keep
    | with_reducible apply State.bump_keep
    | with_reducible apply State.groupFails'_keep
    | with_reducible apply State.onLane_keep
    | with_reducible apply State.leaveActive_keep
    | with_reducible apply keep_ite
    | split
    | dsimp only

theorem State.dozeWanted_keep {r0 s : State} {a : Nat} {ev : Nat} (hk : Keep r0 s) :
    Keep r0 (State.dozeWanted s a ev) := by
  unfold State.dozeWanted
  extract_lets x1
  try clear_value x1
  all_goals repeat' first
    | intro _
    | with_reducible assumption
    | with_reducible apply State.sendCmd_keep
    | with_reducible apply keep_ite
    | split
    | dsimp only

theorem execLosTimeout_good (a : Nat) (s : State) : Good s (execLosTimeout a s) := by
  have hk := Keep.refl s
  unfold execLosTimeout
  all_goals repeat' first
    | intro _
    | with_reducible apply good_okIf
    | with_reducible apply good_okAon
    | with_reducible apply good_ok
    | with_reducible apply good_ite
    | with_reducible assumption
    | with_reducible apply State.bridgeGone_keep
    | with_reducible apply State.stopGoesOn_keep
    | with_reducible apply State.settleUnacked_keep
    | with_reducible apply State.dropLoop_keep
    | with_reducible apply State.moveLink_keep
    | with_reducible apply State.raise_keep
    | with_reducible apply State.onLk_keep
    | with_reducible apply State.setB_keep
    | with_reducible apply keep_ite
    | split
    | dsimp only

theorem execForceDown_good (_acc : Accessor) (a : Nat) (value : Bool) (s : State) : Good s (execForceDown _acc a value s) := by
  have hk := Keep.refl s
  unfold execForceDown
  extract_lets x1
  refine Keep.cut (a := Keep s x1) ?_ fun kx1 => ?_
  unfold x1
  rotate_left
  clear_value x1
  all_goals repeat' first
    | intro _
    | with_reducible apply good_okIf
    | with_reducible apply good_okAon
    | with_reducible apply good_ok
    | with_reducible apply good_ite
    | with_reducible assumption
    | with_reducible apply State.setB_keep
    | with_reducible apply State.leaveActive_keep
    | with_reducible apply keep_ite
    | split
    | dsimp only

theorem State.statusEvents_keep {r0 s : State} {a : Nat} {ev : Nat} (hk : Keep r0 s) :
    Keep r0 (State.statusEvents s a ev) := by
  unfold State.statusEvents
  extract_lets x1 x2 x3 x4 x5 x6 x7 x8
  try clear_value x1
  try clear_value x2
  try clear_value x3
  try clear_value x8
  refine Keep.cut (a := Keep r0 x4) ?_ fun kx4 => ?_
  unfold x4
  rotate_left
  clear_value x4
  refine Keep.cut (a := Keep r0 x5) ?_ fun kx5 => ?_
  unfold x5
  rotate_left
  clear_value x5
  refine Keep.cut (a := Keep r0 x6) ?_ fun kx6 => ?_
  unfold x6
  rotate_left
  clear_value x6
  refine Keep.cut (a := Keep r0 x7) ?_ fun kx7 => ?_
  unfold x7
  rotate_left
  clear_value x7
  all_goals repeat' first
    | intro _
    | with_reducible assumption
    | with_reducible apply State.onLk_keep
    | with_reducible apply State.raise_keep
    | with_reducible apply State.bump_keep
    | with_reducible apply State.sendCmd_keep
    | with_reducible apply keep_ite
    | with_reducible apply keep_foldl
    | split
    | dsimp only

theorem execTrainT1Pass_good (a : Nat) (s : State) : Good s (execTrainT1Pass a s) := by
  have hk := Keep.refl s
  unfold execTrainT1Pass
  extract_lets x1 x2 x3
  try clear_value x1
  try clear_value x3
  refine Keep.cut (a := Keep s x2) ?_ fun kx2 => ?_
  unfold x2
  rotate_left
  clear_value x2
  all_goals repeat' first
    | intro _
    | with_reducible apply good_okIf
    | with_reducible apply good_okAon
    | with_reducible apply good_ok
    | with_reducible apply good_ite
    | with_reducible assumption
    | with_reducible apply State.setLinkBit_keep
    | with_reducible apply State.set_keep
    | with_reducible apply State.raise_keep
    | with_reducible apply keep_ite
    | split
    | with_reducible apply Keep.mk'
    | dsimp only

theorem execSampleGapDetected_good (a : Nat) (_n : Lane) (s : State) : Good s (execSampleGapDetected a _n s) := by
  have hk := Keep.refl s
  unfold execSampleGapDetected
  all_goals repeat' first
    | intro _
    | with_reducible apply good_okIf
    | with_reducible apply good_okAon
    | with_reducible apply good_ok
    | with_reducible apply good_ite
    | with_reducible assumption
    | with_reducible apply State.sampleGap_keep
    | with_reducible apply keep_ite
    | split
    | dsimp only

theorem State.statusSensor_keep {r0 s : State} {a : Nat} {st : Status} (hk : Keep r0 s) :
    Keep r0 (State.statusSensor s a st) := by
  unfold State.statusSensor
  extract_lets x1 x2
  try clear_value x2
  refine Keep.cut (a := Keep r0 x1) ?_ fun kx1 => ?_
  unfold x1
  rotate_left
  clear_value x1
  all_goals repeat' first
    | intro _
    | with_reducible assumption
    | with_reducible apply State.onLk_keep
    | with_reducible apply State.shock_keep
    | with_reducible apply keep_ite
    | split
    | dsimp only

theorem execReservedTypeFlit_good (a : Nat) (n : Lane) (s : State) : Good s (execReservedTypeFlit a n s) := by
  have hk := Keep.refl s
  unfold execReservedTypeFlit
  all_goals repeat' first
    | intro _
    | with_reducible apply good_okIf
    | with_reducible apply good_okAon
    | with_reducible apply good_ok
    | with_reducible apply good_ite
    | with_reducible assumption
    | with_reducible apply State.checkFails_keep
    | with_reducible apply keep_ite
    | split
    | dsimp only

theorem State.actReturns_keep {r0 s : State} {a : Nat} (hk : Keep r0 s) :
    Keep r0 (State.actReturns s a) := by
  unfold State.actReturns
  all_goals repeat' first
    | intro _
    | with_reducible assumption
    | with_reducible apply State.takeBack_keep
    | with_reducible apply keep_ite
    | split
    | dsimp only

theorem execTrainT4Pass_good (a : Nat) (s : State) : Good s (execTrainT4Pass a s) := by
  have hk := Keep.refl s
  unfold execTrainT4Pass
  all_goals repeat' first
    | intro _
    | with_reducible apply good_okIf
    | with_reducible apply good_okAon
    | with_reducible apply good_ok
    | with_reducible apply good_ite
    | with_reducible assumption
    | with_reducible apply State.actReturns_keep
    | with_reducible apply State.spinCfg_keep
    | with_reducible apply State.moveLink_keep
    | with_reducible apply State.onLk_keep
    | with_reducible apply State.takeAck_keep
    | with_reducible apply keep_ite
    | split
    | dsimp only

theorem execParkWaitTimeout_good (a : Nat) (s : State) : Good s (execParkWaitTimeout a s) := by
  have hk := Keep.refl s
  unfold execParkWaitTimeout
  all_goals repeat' first
    | intro _
    | with_reducible apply good_okIf
    | with_reducible apply good_okAon
    | with_reducible apply good_ok
    | with_reducible apply good_ite
    | with_reducible assumption
    | with_reducible apply State.finishLeave_keep
    | with_reducible apply keep_ite
    | split
    | dsimp only

theorem State.statusOutCrc_keep {r0 s : State} {a : Nat} {cnt : Nat} (hk : Keep r0 s) :
    Keep r0 (State.statusOutCrc s a cnt) := by
  unfold State.statusOutCrc
  extract_lets x1 x2
  try clear_value x1
  refine Keep.cut (a := Keep r0 x2) ?_ fun kx2 => ?_
  unfold x2
  rotate_left
  clear_value x2
  all_goals repeat' first
    | intro _
    | with_reducible assumption
    | with_reducible apply State.onLk_keep
    | with_reducible apply State.raise_keep
    | with_reducible apply State.bumpN_keep
    | with_reducible apply keep_ite
    | split
    | dsimp only

theorem State.resendOr_keep {r0 s : State} {a : Nat} {ps : List Pkt} (hk : Keep r0 s) :
    Keep r0 (State.resendOr s a ps) := by
  unfold State.resendOr
  all_goals repeat' first
    | intro _
    | with_reducible assumption
    | with_reducible apply State.leaveActive_keep
    | with_reducible apply State.raise_keep
    | with_reducible apply State.resend_keep
    | with_reducible apply keep_ite
    | split
    | dsimp only

theorem State.statusAck_keep {r0 s : State} {a : Nat} {st : Status} (hk : Keep r0 s) :
    Keep r0 (State.statusAck s a st) := by
  unfold State.statusAck
  extract_lets x1
  refine Keep.cut (a := Keep r0 x1) ?_ fun kx1 => ?_
  unfold x1
  rotate_left
  clear_value x1
  all_goals repeat' first
    | intro _
    | with_reducible assumption
    | with_reducible apply State.takeAck_keep
    | with_reducible apply State.resendOr_keep
    | with_reducible apply State.raise_keep
    | with_reducible apply State.bump_keep
    | with_reducible apply keep_ite
    | split
    | dsimp only

theorem State.statusParked_keep {r0 s : State} {a : Nat} {parked : Bool} (hk : Keep r0 s) :
    Keep r0 (State.statusParked s a parked) := by
  unfold State.statusParked
  extract_lets x1 x2 x3
  refine Keep.cut (a := Keep r0 x1) ?_ fun kx1 => ?_
  unfold x1
  rotate_left
  clear_value x1
  refine Keep.cut (a := Keep r0 x2) ?_ fun kx2 => ?_
  unfold x2
  rotate_left
  clear_value x2
  refine Keep.cut (a := Keep r0 x3) ?_ fun kx3 => ?_
  unfold x3
  rotate_left
  clear_value x3
  all_goals repeat' first
    | intro _
    | with_reducible assumption
    | with_reducible apply State.setB_keep
    | with_reducible apply State.onLk_keep
    | with_reducible apply State.stopGoesOn_keep
    | with_reducible apply State.settleUnacked_keep
    | with_reducible apply State.parkedLoop_keep
    | with_reducible apply State.finishLeave_keep
    | with_reducible apply keep_ite
    | split
    | dsimp only

theorem State.statusCurrent_keep {r0 s : State} {a : Nat} {st : Status} {ce : Nat} {ue : Nat} (hk : Keep r0 s) :
    Keep r0 (State.statusCurrent s a st ce ue) := by
  unfold State.statusCurrent
  extract_lets x1
  try clear_value x1
  all_goals repeat' first
    | intro _
    | with_reducible assumption
    | with_reducible apply State.traceCurrent_keep
    | with_reducible apply State.currentTick_keep
    | with_reducible apply keep_ite
    | split
    | dsimp only

theorem State.statusDoze_keep {r0 s : State} {before : List Pkt} {a : Nat} {ev : Nat} (hk : Keep r0 s) :
    Keep r0 (State.statusDoze s before a ev) := by
  unfold State.statusDoze
  extract_lets x1
  try clear_value x1
  all_goals repeat' first
    | intro _
    | with_reducible assumption
    | with_reducible apply State.moveLink_keep
    | with_reducible apply keep_ite
    | split
    | dsimp only

theorem execStatusFlit_good (a : Nat) (st : Status) (ce : Nat) (ue : Nat) (s : State) : Good s (execStatusFlit a st ce ue s) := by
  have hk := Keep.refl s
  unfold execStatusFlit
  extract_lets x1 x2 x3 x4 x5
  try clear_value x1
  try clear_value x3
  refine Keep.cut (a := Keep s x2) ?_ fun kx2 => ?_
  unfold x2
  rotate_left
  clear_value x2
  refine Keep.cut (a := Keep s x4) ?_ fun kx4 => ?_
  unfold x4
  rotate_left
  clear_value x4
  refine Keep.cut (a := Keep s x5) ?_ fun kx5 => ?_
  unfold x5
  rotate_left
  clear_value x5
  all_goals repeat' first
    | intro _
    | with_reducible apply good_okIf
    | with_reducible apply good_okAon
    | with_reducible apply good_ok
    | with_reducible apply good_ite
    | with_reducible assumption
    | with_reducible apply State.statusOutCrc_keep
    | with_reducible apply State.statusAck_keep
    | with_reducible apply State.statusSensor_keep
    | with_reducible apply State.gateEnd_keep
    | with_reducible apply State.statusEvents_keep
    | with_reducible apply State.statusParked_keep
    | with_reducible apply State.statusCurrent_keep
    | with_reducible apply State.dozeWanted_keep
    | with_reducible apply State.statusDoze_keep
    | with_reducible apply keep_ite
    | split
    | dsimp only

theorem execRetractHwRelease_good (acc : Accessor) (c : Nat) (s : State) : Good s (execRetractHwRelease acc c s) := by
  have hk := Keep.refl s
  unfold execRetractHwRelease
  all_goals repeat' first
    | intro _
    | with_reducible apply good_okIf
    | with_reducible apply good_okAon
    | with_reducible apply good_ok
    | with_reducible apply good_ite
    | with_reducible assumption
    | with_reducible apply State.lockedWrite_keep
    | with_reducible apply State.onRetract_keep
    | with_reducible apply keep_ite
    | split
    | dsimp only

theorem execAckTimeout_good (a : Nat) (s : State) : Good s (execAckTimeout a s) := by
  have hk := Keep.refl s
  unfold execAckTimeout
  all_goals repeat' first
    | intro _
    | with_reducible apply good_okIf
    | with_reducible apply good_okAon
    | with_reducible apply good_ok
    | with_reducible apply good_ite
    | with_reducible assumption
    | with_reducible apply State.resendOr_keep
    | with_reducible apply keep_ite
    | split
    | dsimp only

theorem execTimeFlit_good (a : Nat) (n : Lane) (index : Nat) (sseq : Nat) (s : State) : Good s (execTimeFlit a n index sseq s) := by
  have hk := Keep.refl s
  unfold execTimeFlit
  extract_lets x1 x2 x3
  try clear_value x1
  try clear_value x2
  refine Keep.cut (a := Keep s x3) ?_ fun kx3 => ?_
  unfold x3
  rotate_left
  clear_value x3
  all_goals repeat' first
    | intro _
    | with_reducible apply good_okIf
    | with_reducible apply good_okAon
    | with_reducible apply good_ok
    | with_reducible apply good_ite
    | with_reducible assumption
    | with_reducible apply State.sampleGap_keep
    | with_reducible apply State.onLane_keep
    | with_reducible apply keep_ite
    | split
    | dsimp only

theorem execRetractHoldExpiry_good (c : Nat) (s : State) : Good s (execRetractHoldExpiry c s) := by
  have hk := Keep.refl s
  unfold execRetractHoldExpiry
  all_goals repeat' first
    | intro _
    | with_reducible apply good_okIf
    | with_reducible apply good_okAon
    | with_reducible apply good_ok
    | with_reducible apply good_ite
    | with_reducible assumption
    | with_reducible apply State.onRetract_keep
    | with_reducible apply keep_ite
    | split
    | dsimp only

theorem State.keepIdent_keep {r0 s : State} {a : Nat} {i : Ident} (hk : Keep r0 s) :
    Keep r0 (State.keepIdent s a i) := by
  unfold State.keepIdent
  extract_lets x1
  try clear_value x1
  all_goals repeat' first
    | intro _
    | with_reducible assumption
    | with_reducible apply State.onLk_keep
    | with_reducible apply State.set_keep
    | with_reducible apply keep_ite
    | split
    | dsimp only

theorem execIdentReceived_good (a : Nat) (i : Ident) (s : State) : Good s (execIdentReceived a i s) := by
  have hk := Keep.refl s
  unfold execIdentReceived
  extract_lets x1 x2
  try clear_value x2
  refine Keep.cut (a := Keep s x1) ?_ fun kx1 => ?_
  unfold x1
  rotate_left
  clear_value x1
  all_goals repeat' first
    | intro _
    | with_reducible apply good_okIf
    | with_reducible apply good_okAon
    | with_reducible apply good_ok
    | with_reducible apply good_ite
    | with_reducible assumption
    | with_reducible apply State.keepIdent_keep
    | with_reducible apply State.finishLeave_keep
    | with_reducible apply State.raise_keep
    | with_reducible apply State.leaveActive_keep
    | with_reducible apply State.setB_keep
    | with_reducible apply State.set_keep
    | with_reducible apply State.moveLink_keep
    | with_reducible apply keep_ite
    | split
    | dsimp only

theorem execInvalidBlockHeader_good (a : Nat) (n : Lane) (s : State) : Good s (execInvalidBlockHeader a n s) := by
  have hk := Keep.refl s
  unfold execInvalidBlockHeader
  all_goals repeat' first
    | intro _
    | with_reducible apply good_okIf
    | with_reducible apply good_okAon
    | with_reducible apply good_ok
    | with_reducible apply good_ite
    | with_reducible assumption
    | with_reducible apply State.onLane_keep
    | with_reducible apply keep_ite
    | split
    | dsimp only

theorem execLinkRetrain_good (_acc : Accessor) (a : Nat) (s : State) : Good s (execLinkRetrain _acc a s) := by
  have hk := Keep.refl s
  unfold execLinkRetrain
  all_goals repeat' first
    | intro _
    | with_reducible apply good_okIf
    | with_reducible apply good_okAon
    | with_reducible apply good_ok
    | with_reducible apply good_ite
    | with_reducible assumption
    | with_reducible apply State.leaveActive_keep
    | with_reducible apply keep_ite
    | split
    | dsimp only

theorem execUnloadTimeout_good (a : Nat) (s : State) : Good s (execUnloadTimeout a s) := by
  have hk := Keep.refl s
  unfold execUnloadTimeout
  all_goals repeat' first
    | intro _
    | with_reducible apply good_okIf
    | with_reducible apply good_okAon
    | with_reducible apply good_ok
    | with_reducible apply good_ite
    | with_reducible assumption
    | with_reducible apply State.stopGoesOn_keep
    | with_reducible apply State.loseActuator_keep
    | with_reducible apply State.raise_keep
    | with_reducible apply State.toState_keep
    | with_reducible apply keep_ite
    | split
    | dsimp only

theorem execConfigSend_good (a : Nat) (s : State) : Good s (execConfigSend a s) := by
  have hk := Keep.refl s
  unfold execConfigSend
  all_goals repeat' first
    | intro _
    | with_reducible apply good_okIf
    | with_reducible apply good_okAon
    | with_reducible apply good_ok
    | with_reducible apply good_ite
    | with_reducible assumption
    | with_reducible apply State.sendDn_keep
    | with_reducible apply keep_ite
    | split
    | dsimp only

theorem execDozeRequest_good (_acc : Accessor) (a : Nat) (value : Bool) (s : State) : Good s (execDozeRequest _acc a value s) := by
  have hk := Keep.refl s
  unfold execDozeRequest
  extract_lets x1
  refine Keep.cut (a := Keep s x1) ?_ fun kx1 => ?_
  unfold x1
  rotate_left
  clear_value x1
  all_goals repeat' first
    | intro _
    | with_reducible apply good_okIf
    | with_reducible apply good_okAon
    | with_reducible apply good_ok
    | with_reducible apply good_ite
    | with_reducible assumption
    | with_reducible apply State.setB_keep
    | with_reducible apply State.sendCmd_keep
    | with_reducible apply State.startTrain_keep
    | with_reducible apply keep_ite
    | split
    | dsimp only

theorem execBlockLockRegained_good (a : Nat) (n : Lane) (s : State) : Good s (execBlockLockRegained a n s) := by
  have hk := Keep.refl s
  unfold execBlockLockRegained
  all_goals repeat' first
    | intro _
    | with_reducible apply good_okIf
    | with_reducible apply good_okAon
    | with_reducible apply good_ok
    | with_reducible apply good_ite
    | with_reducible assumption
    | with_reducible apply State.onLane_keep
    | with_reducible apply keep_ite
    | split
    | dsimp only

theorem execEqAdapted_good (a : Nat) (s : State) : Good s (execEqAdapted a s) := by
  have hk := Keep.refl s
  unfold execEqAdapted
  all_goals repeat' first
    | intro _
    | with_reducible apply good_okIf
    | with_reducible apply good_okAon
    | with_reducible apply good_ok
    | with_reducible apply good_ite
    | with_reducible assumption
    | with_reducible apply State.sendCmd_keep
    | with_reducible apply State.onLk_keep
    | with_reducible apply State.set_keep
    | with_reducible apply keep_ite
    | split
    | dsimp only

theorem execRetractSwWrite_good (_acc : Accessor) (c : Nat) (value : Bool) (s : State) : Good s (execRetractSwWrite _acc c value s) := by
  have hk := Keep.refl s
  unfold execRetractSwWrite
  extract_lets x1 x2
  try clear_value x1
  refine Keep.cut (a := Keep s x2) ?_ fun kx2 => ?_
  unfold x2
  rotate_left
  clear_value x2
  all_goals repeat' first
    | intro _
    | with_reducible apply good_okIf
    | with_reducible apply good_okAon
    | with_reducible apply good_ok
    | with_reducible apply good_ite
    | with_reducible assumption
    | with_reducible apply State.syncRetract_keep
    | with_reducible apply State.setB_keep
    | with_reducible apply State.set_keep
    | with_reducible apply keep_ite
    | split
    | dsimp only

theorem execTrainPhaseTimeout_good (a : Nat) (s : State) : Good s (execTrainPhaseTimeout a s) := by
  have hk := Keep.refl s
  unfold execTrainPhaseTimeout
  extract_lets x1 x2
  try clear_value x1
  try clear_value x2
  all_goals repeat' first
    | intro _
    | with_reducible apply good_okIf
    | with_reducible apply good_okAon
    | with_reducible apply good_ok
    | with_reducible apply good_ite
    | with_reducible assumption
    | with_reducible apply State.moveLink_keep
    | with_reducible apply State.raise_keep
    | with_reducible apply State.onLk_keep
    | with_reducible apply State.startTrain_keep
    | with_reducible apply keep_ite
    | split
    | dsimp only

theorem State.keepSamples_keep {r0 s : State} {a : Nat} {n : Lane} {start : Nat} {xs : List Int} (hk : Keep r0 s) :
    Keep r0 (State.keepSamples s a n start xs) := by
  unfold State.keepSamples
  all_goals repeat' first
    | intro _
    | with_reducible assumption
    | with_reducible apply State.setRingRec_keep
    | with_reducible apply keep_ite
    | split
    | dsimp only

theorem execSampleFlit_good (a : Nat) (n : Lane) (sseq : Nat) (samples : List Int) (s : State) : Good s (execSampleFlit a n sseq samples s) := by
  have hk := Keep.refl s
  unfold execSampleFlit
  extract_lets x1 x2 x3 x4 x5
  try clear_value x1
  try clear_value x2
  try clear_value x3
  refine Keep.cut (a := Keep s x4) ?_ fun kx4 => ?_
  unfold x4
  rotate_left
  clear_value x4
  refine Keep.cut (a := Keep s x5) ?_ fun kx5 => ?_
  unfold x5
  rotate_left
  clear_value x5
  all_goals repeat' first
    | intro _
    | with_reducible apply good_okIf
    | with_reducible apply good_okAon
    | with_reducible apply good_ok
    | with_reducible apply good_ite
    | with_reducible assumption
    | with_reducible apply State.sampleGap_keep
    | with_reducible apply State.keepSamples_keep
    | with_reducible apply State.onLane_keep
    | with_reducible apply State.set_keep
    | with_reducible apply keep_ite
    | split
    | dsimp only

theorem execCheckFlit_good (a : Nat) (n : Lane) (group : Nat) (crcOk : Bool) (s : State) : Good s (execCheckFlit a n group crcOk s) := by
  have hk := Keep.refl s
  unfold execCheckFlit
  extract_lets x1 x2 x3
  try clear_value x1
  try clear_value x2
  refine Keep.cut (a := Keep s x3) ?_ fun kx3 => ?_
  unfold x3
  rotate_left
  clear_value x3
  all_goals repeat' first
    | intro _
    | with_reducible apply good_okIf
    | with_reducible apply good_okAon
    | with_reducible apply good_ok
    | with_reducible apply good_ite
    | with_reducible assumption
    | with_reducible apply State.onLane_keep
    | with_reducible apply State.checkFails_keep
    | with_reducible apply keep_ite
    | split
    | dsimp only

theorem execWakePatternDetected_good (a : Nat) (s : State) : Good s (execWakePatternDetected a s) := by
  have hk := Keep.refl s
  unfold execWakePatternDetected
  all_goals repeat' first
    | intro _
    | with_reducible apply good_okIf
    | with_reducible apply good_okAon
    | with_reducible apply good_ok
    | with_reducible apply good_ite
    | with_reducible assumption
    | with_reducible apply State.startTrain_keep
    | with_reducible apply State.onLk_keep
    | with_reducible apply State.setB_keep
    | with_reducible apply keep_ite
    | split
    | dsimp only

end Sys2Proof.Machine
end

