-- ==== Sys2Proof/Laws/KeepMapOps.lean ====
section
/-! SUPPORT. What the operations of Machine/MapOps.lean keep. -/

namespace Sys2Proof.Machine

set_option linter.unreachableTactic false
set_option linter.unusedTactic false

theorem State.addLive_keep {r0 s : State} {n : Nat} {d : Int} (hk : Keep r0 s) :
    Keep r0 (State.addLive s n d) := by
  unfold State.addLive
  extract_lets x1
  try clear_value x1
  all_goals repeat' first
    | intro _
    | with_reducible assumption
    | with_reducible apply State.setCourse_keep
    | with_reducible apply keep_ite
    | split
    | dsimp only

theorem State.cutExtent_keep {r0 s : State} {ix : Nat} {i : Nat} {n : Nat} (hk : Keep r0 s) :
    Keep r0 (State.cutExtent s ix i n) := by
  unfold State.cutExtent
  extract_lets x1 x2 x3 x4 x5 x6 x7
  try clear_value x2
  try clear_value x3
  try clear_value x5
  try clear_value x7
  refine Keep.cut (a := Keep r0 x1) ?_ fun kx1 => ?_
  unfold x1
  rotate_left
  clear_value x1
  refine Keep.cut (a := Keep r0 x4) ?_ fun kx4 => ?_
  unfold x4
  rotate_left
  clear_value x4
  refine Keep.cut (a := Keep r0 x6) ?_ fun kx6 => ?_
  unfold x6
  rotate_left
  clear_value x6
  all_goals repeat' first
    | intro _
    | with_reducible assumption
    | with_reducible apply State.dropReplica_keep
    | with_reducible apply State.addLive_keep
    | with_reducible apply State.setExtent_keep
    | with_reducible apply keep_ite
    | split
    | dsimp only

theorem State.unmap_keep {r0 s : State} {nsid : Nat} {obj : Nat} {lba : Nat} (hk : Keep r0 s) :
    Keep r0 (State.unmap s nsid obj lba) := by
  unfold State.unmap
  all_goals repeat' first
    | intro _
    | with_reducible assumption
    | with_reducible apply State.cutExtent_keep
    | with_reducible apply keep_ite
    | split
    | dsimp only

theorem State.mapBrick_keep {r0 s : State} {b : HostBrick} {pinned : Bool} (hk : Keep r0 s) :
    Keep r0 (State.mapBrick s b pinned) := by
  unfold State.mapBrick
  extract_lets x1 x2
  try clear_value x2
  refine Keep.cut (a := Keep r0 x1) ?_ fun kx1 => ?_
  unfold x1
  rotate_left
  clear_value x1
  all_goals repeat' first
    | intro _
    | with_reducible assumption
    | with_reducible apply State.addLive_keep
    | with_reducible apply State.unmap_keep
    | with_reducible apply State.setExtent_keep
    | with_reducible apply keep_ite
    | split
    | dsimp only

theorem State.beginMove_keep {r0 s : State} {ix : Nat} (hk : Keep r0 s) :
    Keep r0 (State.beginMove s ix) := by
  unfold State.beginMove
  extract_lets x1 x2
  try clear_value x1
  try clear_value x2
  all_goals repeat' first
    | intro _
    | with_reducible assumption
    | with_reducible apply State.onMason_keep
    | with_reducible apply State.setExtent_keep
    | with_reducible apply keep_ite
    | split
    | dsimp only

theorem State.retireCourse_keep {r0 s : State} {n : Nat} (hk : Keep r0 s) :
    Keep r0 (State.retireCourse s n) := by
  unfold State.retireCourse
  extract_lets x1 x2 x3
  try clear_value x2
  refine Keep.cut (a := Keep r0 x1) ?_ fun kx1 => ?_
  unfold x1
  rotate_left
  clear_value x1
  refine Keep.cut (a := Keep r0 x3) ?_ fun kx3 => ?_
  unfold x3
  rotate_left
  clear_value x3
  all_goals repeat' first
    | intro _
    | with_reducible assumption
    | with_reducible apply State.closeCourse_keep
    | with_reducible apply State.setCourse_keep
    | with_reducible apply State.beginMove_keep
    | with_reducible apply keep_ite
    | with_reducible apply keep_foldl
    | split
    | dsimp only

theorem State.unmapRange_keep {r0 s : State} {nsid : Nat} {first : Nat} {count : Nat} (hk : Keep r0 s) :
    Keep r0 (State.unmapRange s nsid first count) := by
  unfold State.unmapRange
  all_goals repeat' first
    | intro _
    | with_reducible assumption
    | with_reducible apply State.cutExtent_keep
    | with_reducible apply keep_ite
    | with_reducible apply keep_foldl
    | split
    | dsimp only

theorem State.endMove_keep {r0 s : State} {ix : Nat} (hk : Keep r0 s) :
    Keep r0 (State.endMove s ix) := by
  unfold State.endMove
  all_goals repeat' first
    | intro _
    | with_reducible assumption
    | with_reducible apply State.onMason_keep
    | with_reducible apply keep_ite
    | split
    | dsimp only

theorem State.rebuildCheck_keep {r0 s : State} {n : Nat} (hk : Keep r0 s) :
    Keep r0 (State.rebuildCheck s n) := by
  unfold State.rebuildCheck
  extract_lets x1 x2
  try clear_value x1
  refine Keep.cut (a := Keep r0 x2) ?_ fun kx2 => ?_
  unfold x2
  rotate_left
  clear_value x2
  all_goals repeat' first
    | intro _
    | with_reducible assumption
    | with_reducible apply State.raise_keep
    | with_reducible apply State.onMason_keep
    | with_reducible apply State.tryExclude_keep
    | with_reducible apply State.toSlot_keep
    | with_reducible apply State.renewTiles_keep
    | with_reducible apply keep_ite
    | split
    | dsimp only

theorem State.reserveTile_keep {r0 s : State} {x : Cand} {course : Nat} {pos : Nat} (hk : Keep r0 s) :
    Keep r0 (State.reserveTile s x course pos) := by
  unfold State.reserveTile
  extract_lets x1
  try clear_value x1
  all_goals repeat' first
    | intro _
    | with_reducible assumption
    | with_reducible apply State.setTile_keep
    | with_reducible apply keep_ite
    | split
    | dsimp only

end Sys2Proof.Machine
end

