-- ==== Sys2Proof/Laws/KeepMason.lean ====
section
/-! SUPPORT. What the operations of Machine/Mason.lean keep. -/

namespace Sys2Proof.Machine

set_option linter.unreachableTactic false
set_option linter.unusedTactic false

theorem shedReplicas_keep {r0 s : State} {p n : Nat} (hk : Keep r0 s) : Keep r0 (shedReplicas p n s) := by
  induction n generalizing s with
  | zero => exact hk
  | succ n ih =>
    unfold shedReplicas
    dsimp only
    repeat' first
      | intro _
      | with_reducible apply ih
      | with_reducible assumption
      | with_reducible apply State.dropReplica_keep
      | with_reducible apply keep_ite
      | split
      | dsimp only

theorem execHeatSweep_good (s : State) : Good s (execHeatSweep s) := by
  have hk := Keep.refl s
  have hf : ∀ (l : List Nat) (t : State) (f : State → Nat → State), Keep s t → (∀ u n, Keep s u → Keep s (f u n)) →
      Keep s (l.foldl f t) := fun l t f h h' => keep_foldl l f h h'
  unfold execHeatSweep
  dsimp only
  refine good_okIf _ hk (keep_foldl _ _ (keep_foldl _ _ (hf _ _ _ hk fun u n hu => ?_) fun u n hu => shedReplicas_keep hu) fun u n hu => ?_)
  · exact State.onMason_keep (State.putExtent_keep (State.onMason_keep (keep_ite (State.dropReplica_keep hu)
      (keep_ite (State.beginMove_keep hu) hu))))
  · exact State.freeCourse_keep (keep_foldl _ _ hu fun u n hu => State.dropReplica_keep hu)

theorem execSlotCancel_good (n : Nat) (s : State) : Good s (execSlotCancel n s) := by
  have hk := Keep.refl s
  unfold execSlotCancel
  all_goals repeat' first
    | intro _
    | with_reducible apply good_okIf
    | with_reducible apply good_okAon
    | with_reducible apply good_ok
    | with_reducible apply good_ite
    | with_reducible assumption
    | with_reducible apply State.tryExclude_keep
    | with_reducible apply State.toSlot_keep
    | with_reducible apply State.renewTiles_keep
    | with_reducible apply keep_ite
    | split
    | dsimp only

theorem execRowComplete_good (course : Nat) (row : Nat) (s : State) : Good s (execRowComplete course row s) := by
  have hk := Keep.refl s
  unfold execRowComplete
  extract_lets x1 x2
  try clear_value x1
  refine Keep.cut (a := Keep s x2) ?_ fun kx2 => ?_
  unfold x2
  rotate_left
  clear_value x2
  all_goals repeat' first
    | intro _
    | with_reducible apply good_okIf
    | with_reducible apply good_okAon
    | with_reducible apply good_ok
    | with_reducible apply good_ite
    | with_reducible assumption
    | with_reducible apply State.setCourse_keep
    | with_reducible apply State.journal_keep
    | with_reducible apply State.onMason_keep
    | with_reducible apply State.mapBrick_keep
    | with_reducible apply State.unrecCut_keep
    | with_reducible apply State.settle_keep
    | with_reducible apply State.closeCourse_keep
    | with_reducible apply keep_ite
    | with_reducible apply keep_foldl
    | split
    | dsimp only

theorem execTableSegmentRebuild_good (table : Nat) (idx : Nat) (s : State) : Good s (execTableSegmentRebuild table idx s) := by
  have hk := Keep.refl s
  unfold execTableSegmentRebuild
  extract_lets x1
  try clear_value x1
  all_goals repeat' first
    | intro _
    | with_reducible apply good_okIf
    | with_reducible apply good_okAon
    | with_reducible apply good_ok
    | with_reducible apply good_ite
    | with_reducible assumption
    | with_reducible apply State.raise_keep
    | with_reducible apply State.onBuf_keep
    | with_reducible apply State.onMason_keep
    | with_reducible apply keep_ite
    | exact fun _ hb => hb
    | split
    | dsimp only

theorem execCheckpointEnd_good (bootSlots : Nat) (s : State) : Good s (execCheckpointEnd bootSlots s) := by
  have hk := Keep.refl s
  unfold execCheckpointEnd
  all_goals repeat' first
    | intro _
    | with_reducible apply good_okIf
    | with_reducible apply good_okAon
    | with_reducible apply good_ok
    | with_reducible apply good_ite
    | with_reducible assumption
    | with_reducible apply State.journal_keep
    | with_reducible apply State.onNor_keep
    | with_reducible apply State.onMason_keep
    | with_reducible apply State.raise_keep
    | with_reducible apply State.set_keep
    | with_reducible apply keep_ite
    | split
    | dsimp only

theorem execSeekTableAccess_good (acc : Accessor) (write : Bool) (value : Nat) (s : State) : Good s (execSeekTableAccess acc write value s) := by
  have hk := Keep.refl s
  unfold execSeekTableAccess
  extract_lets x1 x2
  try clear_value x1
  refine Keep.cut (a := Keep s x2) ?_ fun kx2 => ?_
  unfold x2
  rotate_left
  clear_value x2
  all_goals repeat' first
    | intro _
    | with_reducible apply good_okIf
    | with_reducible apply good_okAon
    | with_reducible apply good_ok
    | with_reducible apply good_ite
    | with_reducible assumption
    | with_reducible apply State.set_keep
    | with_reducible apply State.onMason_keep
    | with_reducible apply keep_onIo
    | with_reducible apply keep_ite
    | with_reducible apply ioKeep_ite
    | split
    | with_reducible apply IoKeep.mk'
    | dsimp only

theorem rebuildOne_keep {r0 s : State} {repl : List (Nat × Nat × Cand)} {n : Nat} (hk : Keep r0 s) :
    Keep r0 (rebuildOne repl s n) := by
  unfold rebuildOne
  extract_lets x1 x2
  try clear_value x1
  try clear_value x2
  all_goals repeat' first
    | intro _
    | with_reducible assumption
    | with_reducible apply State.freeCourse_keep
    | with_reducible apply State.retireCourse_keep
    | with_reducible apply State.setCourse_keep
    | with_reducible apply State.reserveTile_keep
    | with_reducible apply State.raise_keep
    | with_reducible apply keep_ite
    | with_reducible apply keep_foldl
    | split
    | dsimp only

theorem execRebuildStart_good (n : Nat) (repl : List (Nat × Nat × Cand)) (s : State) : Good s (execRebuildStart n repl s) := by
  have hk := Keep.refl s
  unfold execRebuildStart
  extract_lets x1 x2 x3
  try clear_value x1
  try clear_value x2
  refine Keep.cut (a := Keep s x3) ?_ fun kx3 => ?_
  unfold x3
  rotate_left
  clear_value x3
  all_goals repeat' first
    | intro _
    | with_reducible apply good_okIf
    | with_reducible apply good_okAon
    | with_reducible apply good_ok
    | with_reducible apply good_ite
    | with_reducible assumption
    | with_reducible apply State.onMason_keep
    | with_reducible apply State.rebuildCheck_keep
    | with_reducible apply rebuildOne_keep
    | with_reducible apply keep_ite
    | with_reducible apply keep_foldl
    | split
    | dsimp only

theorem execCheckpointStart_good  (s : State) : Good s (execCheckpointStart s) := by
  have hk := Keep.refl s
  unfold execCheckpointStart
  extract_lets x1
  try clear_value x1
  all_goals repeat' first
    | intro _
    | with_reducible apply good_okIf
    | with_reducible apply good_okAon
    | with_reducible apply good_ok
    | with_reducible apply good_ite
    | with_reducible assumption
    | with_reducible apply State.onMason_keep
    | with_reducible apply State.journal_keep
    | with_reducible apply keep_ite
    | split
    | dsimp only

theorem State.drainSlot_keep {r0 s : State} {n : Nat} (hk : Keep r0 s) :
    Keep r0 (State.drainSlot s n) := by
  unfold State.drainSlot
  all_goals repeat' first
    | intro _
    | with_reducible assumption
    | with_reducible apply State.toSlot_keep
    | with_reducible apply State.tryExclude_keep
    | with_reducible apply State.raise_keep
    | with_reducible apply keep_ite
    | split
    | dsimp only

theorem execReconstructionRead_good (ix : Nat) (i : Nat) (got : List (Nat × Brick)) (waits : Bool) (sramUe : Bool) (s : State) : Good s (execReconstructionRead ix i got waits sramUe s) := by
  have hk := Keep.refl s
  unfold execReconstructionRead
  extract_lets x1 x2 x3 x4 x5 x6 x7
  try clear_value x1
  try clear_value x2
  try clear_value x3
  try clear_value x4
  try clear_value x5
  try clear_value x6
  refine Keep.cut (a := Keep s x7) ?_ fun kx7 => ?_
  unfold x7
  rotate_left
  clear_value x7
  all_goals repeat' first
    | intro _
    | with_reducible apply good_okIf
    | with_reducible apply good_okAon
    | with_reducible apply good_ok
    | with_reducible apply good_ite
    | with_reducible assumption
    | with_reducible apply State.brickLost_keep
    | with_reducible apply State.raise_keep
    | with_reducible apply State.onMason_keep
    | with_reducible apply State.addTo_keep
    | with_reducible apply State.decrypt_keep
    | refine Keep.snd (by with_reducible assumption) ?_
    | with_reducible apply keep_ite
    | split
    | with_reducible apply Keep.mk'
    | dsimp only

theorem compactStop_keep {r0 s : State} {p : Nat} (hk : Keep r0 s) :
    Keep r0 (compactStop s p) := by
  unfold compactStop
  all_goals repeat' first
    | intro _
    | with_reducible assumption
    | with_reducible apply State.onMason_keep
    | with_reducible apply keep_ite
    | split
    | dsimp only

theorem execCourseClose_good (course : Nat) (s : State) : Good s (execCourseClose course s) := by
  have hk := Keep.refl s
  unfold execCourseClose
  all_goals repeat' first
    | intro _
    | with_reducible apply good_okIf
    | with_reducible apply good_okAon
    | with_reducible apply good_ok
    | with_reducible apply good_ite
    | with_reducible assumption
    | with_reducible apply State.closeCourse_keep
    | with_reducible apply keep_ite
    | split
    | dsimp only

theorem execExtentMoveCommit_good (ix : Nat) (course : Nat) (start : Nat) (s : State) : Good s (execExtentMoveCommit ix course start s) := by
  have hk := Keep.refl s
  unfold execExtentMoveCommit
  extract_lets x1 x2 x3 x4 x5 x6 x7 x8 x9 x10 x11 x12
  try clear_value x1
  try clear_value x2
  try clear_value x3
  try clear_value x4
  try clear_value x5
  try clear_value x6
  try clear_value x7
  try clear_value x8
  refine Keep.cut (a := Keep s x9) ?_ fun kx9 => ?_
  unfold x9
  rotate_left
  clear_value x9
  refine Keep.cut (a := Keep s x10) ?_ fun kx10 => ?_
  unfold x10
  rotate_left
  clear_value x10
  refine Keep.cut (a := Keep s x11) ?_ fun kx11 => ?_
  unfold x11
  rotate_left
  clear_value x11
  refine Keep.cut (a := Keep s x12) ?_ fun kx12 => ?_
  unfold x12
  rotate_left
  clear_value x12
  all_goals repeat' first
    | intro _
    | with_reducible apply good_okIf
    | with_reducible apply good_okAon
    | with_reducible apply good_ok
    | with_reducible apply good_ite
    | with_reducible assumption
    | with_reducible apply State.endMove_keep
    | with_reducible apply State.setExtent_keep
    | with_reducible apply State.beginMove_keep
    | with_reducible apply State.addTo_keep
    | with_reducible apply State.addLive_keep
    | with_reducible apply State.freeCourse_keep
    | with_reducible apply compactStop_keep
    | with_reducible apply keep_ite
    | split
    | dsimp only

theorem execReconstructionWaitEnd_good (ix : Nat) (i : Nat) (s : State) : Good s (execReconstructionWaitEnd ix i s) := by
  have hk := Keep.refl s
  unfold execReconstructionWaitEnd
  all_goals repeat' first
    | intro _
    | with_reducible apply good_okIf
    | with_reducible apply good_okAon
    | with_reducible apply good_ok
    | with_reducible apply good_ite
    | with_reducible assumption
    | with_reducible apply State.onMason_keep
    | with_reducible apply keep_ite
    | split
    | dsimp only

theorem execRebuildMemberSwitch_good (course : Nat) (member : Nat) (s : State) : Good s (execRebuildMemberSwitch course member s) := by
  have hk := Keep.refl s
  unfold execRebuildMemberSwitch
  extract_lets x1 x2 x3
  try clear_value x1
  try clear_value x2
  try clear_value x3
  all_goals repeat' first
    | intro _
    | with_reducible apply good_okIf
    | with_reducible apply good_okAon
    | with_reducible apply good_ok
    | with_reducible apply good_ite
    | with_reducible assumption
    | with_reducible apply State.setTile_keep
    | with_reducible apply State.showPool_keep
    | with_reducible apply State.addTo_keep
    | with_reducible apply State.setCourse_keep
    | with_reducible apply State.rebuildCheck_keep
    | with_reducible apply keep_ite
    | split
    | dsimp only

theorem execCourseOpen_good (p : Nat) (kind : Nat) (kdom : Nat) (number : Nat) (stNs : Nat) (stId : Nat) (cands : List Cand) (background : Bool) (s : State) : Good s (execCourseOpen p kind kdom number stNs stId cands background s) := by
  have hk := Keep.refl s
  unfold execCourseOpen
  extract_lets x1 x2 x3 x4
  try clear_value x1
  try clear_value x2
  try clear_value x3
  try clear_value x4
  all_goals repeat' first
    | intro _
    | with_reducible apply good_okIf
    | with_reducible apply good_okAon
    | with_reducible apply good_ok
    | with_reducible apply good_ite
    | with_reducible assumption
    | with_reducible apply State.raise_keep
    | with_reducible apply State.reserveTile_keep
    | with_reducible apply State.showPool_keep
    | with_reducible apply State.setCourse_keep
    | with_reducible apply keep_ite
    | with_reducible apply keep_foldl
    | split
    | dsimp only

theorem execSlotDrain_good (n : Nat) (s : State) : Good s (execSlotDrain n s) := by
  have hk := Keep.refl s
  unfold execSlotDrain
  all_goals repeat' first
    | intro _
    | with_reducible apply good_okIf
    | with_reducible apply good_okAon
    | with_reducible apply good_ok
    | with_reducible apply good_ite
    | with_reducible assumption
    | with_reducible apply State.drainSlot_keep
    | with_reducible apply keep_ite
    | split
    | dsimp only

theorem execBrickDecision_good (ix : Nat) (i : Nat) (kind : Nat) (urgentBg : Bool) (rebuildOk : Bool) (tRr : Nat) (tRb : Nat) (s : State) : Good s (execBrickDecision ix i kind urgentBg rebuildOk tRr tRb s) := by
  have hk := Keep.refl s
  unfold execBrickDecision
  extract_lets x1 x2 x3 x4 x5 x6 x7 x8 x9 x10 x11 x12 x13 x14 x15 x16 x17
  try clear_value x1
  try clear_value x2
  try clear_value x3
  try clear_value x4
  try clear_value x5
  try clear_value x6
  try clear_value x7
  try clear_value x8
  try clear_value x9
  try clear_value x11
  try clear_value x13
  try clear_value x14
  try clear_value x16
  refine Keep.cut (a := ∀ u0, Keep s u0 → Keep s (x10 u0)) ?_ fun kx10 => ?_
  unfold x10
  rotate_left
  clear_value x10
  refine Keep.cut (a := ∀ u0, Keep s u0 → Keep s (x12 u0)) ?_ fun kx12 => ?_
  unfold x12
  rotate_left
  clear_value x12
  refine Keep.cut (a := Keep s x15) ?_ fun kx15 => ?_
  unfold x15
  rotate_left
  clear_value x15
  refine Keep.cut (a := Keep s x17) ?_ fun kx17 => ?_
  unfold x17
  rotate_left
  clear_value x17
  all_goals repeat' first
    | intro _
    | with_reducible apply good_okIf
    | with_reducible apply kx10
    | with_reducible apply kx12
    | with_reducible apply good_okAon
    | with_reducible apply good_ok
    | with_reducible apply good_ite
    | with_reducible assumption
    | with_reducible apply State.bump_keep
    | with_reducible apply State.onMason_keep
    | with_reducible apply State.releaseKept_keep
    | with_reducible apply State.loseHead_keep
    | with_reducible apply State.brickLost_keep
    | with_reducible apply keep_ite
    | split
    | dsimp only

theorem execReplicaCommit_good (ix : Nat) (course : Nat) (row : Nat) (s : State) : Good s (execReplicaCommit ix course row s) := by
  have hk := Keep.refl s
  unfold execReplicaCommit
  extract_lets x1 x2
  try clear_value x1
  try clear_value x2
  all_goals repeat' first
    | intro _
    | with_reducible apply good_okIf
    | with_reducible apply good_okAon
    | with_reducible apply good_ok
    | with_reducible apply good_ite
    | with_reducible assumption
    | with_reducible apply State.bump_keep
    | with_reducible apply State.addLive_keep
    | with_reducible apply State.endMove_keep
    | with_reducible apply State.setExtent_keep
    | with_reducible apply keep_ite
    | split
    | dsimp only

theorem execCompactionStart_good (p : Nat) (s : State) : Good s (execCompactionStart p s) := by
  have hk := Keep.refl s
  unfold execCompactionStart
  extract_lets x1 x2 x3 x4 x5 x6
  try clear_value x1
  try clear_value x2
  try clear_value x3
  refine Keep.cut (a := Keep s x4) ?_ fun kx4 => ?_
  unfold x4
  rotate_left
  clear_value x4
  refine Keep.cut (a := Keep s x5) ?_ fun kx5 => ?_
  unfold x5
  rotate_left
  clear_value x5
  refine Keep.cut (a := Keep s x6) ?_ fun kx6 => ?_
  unfold x6
  rotate_left
  clear_value x6
  all_goals repeat' first
    | intro _
    | with_reducible apply good_okIf
    | with_reducible apply good_okAon
    | with_reducible apply good_ok
    | with_reducible apply good_ite
    | with_reducible assumption
    | with_reducible apply State.raise_keep
    | with_reducible apply State.onMason_keep
    | with_reducible apply State.freeCourse_keep
    | with_reducible apply State.retireCourse_keep
    | with_reducible apply keep_ite
    | split
    | dsimp only

theorem execRekeyStart_good (d : Nat) (w0 : Bool) (w1 : Bool) (s : State) : Good s (execRekeyStart d w0 w1 s) := by
  have hk := Keep.refl s
  unfold execRekeyStart
  extract_lets x1
  try clear_value x1
  all_goals repeat' first
    | intro _
    | with_reducible apply good_okIf
    | with_reducible apply good_okAon
    | with_reducible apply good_ok
    | with_reducible apply good_ite
    | with_reducible assumption
    | with_reducible apply State.makeKeys_keep
    | with_reducible apply State.onSec_keep
    | with_reducible apply State.set_keep
    | with_reducible apply State.onMason_keep
    | with_reducible apply State.rekeyCheck_keep
    | with_reducible apply State.freeCourse_keep
    | with_reducible apply State.retireCourse_keep
    | refine Keep.snd (by with_reducible assumption) ?_
    | with_reducible apply keep_ite
    | with_reducible apply keep_foldl
    | with_reducible apply keep_foldl_snd
    | with_reducible apply ioKeep_foldl
    | split
    | with_reducible apply Keep.mk'
    | dsimp only

theorem execJournalPagePersist_good (jseq : Nat) (s : State) : Good s (execJournalPagePersist jseq s) := by
  have hk := Keep.refl s
  unfold execJournalPagePersist
  extract_lets x1
  try clear_value x1
  all_goals repeat' first
    | intro _
    | with_reducible apply good_okIf
    | with_reducible apply good_okAon
    | with_reducible apply good_ok
    | with_reducible apply good_ite
    | with_reducible assumption
    | with_reducible apply State.settle_keep
    | with_reducible apply State.set_keep
    | with_reducible apply keep_ite
    | split
    | dsimp only

theorem execPoolSlotsWrite_good (acc : Accessor) (p : Nat) (slots : Nat) (s : State) : Good s (execPoolSlotsWrite acc p slots s) := by
  have hk := Keep.refl s
  unfold execPoolSlotsWrite
  extract_lets x1 x2 x3 x4 x5 x6
  try clear_value x1
  try clear_value x2
  try clear_value x3
  try clear_value x4
  refine Keep.cut (a := Keep s x5) ?_ fun kx5 => ?_
  unfold x5
  rotate_left
  clear_value x5
  refine Keep.cut (a := Keep s x6) ?_ fun kx6 => ?_
  unfold x6
  rotate_left
  clear_value x6
  all_goals repeat' first
    | intro _
    | with_reducible apply good_okIf
    | with_reducible apply good_okAon
    | with_reducible apply good_ok
    | with_reducible apply good_ite
    | with_reducible assumption
    | with_reducible apply State.rwl_keep
    | with_reducible apply State.setB_keep
    | with_reducible apply State.set_keep
    | with_reducible apply State.showPool_keep
    | with_reducible apply keep_ite
    | with_reducible apply keep_foldl
    | split
    | dsimp only

theorem execDrainMemberSwitch_good (course : Nat) (member : Nat) (x : Cand) (s : State) : Good s (execDrainMemberSwitch course member x s) := by
  have hk := Keep.refl s
  unfold execDrainMemberSwitch
  extract_lets x1 x2 x3 x4 x5 x6 x7 x8 x9 x10
  try clear_value x1
  try clear_value x2
  try clear_value x3
  try clear_value x4
  try clear_value x5
  try clear_value x6
  try clear_value x9
  refine Keep.cut (a := Keep s x7) ?_ fun kx7 => ?_
  unfold x7
  rotate_left
  clear_value x7
  refine Keep.cut (a := Keep s x8) ?_ fun kx8 => ?_
  unfold x8
  rotate_left
  clear_value x8
  refine Keep.cut (a := Keep s x10) ?_ fun kx10 => ?_
  unfold x10
  rotate_left
  clear_value x10
  all_goals repeat' first
    | intro _
    | with_reducible apply good_okIf
    | with_reducible apply good_okAon
    | with_reducible apply good_ok
    | with_reducible apply good_ite
    | with_reducible assumption
    | with_reducible apply State.setTile_keep
    | with_reducible apply State.reserveTile_keep
    | with_reducible apply State.addTo_keep
    | with_reducible apply State.setCourse_keep
    | with_reducible apply State.resetTile_keep
    | with_reducible apply State.tryExclude_keep
    | with_reducible apply State.raise_keep
    | with_reducible apply State.toSlot_keep
    | with_reducible apply keep_ite
    | split
    | dsimp only

theorem execSlotExclude_good (acc : Accessor) (n : Nat) (value : Bool) (s : State) : Good s (execSlotExclude acc n value s) := by
  have hk := Keep.refl s
  unfold execSlotExclude
  extract_lets x1
  refine Keep.cut (a := Keep s x1) ?_ fun kx1 => ?_
  unfold x1
  rotate_left
  clear_value x1
  all_goals repeat' first
    | intro _
    | with_reducible apply good_okIf
    | with_reducible apply good_okAon
    | with_reducible apply good_ok
    | with_reducible apply good_ite
    | with_reducible assumption
    | with_reducible apply State.rwl_keep
    | with_reducible apply State.setB_keep
    | with_reducible apply State.tryExclude_keep
    | with_reducible apply State.toSlot_keep
    | with_reducible apply keep_ite
    | split
    | dsimp only

theorem execMortarRowEncode_good (course : Nat) (fill : Bool) (sramUe : Bool) (s : State) : Good s (execMortarRowEncode course fill sramUe s) := by
  have hk := Keep.refl s
  unfold execMortarRowEncode
  extract_lets x1 x2 x3 x4 x5
  try clear_value x1
  try clear_value x2
  try clear_value x3
  try clear_value x4
  try clear_value x5
  all_goals repeat' first
    | intro _
    | with_reducible apply good_okIf
    | with_reducible apply good_okAon
    | with_reducible apply good_ok
    | with_reducible apply good_ite
    | with_reducible assumption
    | with_reducible apply State.raise_keep
    | with_reducible apply State.bump_keep
    | with_reducible apply State.addTo_keep
    | with_reducible apply State.putCourse_keep
    | with_reducible apply State.onMason_keep
    | with_reducible apply keep_ite
    | with_reducible apply keep_foldl
    | split
    | dsimp only

end Sys2Proof.Machine
end

