-- ==== Sys2Proof/Laws/KeepNvmeOps.lean ====
section
/-! SUPPORT. What the operations of Machine/NvmeOps.lean keep. -/

namespace Sys2Proof.Machine

set_option linter.unreachableTactic false
set_option linter.unusedTactic false

theorem State.onNvme_keep {r0 s : State} {f : NvmeSt → NvmeSt} (hk : Keep r0 s) :
    Keep r0 (State.onNvme s f) := by
  unfold State.onNvme
  all_goals repeat' first
    | intro _
    | with_reducible assumption
    | with_reducible apply keep_ite
    | split
    | with_reducible apply Keep.mk'
    | dsimp only

theorem State.setNs_keep {r0 s : State} {n : Nat} {x : Ns} (hk : Keep r0 s) :
    Keep r0 (State.setNs s n x) := by
  unfold State.setNs
  all_goals repeat' first
    | intro _
    | with_reducible assumption
    | with_reducible apply State.onNvme_keep
    | with_reducible apply keep_ite
    | split
    | dsimp only

theorem State.putObj_keep {r0 s : State} {nsid : Nat} {o : KvObj} (hk : Keep r0 s) :
    Keep r0 (State.putObj s nsid o) := by
  unfold State.putObj
  extract_lets x1
  try clear_value x1
  all_goals repeat' first
    | intro _
    | with_reducible assumption
    | with_reducible apply State.setNs_keep
    | with_reducible apply keep_ite
    | split
    | dsimp only

theorem State.showFetched_keep {r0 s : State} {f : Flight} {new : Option KvObj} (hk : Keep r0 s) :
    Keep r0 (State.showFetched s f new) := by
  unfold State.showFetched
  all_goals repeat' first
    | intro _
    | with_reducible assumption
    | with_reducible apply State.putObj_keep
    | with_reducible apply keep_ite
    | split
    | dsimp only

theorem State.allToPallets_keep {r0 s : State} {nsid : Nat} {obj : Nat} {lba : Nat} {ds : List Nat} {order : Nat} {lastLen : Nat} (hk : Keep r0 s) :
    Keep r0 (State.allToPallets s nsid obj lba ds order lastLen) := by
  unfold State.allToPallets
  all_goals repeat' first
    | intro _
    | with_reducible assumption
    | with_reducible apply State.toPallets_keep
    | with_reducible apply keep_ite
    | with_reducible apply keep_foldl
    | split
    | dsimp only

theorem State.evictSubs_keep {r0 s : State} {nsid : Nat} {obj : Nat} {lba : Nat} {n : Nat} (hk : Keep r0 s) :
    Keep r0 (State.evictSubs s nsid obj lba n) := by
  unfold State.evictSubs
  all_goals repeat' first
    | intro _
    | with_reducible assumption
    | with_reducible apply State.destageSub_keep
    | with_reducible apply State.dropSub_keep
    | with_reducible apply keep_ite
    | with_reducible apply keep_foldl
    | split
    | dsimp only

theorem State.dirtyNs_keep {r0 s : State} {nsid : Nat} (hk : Keep r0 s) :
    Keep r0 (State.dirtyNs s nsid) := by
  unfold State.dirtyNs
  all_goals repeat' first
    | intro _
    | with_reducible assumption
    | with_reducible apply State.onNor_keep
    | with_reducible apply keep_ite
    | split
    | dsimp only

theorem State.fetchedPart_keep {r0 s : State} {g : Flight} (hk : Keep r0 s) :
    Keep r0 (State.fetchedPart s g).1 := by
  unfold State.fetchedPart
  extract_lets x1 x2
  try clear_value x1
  try clear_value x2
  all_goals repeat' first
    | intro _
    | with_reducible assumption
    | with_reducible apply State.allToPallets_keep
    | with_reducible apply State.evictSubs_keep
    | with_reducible apply State.dirtyNs_keep
    | with_reducible apply keep_ite
    | split
    | dsimp only

theorem State.fetchedParts_keep {r0 s : State} {f : Flight} (hk : Keep r0 s) : Keep r0 (State.fetchedParts s f).1 := by
  unfold State.fetchedParts
  exact keep_foldl_fst _ _ _ hk fun _ _ hq => State.fetchedPart_keep hq

theorem State.applyFetched_keep {r0 s : State} {f : Flight} (hk : Keep r0 s) :
    Keep r0 (State.applyFetched s f) := by
  unfold State.applyFetched
  all_goals repeat' first
    | intro _
    | with_reducible assumption
    | with_reducible apply State.showFetched_keep
    | with_reducible apply State.fetchedParts_keep
    | refine Keep.fst (by with_reducible assumption) ?_
    | with_reducible apply keep_ite
    | split
    | dsimp only

theorem State.unmapObj_keep {r0 s : State} {nsid : Nat} {obj : Nat} (hk : Keep r0 s) :
    Keep r0 (State.unmapObj s nsid obj) := by
  unfold State.unmapObj
  all_goals repeat' first
    | intro _
    | with_reducible assumption
    | with_reducible apply State.cutExtent_keep
    | with_reducible apply keep_ite
    | with_reducible apply keep_foldl
    | split
    | dsimp only

theorem State.dropObj_keep {r0 s : State} {nsid : Nat} {obj : Nat} (hk : Keep r0 s) :
    Keep r0 (State.dropObj s nsid obj) := by
  unfold State.dropObj
  all_goals repeat' first
    | intro _
    | with_reducible assumption
    | with_reducible apply State.unmapObj_keep
    | with_reducible apply State.onMason_keep
    | with_reducible apply State.onBuf_keep
    | with_reducible apply keep_ite
    | exact fun _ hb => hb
    | split
    | dsimp only

theorem State.endStore_keep {r0 s : State} {f : Flight} (hk : Keep r0 s) :
    Keep r0 (State.endStore s f) := by
  unfold State.endStore
  extract_lets x1 x2
  try clear_value x1
  try clear_value x2
  all_goals repeat' first
    | intro _
    | with_reducible assumption
    | with_reducible apply State.dropObj_keep
    | with_reducible apply keep_ite
    | with_reducible apply keep_foldl
    | split
    | dsimp only

theorem State.showWaiting_keep {r0 s : State}  (hk : Keep r0 s) :
    Keep r0 (State.showWaiting s) := by
  unfold State.showWaiting
  all_goals repeat' first
    | intro _
    | with_reducible assumption
    | with_reducible apply State.setB_keep
    | with_reducible apply keep_ite
    | split
    | dsimp only

theorem State.showDomains_keep {r0 s : State}  (hk : Keep r0 s) :
    Keep r0 (State.showDomains s) := by
  unfold State.showDomains
  extract_lets x1 x2 x3
  try clear_value x1
  try clear_value x2
  refine Keep.cut (a := Keep r0 x3) ?_ fun kx3 => ?_
  unfold x3
  rotate_left
  clear_value x3
  all_goals repeat' first
    | intro _
    | with_reducible assumption
    | with_reducible apply State.set_keep
    | with_reducible apply Io.syncPin_keep
    | with_reducible apply Io.up_keep
    | with_reducible apply keep_onIo
    | with_reducible apply keep_ite
    | with_reducible apply ioKeep_ite
    | with_reducible apply keep_foldl
    | with_reducible apply ioKeep_foldl
    | split
    | with_reducible apply IoKeep.mk'
    | dsimp only

theorem State.retarget_keep {r0 s : State}  (hk : Keep r0 s) :
    Keep r0 (State.retarget s) := by
  unfold State.retarget
  extract_lets x1 x2 x3
  try clear_value x1
  try clear_value x3
  refine Keep.cut (a := Keep r0 x2) ?_ fun kx2 => ?_
  unfold x2
  rotate_left
  clear_value x2
  all_goals repeat' first
    | intro _
    | with_reducible assumption
    | with_reducible apply State.set_keep
    | with_reducible apply State.syncCache_keep
    | with_reducible apply keep_ite
    | split
    | with_reducible apply Keep.mk'
    | dsimp only

theorem State.apstEnds_keep {r0 s : State} {id : Nat} (hk : Keep r0 s) :
    Keep r0 (State.apstEnds s id) := by
  unfold State.apstEnds
  extract_lets x1
  try clear_value x1
  all_goals repeat' first
    | intro _
    | with_reducible assumption
    | with_reducible apply State.retarget_keep
    | with_reducible apply keep_ite
    | split
    | with_reducible apply Keep.mk'
    | dsimp only

theorem State.wakeCpx_keep {r0 s : State}  (hk : Keep r0 s) :
    Keep r0 (State.wakeCpx s) := by
  unfold State.wakeCpx
  extract_lets x1
  try clear_value x1
  all_goals repeat' first
    | intro _
    | with_reducible assumption
    | with_reducible apply State.raise_keep
    | with_reducible apply State.set_keep
    | with_reducible apply State.showDomains_keep
    | with_reducible apply keep_ite
    | split
    | with_reducible apply Keep.mk'
    | dsimp only

theorem State.fetch_keep {r0 s : State} {c : Cmd} (hk : Keep r0 s) :
    Keep r0 (State.fetch s c) := by
  unfold State.fetch
  extract_lets x1 x2
  try clear_value x2
  refine Keep.cut (a := Keep r0 x1) ?_ fun kx1 => ?_
  unfold x1
  rotate_left
  clear_value x1
  all_goals repeat' first
    | intro _
    | with_reducible assumption
    | with_reducible apply State.apstEnds_keep
    | with_reducible apply State.wakeCpx_keep
    | with_reducible apply State.onNvme_keep
    | with_reducible apply State.setCtrl_keep
    | with_reducible apply keep_ite
    | split
    | dsimp only

theorem State.doneWith_keep {r0 s : State} {c : Cmd} {sc : Sc} {dw0 : Nat} {data : Nat} (hk : Keep r0 s) :
    Keep r0 (State.doneWith s c sc dw0 data) := by
  unfold State.doneWith
  all_goals repeat' first
    | intro _
    | with_reducible assumption
    | with_reducible apply State.complete_keep
    | with_reducible apply keep_ite
    | split
    | dsimp only

theorem State.done_keep {r0 s : State} {c : Cmd} {sc : Sc} (hk : Keep r0 s) :
    Keep r0 (State.done s c sc) := by
  unfold State.done
  all_goals repeat' first
    | intro _
    | with_reducible assumption
    | with_reducible apply State.doneWith_keep
    | with_reducible apply keep_ite
    | split
    | dsimp only

theorem State.ioCmdAny_good {s : State} {walks : Bool} {c : Cmd} {checks : State → Option Sc} {run : State → State}
    (hf : ∀ t, Keep s t → Keep s (run t)) : Good s (State.ioCmdAny s walks c checks run) := by
  have hk := Keep.refl s
  unfold State.ioCmdAny
  dsimp only
  repeat' first
    | intro _
    | with_reducible apply good_okIf
    | apply hf
    | with_reducible assumption
    | with_reducible apply State.done_keep
    | with_reducible apply State.fetch_keep
    | with_reducible apply keep_ite
    | split
    | dsimp only

theorem State.ioCmd_good {s : State} {c : Cmd} {checks : State → Option Sc} {run : State → State}
    (hf : ∀ t, Keep s t → Keep s (run t)) : Good s (State.ioCmd s c checks run) := State.ioCmdAny_good hf

theorem State.readBrick_keep {r0 s : State} {nsid : Nat} {obj : Nat} {lba : Nat} {media : List (Nat × Brick)} (hk : Keep r0 s) :
    Keep r0 (State.readBrick s nsid obj lba media).2 := by
  unfold State.readBrick
  extract_lets x1 x2 x3
  try clear_value x2
  refine Keep.cut (a := ∀ u0, Keep r0 u0 → Keep r0 (x1 u0).2) ?_ fun kx1 => ?_
  unfold x1
  rotate_left
  clear_value x1
  refine Keep.cut (a := Keep r0 x3) ?_ fun kx3 => ?_
  unfold x3
  rotate_left
  clear_value x3
  all_goals repeat' first
    | intro _
    | with_reducible assumption
    | with_reducible apply kx1
    | with_reducible apply State.addTo_keep
    | with_reducible apply State.putExtent_keep
    | with_reducible apply State.bump_keep
    | with_reducible apply State.keyMiss_keep
    | with_reducible apply State.raise_keep
    | with_reducible apply State.ownerAction_keep
    | with_reducible apply State.dropSub_keep
    | with_reducible apply State.setWay_keep
    | with_reducible apply keep_ite
    | split
    | dsimp only

theorem State.readRun_keep {r0 s : State} {nsid : Nat} {obj : Nat} {lba : Nat} {n : Nat} {media : List (Nat × Brick)} (hk : Keep r0 s) :
    Keep r0 (State.readRun s nsid obj lba n media).2 := by
  unfold State.readRun
  all_goals repeat' first
    | intro _
    | with_reducible assumption
    | with_reducible apply State.readBrick_keep
    | refine Keep.snd (by with_reducible assumption) ?_
    | with_reducible apply keep_ite
    | with_reducible apply keep_foldl
    | with_reducible apply keep_foldl_snd
    | split
    | dsimp only

theorem State.showStore_keep {r0 s : State} {c : Cmd} (hk : Keep r0 s) :
    Keep r0 (State.showStore s c) := by
  unfold State.showStore
  all_goals repeat' first
    | intro _
    | with_reducible assumption
    | with_reducible apply State.putObj_keep
    | with_reducible apply keep_ite
    | split
    | dsimp only

theorem State.markStarted_keep {r0 s : State} {c : Cmd} (hk : Keep r0 s) :
    Keep r0 (State.markStarted s c) := by
  unfold State.markStarted
  all_goals repeat' first
    | intro _
    | with_reducible assumption
    | with_reducible apply State.setFlight_keep
    | with_reducible apply keep_ite
    | split
    | dsimp only

theorem State.waitRoom_keep {r0 s : State} {f : Flight} (hk : Keep r0 s) :
    Keep r0 (State.waitRoom s f) := by
  unfold State.waitRoom
  all_goals repeat' first
    | intro _
    | with_reducible assumption
    | with_reducible apply State.raise_keep
    | with_reducible apply State.setB_keep
    | with_reducible apply keep_ite
    | split
    | dsimp only

theorem State.landIn_keep {r0 s : State} {w : Nat} {lba : Nat} {ds : List Nat} {order : Nat} (hk : Keep r0 s) :
    Keep r0 (State.landIn s w lba ds order) := by
  unfold State.landIn
  extract_lets x1 x2 x3
  try clear_value x2
  try clear_value x3
  refine Keep.cut (a := Keep r0 x1) ?_ fun kx1 => ?_
  unfold x1
  rotate_left
  clear_value x1
  all_goals repeat' first
    | intro _
    | with_reducible assumption
    | with_reducible apply State.putWayBrick_keep
    | with_reducible apply State.setWay_keep
    | with_reducible apply keep_ite
    | with_reducible apply keep_foldl
    | split
    | dsimp only

theorem State.landSubs_keep {r0 s : State} {w : Nat} {nsid : Nat} {obj : Nat} {lba : Nat} {ds : List Nat} {order : Nat} {lastLen : Nat} (hk : Keep r0 s) :
    Keep r0 (State.landSubs s w nsid obj lba ds order lastLen) := by
  unfold State.landSubs
  extract_lets x1 x2
  try clear_value x1
  try clear_value x2
  all_goals repeat' first
    | intro _
    | with_reducible assumption
    | with_reducible apply State.landIn_keep
    | with_reducible apply State.allToPallets_keep
    | with_reducible apply keep_ite
    | with_reducible apply keep_foldl
    | split
    | dsimp only

theorem State.placePart_keep {r0 s : State} {nsid : Nat} {obj : Nat} {lba : Nat} {ds : List Nat} {order : Nat} {lastLen : Nat} (hk : Keep r0 s) :
    Keep r0 (State.placePart s nsid obj lba ds order lastLen).2 := by
  unfold State.placePart
  extract_lets x1 x2 x3 x4 x5
  try clear_value x1
  try clear_value x2
  try clear_value x3
  try clear_value x5
  refine Keep.cut (a := Keep r0 x4) ?_ fun kx4 => ?_
  unfold x4
  rotate_left
  clear_value x4
  all_goals repeat' first
    | intro _
    | with_reducible assumption
    | with_reducible apply State.dirtyNs_keep
    | with_reducible apply State.allToPallets_keep
    | with_reducible apply State.evictSubs_keep
    | with_reducible apply State.landSubs_keep
    | with_reducible apply State.allocate_keep
    | refine Keep.snd (by with_reducible assumption) ?_
    | with_reducible apply keep_ite
    | split
    | dsimp only

theorem State.place_keep {r0 s : State} {n : Nat} {f : Flight} (hk : Keep r0 s) : Keep r0 (State.place n s f) := by
  induction n generalizing s f with
  | zero => exact State.setFlight_keep hk
  | succ n ih =>
    unfold State.place
    dsimp only
    repeat' first
      | intro _
      | with_reducible apply ih
      | with_reducible assumption
      | with_reducible apply State.setFlight_keep
      | with_reducible apply State.waitRoom_keep
      | with_reducible apply State.placePart_keep
      | refine Keep.snd (by with_reducible assumption) ?_
      | with_reducible apply keep_ite
      | split
      | dsimp only

theorem State.goOnFlight_keep {r0 s : State} {f : Flight} {more : List Nat} (hk : Keep r0 s) :
    Keep r0 (State.goOnFlight s f more) := by
  unfold State.goOnFlight
  extract_lets x1
  try clear_value x1
  all_goals repeat' first
    | intro _
    | with_reducible assumption
    | with_reducible apply State.settle_keep
    | with_reducible apply State.showWaiting_keep
    | with_reducible apply State.showStore_keep
    | with_reducible apply State.markStarted_keep
    | with_reducible apply State.place_keep
    | with_reducible apply State.setFlight_keep
    | with_reducible apply keep_ite
    | split
    | dsimp only

theorem State.startFlight_keep {r0 s : State} {f : Flight} (hk : Keep r0 s) :
    Keep r0 (State.startFlight s f) := by
  unfold State.startFlight
  all_goals repeat' first
    | intro _
    | with_reducible assumption
    | with_reducible apply State.settle_keep
    | with_reducible apply State.showWaiting_keep
    | with_reducible apply State.showStore_keep
    | with_reducible apply State.markStarted_keep
    | with_reducible apply State.place_keep
    | with_reducible apply State.setFlights_keep
    | with_reducible apply keep_ite
    | split
    | dsimp only

theorem State.setZone_keep {r0 s : State} {nsid : Nat} {z : Nat} {x : ZoneSt} (hk : Keep r0 s) :
    Keep r0 (State.setZone s nsid z x) := by
  unfold State.setZone
  extract_lets x1
  try clear_value x1
  all_goals repeat' first
    | intro _
    | with_reducible assumption
    | with_reducible apply State.setNs_keep
    | with_reducible apply keep_ite
    | split
    | dsimp only

theorem State.zoneWritten_keep {r0 s : State} {nsid : Nat} {z : Nat} {n : Nat} (hk : Keep r0 s) :
    Keep r0 (State.zoneWritten s nsid z n) := by
  unfold State.zoneWritten
  extract_lets x1 x2
  try clear_value x1
  try clear_value x2
  all_goals repeat' first
    | intro _
    | with_reducible assumption
    | with_reducible apply State.setZone_keep
    | with_reducible apply keep_ite
    | split
    | dsimp only

theorem State.resetCtrl_keep {r0 s : State} {id : Nat} (hk : Keep r0 s) :
    Keep r0 (State.resetCtrl s id) := by
  unfold State.resetCtrl
  extract_lets x1 x2 x3 x4 x5 x6 x7 x8
  try clear_value x1
  try clear_value x2
  try clear_value x4
  try clear_value x6
  refine Keep.cut (a := Keep r0 x3) ?_ fun kx3 => ?_
  unfold x3
  rotate_left
  clear_value x3
  refine Keep.cut (a := Keep r0 x5) ?_ fun kx5 => ?_
  unfold x5
  rotate_left
  clear_value x5
  refine Keep.cut (a := Keep r0 x7) ?_ fun kx7 => ?_
  unfold x7
  rotate_left
  clear_value x7
  refine Keep.cut (a := Keep r0 x8) ?_ fun kx8 => ?_
  unfold x8
  rotate_left
  clear_value x8
  all_goals repeat' first
    | intro _
    | with_reducible assumption
    | with_reducible apply State.endStore_keep
    | with_reducible apply State.applyFetched_keep
    | with_reducible apply State.setCtrl_keep
    | with_reducible apply State.setFlights_keep
    | with_reducible apply State.setB_keep
    | with_reducible apply State.retarget_keep
    | with_reducible apply State.showWaiting_keep
    | with_reducible apply State.settle_keep
    | with_reducible apply State.raise_keep
    | with_reducible apply keep_ite
    | with_reducible apply keep_foldl
    | with_reducible apply ioKeep_foldl
    | split
    | with_reducible apply Keep.mk'
    | dsimp only

theorem State.unmapAll_keep {r0 s : State} {nsid : Nat} (hk : Keep r0 s) :
    Keep r0 (State.unmapAll s nsid) := by
  unfold State.unmapAll
  all_goals repeat' first
    | intro _
    | with_reducible assumption
    | with_reducible apply State.cutExtent_keep
    | with_reducible apply keep_ite
    | with_reducible apply keep_foldl
    | split
    | dsimp only

theorem State.admin_good {s : State} {c : Cmd} {pf0 duringLc : Bool} {run : State → State}
    (hf : ∀ t, Keep s t → Keep s (run t)) : Good s (State.admin s c pf0 duringLc run) := by
  have hk := Keep.refl s
  unfold State.admin
  dsimp only
  repeat' first
    | intro _
    | with_reducible apply good_okIf
    | apply hf
    | with_reducible assumption
    | with_reducible apply State.done_keep
    | with_reducible apply State.fetch_keep
    | with_reducible apply keep_ite
    | split
    | dsimp only

theorem State.dropRun_keep {r0 s : State} {nsid : Nat} {lba : Nat} {n : Nat} (hk : Keep r0 s) :
    Keep r0 (State.dropRun s nsid lba n) := by
  unfold State.dropRun
  extract_lets x1 x2
  try clear_value x1
  refine Keep.cut (a := Keep r0 x2) ?_ fun kx2 => ?_
  unfold x2
  rotate_left
  clear_value x2
  all_goals repeat' first
    | intro _
    | with_reducible assumption
    | with_reducible apply State.destageSub_keep
    | with_reducible apply State.dropSub_keep
    | with_reducible apply State.onMason_keep
    | with_reducible apply keep_ite
    | with_reducible apply keep_foldl
    | split
    | dsimp only

theorem State.deallocate_keep {r0 s : State} {nsid : Nat} {lba : Nat} {n : Nat} (hk : Keep r0 s) :
    Keep r0 (State.deallocate s nsid lba n) := by
  unfold State.deallocate
  all_goals repeat' first
    | intro _
    | with_reducible assumption
    | with_reducible apply State.unrecCut_keep
    | with_reducible apply State.unmapRange_keep
    | with_reducible apply State.dropRun_keep
    | with_reducible apply keep_ite
    | split
    | dsimp only

theorem State.mapDone_keep {r0 s : State} {c : Cmd} {nsid : Nat} {dw0 : Nat} (hk : Keep r0 s) :
    Keep r0 (State.mapDone s c nsid dw0) := by
  unfold State.mapDone
  extract_lets x1 x2
  try clear_value x1
  try clear_value x2
  all_goals repeat' first
    | intro _
    | with_reducible assumption
    | with_reducible apply State.doneWith_keep
    | with_reducible apply State.setFlights_keep
    | with_reducible apply keep_ite
    | split
    | dsimp only

theorem State.nsChanged_keep {r0 s : State} {nsid : Nat} {ids : List Nat} (hk : Keep r0 s) :
    Keep r0 (State.nsChanged s nsid ids) := by
  unfold State.nsChanged
  all_goals repeat' first
    | intro _
    | with_reducible assumption
    | with_reducible apply State.setCtrl_keep
    | with_reducible apply State.asyncTo_keep
    | with_reducible apply keep_ite
    | with_reducible apply keep_foldl
    | split
    | dsimp only

theorem State.dropNs_keep {r0 s : State} {nsid : Nat} (hk : Keep r0 s) :
    Keep r0 (State.dropNs s nsid) := by
  unfold State.dropNs
  all_goals repeat' first
    | intro _
    | with_reducible assumption
    | with_reducible apply State.unrecDrop_keep
    | with_reducible apply State.unmapAll_keep
    | with_reducible apply State.onMason_keep
    | with_reducible apply State.dropLines_keep
    | with_reducible apply keep_ite
    | split
    | dsimp only

theorem State.fillRead_keep {r0 s : State} {nsid : Nat} {obj : Nat} {lba : Nat} {ds : List (Option Nat)} (hk : Keep r0 s) :
    Keep r0 (State.fillRead s nsid obj lba ds) := by
  unfold State.fillRead
  all_goals repeat' first
    | intro _
    | with_reducible assumption
    | with_reducible apply State.wayFor_keep
    | with_reducible apply State.putWayBrick_keep
    | with_reducible apply State.setWay_keep
    | refine Keep.snd (by with_reducible assumption) ?_
    | with_reducible apply keep_ite
    | with_reducible apply keep_foldl
    | with_reducible apply keep_foldl_snd
    | split
    | dsimp only

theorem State.writeBack_keep {r0 s : State} {nsid : Nat} {lba : Nat} {n : Nat} (hk : Keep r0 s) :
    Keep r0 (State.writeBack s nsid lba n) := by
  unfold State.writeBack
  all_goals repeat' first
    | intro _
    | with_reducible assumption
    | with_reducible apply State.destageSub_keep
    | with_reducible apply keep_ite
    | with_reducible apply keep_foldl
    | split
    | dsimp only

theorem State.prefetchSub_keep {r0 s : State} {nsid : Nat} {sub : Nat} (hk : Keep r0 s) :
    Keep r0 (State.prefetchSub s nsid sub) := by
  unfold State.prefetchSub
  extract_lets x1 x2
  try clear_value x1
  try clear_value x2
  all_goals repeat' first
    | intro _
    | with_reducible assumption
    | with_reducible apply State.wayFor_keep
    | with_reducible apply State.bump_keep
    | with_reducible apply State.setWay_keep
    | refine Keep.snd (by with_reducible assumption) ?_
    | with_reducible apply keep_ite
    | split
    | dsimp only

theorem State.track_keep {r0 s : State} {nsid : Nat} {lba : Nat} {n : Nat} (hk : Keep r0 s) :
    Keep r0 (State.track s nsid lba n) := by
  unfold State.track
  extract_lets x1 x2 x3 x4 x5
  try clear_value x1
  try clear_value x2
  try clear_value x3
  try clear_value x4
  refine Keep.cut (a := Keep r0 x5) ?_ fun kx5 => ?_
  unfold x5
  rotate_left
  clear_value x5
  all_goals repeat' first
    | intro _
    | with_reducible assumption
    | with_reducible apply State.onBuf_keep
    | with_reducible apply State.prefetchSub_keep
    | with_reducible apply keep_ite
    | with_reducible apply keep_foldl
    | exact fun _ hb => hb
    | split
    | dsimp only

end Sys2Proof.Machine
end

