-- ==== Sys2Proof/Laws/KeepImageOps.lean ====
section
/-! SUPPORT. What the operations of Machine/ImageOps.lean keep. -/

namespace Sys2Proof.Machine

set_option linter.unreachableTactic false
set_option linter.unusedTactic false

theorem State.raiseSvn_keep {r0 s : State} {img : List Nat} (hk : Keep r0 s) :
    Keep r0 (State.raiseSvn s img) := by
  unfold State.raiseSvn
  extract_lets x1
  try clear_value x1
  all_goals repeat' first
    | intro _
    | with_reducible assumption
    | with_reducible apply State.raise_keep
    | with_reducible apply State.set_keep
    | with_reducible apply keep_ite
    | split
    | dsimp only

theorem State.newNonce_keep {r0 s : State}  (hk : Keep r0 s) :
    Keep r0 (State.newNonce s) := by
  unfold State.newNonce
  extract_lets x1
  try clear_value x1
  all_goals repeat' first
    | intro _
    | with_reducible assumption
    | with_reducible apply State.set_keep
    | with_reducible apply keep_ite
    | with_reducible apply keep_foldl
    | with_reducible apply ioKeep_foldl
    | split
    | with_reducible apply Keep.mk'
    | dsimp only

theorem State.tokenShown_keep {r0 s : State} {r : Nat} (hk : Keep r0 s) :
    Keep r0 (State.tokenShown s r) := by
  unfold State.tokenShown
  extract_lets x1
  refine Keep.cut (a := Keep r0 x1) ?_ fun kx1 => ?_
  unfold x1
  rotate_left
  clear_value x1
  all_goals repeat' first
    | intro _
    | with_reducible assumption
    | with_reducible apply State.onSec_keep
    | with_reducible apply State.set_keep
    | with_reducible apply State.newNonce_keep
    | with_reducible apply State.raise_keep
    | with_reducible apply keep_ite
    | split
    | dsimp only

theorem State.writeImage_keep {r0 s : State} {slot : Nat} {img : List Nat} {w0 : Bool} {w1 : Bool} (hk : Keep r0 s) :
    Keep r0 (State.writeImage s slot img w0 w1) := by
  unfold State.writeImage
  extract_lets x1
  try clear_value x1
  all_goals repeat' first
    | intro _
    | with_reducible assumption
    | with_reducible apply State.setB_keep
    | with_reducible apply State.set_keep
    | with_reducible apply State.onNor_keep
    | with_reducible apply State.norWrite_keep
    | with_reducible apply keep_ite
    | split
    | dsimp only

end Sys2Proof.Machine
end

