-- ==== Sys2Proof/Laws/KeepNvmeAdmin.lean ====
section
/-! SUPPORT. What the operations of Machine/NvmeAdmin.lean keep. -/

namespace Sys2Proof.Machine

set_option linter.unreachableTactic false
set_option linter.unusedTactic false

theorem State.snapshot_keep {r0 s : State} {reader : Nat} (hk : Keep r0 s) :
    Keep r0 (State.snapshot s reader) := by
  unfold State.snapshot
  all_goals repeat' first
    | intro _
    | with_reducible assumption
    | with_reducible apply keep_onIo
    | with_reducible apply keep_ite
    | with_reducible apply ioKeep_ite
    | split
    | with_reducible apply IoKeep.mk'
    | dsimp only

theorem State.afterLog_keep {r0 s : State} {ctl : Nat} {lid : Nat} {nsid : Nat} {rae : Bool} (hk : Keep r0 s) :
    Keep r0 (State.afterLog s ctl lid nsid rae) := by
  unfold State.afterLog
  extract_lets x1
  try clear_value x1
  all_goals repeat' first
    | intro _
    | with_reducible assumption
    | with_reducible apply State.setCtrl_keep
    | with_reducible apply keep_ite
    | split
    | dsimp only

theorem State.replaceAll_keep {r0 s : State} {w0 : Bool} {w1 : Bool} (hk : Keep r0 s) :
    Keep r0 (State.replaceAll s w0 w1).2 := by
  unfold State.replaceAll
  extract_lets x1 x2
  refine Keep.cut (a := Keep r0 x1) ?_ fun kx1 => ?_
  unfold x1
  rotate_left
  clear_value x1
  refine Keep.cut (a := Keep r0 (x2).2) ?_ fun kx2 => ?_
  unfold x2
  rotate_left
  clear_value x2
  all_goals repeat' first
    | intro _
    | with_reducible assumption
    | with_reducible apply State.freeDomain_keep
    | with_reducible apply State.makeKeys_keep
    | with_reducible apply State.spentCheck_keep
    | with_reducible apply State.onSec_keep
    | refine Keep.snd (by with_reducible assumption) ?_
    | with_reducible apply keep_ite
    | with_reducible apply keep_foldl
    | with_reducible apply keep_foldl_snd
    | split
    | dsimp only

theorem State.freeTables_keep {r0 s : State}  (hk : Keep r0 s) :
    Keep r0 (State.freeTables s) := by
  unfold State.freeTables
  extract_lets x1 x2 x3
  refine Keep.cut (a := Keep r0 x1) ?_ fun kx1 => ?_
  unfold x1
  rotate_left
  clear_value x1
  refine Keep.cut (a := Keep r0 x2) ?_ fun kx2 => ?_
  unfold x2
  rotate_left
  clear_value x2
  refine Keep.cut (a := Keep r0 x3) ?_ fun kx3 => ?_
  unfold x3
  rotate_left
  clear_value x3
  all_goals repeat' first
    | intro _
    | with_reducible assumption
    | with_reducible apply State.onMason_keep
    | with_reducible apply State.dropLines_keep
    | with_reducible apply State.resetTile_keep
    | with_reducible apply State.putTile_keep
    | with_reducible apply State.setNs_keep
    | with_reducible apply State.unrecDrop_keep
    | with_reducible apply keep_ite
    | with_reducible apply keep_foldl
    | split
    | dsimp only

theorem State.startSanitize_keep {r0 s : State} {c : Cmd} {how : Nat} {w0 : Bool} {w1 : Bool} (hk : Keep r0 s) :
    Keep r0 (State.startSanitize s c how w0 w1) := by
  unfold State.startSanitize
  extract_lets x1 x2 x3
  refine Keep.cut (a := Keep r0 x1) ?_ fun kx1 => ?_
  unfold x1
  rotate_left
  clear_value x1
  refine Keep.cut (a := Keep r0 x2) ?_ fun kx2 => ?_
  unfold x2
  rotate_left
  clear_value x2
  refine Keep.cut (a := Keep r0 (x3).2) ?_ fun kx3 => ?_
  unfold x3
  rotate_left
  clear_value x3
  all_goals repeat' first
    | intro _
    | with_reducible assumption
    | with_reducible apply State.done_keep
    | with_reducible apply State.setB_keep
    | with_reducible apply State.onNvme_keep
    | with_reducible apply State.onMason_keep
    | with_reducible apply State.dropLines_keep
    | with_reducible apply State.raise_keep
    | with_reducible apply State.onNor_keep
    | with_reducible apply State.replaceAll_keep
    | with_reducible apply State.freeTables_keep
    | refine Keep.snd (by with_reducible assumption) ?_
    | with_reducible apply keep_ite
    | split
    | dsimp only

theorem execSanitizeCryptoErase_good (c : Cmd) (w0 : Bool) (w1 : Bool) (s : State) : Good s (execSanitizeCryptoErase c w0 w1 s) := by
  have hk := Keep.refl s
  unfold execSanitizeCryptoErase
  all_goals repeat' first
    | intro _
    | with_reducible apply good_okIf
    | with_reducible apply good_okAon
    | with_reducible apply good_ok
    | with_reducible apply good_ite
    | with_reducible assumption
    | with_reducible apply State.admin_good
    | with_reducible apply State.startSanitize_keep
    | with_reducible apply keep_ite
    | split
    | dsimp only

theorem execFirmwareImageDownload_good (c : Cmd) (ofs : Nat) (bytes : List Nat) (s : State) : Good s (execFirmwareImageDownload c ofs bytes s) := by
  have hk := Keep.refl s
  unfold execFirmwareImageDownload
  all_goals repeat' first
    | intro _
    | with_reducible apply good_okIf
    | with_reducible apply good_okAon
    | with_reducible apply good_ok
    | with_reducible apply good_ite
    | with_reducible assumption
    | with_reducible apply State.admin_good
    | with_reducible apply State.done_keep
    | with_reducible apply State.onNvme_keep
    | with_reducible apply keep_ite
    | with_reducible apply keep_foldl
    | split
    | dsimp only

theorem execNamespaceAttach_good (c : Cmd) (nsid : Nat) (ids : List Nat) (s : State) : Good s (execNamespaceAttach c nsid ids s) := by
  have hk := Keep.refl s
  unfold execNamespaceAttach
  all_goals repeat' first
    | intro _
    | with_reducible apply good_okIf
    | with_reducible apply good_okAon
    | with_reducible apply good_ok
    | with_reducible apply good_ite
    | with_reducible assumption
    | with_reducible apply State.admin_good
    | with_reducible apply State.done_keep
    | with_reducible apply State.nsChanged_keep
    | with_reducible apply State.setCtrl_keep
    | with_reducible apply keep_ite
    | with_reducible apply keep_foldl
    | split
    | dsimp only

theorem State.formatNs_keep {r0 s : State} {nsid : Nat} {ses : Nat} {w0 : Bool} {w1 : Bool} (hk : Keep r0 s) :
    Keep r0 (State.formatNs s nsid ses w0 w1).2 := by
  unfold State.formatNs
  extract_lets x1 x2 x3 x4
  try clear_value x1
  refine Keep.cut (a := Keep r0 x2) ?_ fun kx2 => ?_
  unfold x2
  rotate_left
  clear_value x2
  refine Keep.cut (a := Keep r0 x3) ?_ fun kx3 => ?_
  unfold x3
  rotate_left
  clear_value x3
  refine Keep.cut (a := Keep r0 (x4).2) ?_ fun kx4 => ?_
  unfold x4
  rotate_left
  clear_value x4
  all_goals repeat' first
    | intro _
    | with_reducible assumption
    | with_reducible apply State.setNs_keep
    | with_reducible apply State.dropNs_keep
    | with_reducible apply State.onNor_keep
    | with_reducible apply State.makeKeys_keep
    | with_reducible apply State.spentCheck_keep
    | refine Keep.snd (by with_reducible assumption) ?_
    | with_reducible apply keep_ite
    | split
    | dsimp only

theorem execFirmwareCommitNextBoot_good (c : Cmd) (slot : Nat) (s : State) : Good s (execFirmwareCommitNextBoot c slot s) := by
  have hk := Keep.refl s
  unfold execFirmwareCommitNextBoot
  all_goals repeat' first
    | intro _
    | with_reducible apply good_okIf
    | with_reducible apply good_okAon
    | with_reducible apply good_ok
    | with_reducible apply good_ite
    | with_reducible assumption
    | with_reducible apply State.admin_good
    | with_reducible apply State.done_keep
    | with_reducible apply State.set_keep
    | with_reducible apply keep_ite
    | split
    | dsimp only

theorem execDeleteIoSubmissionQueue_good (c : Cmd) (qid : Nat) (s : State) : Good s (execDeleteIoSubmissionQueue c qid s) := by
  have hk := Keep.refl s
  unfold execDeleteIoSubmissionQueue
  extract_lets x1
  try clear_value x1
  all_goals repeat' first
    | intro _
    | with_reducible apply good_okIf
    | with_reducible apply good_okAon
    | with_reducible apply good_ok
    | with_reducible apply good_ite
    | with_reducible assumption
    | with_reducible apply State.admin_good
    | with_reducible apply State.done_keep
    | with_reducible apply State.setFlights_keep
    | with_reducible apply State.showWaiting_keep
    | with_reducible apply State.settle_keep
    | with_reducible apply keep_ite
    | with_reducible apply keep_foldl
    | split
    | dsimp only

theorem execSanitizeOverwrite_good (c : Cmd) (w0 : Bool) (w1 : Bool) (s : State) : Good s (execSanitizeOverwrite c w0 w1 s) := by
  have hk := Keep.refl s
  unfold execSanitizeOverwrite
  all_goals repeat' first
    | intro _
    | with_reducible apply good_okIf
    | with_reducible apply good_okAon
    | with_reducible apply good_ok
    | with_reducible apply good_ite
    | with_reducible assumption
    | with_reducible apply State.admin_good
    | with_reducible apply State.startSanitize_keep
    | with_reducible apply keep_ite
    | split
    | dsimp only

theorem execNamespaceDetach_good (c : Cmd) (nsid : Nat) (ids : List Nat) (s : State) : Good s (execNamespaceDetach c nsid ids s) := by
  have hk := Keep.refl s
  unfold execNamespaceDetach
  all_goals repeat' first
    | intro _
    | with_reducible apply good_okIf
    | with_reducible apply good_okAon
    | with_reducible apply good_ok
    | with_reducible apply good_ite
    | with_reducible assumption
    | with_reducible apply State.admin_good
    | with_reducible apply State.done_keep
    | with_reducible apply State.nsChanged_keep
    | with_reducible apply State.setCtrl_keep
    | with_reducible apply keep_ite
    | with_reducible apply keep_foldl
    | split
    | dsimp only

theorem execAsynchronousEventRequest_good (c : Cmd) (s : State) : Good s (execAsynchronousEventRequest c s) := by
  have hk := Keep.refl s
  unfold execAsynchronousEventRequest
  all_goals repeat' first
    | intro _
    | with_reducible apply good_okIf
    | with_reducible apply good_okAon
    | with_reducible apply good_ok
    | with_reducible apply good_ite
    | with_reducible assumption
    | with_reducible apply State.admin_good
    | with_reducible apply State.done_keep
    | with_reducible apply State.doneWith_keep
    | with_reducible apply State.setCtrl_keep
    | with_reducible apply keep_ite
    | split
    | dsimp only

theorem execCreateIoCompletionQueue_good (c : Cmd) (qid : Nat) (size : Nat) (vector : Nat) (contiguous : Bool) (s : State) : Good s (execCreateIoCompletionQueue c qid size vector contiguous s) := by
  have hk := Keep.refl s
  unfold execCreateIoCompletionQueue
  all_goals repeat' first
    | intro _
    | with_reducible apply good_okIf
    | with_reducible apply good_okAon
    | with_reducible apply good_ok
    | with_reducible apply good_ite
    | with_reducible assumption
    | with_reducible apply State.admin_good
    | with_reducible apply State.done_keep
    | with_reducible apply State.setCtrl_keep
    | with_reducible apply keep_ite
    | split
    | dsimp only

theorem execFirmwareCommitReplace_good (c : Cmd) (slot : Nat) (next : Bool) (w0 : Bool) (w1 : Bool) (s : State) : Good s (execFirmwareCommitReplace c slot next w0 w1 s) := by
  have hk := Keep.refl s
  unfold execFirmwareCommitReplace
  all_goals repeat' first
    | intro _
    | with_reducible apply good_okIf
    | with_reducible apply good_okAon
    | with_reducible apply good_ok
    | with_reducible apply good_ite
    | with_reducible assumption
    | with_reducible apply State.admin_good
    | with_reducible apply State.done_keep
    | with_reducible apply State.raise_keep
    | with_reducible apply State.norWrite_keep
    | with_reducible apply State.writeImage_keep
    | with_reducible apply State.set_keep
    | with_reducible apply keep_ite
    | split
    | dsimp only

theorem State.removeNs_keep {r0 s : State} {nsid : Nat} (hk : Keep r0 s) :
    Keep r0 (State.removeNs s nsid) := by
  unfold State.removeNs
  extract_lets x1 x2 x3 x4 x5
  try clear_value x1
  try clear_value x2
  refine Keep.cut (a := Keep r0 x3) ?_ fun kx3 => ?_
  unfold x3
  rotate_left
  clear_value x3
  refine Keep.cut (a := Keep r0 x4) ?_ fun kx4 => ?_
  unfold x4
  rotate_left
  clear_value x4
  refine Keep.cut (a := Keep r0 x5) ?_ fun kx5 => ?_
  unfold x5
  rotate_left
  clear_value x5
  all_goals repeat' first
    | intro _
    | with_reducible assumption
    | with_reducible apply State.setCtrl_keep
    | with_reducible apply State.setNs_keep
    | with_reducible apply State.dropNs_keep
    | with_reducible apply State.freeDomain_keep
    | with_reducible apply State.settle_keep
    | with_reducible apply State.rekeyCheck_keep
    | with_reducible apply State.nsChanged_keep
    | with_reducible apply State.onNor_keep
    | with_reducible apply keep_ite
    | with_reducible apply keep_foldl
    | split
    | dsimp only

theorem execIdentify_good (c : Cmd) (cns : Nat) (nsid : Nat) (s : State) : Good s (execIdentify c cns nsid s) := by
  have hk := Keep.refl s
  unfold execIdentify
  all_goals repeat' first
    | intro _
    | with_reducible apply good_okIf
    | with_reducible apply good_okAon
    | with_reducible apply good_ok
    | with_reducible apply good_ite
    | with_reducible assumption
    | with_reducible apply State.admin_good
    | with_reducible apply State.doneWith_keep
    | with_reducible apply State.done_keep
    | with_reducible apply keep_ite
    | split
    | dsimp only

theorem execGetFeatures_good (c : Cmd) (fid : Nat) (nsid : Nat) (s : State) : Good s (execGetFeatures c fid nsid s) := by
  have hk := Keep.refl s
  unfold execGetFeatures
  all_goals repeat' first
    | intro _
    | with_reducible apply good_okIf
    | with_reducible apply good_okAon
    | with_reducible apply good_ok
    | with_reducible apply good_ite
    | with_reducible assumption
    | with_reducible apply State.admin_good
    | with_reducible apply State.done_keep
    | with_reducible apply State.doneWith_keep
    | with_reducible apply keep_ite
    | split
    | dsimp only

theorem execNamespaceCreate_good (c : Cmd) (set : Nat) (nsze : Nat) (ncap : Nat) (flbas : Nat) (nmic : Nat) (pool : Nat) (flags : Nat) (maxValue : Nat) (w0 : Bool) (w1 : Bool) (s : State) : Good s (execNamespaceCreate c set nsze ncap flbas nmic pool flags maxValue w0 w1 s) := by
  have hk := Keep.refl s
  unfold execNamespaceCreate
  extract_lets x1
  try clear_value x1
  all_goals repeat' first
    | intro _
    | with_reducible apply good_okIf
    | with_reducible apply good_okAon
    | with_reducible apply good_ok
    | with_reducible apply good_ite
    | with_reducible assumption
    | with_reducible apply State.admin_good
    | with_reducible apply State.done_keep
    | with_reducible apply State.makeKeys_keep
    | with_reducible apply State.doneWith_keep
    | with_reducible apply State.setNs_keep
    | refine Keep.snd (by with_reducible assumption) ?_
    | with_reducible apply keep_ite
    | split
    | dsimp only

theorem execNamespaceDelete_good (c : Cmd) (nsid : Nat) (s : State) : Good s (execNamespaceDelete c nsid s) := by
  have hk := Keep.refl s
  unfold execNamespaceDelete
  all_goals repeat' first
    | intro _
    | with_reducible apply good_okIf
    | with_reducible apply good_okAon
    | with_reducible apply good_ok
    | with_reducible apply good_ite
    | with_reducible assumption
    | with_reducible apply State.admin_good
    | with_reducible apply State.done_keep
    | with_reducible apply State.removeNs_keep
    | with_reducible apply keep_ite
    | with_reducible apply keep_foldl
    | split
    | dsimp only

theorem execDeleteIoCompletionQueue_good (c : Cmd) (qid : Nat) (s : State) : Good s (execDeleteIoCompletionQueue c qid s) := by
  have hk := Keep.refl s
  unfold execDeleteIoCompletionQueue
  all_goals repeat' first
    | intro _
    | with_reducible apply good_okIf
    | with_reducible apply good_okAon
    | with_reducible apply good_ok
    | with_reducible apply good_ite
    | with_reducible assumption
    | with_reducible apply State.admin_good
    | with_reducible apply State.done_keep
    | with_reducible apply State.setCtrl_keep
    | with_reducible apply keep_ite
    | split
    | dsimp only

theorem execSanitizeBlockErase_good (c : Cmd) (w0 : Bool) (w1 : Bool) (s : State) : Good s (execSanitizeBlockErase c w0 w1 s) := by
  have hk := Keep.refl s
  unfold execSanitizeBlockErase
  all_goals repeat' first
    | intro _
    | with_reducible apply good_okIf
    | with_reducible apply good_okAon
    | with_reducible apply good_ok
    | with_reducible apply good_ite
    | with_reducible assumption
    | with_reducible apply State.admin_good
    | with_reducible apply State.startSanitize_keep
    | with_reducible apply keep_ite
    | split
    | dsimp only

theorem execAbort_good (c : Cmd) (sqid : Nat) (cid : Nat) (others : Nat) (s : State) : Good s (execAbort c sqid cid others s) := by
  have hk := Keep.refl s
  unfold execAbort
  extract_lets x1
  try clear_value x1
  all_goals repeat' first
    | intro _
    | with_reducible apply good_okIf
    | with_reducible apply good_okAon
    | with_reducible apply good_ok
    | with_reducible apply good_ite
    | with_reducible assumption
    | with_reducible apply State.admin_good
    | with_reducible apply State.done_keep
    | with_reducible apply State.doneWith_keep
    | with_reducible apply State.bump_keep
    | with_reducible apply State.setCtrl_keep
    | with_reducible apply State.showWaiting_keep
    | with_reducible apply State.finish_keep
    | with_reducible apply keep_ite
    | split
    | dsimp only

theorem execSetFeatures_good (c : Cmd) (fid : Nat) (nsid : Nat) (value : Nat) (data : Nat) (s : State) : Good s (execSetFeatures c fid nsid value data s) := by
  have hk := Keep.refl s
  unfold execSetFeatures
  extract_lets x1
  try clear_value x1
  all_goals repeat' first
    | intro _
    | with_reducible apply good_okIf
    | with_reducible apply good_okAon
    | with_reducible apply good_ok
    | with_reducible apply good_ite
    | with_reducible assumption
    | with_reducible apply State.admin_good
    | with_reducible apply State.setCtrl_keep
    | with_reducible apply State.done_keep
    | with_reducible apply State.retarget_keep
    | with_reducible apply State.syncCache_keep
    | with_reducible apply State.doneWith_keep
    | with_reducible apply State.onNvme_keep
    | with_reducible apply State.setNs_keep
    | with_reducible apply keep_ite
    | split
    | with_reducible apply Keep.mk'
    | dsimp only

theorem State.endActivation_keep {r0 s : State} {c : Cmd} {ms : Nat} {bit : Nat} {sc : Sc} (hk : Keep r0 s) :
    Keep r0 (State.endActivation s c ms bit sc) := by
  unfold State.endActivation
  extract_lets x1 x2 x3
  refine Keep.cut (a := Keep r0 x1) ?_ fun kx1 => ?_
  unfold x1
  rotate_left
  clear_value x1
  refine Keep.cut (a := Keep r0 x2) ?_ fun kx2 => ?_
  unfold x2
  rotate_left
  clear_value x2
  refine Keep.cut (a := Keep r0 x3) ?_ fun kx3 => ?_
  unfold x3
  rotate_left
  clear_value x3
  all_goals repeat' first
    | intro _
    | with_reducible assumption
    | with_reducible apply State.set_keep
    | with_reducible apply State.setB_keep
    | with_reducible apply State.raise_keep
    | with_reducible apply State.onNvme_keep
    | with_reducible apply State.done_keep
    | with_reducible apply keep_ite
    | split
    | dsimp only

theorem execActivationQuiesced_good (ms : Nat) (s : State) : Good s (execActivationQuiesced ms s) := by
  have hk := Keep.refl s
  unfold execActivationQuiesced
  all_goals repeat' first
    | intro _
    | with_reducible apply good_okIf
    | with_reducible apply good_okAon
    | with_reducible apply good_ok
    | with_reducible apply good_ite
    | with_reducible assumption
    | with_reducible apply State.endActivation_keep
    | with_reducible apply State.set_keep
    | with_reducible apply State.raiseSvn_keep
    | with_reducible apply keep_ite
    | split
    | dsimp only

theorem execFirmwareCommitActivate_good (c : Cmd) (slot : Nat) (s : State) : Good s (execFirmwareCommitActivate c slot s) := by
  have hk := Keep.refl s
  unfold execFirmwareCommitActivate
  all_goals repeat' first
    | intro _
    | with_reducible apply good_okIf
    | with_reducible apply good_okAon
    | with_reducible apply good_ok
    | with_reducible apply good_ite
    | with_reducible assumption
    | with_reducible apply State.admin_good
    | with_reducible apply State.done_keep
    | with_reducible apply State.set_keep
    | with_reducible apply State.async_keep
    | with_reducible apply State.setB_keep
    | with_reducible apply State.raise_keep
    | with_reducible apply State.onNvme_keep
    | with_reducible apply keep_ite
    | split
    | dsimp only

theorem execUnsupportedCommand_good (c : Cmd) (s : State) : Good s (execUnsupportedCommand c s) := by
  have hk := Keep.refl s
  unfold execUnsupportedCommand
  extract_lets x1
  refine Keep.cut (a := Keep s x1) ?_ fun kx1 => ?_
  unfold x1
  rotate_left
  clear_value x1
  all_goals repeat' first
    | intro _
    | with_reducible apply good_okIf
    | with_reducible apply good_okAon
    | with_reducible apply good_ok
    | with_reducible apply good_ite
    | with_reducible assumption
    | with_reducible apply State.fetch_keep
    | with_reducible apply State.done_keep
    | with_reducible apply keep_ite
    | split
    | dsimp only

theorem execActivationQuiesceTimeout_good  (s : State) : Good s (execActivationQuiesceTimeout s) := by
  have hk := Keep.refl s
  unfold execActivationQuiesceTimeout
  all_goals repeat' first
    | intro _
    | with_reducible apply good_okIf
    | with_reducible apply good_okAon
    | with_reducible apply good_ok
    | with_reducible apply good_ite
    | with_reducible assumption
    | with_reducible apply State.endActivation_keep
    | with_reducible apply State.set_keep
    | with_reducible apply keep_ite
    | split
    | dsimp only

theorem execCreateIoSubmissionQueue_good (c : Cmd) (qid : Nat) (size : Nat) (cqid : Nat) (prio : Nat) (contiguous : Bool) (s : State) : Good s (execCreateIoSubmissionQueue c qid size cqid prio contiguous s) := by
  have hk := Keep.refl s
  unfold execCreateIoSubmissionQueue
  all_goals repeat' first
    | intro _
    | with_reducible apply good_okIf
    | with_reducible apply good_okAon
    | with_reducible apply good_ok
    | with_reducible apply good_ite
    | with_reducible assumption
    | with_reducible apply State.admin_good
    | with_reducible apply State.done_keep
    | with_reducible apply State.showQueues_keep
    | with_reducible apply State.setCtrl_keep
    | with_reducible apply keep_ite
    | split
    | dsimp only

theorem execFormatNvm_good (c : Cmd) (nsid : Nat) (ses : Nat) (w0 : Bool) (w1 : Bool) (s : State) : Good s (execFormatNvm c nsid ses w0 w1 s) := by
  have hk := Keep.refl s
  unfold execFormatNvm
  all_goals repeat' first
    | intro _
    | with_reducible apply good_okIf
    | with_reducible apply good_okAon
    | with_reducible apply good_ok
    | with_reducible apply good_ite
    | with_reducible assumption
    | with_reducible apply State.admin_good
    | with_reducible apply State.done_keep
    | with_reducible apply State.formatNs_keep
    | with_reducible apply State.settle_keep
    | with_reducible apply State.setFlights_keep
    | with_reducible apply State.onNor_keep
    | with_reducible apply State.setNs_keep
    | refine Keep.snd (by with_reducible assumption) ?_
    | with_reducible apply keep_ite
    | with_reducible apply keep_foldl
    | with_reducible apply keep_foldl_snd
    | split
    | dsimp only

theorem execFormatDone_good  (s : State) : Good s (execFormatDone s) := by
  have hk := Keep.refl s
  unfold execFormatDone
  extract_lets x1 x2
  try clear_value x1
  refine Keep.cut (a := Keep s x2) ?_ fun kx2 => ?_
  unfold x2
  rotate_left
  clear_value x2
  all_goals repeat' first
    | intro _
    | with_reducible apply good_okIf
    | with_reducible apply good_okAon
    | with_reducible apply good_ok
    | with_reducible apply good_ite
    | with_reducible assumption
    | with_reducible apply State.onNor_keep
    | with_reducible apply State.setNs_keep
    | with_reducible apply State.raise_keep
    | with_reducible apply State.finish_keep
    | with_reducible apply keep_ite
    | with_reducible apply keep_foldl
    | split
    | dsimp only

theorem execSanitizeDone_good  (s : State) : Good s (execSanitizeDone s) := by
  have hk := Keep.refl s
  unfold execSanitizeDone
  all_goals repeat' first
    | intro _
    | with_reducible apply good_okIf
    | with_reducible apply good_okAon
    | with_reducible apply good_ok
    | with_reducible apply good_ite
    | with_reducible assumption
    | with_reducible apply State.resetTile_keep
    | with_reducible apply State.onNvme_keep
    | with_reducible apply State.onMason_keep
    | with_reducible apply State.raise_keep
    | with_reducible apply State.setB_keep
    | with_reducible apply State.onNor_keep
    | with_reducible apply keep_ite
    | with_reducible apply keep_foldl
    | split
    | dsimp only

end Sys2Proof.Machine
end

