-- ==== Sys2Proof/Laws/KeepRecorder.lean ====
section
/-! SUPPORT. What the operations of Machine/Recorder.lean keep. -/

namespace Sys2Proof.Machine

set_option linter.unreachableTactic false
set_option linter.unusedTactic false

theorem State.thaw_keep {r0 s : State}  (hk : Keep r0 s) :
    Keep r0 (State.thaw s) := by
  unfold State.thaw
  all_goals repeat' first
    | intro _
    | with_reducible assumption
    | with_reducible apply Io.thawRec_keep
    | with_reducible apply Io.up_keep
    | with_reducible apply keep_onIo
    | with_reducible apply keep_ite
    | with_reducible apply ioKeep_ite
    | split
    | dsimp only

theorem State.onHst_keep {r0 s : State} {f : Recorder → Recorder} (hk : Keep r0 s) :
    Keep r0 (State.onHst s f) := by
  unfold State.onHst
  all_goals repeat' first
    | intro _
    | with_reducible assumption
    | with_reducible apply Io.setHst_keep
    | with_reducible apply keep_onIo
    | with_reducible apply keep_ite
    | with_reducible apply ioKeep_ite
    | split
    | dsimp only

theorem State.sampleQty_keep {r0 s : State} {q : Nat} {v : Int} (hk : Keep r0 s) :
    Keep r0 (State.sampleQty s q v) := by
  unfold State.sampleQty
  all_goals repeat' first
    | intro _
    | with_reducible assumption
    | with_reducible apply State.set_keep
    | with_reducible apply State.onHst_keep
    | with_reducible apply keep_ite
    | split
    | dsimp only

theorem State.recorderPage_keep {r0 s : State} {reader : Nat} {ofs : Nat} (hk : Keep r0 s) :
    Keep r0 (State.recorderPage s reader ofs).2 := by
  unfold State.recorderPage
  extract_lets x1
  refine Keep.cut (a := Keep r0 x1) ?_ fun kx1 => ?_
  unfold x1
  rotate_left
  clear_value x1
  all_goals repeat' first
    | intro _
    | with_reducible assumption
    | with_reducible apply State.snapshot_keep
    | with_reducible apply keep_ite
    | split
    | dsimp only

theorem State.readLog_keep {r0 s : State} {reader : Nat} {ctl : Nat} {lid : Nat} {nsid : Nat} {ofs : Nat} {len : Nat} {rae : Bool} (hk : Keep r0 s) :
    Keep r0 (State.readLog s reader ctl lid nsid ofs len rae).2 := by
  unfold State.readLog
  extract_lets x1
  refine Keep.cut (a := Keep r0 (x1).2) ?_ fun kx1 => ?_
  unfold x1
  rotate_left
  clear_value x1
  all_goals repeat' first
    | intro _
    | with_reducible assumption
    | with_reducible apply State.recorderPage_keep
    | with_reducible apply State.afterLog_keep
    | refine Keep.snd (by with_reducible assumption) ?_
    | with_reducible apply keep_ite
    | split
    | dsimp only

theorem execOperatingHourTick_good  (s : State) : Good s (execOperatingHourTick s) := by
  have hk := Keep.refl s
  unfold execOperatingHourTick
  extract_lets x1 x2
  try clear_value x2
  refine Keep.cut (a := Keep s x1) ?_ fun kx1 => ?_
  unfold x1
  rotate_left
  clear_value x1
  all_goals repeat' first
    | intro _
    | with_reducible apply good_okIf
    | with_reducible apply good_okAon
    | with_reducible apply good_ok
    | with_reducible apply good_ite
    | with_reducible assumption
    | with_reducible apply State.onHst_keep
    | with_reducible apply State.set_keep
    | with_reducible apply keep_ite
    | split
    | dsimp only

theorem State.saveRecords_keep {r0 s : State} {w0 : Bool} {w1 : Bool} (hk : Keep r0 s) :
    Keep r0 (State.saveRecords s w0 w1) := by
  unfold State.saveRecords
  extract_lets x1
  refine Keep.cut (a := Keep r0 x1) ?_ fun kx1 => ?_
  unfold x1
  rotate_left
  clear_value x1
  all_goals repeat' first
    | intro _
    | with_reducible assumption
    | with_reducible apply State.onHst_keep
    | with_reducible apply State.raise_keep
    | with_reducible apply keep_ite
    | split
    | dsimp only

theorem State.record_keep {r0 s : State} {kind : Nat} {ctx : Nat} (hk : Keep r0 s) :
    Keep r0 (State.record s kind ctx) := by
  unfold State.record
  all_goals repeat' first
    | intro _
    | with_reducible assumption
    | with_reducible apply Io.makeRec_keep
    | with_reducible apply Io.up_keep
    | with_reducible apply keep_onIo
    | with_reducible apply keep_ite
    | with_reducible apply ioKeep_ite
    | split
    | dsimp only

theorem State.clearRecorder_keep {r0 s : State} {tok : List Nat} (hk : Keep r0 s) :
    Keep r0 (State.clearRecorder s tok) := by
  unfold State.clearRecorder
  extract_lets x1 x2 x3
  refine Keep.cut (a := Keep r0 x1) ?_ fun kx1 => ?_
  unfold x1
  rotate_left
  clear_value x1
  refine Keep.cut (a := Keep r0 x2) ?_ fun kx2 => ?_
  unfold x2
  rotate_left
  clear_value x2
  refine Keep.cut (a := Keep r0 x3) ?_ fun kx3 => ?_
  unfold x3
  rotate_left
  clear_value x3
  all_goals repeat' first
    | intro _
    | with_reducible assumption
    | with_reducible apply State.setB_keep
    | with_reducible apply State.onHst_keep
    | with_reducible apply State.set_keep
    | with_reducible apply State.raise_keep
    | with_reducible apply State.record_keep
    | with_reducible apply keep_ite
    | with_reducible apply keep_foldl
    | split
    | dsimp only

theorem execRecordNorWrite_good (w0 : Bool) (w1 : Bool) (s : State) : Good s (execRecordNorWrite w0 w1 s) := by
  have hk := Keep.refl s
  unfold execRecordNorWrite
  all_goals repeat' first
    | intro _
    | with_reducible apply good_okIf
    | with_reducible apply good_okAon
    | with_reducible apply good_ok
    | with_reducible apply good_ite
    | with_reducible assumption
    | with_reducible apply State.saveRecords_keep
    | with_reducible apply keep_ite
    | split
    | dsimp only

theorem execRecordRead_good (acc : Accessor) (s : State) : Good s (execRecordRead acc s) := by
  have hk := Keep.refl s
  unfold execRecordRead
  extract_lets x1 x2
  try clear_value x1
  try clear_value x2
  all_goals repeat' first
    | intro _
    | with_reducible apply good_okIf
    | with_reducible apply good_okAon
    | with_reducible apply good_ok
    | with_reducible apply good_ite
    | with_reducible assumption
    | with_reducible apply State.gave_keep
    | with_reducible apply keep_onIo
    | with_reducible apply keep_ite
    | with_reducible apply ioKeep_ite
    | split
    | with_reducible apply IoKeep.mk'
    | dsimp only

theorem State.freeze_keep {r0 s : State}  (hk : Keep r0 s) :
    Keep r0 (State.freeze s) := by
  unfold State.freeze
  all_goals repeat' first
    | intro _
    | with_reducible assumption
    | with_reducible apply Io.freezeRec_keep
    | with_reducible apply Io.up_keep
    | with_reducible apply keep_onIo
    | with_reducible apply keep_ite
    | with_reducible apply ioKeep_ite
    | split
    | dsimp only

theorem execGetLogPage_good (c : Cmd) (lid : Nat) (nsid : Nat) (ofs : Nat) (len : Nat) (rae : Bool) (s : State) : Good s (execGetLogPage c lid nsid ofs len rae s) := by
  have hk := Keep.refl s
  unfold execGetLogPage
  all_goals repeat' first
    | intro _
    | with_reducible apply good_okIf
    | with_reducible apply good_okAon
    | with_reducible apply good_ok
    | with_reducible apply good_ite
    | with_reducible assumption
    | with_reducible apply State.admin_good
    | with_reducible apply State.done_keep
    | with_reducible apply State.readLog_keep
    | with_reducible apply State.doneWith_keep
    | refine Keep.snd (by with_reducible assumption) ?_
    | with_reducible apply keep_ite
    | split
    | dsimp only

theorem execRecorderFreeze_good (acc : Accessor) (s : State) : Good s (execRecorderFreeze acc s) := by
  have hk := Keep.refl s
  unfold execRecorderFreeze
  all_goals repeat' first
    | intro _
    | with_reducible apply good_okIf
    | with_reducible apply good_okAon
    | with_reducible apply good_ok
    | with_reducible apply good_ite
    | with_reducible assumption
    | with_reducible apply State.lockedWrite_keep
    | with_reducible apply State.freeze_keep
    | with_reducible apply keep_ite
    | split
    | dsimp only

theorem execClearEventRecorder_good (c : Cmd) (tok : List Nat) (s : State) : Good s (execClearEventRecorder c tok s) := by
  have hk := Keep.refl s
  unfold execClearEventRecorder
  all_goals repeat' first
    | intro _
    | with_reducible apply good_okIf
    | with_reducible apply good_okAon
    | with_reducible apply good_ok
    | with_reducible apply good_ite
    | with_reducible assumption
    | with_reducible apply State.admin_good
    | with_reducible apply State.tokenShown_keep
    | with_reducible apply State.done_keep
    | with_reducible apply State.clearRecorder_keep
    | with_reducible apply keep_ite
    | split
    | dsimp only

theorem execQuantitySample_good (minute : List (Nat × Int)) (s : State) : Good s (execQuantitySample minute s) := by
  have hk := Keep.refl s
  unfold execQuantitySample
  all_goals repeat' first
    | intro _
    | with_reducible apply good_okIf
    | with_reducible apply good_okAon
    | with_reducible apply good_ok
    | with_reducible apply good_ite
    | with_reducible assumption
    | with_reducible apply State.sampleQty_keep
    | with_reducible apply keep_ite
    | with_reducible apply keep_foldl
    | split
    | dsimp only

theorem execRecorderThaw_good (acc : Accessor) (s : State) : Good s (execRecorderThaw acc s) := by
  have hk := Keep.refl s
  unfold execRecorderThaw
  all_goals repeat' first
    | intro _
    | with_reducible apply good_okIf
    | with_reducible apply good_okAon
    | with_reducible apply good_ok
    | with_reducible apply good_ite
    | with_reducible assumption
    | with_reducible apply State.lockedWrite_keep
    | with_reducible apply State.thaw_keep
    | with_reducible apply keep_ite
    | split
    | dsimp only

end Sys2Proof.Machine
end

