-- ==== Sys2Proof/Laws/KeepPwrOps.lean ====
section
/-! SUPPORT. What the operations of Machine/PwrOps.lean keep. -/

namespace Sys2Proof.Machine

set_option linter.unreachableTactic false
set_option linter.unusedTactic false

theorem State.shutDone_keep {r0 s : State} {dur : Nat} {vend : Nat} (hk : Keep r0 s) :
    Keep r0 (State.shutDone s dur vend) := by
  unfold State.shutDone
  extract_lets x1 x2
  refine Keep.cut (a := Keep r0 x1) ?_ fun kx1 => ?_
  unfold x1
  rotate_left
  clear_value x1
  refine Keep.cut (a := Keep r0 x2) ?_ fun kx2 => ?_
  unfold x2
  rotate_left
  clear_value x2
  all_goals repeat' first
    | intro _
    | with_reducible assumption
    | with_reducible apply State.thaw_keep
    | with_reducible apply State.sampleQty_keep
    | with_reducible apply State.raise_keep
    | with_reducible apply State.onHst_keep
    | with_reducible apply State.onNor_keep
    | with_reducible apply keep_ite
    | split
    | dsimp only

theorem State.retractAll_keep {r0 s : State}  (hk : Keep r0 s) :
    Keep r0 (State.retractAll s) := by
  unfold State.retractAll
  extract_lets x1
  refine Keep.cut (a := Keep r0 x1) ?_ fun kx1 => ?_
  unfold x1
  rotate_left
  clear_value x1
  all_goals repeat' first
    | intro _
    | with_reducible assumption
    | with_reducible apply State.set_keep
    | with_reducible apply State.onRetract_keep
    | with_reducible apply State.retractLoop_keep
    | with_reducible apply keep_ite
    | with_reducible apply keep_foldl
    | split
    | dsimp only

theorem State.parkAll_keep {r0 s : State}  (hk : Keep r0 s) :
    Keep r0 (State.parkAll s) := by
  unfold State.parkAll
  extract_lets x1
  refine Keep.cut (a := Keep r0 x1) ?_ fun kx1 => ?_
  unfold x1
  rotate_left
  clear_value x1
  all_goals repeat' first
    | intro _
    | with_reducible assumption
    | with_reducible apply State.sendUnload_keep
    | with_reducible apply State.spinFree_keep
    | with_reducible apply State.retractAll_keep
    | with_reducible apply keep_ite
    | with_reducible apply keep_foldl
    | split
    | dsimp only

theorem State.persistAll_keep {r0 s : State}  (hk : Keep r0 s) :
    Keep r0 (State.persistAll s) := by
  unfold State.persistAll
  all_goals repeat' first
    | intro _
    | with_reducible assumption
    | with_reducible apply State.set_keep
    | with_reducible apply keep_ite
    | split
    | dsimp only

theorem State.destageBricks_keep {r0 s : State} {ps : List BrickPlace} (hk : Keep r0 s) :
    Keep r0 (State.destageBricks s ps) := by
  unfold State.destageBricks
  extract_lets x1 x2 x3
  try clear_value x1
  try clear_value x2
  refine Keep.cut (a := Keep r0 x3) ?_ fun kx3 => ?_
  unfold x3
  rotate_left
  clear_value x3
  all_goals repeat' first
    | intro _
    | with_reducible assumption
    | with_reducible apply State.journal_keep
    | with_reducible apply State.setCourse_keep
    | with_reducible apply State.mapBrick_keep
    | with_reducible apply State.unrecCut_keep
    | with_reducible apply State.onMason_keep
    | with_reducible apply keep_ite
    | with_reducible apply keep_foldl
    | split
    | dsimp only

theorem State.destageAll_keep {r0 s : State}  (hk : Keep r0 s) :
    Keep r0 (State.destageAll s) := by
  unfold State.destageAll
  all_goals repeat' first
    | intro _
    | with_reducible assumption
    | with_reducible apply State.destageSub_keep
    | with_reducible apply keep_ite
    | with_reducible apply keep_foldl
    | split
    | dsimp only

theorem State.endFlights_keep {r0 s : State}  (hk : Keep r0 s) :
    Keep r0 (State.endFlights s) := by
  unfold State.endFlights
  extract_lets x1 x2
  try clear_value x1
  refine Keep.cut (a := Keep r0 x2) ?_ fun kx2 => ?_
  unfold x2
  rotate_left
  clear_value x2
  all_goals repeat' first
    | intro _
    | with_reducible assumption
    | with_reducible apply State.applyFetched_keep
    | with_reducible apply State.complete_keep
    | with_reducible apply State.endStore_keep
    | with_reducible apply State.showWaiting_keep
    | with_reducible apply State.setFlights_keep
    | with_reducible apply keep_ite
    | with_reducible apply keep_foldl
    | split
    | dsimp only

theorem State.onPwr_keep {r0 s : State} {f : PwrSt → PwrSt} (hk : Keep r0 s) :
    Keep r0 (State.onPwr s f) := by
  unfold State.onPwr
  all_goals repeat' first
    | intro _
    | with_reducible assumption
    | with_reducible apply keep_ite
    | split
    | with_reducible apply Keep.mk'
    | dsimp only

theorem State.shutStop_keep {r0 s : State}  (hk : Keep r0 s) :
    Keep r0 (State.shutStop s) := by
  unfold State.shutStop
  all_goals repeat' first
    | intro _
    | with_reducible assumption
    | with_reducible apply State.endFlights_keep
    | with_reducible apply State.onPwr_keep
    | with_reducible apply State.setB_keep
    | with_reducible apply State.onNor_keep
    | with_reducible apply keep_ite
    | split
    | dsimp only

theorem State.shutdown_keep {r0 s : State} {ps : List BrickPlace} {dur : Nat} {vend : Nat} (hk : Keep r0 s) :
    Keep r0 (State.shutdown s ps dur vend) := by
  unfold State.shutdown
  all_goals repeat' first
    | intro _
    | with_reducible assumption
    | with_reducible apply State.shutDone_keep
    | with_reducible apply State.parkAll_keep
    | with_reducible apply State.persistAll_keep
    | with_reducible apply State.destageBricks_keep
    | with_reducible apply State.destageAll_keep
    | with_reducible apply State.shutStop_keep
    | with_reducible apply keep_ite
    | split
    | dsimp only

theorem State.toPhase_keep {r0 s : State} {p : Phase} (hk : Keep r0 s) :
    Keep r0 (State.toPhase s p) := by
  unfold State.toPhase
  all_goals repeat' first
    | intro _
    | with_reducible assumption
    | with_reducible apply State.onPwr_keep
    | with_reducible apply keep_ite
    | split
    | dsimp only

theorem State.onSys_keep {r0 s : State} {f : SysSt → SysSt} (hk : Keep r0 s) :
    Keep r0 (State.onSys s f) := by
  unfold State.onSys
  all_goals repeat' first
    | intro _
    | with_reducible assumption
    | with_reducible apply keep_ite
    | split
    | with_reducible apply Keep.mk'
    | dsimp only

theorem State.emergencyFlush_keep {r0 s : State} {kind : Nat} {ps : List BrickPlace} {dur : Nat} {vend : Nat} (hk : Keep r0 s) :
    Keep r0 (State.emergencyFlush s kind ps dur vend) := by
  unfold State.emergencyFlush
  extract_lets x1 x2
  refine Keep.cut (a := Keep r0 x1) ?_ fun kx1 => ?_
  unfold x1
  rotate_left
  clear_value x1
  refine Keep.cut (a := Keep r0 x2) ?_ fun kx2 => ?_
  unfold x2
  rotate_left
  clear_value x2
  all_goals repeat' first
    | intro _
    | with_reducible assumption
    | with_reducible apply State.setB_keep
    | with_reducible apply State.onNor_keep
    | with_reducible apply State.shutdown_keep
    | with_reducible apply State.toPhase_keep
    | with_reducible apply State.onSys_keep
    | with_reducible apply State.raise_keep
    | with_reducible apply keep_ite
    | split
    | dsimp only

theorem State.closeRecords_keep {r0 s : State}  (hk : Keep r0 s) :
    Keep r0 (State.closeRecords s) := by
  unfold State.closeRecords
  all_goals repeat' first
    | intro _
    | with_reducible assumption
    | with_reducible apply State.onHst_keep
    | with_reducible apply State.thaw_keep
    | with_reducible apply keep_ite
    | split
    | dsimp only

theorem State.requestReset_keep {r0 s : State} {kind : Nat} {ps : List BrickPlace} {dur : Nat} {vend : Nat} (hk : Keep r0 s) :
    Keep r0 (State.requestReset s kind ps dur vend) := by
  unfold State.requestReset
  all_goals repeat' first
    | intro _
    | with_reducible assumption
    | with_reducible apply State.emergencyFlush_keep
    | with_reducible apply State.toPhase_keep
    | with_reducible apply State.onSys_keep
    | with_reducible apply State.closeRecords_keep
    | with_reducible apply keep_ite
    | split
    | dsimp only

theorem State.moveXts_keep {r0 s : State} {c : Nat} {dest : Nat} (hk : Keep r0 s) :
    Keep r0 (State.moveXts s c dest) := by
  unfold State.moveXts
  extract_lets x1 x2
  try clear_value x1
  try clear_value x2
  all_goals repeat' first
    | intro _
    | with_reducible assumption
    | with_reducible apply State.setEngine_keep
    | with_reducible apply keep_ite
    | split
    | dsimp only

theorem State.moveJobs_keep {r0 s : State} {c : Nat} {dest : Nat} (hk : Keep r0 s) :
    Keep r0 (State.moveJobs s c dest) := by
  unfold State.moveJobs
  extract_lets x1 x2 x3 x4
  try clear_value x1
  try clear_value x2
  try clear_value x4
  refine Keep.cut (a := Keep r0 x3) ?_ fun kx3 => ?_
  unfold x3
  rotate_left
  clear_value x3
  all_goals repeat' first
    | intro _
    | with_reducible assumption
    | with_reducible apply State.setPool_keep
    | with_reducible apply State.settlePool_keep
    | with_reducible apply keep_ite
    | split
    | dsimp only

theorem State.degraded_keep {r0 s : State}  (hk : Keep r0 s) :
    Keep r0 (State.degraded s) := by
  unfold State.degraded
  all_goals repeat' first
    | intro _
    | with_reducible assumption
    | with_reducible apply State.raise_keep
    | with_reducible apply State.setB_keep
    | with_reducible apply keep_ite
    | split
    | dsimp only

theorem State.loseCluster_keep {r0 s : State} {c : Nat} {dest : Nat} (hk : Keep r0 s) :
    Keep r0 (State.loseCluster s c dest) := by
  unfold State.loseCluster
  extract_lets x1 x2 x3 x4 x5
  refine Keep.cut (a := Keep r0 x1) ?_ fun kx1 => ?_
  unfold x1
  rotate_left
  clear_value x1
  refine Keep.cut (a := Keep r0 x2) ?_ fun kx2 => ?_
  unfold x2
  rotate_left
  clear_value x2
  refine Keep.cut (a := Keep r0 x3) ?_ fun kx3 => ?_
  unfold x3
  rotate_left
  clear_value x3
  refine Keep.cut (a := Keep r0 x4) ?_ fun kx4 => ?_
  unfold x4
  rotate_left
  clear_value x4
  refine Keep.cut (a := Keep r0 x5) ?_ fun kx5 => ?_
  unfold x5
  rotate_left
  clear_value x5
  all_goals repeat' first
    | intro _
    | with_reducible assumption
    | with_reducible apply State.moveXts_keep
    | with_reducible apply State.moveJobs_keep
    | with_reducible apply State.set_keep
    | with_reducible apply State.syncRetract_keep
    | with_reducible apply State.setB_keep
    | with_reducible apply State.finishLeave_keep
    | with_reducible apply State.abandonWin_keep
    | with_reducible apply State.onSys_keep
    | with_reducible apply State.degraded_keep
    | with_reducible apply State.domainLost_keep
    | with_reducible apply State.showDomains_keep
    | with_reducible apply keep_ite
    | with_reducible apply keep_foldl
    | split
    | dsimp only

theorem State.shutdownCut_keep {r0 s : State} {ps : List BrickPlace} {jseq : Nat} (hk : Keep r0 s) :
    Keep r0 (State.shutdownCut s ps jseq) := by
  unfold State.shutdownCut
  extract_lets x1 x2
  refine Keep.cut (a := Keep r0 x1) ?_ fun kx1 => ?_
  unfold x1
  rotate_left
  clear_value x1
  refine Keep.cut (a := Keep r0 x2) ?_ fun kx2 => ?_
  unfold x2
  rotate_left
  clear_value x2
  all_goals repeat' first
    | intro _
    | with_reducible assumption
    | with_reducible apply State.destageBricks_keep
    | with_reducible apply State.destageAll_keep
    | with_reducible apply State.shutStop_keep
    | with_reducible apply State.set_keep
    | with_reducible apply State.retractAll_keep
    | with_reducible apply keep_ite
    | split
    | dsimp only

theorem State.faultHold_keep {r0 s : State}  (hk : Keep r0 s) :
    Keep r0 (State.faultHold s) := by
  unfold State.faultHold
  all_goals repeat' first
    | intro _
    | with_reducible assumption
    | with_reducible apply State.toPhase_keep
    | with_reducible apply State.onNor_keep
    | with_reducible apply State.onSys_keep
    | with_reducible apply State.retractAll_keep
    | with_reducible apply keep_ite
    | split
    | dsimp only

theorem State.showCap_keep {r0 s : State}  (hk : Keep r0 s) :
    Keep r0 (State.showCap s) := by
  unfold State.showCap
  all_goals repeat' first
    | intro _
    | with_reducible assumption
    | with_reducible apply State.set_keep
    | with_reducible apply State.raise_keep
    | with_reducible apply keep_ite
    | split
    | dsimp only

theorem State.noServo_keep {r0 s : State}  (hk : Keep r0 s) :
    Keep r0 (State.noServo s) := by
  unfold State.noServo
  extract_lets x1 x2
  refine Keep.cut (a := Keep r0 x1) ?_ fun kx1 => ?_
  unfold x1
  rotate_left
  clear_value x1
  refine Keep.cut (a := Keep r0 x2) ?_ fun kx2 => ?_
  unfold x2
  rotate_left
  clear_value x2
  all_goals repeat' first
    | intro _
    | with_reducible assumption
    | with_reducible apply State.unloadLoaded_keep
    | with_reducible apply State.syncEngine_keep
    | with_reducible apply State.set_keep
    | with_reducible apply State.onNvme_keep
    | with_reducible apply keep_ite
    | with_reducible apply keep_foldl
    | split
    | dsimp only

theorem State.actPartBack_keep {r0 s : State} {a : Nat} {lo : Nat} {hi : Nat} (hk : Keep r0 s) :
    Keep r0 (State.actPartBack s a lo hi) := by
  unfold State.actPartBack
  all_goals repeat' first
    | intro _
    | with_reducible assumption
    | with_reducible apply Io.resetRegs_keep
    | with_reducible apply keep_onIo
    | with_reducible apply keep_ite
    | with_reducible apply ioKeep_ite
    | split
    | dsimp only

theorem State.clusterBack_keep {r0 s : State} {c : Nat} (hk : Keep r0 s) :
    Keep r0 (State.clusterBack s c) := by
  unfold State.clusterBack
  extract_lets x1 x2 x3 x4
  try clear_value x1
  try clear_value x3
  try clear_value x4
  refine Keep.cut (a := Keep r0 x2) ?_ fun kx2 => ?_
  unfold x2
  rotate_left
  clear_value x2
  all_goals repeat' first
    | intro _
    | with_reducible assumption
    | with_reducible apply State.actPartBack_keep
    | with_reducible apply State.syncRetract_keep
    | with_reducible apply State.setEngine_keep
    | with_reducible apply keep_ite
    | with_reducible apply keep_foldl
    | with_reducible apply ioKeep_foldl
    | split
    | with_reducible apply Keep.mk'
    | dsimp only

theorem State.servoBack_keep {r0 s : State}  (hk : Keep r0 s) :
    Keep r0 (State.servoBack s) := by
  unfold State.servoBack
  extract_lets x1 x2
  try clear_value x1
  try clear_value x2
  all_goals repeat' first
    | intro _
    | with_reducible assumption
    | with_reducible apply State.actPartBack_keep
    | with_reducible apply keep_ite
    | with_reducible apply keep_foldl
    | with_reducible apply ioKeep_foldl
    | split
    | with_reducible apply Keep.mk'
    | dsimp only

theorem State.pagesBack_keep {r0 s : State} {d : Nat} (hk : Keep r0 s) :
    Keep r0 (State.pagesBack s d) := by
  unfold State.pagesBack
  extract_lets x1 x2 x3
  try clear_value x1
  try clear_value x2
  refine Keep.cut (a := Keep r0 x3) ?_ fun kx3 => ?_
  unfold x3
  rotate_left
  clear_value x3
  all_goals repeat' first
    | intro _
    | with_reducible assumption
    | with_reducible apply Io.syncPin_keep
    | with_reducible apply Io.up_keep
    | with_reducible apply Io.resetRegs_keep
    | with_reducible apply State.clusterBack_keep
    | with_reducible apply State.servoBack_keep
    | with_reducible apply keep_onIo
    | with_reducible apply keep_ite
    | with_reducible apply ioKeep_ite
    | with_reducible apply keep_foldl
    | with_reducible apply ioKeep_foldl
    | split
    | with_reducible apply IoKeep.mk'
    | dsimp only

theorem State.powerCut_keep {r0 s : State} {d : Nat} (hk : Keep r0 s) :
    Keep r0 (State.powerCut s d) := by
  unfold State.powerCut
  extract_lets x1 x2
  refine Keep.cut (a := Keep r0 x1) ?_ fun kx1 => ?_
  unfold x1
  rotate_left
  clear_value x1
  refine Keep.cut (a := Keep r0 x2) ?_ fun kx2 => ?_
  unfold x2
  rotate_left
  clear_value x2
  all_goals repeat' first
    | intro _
    | with_reducible assumption
    | with_reducible apply State.domainLost_keep
    | with_reducible apply State.finishLeave_keep
    | with_reducible apply State.abandonWin_keep
    | with_reducible apply State.noServo_keep
    | with_reducible apply State.pagesBack_keep
    | with_reducible apply keep_ite
    | with_reducible apply keep_foldl
    | split
    | dsimp only

theorem State.noService_keep {r0 s : State}  (hk : Keep r0 s) :
    Keep r0 (State.noService s) := by
  unfold State.noService
  all_goals repeat' first
    | intro _
    | with_reducible assumption
    | with_reducible apply State.setB_keep
    | with_reducible apply State.onSys_keep
    | with_reducible apply keep_ite
    | split
    | dsimp only

theorem State.railFails_keep {r0 s : State} {r : Nat} {dest : Nat} (hk : Keep r0 s) :
    Keep r0 (State.railFails s r dest) := by
  unfold State.railFails
  extract_lets x1 x2
  refine Keep.cut (a := Keep r0 x1) ?_ fun kx1 => ?_
  unfold x1
  rotate_left
  clear_value x1
  refine Keep.cut (a := Keep r0 x2) ?_ fun kx2 => ?_
  unfold x2
  rotate_left
  clear_value x2
  all_goals repeat' first
    | intro _
    | with_reducible assumption
    | with_reducible apply State.raise_keep
    | with_reducible apply State.set_keep
    | with_reducible apply State.showDomains_keep
    | with_reducible apply State.degraded_keep
    | with_reducible apply State.faultHold_keep
    | with_reducible apply State.domainLost_keep
    | with_reducible apply State.noService_keep
    | with_reducible apply State.noServo_keep
    | with_reducible apply State.loseCluster_keep
    | with_reducible apply keep_ite
    | with_reducible apply keep_foldl
    | split
    | dsimp only

theorem State.refused_keep {r0 s : State} {d : Nat} {pg : Nat} {timeout : Bool} (hk : Keep r0 s) :
    Keep r0 (State.refused s d pg timeout) := by
  unfold State.refused
  extract_lets x1
  try clear_value x1
  all_goals repeat' first
    | intro _
    | with_reducible assumption
    | with_reducible apply State.raise_keep
    | with_reducible apply State.bump_keep
    | with_reducible apply State.set_keep
    | with_reducible apply State.setB_keep
    | with_reducible apply State.onPwr_keep
    | with_reducible apply keep_ite
    | split
    | dsimp only

theorem State.backoffEnds_keep {r0 s : State} {d : Nat} (hk : Keep r0 s) :
    Keep r0 (State.backoffEnds s d) := by
  unfold State.backoffEnds
  extract_lets x1
  refine Keep.cut (a := Keep r0 x1) ?_ fun kx1 => ?_
  unfold x1
  rotate_left
  clear_value x1
  all_goals repeat' first
    | intro _
    | with_reducible assumption
    | with_reducible apply State.onPwr_keep
    | with_reducible apply State.set_keep
    | with_reducible apply keep_ite
    | with_reducible apply keep_foldl
    | split
    | dsimp only

theorem State.sleepLink_keep {r0 s : State} {a : Nat} (hk : Keep r0 s) :
    Keep r0 (State.sleepLink s a) := by
  unfold State.sleepLink
  extract_lets x1
  refine Keep.cut (a := Keep r0 x1) ?_ fun kx1 => ?_
  unfold x1
  rotate_left
  clear_value x1
  all_goals repeat' first
    | intro _
    | with_reducible assumption
    | with_reducible apply State.setLinkBit_keep
    | with_reducible apply State.set_keep
    | with_reducible apply State.noLink_keep
    | with_reducible apply State.settleOwner_keep
    | with_reducible apply keep_ite
    | split
    | dsimp only

theorem State.enterSleep_keep {r0 s : State} {d : Nat} (hk : Keep r0 s) :
    Keep r0 (State.enterSleep s d) := by
  unfold State.enterSleep
  extract_lets x1 x2
  refine Keep.cut (a := Keep r0 x1) ?_ fun kx1 => ?_
  unfold x1
  rotate_left
  clear_value x1
  refine Keep.cut (a := Keep r0 x2) ?_ fun kx2 => ?_
  unfold x2
  rotate_left
  clear_value x2
  all_goals repeat' first
    | intro _
    | with_reducible assumption
    | with_reducible apply State.onPwr_keep
    | with_reducible apply State.backoffEnds_keep
    | with_reducible apply State.showDomains_keep
    | with_reducible apply State.bump_keep
    | with_reducible apply State.sleepLink_keep
    | with_reducible apply State.set_keep
    | with_reducible apply keep_ite
    | with_reducible apply keep_foldl
    | split
    | dsimp only

theorem State.askSleep_keep {r0 s : State} {d : Nat} (hk : Keep r0 s) :
    Keep r0 (State.askSleep s d) := by
  unfold State.askSleep
  all_goals repeat' first
    | intro _
    | with_reducible assumption
    | with_reducible apply State.refused_keep
    | with_reducible apply State.enterSleep_keep
    | with_reducible apply keep_ite
    | split
    | dsimp only

theorem State.wake_keep {r0 s : State} {d : Nat} (hk : Keep r0 s) :
    Keep r0 (State.wake s d) := by
  unfold State.wake
  extract_lets x1
  refine Keep.cut (a := Keep r0 x1) ?_ fun kx1 => ?_
  unfold x1
  rotate_left
  clear_value x1
  all_goals repeat' first
    | intro _
    | with_reducible assumption
    | with_reducible apply State.wakeCpx_keep
    | with_reducible apply State.showDomains_keep
    | with_reducible apply State.onPwr_keep
    | with_reducible apply State.raise_keep
    | with_reducible apply State.pagesBack_keep
    | with_reducible apply State.backoffEnds_keep
    | with_reducible apply keep_ite
    | split
    | dsimp only

theorem State.rest_keep {r0 s : State} {ps : Nat} (hk : Keep r0 s) :
    Keep r0 (State.rest s ps) := by
  unfold State.rest
  extract_lets x1 x2 x3 x4 x5 x6
  try clear_value x1
  try clear_value x2
  refine Keep.cut (a := Keep r0 x3) ?_ fun kx3 => ?_
  unfold x3
  rotate_left
  clear_value x3
  refine Keep.cut (a := Keep r0 x4) ?_ fun kx4 => ?_
  unfold x4
  rotate_left
  clear_value x4
  refine Keep.cut (a := Keep r0 x5) ?_ fun kx5 => ?_
  unfold x5
  rotate_left
  clear_value x5
  refine Keep.cut (a := Keep r0 x6) ?_ fun kx6 => ?_
  unfold x6
  rotate_left
  clear_value x6
  all_goals repeat' first
    | intro _
    | with_reducible assumption
    | with_reducible apply State.unloadLoaded_keep
    | with_reducible apply State.onNvme_keep
    | with_reducible apply State.stopRun_keep
    | with_reducible apply State.spSet_keep
    | with_reducible apply State.sendCmd_keep
    | with_reducible apply State.enterSleep_keep
    | with_reducible apply keep_ite
    | with_reducible apply keep_foldl
    | split
    | dsimp only

theorem State.unrest_keep {r0 s : State}  (hk : Keep r0 s) :
    Keep r0 (State.unrest s) := by
  unfold State.unrest
  extract_lets x1 x2 x3 x4 x5
  try clear_value x1
  try clear_value x2
  refine Keep.cut (a := Keep r0 x3) ?_ fun kx3 => ?_
  unfold x3
  rotate_left
  clear_value x3
  refine Keep.cut (a := Keep r0 x4) ?_ fun kx4 => ?_
  unfold x4
  rotate_left
  clear_value x4
  refine Keep.cut (a := Keep r0 x5) ?_ fun kx5 => ?_
  unfold x5
  rotate_left
  clear_value x5
  all_goals repeat' first
    | intro _
    | with_reducible assumption
    | with_reducible apply State.wake_keep
    | with_reducible apply State.spSet_keep
    | with_reducible apply State.set_keep
    | with_reducible apply State.setB_keep
    | with_reducible apply State.startTrain_keep
    | with_reducible apply keep_ite
    | with_reducible apply keep_foldl
    | split
    | dsimp only

theorem State.toPs_keep {r0 s : State} {ps : Nat} (hk : Keep r0 s) :
    Keep r0 (State.toPs s ps) := by
  unfold State.toPs
  extract_lets x1 x2 x3
  try clear_value x1
  refine Keep.cut (a := Keep r0 x2) ?_ fun kx2 => ?_
  unfold x2
  rotate_left
  clear_value x2
  refine Keep.cut (a := Keep r0 x3) ?_ fun kx3 => ?_
  unfold x3
  rotate_left
  clear_value x3
  all_goals repeat' first
    | intro _
    | with_reducible assumption
    | with_reducible apply State.rest_keep
    | with_reducible apply State.unrest_keep
    | with_reducible apply State.onPwr_keep
    | with_reducible apply State.set_keep
    | with_reducible apply State.syncCache_keep
    | with_reducible apply State.showCap_keep
    | with_reducible apply State.raise_keep
    | with_reducible apply keep_ite
    | split
    | dsimp only

end Sys2Proof.Machine
end

