-- ==== Sys2Proof/Laws/KeepPageOps.lean ====
section
/-! SUPPORT. What the operations of Machine/PageOps.lean keep. -/

namespace Sys2Proof.Machine

set_option linter.unreachableTactic false
set_option linter.unusedTactic false

theorem State.sizeWritten_keep {r0 s : State} {old : Nat} (hk : Keep r0 s) :
    Keep r0 (State.sizeWritten s old) := by
  unfold State.sizeWritten
  extract_lets x1 x2
  try clear_value x1
  refine Keep.cut (a := Keep r0 x2) ?_ fun kx2 => ?_
  unfold x2
  rotate_left
  clear_value x2
  all_goals repeat' first
    | intro _
    | with_reducible assumption
    | with_reducible apply State.onBuf_keep
    | with_reducible apply State.set_keep
    | with_reducible apply State.syncCache_keep
    | with_reducible apply keep_ite
    | exact fun _ hb => hb
    | split
    | dsimp only

theorem State.csDataWrite_keep {r0 s : State} {acc : Accessor} {c : Nat} {i : Nat} {v : Nat} (hk : Keep r0 s) :
    Keep r0 (State.csDataWrite s acc c i v) := by
  unfold State.csDataWrite
  extract_lets x1
  try clear_value x1
  all_goals repeat' first
    | intro _
    | with_reducible assumption
    | with_reducible apply State.lockedWrite_keep
    | with_reducible apply keep_ite
    | split
    | with_reducible apply Keep.mk'
    | dsimp only

theorem State.afterWrite_keep {r0 s : State} {old : State} {acc : Accessor} {pg : Nat} {off : Nat} {v : Nat} (hk : Keep r0 s) :
    Keep r0 (State.afterWrite s old acc pg off v) := by
  unfold State.afterWrite
  extract_lets x1
  try clear_value x1
  all_goals repeat' first
    | intro _
    | with_reducible assumption
    | with_reducible apply State.showCap_keep
    | with_reducible apply State.sizeWritten_keep
    | with_reducible apply State.syncCache_keep
    | with_reducible apply Io.syncPin_keep
    | with_reducible apply Io.up_keep
    | with_reducible apply State.settlePool_keep
    | with_reducible apply State.set_keep
    | with_reducible apply State.csDataWrite_keep
    | with_reducible apply keep_onIo
    | with_reducible apply keep_ite
    | with_reducible apply ioKeep_ite
    | with_reducible apply keep_foldl
    | with_reducible apply ioKeep_foldl
    | split
    | dsimp only

theorem State.setLatch_keep {r0 s : State} {acc : Accessor} {pg : Nat} {w : Option Word} (hk : Keep r0 s) :
    Keep r0 (State.setLatch s acc pg w) := by
  unfold State.setLatch
  all_goals repeat' first
    | intro _
    | with_reducible assumption
    | with_reducible apply keep_onIo
    | with_reducible apply keep_ite
    | with_reducible apply ioKeep_ite
    | split
    | with_reducible apply IoKeep.mk'
    | dsimp only

theorem State.storeField_keep {r0 s : State} {acc : Accessor} {pg : Nat} {p : Nat} {v : Nat} {f : RF} (hk : Keep r0 s) :
    Keep r0 (State.storeField s acc pg p v f) := by
  unfold State.storeField
  extract_lets x1 x2
  try clear_value x1
  refine Keep.cut (a := Keep r0 x2) ?_ fun kx2 => ?_
  unfold x2
  rotate_left
  clear_value x2
  all_goals repeat' first
    | intro _
    | with_reducible assumption
    | with_reducible apply State.set_keep
    | with_reducible apply State.lockedWrite_keep
    | with_reducible apply State.setB_keep
    | with_reducible apply keep_ite
    | split
    | dsimp only

theorem State.writeReg_keep {r0 s : State} {acc : Accessor} {pg : Nat} {off : Nat} {v : Nat} (hk : Keep r0 s) :
    Keep r0 (State.writeReg s acc pg off v) := by
  unfold State.writeReg
  extract_lets x1
  try clear_value x1
  all_goals repeat' first
    | intro _
    | with_reducible assumption
    | with_reducible apply State.lockedWrite_keep
    | with_reducible apply State.afterWrite_keep
    | with_reducible apply State.storeField_keep
    | with_reducible apply keep_ite
    | with_reducible apply keep_foldl
    | split
    | dsimp only

theorem State.setWbuf_keep {r0 s : State} {acc : Accessor} {pg : Nat} {w : Option Word} (hk : Keep r0 s) :
    Keep r0 (State.setWbuf s acc pg w) := by
  unfold State.setWbuf
  all_goals repeat' first
    | intro _
    | with_reducible assumption
    | with_reducible apply keep_onIo
    | with_reducible apply keep_ite
    | with_reducible apply ioKeep_ite
    | split
    | with_reducible apply IoKeep.mk'
    | dsimp only

theorem State.headerWrite_keep {r0 s t : State} {acc : Accessor} {pg : Nat} (hk : Keep r0 s) (ht : Keep r0 t) :
    Keep r0 (State.headerWrite s acc pg t) := by
  unfold State.headerWrite
  repeat' first
    | intro _
    | with_reducible assumption
    | with_reducible apply State.lockedWrite_keep
    | with_reducible apply keep_ite
    | split
    | dsimp only

theorem State.dropHeld_keep {r0 s : State} {pg : Nat} (hk : Keep r0 s) :
    Keep r0 (State.dropHeld s pg) := by
  unfold State.dropHeld
  all_goals repeat' first
    | intro _
    | with_reducible assumption
    | with_reducible apply keep_onIo
    | with_reducible apply keep_ite
    | with_reducible apply ioKeep_ite
    | split
    | with_reducible apply IoKeep.mk'
    | dsimp only

theorem State.resetActPart_keep {r0 s : State} {a : Nat} {lo : Nat} {hi : Nat} {kept : List RF} (hk : Keep r0 s) :
    Keep r0 (State.resetActPart s a lo hi kept) := by
  unfold State.resetActPart
  extract_lets x1
  try clear_value x1
  all_goals repeat' first
    | intro _
    | with_reducible assumption
    | with_reducible apply Io.resetRegs_keep
    | with_reducible apply keep_onIo
    | with_reducible apply keep_ite
    | with_reducible apply ioKeep_ite
    | split
    | dsimp only

theorem State.blockReset_keep {r0 s : State} {pg : Nat} (hk : Keep r0 s) :
    Keep r0 (State.blockReset s pg) := by
  unfold State.blockReset
  extract_lets x1 x2 x3 x4 x5 x6 x7 x8 x9 x10 x11
  try clear_value x1
  try clear_value x2
  try clear_value x3
  try clear_value x4
  try clear_value x6
  try clear_value x7
  try clear_value x8
  try clear_value x10
  try clear_value x11
  refine Keep.cut (a := Keep r0 x5) ?_ fun kx5 => ?_
  unfold x5
  rotate_left
  clear_value x5
  refine Keep.cut (a := Keep r0 x9) ?_ fun kx9 => ?_
  unfold x9
  rotate_left
  clear_value x9
  all_goals repeat' first
    | intro _
    | with_reducible assumption
    | with_reducible apply State.resetActPart_keep
    | with_reducible apply State.onThr_keep
    | with_reducible apply State.toSq_keep
    | with_reducible apply State.syncFollow_keep
    | with_reducible apply State.setLoop_keep
    | with_reducible apply State.toState_keep
    | with_reducible apply State.syncEngine_keep
    | with_reducible apply State.onCh_keep
    | with_reducible apply State.toSpin_keep
    | with_reducible apply State.onSec_keep
    | with_reducible apply State.showFree_keep
    | with_reducible apply State.onHod_keep
    | with_reducible apply State.syncCache_keep
    | with_reducible apply State.syncHod_keep
    | with_reducible apply State.showChecks_keep
    | with_reducible apply Io.setHst_keep
    | with_reducible apply State.showCap_keep
    | with_reducible apply State.wake_keep
    | with_reducible apply Io.syncPin_keep
    | with_reducible apply Io.up_keep
    | with_reducible apply keep_onIo
    | with_reducible apply keep_ite
    | with_reducible apply ioKeep_ite
    | with_reducible apply keep_foldl
    | with_reducible apply ioKeep_foldl
    | exact fun _ hb => hb
    | split
    | with_reducible apply IoKeep.mk'
    | with_reducible apply Keep.mk'
    | dsimp only

theorem State.clearWins_keep {r0 s : State} {pg : Nat} (hk : Keep r0 s) :
    Keep r0 (State.clearWins s pg) := by
  unfold State.clearWins
  all_goals repeat' first
    | intro _
    | with_reducible assumption
    | with_reducible apply Io.setWin_keep
    | with_reducible apply keep_onIo
    | with_reducible apply keep_ite
    | with_reducible apply ioKeep_ite
    | with_reducible apply keep_foldl
    | with_reducible apply ioKeep_foldl
    | split
    | dsimp only

theorem State.softReset_keep {r0 s : State} {pg : Nat} (hk : Keep r0 s) :
    Keep r0 (State.softReset s pg) := by
  unfold State.softReset
  all_goals repeat' first
    | intro _
    | with_reducible assumption
    | with_reducible apply State.thaw_keep
    | with_reducible apply State.dropHeld_keep
    | with_reducible apply Io.resetRegs_keep
    | with_reducible apply State.blockReset_keep
    | with_reducible apply State.clearWins_keep
    | with_reducible apply keep_onIo
    | with_reducible apply keep_ite
    | with_reducible apply ioKeep_ite
    | split
    | dsimp only

theorem State.poolOff_keep {r0 s : State} {c : Nat} (hk : Keep r0 s) :
    Keep r0 (State.poolOff s c) := by
  unfold State.poolOff
  extract_lets x1
  try clear_value x1
  all_goals repeat' first
    | intro _
    | with_reducible assumption
    | with_reducible apply State.onMason_keep
    | with_reducible apply State.setPool_keep
    | with_reducible apply keep_ite
    | split
    | dsimp only

theorem State.blockOn_keep {r0 s : State} {pg : Nat} (hk : Keep r0 s) :
    Keep r0 (State.blockOn s pg) := by
  unfold State.blockOn
  extract_lets x1
  refine Keep.cut (a := Keep r0 x1) ?_ fun kx1 => ?_
  unfold x1
  rotate_left
  clear_value x1
  all_goals repeat' first
    | intro _
    | with_reducible assumption
    | with_reducible apply State.setB_keep
    | with_reducible apply State.syncEngine_keep
    | with_reducible apply State.set_keep
    | with_reducible apply State.syncCache_keep
    | with_reducible apply Io.syncPin_keep
    | with_reducible apply Io.up_keep
    | with_reducible apply State.settlePool_keep
    | with_reducible apply keep_onIo
    | with_reducible apply keep_ite
    | with_reducible apply ioKeep_ite
    | split
    | dsimp only

theorem State.linkOff_keep {r0 s : State} {a : Nat} (hk : Keep r0 s) :
    Keep r0 (State.linkOff s a) := by
  unfold State.linkOff
  all_goals repeat' first
    | intro _
    | with_reducible assumption
    | with_reducible apply State.leaveActive_keep
    | with_reducible apply keep_ite
    | split
    | dsimp only

theorem State.threadOff_keep {r0 s : State} {a : Nat} (hk : Keep r0 s) :
    Keep r0 (State.threadOff s a) := by
  unfold State.threadOff
  extract_lets x1
  refine Keep.cut (a := Keep r0 x1) ?_ fun kx1 => ?_
  unfold x1
  rotate_left
  clear_value x1
  all_goals repeat' first
    | intro _
    | with_reducible assumption
    | with_reducible apply State.token_keep
    | with_reducible apply State.killGates_keep
    | with_reducible apply State.toSq_keep
    | with_reducible apply keep_ite
    | split
    | dsimp only

theorem State.spindleOff_keep {r0 s : State} {n : Nat} (hk : Keep r0 s) :
    Keep r0 (State.spindleOff s n) := by
  unfold State.spindleOff
  all_goals repeat' first
    | intro _
    | with_reducible assumption
    | with_reducible apply State.stopSpin_keep
    | with_reducible apply keep_ite
    | split
    | dsimp only

theorem State.blockOff_keep {r0 s : State} {pg : Nat} (hk : Keep r0 s) :
    Keep r0 (State.blockOff s pg) := by
  unfold State.blockOff
  extract_lets x1 x2 x3
  try clear_value x2
  try clear_value x3
  refine Keep.cut (a := Keep r0 x1) ?_ fun kx1 => ?_
  unfold x1
  rotate_left
  clear_value x1
  all_goals repeat' first
    | intro _
    | with_reducible assumption
    | with_reducible apply State.setB_keep
    | with_reducible apply State.linkOff_keep
    | with_reducible apply State.abandonWin_keep
    | with_reducible apply State.poolOff_keep
    | with_reducible apply State.threadOff_keep
    | with_reducible apply State.syncEngine_keep
    | with_reducible apply State.settleEngine_keep
    | with_reducible apply State.unloadLoaded_keep
    | with_reducible apply State.set_keep
    | with_reducible apply State.spindleOff_keep
    | with_reducible apply State.hodDisable_keep
    | with_reducible apply State.syncCache_keep
    | with_reducible apply Io.syncPin_keep
    | with_reducible apply Io.up_keep
    | with_reducible apply State.wake_keep
    | with_reducible apply keep_onIo
    | with_reducible apply keep_ite
    | with_reducible apply ioKeep_ite
    | with_reducible apply keep_foldl
    | with_reducible apply ioKeep_foldl
    | split
    | dsimp only

theorem State.takeRc_keep {r0 s : State} {acc : Accessor} {pg : Nat} {off : Nat} (hk : Keep r0 s) :
    Keep r0 (State.takeRc s acc pg off) := by
  unfold State.takeRc
  extract_lets x1
  try clear_value x1
  all_goals repeat' first
    | intro _
    | with_reducible assumption
    | with_reducible apply State.set_keep
    | with_reducible apply keep_onIo
    | with_reducible apply keep_ite
    | with_reducible apply ioKeep_ite
    | with_reducible apply keep_foldl
    | with_reducible apply ioKeep_foldl
    | split
    | with_reducible apply IoKeep.mk'
    | dsimp only

theorem State.countsRead_keep {r0 s : State} {c : Nat} {f : RF} (hk : Keep r0 s) :
    Keep r0 (State.countsRead s c f) := by
  unfold State.countsRead
  all_goals repeat' first
    | intro _
    | with_reducible assumption
    | with_reducible apply State.set_keep
    | with_reducible apply keep_ite
    | with_reducible apply keep_foldl
    | split
    | dsimp only

theorem State.lastingAction_keep {r0 s : State} {pg : Nat} {src : Nat} {dest : Nat} {again : Bool} (hk : Keep r0 s) :
    Keep r0 (State.lastingAction s pg src dest again) := by
  unfold State.lastingAction
  extract_lets x1 x2 x3 x4 x5 x6
  try clear_value x1
  try clear_value x3
  try clear_value x4
  try clear_value x5
  try clear_value x6
  refine Keep.cut (a := Keep r0 x2) ?_ fun kx2 => ?_
  unfold x2
  rotate_left
  clear_value x2
  all_goals repeat' first
    | intro _
    | with_reducible assumption
    | with_reducible apply State.set_keep
    | with_reducible apply State.settlePool_keep
    | with_reducible apply State.setPool_keep
    | with_reducible apply State.loseCluster_keep
    | with_reducible apply State.leaveActive_keep
    | with_reducible apply State.countsRead_keep
    | with_reducible apply State.drainSlot_keep
    | with_reducible apply State.reloadOpen_keep
    | with_reducible apply keep_ite
    | with_reducible apply keep_foldl
    | with_reducible apply ioKeep_foldl
    | split
    | with_reducible apply Keep.mk'
    | dsimp only

theorem State.holdPage_keep {r0 s : State} {pg : Nat} (hk : Keep r0 s) :
    Keep r0 (State.holdPage s pg) := by
  unfold State.holdPage
  extract_lets x1
  try clear_value x1
  all_goals repeat' first
    | intro _
    | with_reducible assumption
    | with_reducible apply keep_onIo
    | with_reducible apply keep_ite
    | with_reducible apply ioKeep_ite
    | with_reducible apply keep_foldl
    | with_reducible apply ioKeep_foldl
    | split
    | with_reducible apply IoKeep.mk'
    | dsimp only

end Sys2Proof.Machine
end

