-- ==== Sys2Proof/Laws/KeepAperture.lean ====
section
/-! SUPPORT. What the operations of Machine/Aperture.lean keep. -/

namespace Sys2Proof.Machine

set_option linter.unreachableTactic false
set_option linter.unusedTactic false

theorem State.highWrite_keep {r0 s : State} {acc : Accessor} {pg : Nat} {off : Nat} {v : Word} (hk : Keep r0 s) :
    Keep r0 (State.highWrite s acc pg off v) := by
  unfold State.highWrite
  extract_lets x1
  try clear_value x1
  all_goals repeat' first
    | intro _
    | with_reducible assumption
    | with_reducible apply State.lockedWrite_keep
    | with_reducible apply State.writeReg_keep
    | with_reducible apply State.setWbuf_keep
    | with_reducible apply keep_ite
    | split
    | dsimp only

theorem State.highRead_keep {r0 s : State} {acc : Accessor} {pg : Nat} {off : Nat} (hk : Keep r0 s) :
    Keep r0 (State.highRead s acc pg off) := by
  unfold State.highRead
  all_goals repeat' first
    | intro _
    | with_reducible assumption
    | with_reducible apply State.gave_keep
    | with_reducible apply State.setLatch_keep
    | with_reducible apply keep_ite
    | split
    | dsimp only

theorem execSoftResetDone_good (pg : Nat) (s : State) : Good s (execSoftResetDone pg s) := by
  have hk := Keep.refl s
  unfold execSoftResetDone
  all_goals repeat' first
    | intro _
    | with_reducible apply good_okIf
    | with_reducible apply good_okAon
    | with_reducible apply good_ok
    | with_reducible apply good_ite
    | with_reducible assumption
    | with_reducible apply State.softReset_keep
    | with_reducible apply keep_ite
    | split
    | dsimp only

theorem State.writeEnable_keep {r0 s : State} {acc : Accessor} {pg : Nat} {on : Bool} (hk : Keep r0 s) :
    Keep r0 (State.writeEnable s acc pg on) := by
  unfold State.writeEnable
  all_goals repeat' first
    | intro _
    | with_reducible assumption
    | with_reducible apply State.lockedWrite_keep
    | with_reducible apply State.blockOn_keep
    | with_reducible apply State.blockOff_keep
    | with_reducible apply keep_ite
    | split
    | dsimp only

theorem execBlockDisable_good (acc : Accessor) (pg : Nat) (s : State) : Good s (execBlockDisable acc pg s) := by
  have hk := Keep.refl s
  unfold execBlockDisable
  all_goals repeat' first
    | intro _
    | with_reducible apply good_okIf
    | with_reducible apply good_okAon
    | with_reducible apply good_ok
    | with_reducible apply good_ite
    | with_reducible assumption
    | with_reducible apply State.headerWrite_keep
    | with_reducible apply State.writeEnable_keep
    | with_reducible apply keep_ite
    | split
    | dsimp only

theorem execSoftReset_good (acc : Accessor) (pg : Nat) (enable : Bool) (s : State) : Good s (execSoftReset acc pg enable s) := by
  have hk := Keep.refl s
  unfold execSoftReset
  extract_lets x1
  refine Keep.cut (a := Keep s x1) ?_ fun kx1 => ?_
  unfold x1
  rotate_left
  clear_value x1
  all_goals repeat' first
    | intro _
    | with_reducible apply good_okIf
    | with_reducible apply good_okAon
    | with_reducible apply good_ok
    | with_reducible apply good_ite
    | with_reducible assumption
    | with_reducible apply State.headerWrite_keep
    | with_reducible apply State.writeEnable_keep
    | with_reducible apply State.setB_keep
    | with_reducible apply keep_ite
    | split
    | dsimp only

theorem State.lowRead_keep {r0 s : State} {acc : Accessor} {pg : Nat} {off : Nat} (hk : Keep r0 s) :
    Keep r0 (State.lowRead s acc pg off) := by
  unfold State.lowRead
  extract_lets x1
  try clear_value x1
  all_goals repeat' first
    | intro _
    | with_reducible assumption
    | with_reducible apply State.gave_keep
    | with_reducible apply State.setLatch_keep
    | with_reducible apply State.takeRc_keep
    | with_reducible apply keep_ite
    | split
    | dsimp only

theorem State.readReg_keep {r0 s : State} {acc : Accessor} {pg : Nat} {off : Nat} (hk : Keep r0 s) :
    Keep r0 (State.readReg s acc pg off) := by
  unfold State.readReg
  all_goals repeat' first
    | intro _
    | with_reducible assumption
    | with_reducible apply State.gave_keep
    | with_reducible apply State.takeRc_keep
    | with_reducible apply keep_ite
    | split
    | dsimp only

theorem execRcRegisterRead_good (acc : Accessor) (addr : Nat) (s : State) : Good s (execRcRegisterRead acc addr s) := by
  have hk := Keep.refl s
  unfold execRcRegisterRead
  extract_lets x1 x2
  try clear_value x1
  try clear_value x2
  all_goals repeat' first
    | intro _
    | with_reducible apply good_okIf
    | with_reducible apply good_okAon
    | with_reducible apply good_ok
    | with_reducible apply good_ite
    | with_reducible assumption
    | with_reducible apply State.lowRead_keep
    | with_reducible apply State.highRead_keep
    | with_reducible apply State.readReg_keep
    | with_reducible apply keep_ite
    | split
    | dsimp only

theorem execLastingAction_good (pg : Nat) (src : Nat) (dest : Nat) (again : Bool) (s : State) : Good s (execLastingAction pg src dest again s) := by
  have hk := Keep.refl s
  unfold execLastingAction
  all_goals repeat' first
    | intro _
    | with_reducible apply good_okIf
    | with_reducible apply good_okAon
    | with_reducible apply good_ok
    | with_reducible apply good_ite
    | with_reducible assumption
    | with_reducible apply State.lastingAction_keep
    | with_reducible apply keep_ite
    | split
    | dsimp only

theorem execErrInjCont_good (acc : Accessor) (pg : Nat) (src : Nat) (s : State) : Good s (execErrInjCont acc pg src s) := by
  have hk := Keep.refl s
  unfold execErrInjCont
  all_goals repeat' first
    | intro _
    | with_reducible apply good_okIf
    | with_reducible apply good_okAon
    | with_reducible apply good_ok
    | with_reducible apply good_ite
    | with_reducible assumption
    | with_reducible apply State.headerWrite_keep
    | with_reducible apply State.setB_keep
    | with_reducible apply State.set_keep
    | with_reducible apply keep_ite
    | split
    | dsimp only

theorem State.resignal_keep {r0 s : State} {pg : Nat} (hk : Keep r0 s) :
    Keep r0 (State.resignal s pg) := by
  unfold State.resignal
  all_goals repeat' first
    | intro _
    | with_reducible assumption
    | with_reducible apply Io.syncPin_keep
    | with_reducible apply Io.up_keep
    | with_reducible apply Io.sendMsix_keep
    | with_reducible apply keep_onIo
    | with_reducible apply keep_ite
    | with_reducible apply ioKeep_ite
    | split
    | dsimp only

theorem execWinCfgSelect_good (acc : Accessor) (pg : Nat) (value : Word) (s : State) : Good s (execWinCfgSelect acc pg value s) := by
  have hk := Keep.refl s
  unfold execWinCfgSelect
  all_goals repeat' first
    | intro _
    | with_reducible apply good_okIf
    | with_reducible apply good_okAon
    | with_reducible apply good_ok
    | with_reducible apply good_ite
    | with_reducible assumption
    | with_reducible apply State.headerWrite_keep
    | with_reducible apply State.set_keep
    | with_reducible apply keep_ite
    | split
    | dsimp only

theorem execWinCfgStore_good (acc : Accessor) (pg : Nat) (value : Word) (s : State) : Good s (execWinCfgStore acc pg value s) := by
  have hk := Keep.refl s
  unfold execWinCfgStore
  extract_lets x1 x2
  try clear_value x1
  refine Keep.cut (a := Keep s x2) ?_ fun kx2 => ?_
  unfold x2
  rotate_left
  clear_value x2
  all_goals repeat' first
    | intro _
    | with_reducible apply good_okIf
    | with_reducible apply good_okAon
    | with_reducible apply good_ok
    | with_reducible apply good_ite
    | with_reducible assumption
    | with_reducible apply State.set_keep
    | with_reducible apply State.headerWrite_keep
    | with_reducible apply State.lockedWrite_keep
    | with_reducible apply Io.setWin_keep
    | with_reducible apply keep_onIo
    | with_reducible apply keep_ite
    | with_reducible apply ioKeep_ite
    | split
    | dsimp only

theorem execBlockEnable_good (acc : Accessor) (pg : Nat) (s : State) : Good s (execBlockEnable acc pg s) := by
  have hk := Keep.refl s
  unfold execBlockEnable
  all_goals repeat' first
    | intro _
    | with_reducible apply good_okIf
    | with_reducible apply good_okAon
    | with_reducible apply good_ok
    | with_reducible apply good_ite
    | with_reducible assumption
    | with_reducible apply State.headerWrite_keep
    | with_reducible apply State.writeEnable_keep
    | with_reducible apply keep_ite
    | split
    | dsimp only

theorem State.lowWrite_keep {r0 s : State} {acc : Accessor} {pg : Nat} {off : Nat} {v : Word} (hk : Keep r0 s) :
    Keep r0 (State.lowWrite s acc pg off v) := by
  unfold State.lowWrite
  all_goals repeat' first
    | intro _
    | with_reducible assumption
    | with_reducible apply State.lockedWrite_keep
    | with_reducible apply State.setWbuf_keep
    | with_reducible apply keep_ite
    | split
    | dsimp only

theorem execPageFreeze_good (acc : Accessor) (pg : Nat) (s : State) : Good s (execPageFreeze acc pg s) := by
  have hk := Keep.refl s
  unfold execPageFreeze
  all_goals repeat' first
    | intro _
    | with_reducible apply good_okIf
    | with_reducible apply good_okAon
    | with_reducible apply good_ok
    | with_reducible apply good_ite
    | with_reducible assumption
    | with_reducible apply State.headerWrite_keep
    | with_reducible apply State.setB_keep
    | with_reducible apply State.holdPage_keep
    | with_reducible apply keep_ite
    | split
    | dsimp only

theorem execPageLock_good (acc : Accessor) (pg : Nat) (s : State) : Good s (execPageLock acc pg s) := by
  have hk := Keep.refl s
  unfold execPageLock
  all_goals repeat' first
    | intro _
    | with_reducible apply good_okIf
    | with_reducible apply good_okAon
    | with_reducible apply good_ok
    | with_reducible apply good_ite
    | with_reducible assumption
    | with_reducible apply State.headerWrite_keep
    | with_reducible apply State.setB_keep
    | with_reducible apply keep_ite
    | split
    | dsimp only

theorem execEvPendClear_good (acc : Accessor) (pg : Nat) (mask : Word) (s : State) : Good s (execEvPendClear acc pg mask s) := by
  have hk := Keep.refl s
  unfold execEvPendClear
  all_goals repeat' first
    | intro _
    | with_reducible apply good_okIf
    | with_reducible apply good_okAon
    | with_reducible apply good_ok
    | with_reducible apply good_ite
    | with_reducible assumption
    | with_reducible apply State.headerWrite_keep
    | with_reducible apply State.resignal_keep
    | with_reducible apply State.set_keep
    | with_reducible apply keep_ite
    | split
    | dsimp only

theorem execPageThaw_good (acc : Accessor) (pg : Nat) (s : State) : Good s (execPageThaw acc pg s) := by
  have hk := Keep.refl s
  unfold execPageThaw
  all_goals repeat' first
    | intro _
    | with_reducible apply good_okIf
    | with_reducible apply good_okAon
    | with_reducible apply good_ok
    | with_reducible apply good_ite
    | with_reducible assumption
    | with_reducible apply State.headerWrite_keep
    | with_reducible apply State.setB_keep
    | with_reducible apply State.dropHeld_keep
    | with_reducible apply keep_ite
    | split
    | dsimp only

theorem execLowWordWrite_good (acc : Accessor) (addr : Nat) (value : Word) (s : State) : Good s (execLowWordWrite acc addr value s) := by
  have hk := Keep.refl s
  unfold execLowWordWrite
  all_goals repeat' first
    | intro _
    | with_reducible apply good_okIf
    | with_reducible apply good_okAon
    | with_reducible apply good_ok
    | with_reducible apply good_ite
    | with_reducible assumption
    | with_reducible apply State.lowWrite_keep
    | with_reducible apply keep_ite
    | split
    | dsimp only

theorem execErrInjOneshot_good (acc : Accessor) (pg : Nat) (src : Nat) (s : State) : Good s (execErrInjOneshot acc pg src s) := by
  have hk := Keep.refl s
  unfold execErrInjOneshot
  all_goals repeat' first
    | intro _
    | with_reducible apply good_okIf
    | with_reducible apply good_okAon
    | with_reducible apply good_ok
    | with_reducible apply good_ite
    | with_reducible assumption
    | with_reducible apply State.headerWrite_keep
    | with_reducible apply State.setB_keep
    | with_reducible apply State.set_keep
    | with_reducible apply keep_ite
    | split
    | dsimp only

theorem execHighWordRead_good (acc : Accessor) (addr : Nat) (s : State) : Good s (execHighWordRead acc addr s) := by
  have hk := Keep.refl s
  unfold execHighWordRead
  all_goals repeat' first
    | intro _
    | with_reducible apply good_okIf
    | with_reducible apply good_okAon
    | with_reducible apply good_ok
    | with_reducible apply good_ite
    | with_reducible assumption
    | with_reducible apply State.highRead_keep
    | with_reducible apply keep_ite
    | split
    | dsimp only

theorem execEvSet_good (acc : Accessor) (pg : Nat) (mask : Word) (s : State) : Good s (execEvSet acc pg mask s) := by
  have hk := Keep.refl s
  unfold execEvSet
  all_goals repeat' first
    | intro _
    | with_reducible apply good_okIf
    | with_reducible apply good_okAon
    | with_reducible apply good_ok
    | with_reducible apply good_ite
    | with_reducible assumption
    | with_reducible apply State.headerWrite_keep
    | with_reducible apply State.raise_keep
    | with_reducible apply keep_ite
    | with_reducible apply keep_foldl
    | split
    | dsimp only

theorem execWindowLeak_good (pg : Nat) (src : Nat) (s : State) : Good s (execWindowLeak pg src s) := by
  have hk := Keep.refl s
  unfold execWindowLeak
  all_goals repeat' first
    | intro _
    | with_reducible apply good_okIf
    | with_reducible apply good_okAon
    | with_reducible apply good_ok
    | with_reducible apply good_ite
    | with_reducible assumption
    | with_reducible apply Io.setWin_keep
    | with_reducible apply keep_onIo
    | with_reducible apply keep_ite
    | with_reducible apply ioKeep_ite
    | split
    | dsimp only

theorem execLowWordRead_good (acc : Accessor) (addr : Nat) (s : State) : Good s (execLowWordRead acc addr s) := by
  have hk := Keep.refl s
  unfold execLowWordRead
  all_goals repeat' first
    | intro _
    | with_reducible apply good_okIf
    | with_reducible apply good_okAon
    | with_reducible apply good_ok
    | with_reducible apply good_ite
    | with_reducible assumption
    | with_reducible apply State.lowRead_keep
    | with_reducible apply keep_ite
    | split
    | dsimp only

theorem execEvRouteWrite_good (acc : Accessor) (pg : Nat) (value : Word) (s : State) : Good s (execEvRouteWrite acc pg value s) := by
  have hk := Keep.refl s
  unfold execEvRouteWrite
  extract_lets x1 x2
  try clear_value x1
  refine Keep.cut (a := Keep s x2) ?_ fun kx2 => ?_
  unfold x2
  rotate_left
  clear_value x2
  all_goals repeat' first
    | intro _
    | with_reducible apply good_okIf
    | with_reducible apply good_okAon
    | with_reducible apply good_ok
    | with_reducible apply good_ite
    | with_reducible assumption
    | with_reducible apply State.rwl_keep
    | with_reducible apply State.set_keep
    | with_reducible apply State.headerWrite_keep
    | with_reducible apply State.resignal_keep
    | with_reducible apply keep_ite
    | split
    | dsimp only

theorem execRegisterWrite_good (acc : Accessor) (addr : Nat) (value : Word) (fullBe : Bool) (s : State) : Good s (execRegisterWrite acc addr value fullBe s) := by
  have hk := Keep.refl s
  unfold execRegisterWrite
  extract_lets x1 x2
  try clear_value x1
  try clear_value x2
  all_goals repeat' first
    | intro _
    | with_reducible apply good_okIf
    | with_reducible apply good_okAon
    | with_reducible apply good_ok
    | with_reducible apply good_ite
    | with_reducible assumption
    | with_reducible apply State.raise_keep
    | with_reducible apply State.lowWrite_keep
    | with_reducible apply State.highWrite_keep
    | with_reducible apply State.writeReg_keep
    | with_reducible apply keep_ite
    | split
    | dsimp only

theorem execEvEnWrite_good (acc : Accessor) (pg : Nat) (value : Word) (s : State) : Good s (execEvEnWrite acc pg value s) := by
  have hk := Keep.refl s
  unfold execEvEnWrite
  all_goals repeat' first
    | intro _
    | with_reducible apply good_okIf
    | with_reducible apply good_okAon
    | with_reducible apply good_ok
    | with_reducible apply good_ite
    | with_reducible assumption
    | with_reducible apply State.headerWrite_keep
    | with_reducible apply State.resignal_keep
    | with_reducible apply State.set_keep
    | with_reducible apply keep_ite
    | split
    | dsimp only

theorem execHighWordWrite_good (acc : Accessor) (addr : Nat) (value : Word) (s : State) : Good s (execHighWordWrite acc addr value s) := by
  have hk := Keep.refl s
  unfold execHighWordWrite
  all_goals repeat' first
    | intro _
    | with_reducible apply good_okIf
    | with_reducible apply good_okAon
    | with_reducible apply good_ok
    | with_reducible apply good_ite
    | with_reducible assumption
    | with_reducible apply State.highWrite_keep
    | with_reducible apply keep_ite
    | split
    | dsimp only

end Sys2Proof.Machine
end

