-- ==== Sys2Proof/Laws/KeepBuffer.lean ====
section
/-! SUPPORT. What the operations of Machine/Buffer.lean keep. -/

namespace Sys2Proof.Machine

set_option linter.unreachableTactic false
set_option linter.unusedTactic false

theorem State.unfix_keep {r0 s : State} {line : Nat} (hk : Keep r0 s) :
    Keep r0 (State.unfix s line) := by
  unfold State.unfix
  all_goals repeat' first
    | intro _
    | with_reducible assumption
    | with_reducible apply State.onBuf_keep
    | with_reducible apply keep_ite
    | exact fun _ hb => hb
    | split
    | dsimp only

theorem State.moved_keep {r0 s : State} {r : Nat} {n : Nat} (hk : Keep r0 s) :
    Keep r0 (State.moved s r n) := by
  unfold State.moved
  all_goals repeat' first
    | intro _
    | with_reducible assumption
    | with_reducible apply State.addTo_keep
    | with_reducible apply keep_ite
    | split
    | dsimp only

theorem State.rmwLine_keep {r0 s : State} {r : Nat} {addr : Nat} {bytes : List Nat} {outcome : Nat} {brick : Option Nat} (hk : Keep r0 s) :
    Keep r0 (State.rmwLine s r addr bytes outcome brick) := by
  unfold State.rmwLine
  extract_lets x1 x2 x3 x4
  try clear_value x1
  refine Keep.cut (a := Keep r0 x2) ?_ fun kx2 => ?_
  unfold x2
  rotate_left
  clear_value x2
  refine Keep.cut (a := ∀ u0, Keep r0 u0 → Keep r0 (x3 u0)) ?_ fun kx3 => ?_
  unfold x3
  rotate_left
  clear_value x3
  refine Keep.cut (a := ∀ u0, Keep r0 u0 → Keep r0 (x4 u0)) ?_ fun kx4 => ?_
  unfold x4
  rotate_left
  clear_value x4
  all_goals repeat' first
    | intro _
    | with_reducible assumption
    | with_reducible apply kx3
    | with_reducible apply kx4
    | with_reducible apply State.unfix_keep
    | with_reducible apply State.bump_keep
    | with_reducible apply State.moved_keep
    | with_reducible apply State.dramWrite_keep
    | with_reducible apply State.raise_keep
    | with_reducible apply State.setPoison_keep
    | with_reducible apply State.uncorrectable_keep
    | with_reducible apply keep_ite
    | split
    | dsimp only

theorem State.writeLine_keep {r0 s : State} {r : Nat} {addr : Nat} {bytes : List Nat} (hk : Keep r0 s) :
    Keep r0 (State.writeLine s r addr bytes) := by
  unfold State.writeLine
  extract_lets x1
  try clear_value x1
  all_goals repeat' first
    | intro _
    | with_reducible assumption
    | with_reducible apply State.cleanWrite_keep
    | with_reducible apply State.dramWrite_keep
    | with_reducible apply State.unfix_keep
    | with_reducible apply State.moved_keep
    | with_reducible apply State.rmwLine_keep
    | with_reducible apply keep_ite
    | split
    | dsimp only

theorem execDramFullWrite_good (addr : Nat) (bytes : List Nat) (s : State) : Good s (execDramFullWrite addr bytes s) := by
  have hk := Keep.refl s
  unfold execDramFullWrite
  all_goals repeat' first
    | intro _
    | with_reducible apply good_okIf
    | with_reducible apply good_okAon
    | with_reducible apply good_ok
    | with_reducible apply good_ite
    | with_reducible assumption
    | with_reducible apply State.raise_keep
    | with_reducible apply State.writeLine_keep
    | with_reducible apply keep_ite
    | split
    | dsimp only

theorem State.rgnRefuse_keep {r0 s : State} {r : Nat} (hk : Keep r0 s) :
    Keep r0 (State.rgnRefuse s r) := by
  unfold State.rgnRefuse
  all_goals repeat' first
    | intro _
    | with_reducible assumption
    | with_reducible apply State.setB_keep
    | with_reducible apply keep_ite
    | split
    | dsimp only

theorem State.wipeSpan_keep {r0 s : State} {r : Nat} (hk : Keep r0 s) : Keep r0 (State.wipeSpan s r) := by
  unfold State.wipeSpan
  exact State.onBuf_keep hk fun _ h => Tab.wf_filter (fun _ => 0#8) _ h

theorem State.rgnValidate_keep {r0 s : State} {r : Nat} (hk : Keep r0 s) :
    Keep r0 (State.rgnValidate s r) := by
  unfold State.rgnValidate
  all_goals repeat' first
    | intro _
    | with_reducible assumption
    | with_reducible apply State.raise_keep
    | with_reducible apply State.rgnRefuse_keep
    | with_reducible apply State.wipeSpan_keep
    | with_reducible apply State.setB_keep
    | with_reducible apply State.set_keep
    | with_reducible apply keep_ite
    | split
    | dsimp only

theorem execRegionValidSet_good (acc : Accessor) (r : Nat) (s : State) : Good s (execRegionValidSet acc r s) := by
  have hk := Keep.refl s
  unfold execRegionValidSet
  all_goals repeat' first
    | intro _
    | with_reducible apply good_okIf
    | with_reducible apply good_okAon
    | with_reducible apply good_ok
    | with_reducible apply good_ite
    | with_reducible assumption
    | with_reducible apply State.rwl_keep
    | with_reducible apply State.rgnValidate_keep
    | with_reducible apply keep_ite
    | split
    | dsimp only

theorem State.readLine_keep {r0 s : State} {r : Nat} {line : Nat} {outcome : Nat} {brick : Option Nat} (hk : Keep r0 s) :
    Keep r0 (State.readLine s r line outcome brick) := by
  unfold State.readLine
  extract_lets x1
  refine Keep.cut (a := Keep r0 x1) ?_ fun kx1 => ?_
  unfold x1
  rotate_left
  clear_value x1
  all_goals repeat' first
    | intro _
    | with_reducible assumption
    | with_reducible apply State.moved_keep
    | with_reducible apply State.raise_keep
    | with_reducible apply State.corrected_keep
    | with_reducible apply State.uncorrectable_keep
    | with_reducible apply keep_ite
    | split
    | dsimp only

theorem State.startCopy_keep {r0 s : State} {w : Nat} {sub : Nat} (hk : Keep r0 s) :
    Keep r0 (State.startCopy s w sub) := by
  unfold State.startCopy
  extract_lets x1
  try clear_value x1
  all_goals repeat' first
    | intro _
    | with_reducible assumption
    | with_reducible apply State.setWay_keep
    | with_reducible apply keep_ite
    | split
    | dsimp only

theorem execSubBlockFillDone_good (w : Nat) (sub : Nat) (data : List Nat) (s : State) : Good s (execSubBlockFillDone w sub data s) := by
  have hk := Keep.refl s
  unfold execSubBlockFillDone
  extract_lets x1 x2
  try clear_value x1
  refine Keep.cut (a := Keep s x2) ?_ fun kx2 => ?_
  unfold x2
  rotate_left
  clear_value x2
  all_goals repeat' first
    | intro _
    | with_reducible apply good_okIf
    | with_reducible apply good_okAon
    | with_reducible apply good_ok
    | with_reducible apply good_ite
    | with_reducible assumption
    | with_reducible apply State.putWayBrick_keep
    | with_reducible apply State.setWay_keep
    | with_reducible apply keep_ite
    | with_reducible apply keep_foldl
    | split
    | dsimp only

theorem execDramRead_good (addr : Nat) (outcome : Nat) (brick : Option Nat) (s : State) : Good s (execDramRead addr outcome brick s) := by
  have hk := Keep.refl s
  unfold execDramRead
  all_goals repeat' first
    | intro _
    | with_reducible apply good_okIf
    | with_reducible apply good_okAon
    | with_reducible apply good_ok
    | with_reducible apply good_ite
    | with_reducible assumption
    | with_reducible apply State.raise_keep
    | with_reducible apply State.readLine_keep
    | with_reducible apply keep_ite
    | split
    | dsimp only

theorem execRegionWipeDone_good (r : Nat) (s : State) : Good s (execRegionWipeDone r s) := by
  have hk := Keep.refl s
  unfold execRegionWipeDone
  all_goals repeat' first
    | intro _
    | with_reducible apply good_okIf
    | with_reducible apply good_okAon
    | with_reducible apply good_ok
    | with_reducible apply good_ite
    | with_reducible assumption
    | with_reducible apply State.setB_keep
    | with_reducible apply keep_ite
    | split
    | dsimp only

theorem execDestageStart_good (w : Nat) (sub : Nat) (s : State) : Good s (execDestageStart w sub s) := by
  have hk := Keep.refl s
  unfold execDestageStart
  all_goals repeat' first
    | intro _
    | with_reducible apply good_okIf
    | with_reducible apply good_okAon
    | with_reducible apply good_ok
    | with_reducible apply good_ite
    | with_reducible assumption
    | with_reducible apply State.startCopy_keep
    | with_reducible apply keep_ite
    | split
    | dsimp only

theorem execDramPartialWrite_good (addr : Nat) (bytes : List Nat) (outcome : Nat) (brick : Option Nat) (s : State) : Good s (execDramPartialWrite addr bytes outcome brick s) := by
  have hk := Keep.refl s
  unfold execDramPartialWrite
  all_goals repeat' first
    | intro _
    | with_reducible apply good_okIf
    | with_reducible apply good_okAon
    | with_reducible apply good_ok
    | with_reducible apply good_ite
    | with_reducible assumption
    | with_reducible apply State.raise_keep
    | with_reducible apply State.rmwLine_keep
    | with_reducible apply keep_ite
    | split
    | dsimp only

theorem execRegionValidClear_good (acc : Accessor) (r : Nat) (s : State) : Good s (execRegionValidClear acc r s) := by
  have hk := Keep.refl s
  unfold execRegionValidClear
  all_goals repeat' first
    | intro _
    | with_reducible apply good_okIf
    | with_reducible apply good_okAon
    | with_reducible apply good_ok
    | with_reducible apply good_ite
    | with_reducible assumption
    | with_reducible apply State.rwl_keep
    | with_reducible apply State.setB_keep
    | with_reducible apply State.rgnRefuse_keep
    | with_reducible apply keep_ite
    | split
    | dsimp only

theorem State.scrubNext_keep {r0 s : State} {lapMin : Nat} (hk : Keep r0 s) :
    Keep r0 (State.scrubNext s lapMin) := by
  unfold State.scrubNext
  extract_lets x1
  try clear_value x1
  all_goals repeat' first
    | intro _
    | with_reducible assumption
    | with_reducible apply State.set_keep
    | with_reducible apply State.setB_keep
    | with_reducible apply State.bump_keep
    | with_reducible apply State.onBuf_keep
    | with_reducible apply keep_ite
    | exact fun _ hb => hb
    | split
    | dsimp only

theorem State.dvNext_keep {r0 s : State}  (hk : Keep r0 s) :
    Keep r0 (State.dvNext s) := by
  unfold State.dvNext
  all_goals repeat' first
    | intro _
    | with_reducible assumption
    | with_reducible apply State.set_keep
    | with_reducible apply keep_ite
    | split
    | dsimp only

theorem execDvDataWrite_good (acc : Accessor) (value : Word) (s : State) : Good s (execDvDataWrite acc value s) := by
  have hk := Keep.refl s
  unfold execDvDataWrite
  all_goals repeat' first
    | intro _
    | with_reducible apply good_okIf
    | with_reducible apply good_okAon
    | with_reducible apply good_ok
    | with_reducible apply good_ite
    | with_reducible assumption
    | with_reducible apply State.dvNext_keep
    | with_reducible apply State.lockedWrite_keep
    | with_reducible apply State.writeLine_keep
    | with_reducible apply keep_ite
    | split
    | dsimp only

theorem execTempDerate_good (p : Nat) (code : Nat) (s : State) : Good s (execTempDerate p code s) := by
  have hk := Keep.refl s
  unfold execTempDerate
  all_goals repeat' first
    | intro _
    | with_reducible apply good_okIf
    | with_reducible apply good_okAon
    | with_reducible apply good_ok
    | with_reducible apply good_ite
    | with_reducible assumption
    | with_reducible apply State.raise_keep
    | with_reducible apply State.set_keep
    | with_reducible apply keep_ite
    | split
    | dsimp only

theorem execDestageCopyDone_good (w : Nat) (sub : Nat) (s : State) : Good s (execDestageCopyDone w sub s) := by
  have hk := Keep.refl s
  unfold execDestageCopyDone
  all_goals repeat' first
    | intro _
    | with_reducible apply good_okIf
    | with_reducible apply good_okAon
    | with_reducible apply good_ok
    | with_reducible apply good_ite
    | with_reducible assumption
    | with_reducible apply State.syncCache_keep
    | with_reducible apply State.destageSub_keep
    | with_reducible apply keep_ite
    | split
    | dsimp only

theorem execSubBlockAgeExpiry_good (w : Nat) (sub : Nat) (s : State) : Good s (execSubBlockAgeExpiry w sub s) := by
  have hk := Keep.refl s
  unfold execSubBlockAgeExpiry
  all_goals repeat' first
    | intro _
    | with_reducible apply good_okIf
    | with_reducible apply good_okAon
    | with_reducible apply good_ok
    | with_reducible apply good_ite
    | with_reducible assumption
    | with_reducible apply State.startCopy_keep
    | with_reducible apply keep_ite
    | split
    | dsimp only

theorem execScrubLine_good (outcome : Nat) (late : Bool) (lapMin : Nat) (brick : Option Nat) (s : State) : Good s (execScrubLine outcome late lapMin brick s) := by
  have hk := Keep.refl s
  unfold execScrubLine
  all_goals repeat' first
    | intro _
    | with_reducible apply good_okIf
    | with_reducible apply good_okAon
    | with_reducible apply good_ok
    | with_reducible apply good_ite
    | with_reducible assumption
    | with_reducible apply State.moved_keep
    | with_reducible apply State.unfix_keep
    | with_reducible apply State.corrected_keep
    | with_reducible apply State.uncorrectable_keep
    | with_reducible apply State.raise_keep
    | with_reducible apply State.setB_keep
    | with_reducible apply State.scrubNext_keep
    | with_reducible apply keep_ite
    | split
    | dsimp only

theorem execCacheDisableWrite_good (y0 : Accessor) (value : Bool) (s : State) : Good s (execCacheDisableWrite y0 value s) := by
  have hk := Keep.refl s
  unfold execCacheDisableWrite
  all_goals repeat' first
    | intro _
    | with_reducible apply good_okIf
    | with_reducible apply good_okAon
    | with_reducible apply good_ok
    | with_reducible apply good_ite
    | with_reducible assumption
    | with_reducible apply State.syncCache_keep
    | with_reducible apply State.setB_keep
    | with_reducible apply keep_ite
    | split
    | dsimp only

theorem execDvDataRead_good (acc : Accessor) (s : State) : Good s (execDvDataRead acc s) := by
  have hk := Keep.refl s
  unfold execDvDataRead
  all_goals repeat' first
    | intro _
    | with_reducible apply good_okIf
    | with_reducible apply good_okAon
    | with_reducible apply good_ok
    | with_reducible apply good_ite
    | with_reducible assumption
    | with_reducible apply State.dvNext_keep
    | with_reducible apply State.gave_keep
    | with_reducible apply State.lockedWrite_keep
    | with_reducible apply State.readLine_keep
    | with_reducible apply keep_ite
    | split
    | dsimp only

theorem execEvictionDone_good (w : Nat) (s : State) : Good s (execEvictionDone w s) := by
  have hk := Keep.refl s
  unfold execEvictionDone
  extract_lets x1
  try clear_value x1
  all_goals repeat' first
    | intro _
    | with_reducible apply good_okIf
    | with_reducible apply good_okAon
    | with_reducible apply good_ok
    | with_reducible apply good_ite
    | with_reducible assumption
    | with_reducible apply State.setWay_keep
    | with_reducible apply State.bumpN_keep
    | with_reducible apply keep_ite
    | split
    | dsimp only

theorem execCorrectedWriteBack_good (line : Nat) (s : State) : Good s (execCorrectedWriteBack line s) := by
  have hk := Keep.refl s
  unfold execCorrectedWriteBack
  all_goals repeat' first
    | intro _
    | with_reducible apply good_okIf
    | with_reducible apply good_okAon
    | with_reducible apply good_ok
    | with_reducible apply good_ite
    | with_reducible assumption
    | with_reducible apply State.unfix_keep
    | with_reducible apply keep_ite
    | split
    | dsimp only

end Sys2Proof.Machine
end

