-- ==== Sys2Proof/Laws/KeepCalib.lean ====
section
/-! SUPPORT. What the operations of Machine/Calib.lean keep. -/

namespace Sys2Proof.Machine

set_option linter.unreachableTactic false
set_option linter.unusedTactic false

theorem State.endCheck_keep {r0 s : State} {a : Nat} {h : Nat} (hk : Keep r0 s) :
    Keep r0 (State.endCheck s a h) := by
  unfold State.endCheck
  extract_lets x1
  try clear_value x1
  all_goals repeat' first
    | intro _
    | with_reducible assumption
    | with_reducible apply State.showChecks_keep
    | with_reducible apply State.setHeadWork_keep
    | with_reducible apply State.setTileCnt_keep
    | with_reducible apply keep_ite
    | split
    | dsimp only

theorem State.startVerify_keep {r0 s : State} {a : Nat} {h : Nat} (hk : Keep r0 s) :
    Keep r0 (State.startVerify s a h) := by
  unfold State.startVerify
  all_goals repeat' first
    | intro _
    | with_reducible assumption
    | with_reducible apply State.set_keep
    | with_reducible apply keep_ite
    | split
    | dsimp only

theorem State.startSweep_keep {r0 s : State} {a : Nat} {h : Nat} {w : HeadWork} (hk : Keep r0 s) :
    Keep r0 (State.startSweep s a h w) := by
  unfold State.startSweep
  extract_lets x1 x2 x3 x4
  try clear_value x1
  try clear_value x2
  try clear_value x3
  try clear_value x4
  all_goals repeat' first
    | intro _
    | with_reducible assumption
    | with_reducible apply State.showChecks_keep
    | with_reducible apply State.setHeadWork_keep
    | with_reducible apply keep_ite
    | split
    | dsimp only

theorem execVerifyDone_good (a : Nat) (h : Nat) (live : Nat) (s : State) : Good s (execVerifyDone a h live s) := by
  have hk := Keep.refl s
  unfold execVerifyDone
  extract_lets x1 x2 x3
  try clear_value x1
  try clear_value x2
  refine Keep.cut (a := Keep s x3) ?_ fun kx3 => ?_
  unfold x3
  rotate_left
  clear_value x3
  all_goals repeat' first
    | intro _
    | with_reducible apply good_okIf
    | with_reducible apply good_okAon
    | with_reducible apply good_ok
    | with_reducible apply good_ite
    | with_reducible assumption
    | with_reducible apply State.endCheck_keep
    | with_reducible apply State.setHeadWork_keep
    | with_reducible apply State.startVerify_keep
    | with_reducible apply State.raise_keep
    | with_reducible apply State.bump_keep
    | with_reducible apply State.startSweep_keep
    | with_reducible apply keep_ite
    | split
    | dsimp only

theorem execHoldupMeasurementStart_good  (s : State) : Good s (execHoldupMeasurementStart s) := by
  have hk := Keep.refl s
  unfold execHoldupMeasurementStart
  extract_lets x1
  try clear_value x1
  all_goals repeat' first
    | intro _
    | with_reducible apply good_okIf
    | with_reducible apply good_okAon
    | with_reducible apply good_ok
    | with_reducible apply good_ite
    | with_reducible assumption
    | with_reducible apply State.setB_keep
    | with_reducible apply keep_ite
    | split
    | with_reducible apply Keep.mk'
    | dsimp only

theorem State.disagree_keep {r0 s : State}  (hk : Keep r0 s) :
    Keep r0 (State.disagree s) := by
  unfold State.disagree
  all_goals repeat' first
    | intro _
    | with_reducible assumption
    | with_reducible apply State.raise_keep
    | with_reducible apply State.bump_keep
    | with_reducible apply keep_ite
    | split
    | dsimp only

theorem State.calVref_keep {r0 s : State} {xs : List Int} (hk : Keep r0 s) :
    Keep r0 (State.calVref s xs) := by
  unfold State.calVref
  all_goals repeat' first
    | intro _
    | with_reducible assumption
    | with_reducible apply State.setB_keep
    | with_reducible apply State.set_keep
    | with_reducible apply State.raise_keep
    | with_reducible apply State.disagree_keep
    | with_reducible apply keep_ite
    | split
    | dsimp only

theorem State.agreed_keep {r0 s : State} {d : Nat} {xs : List (List Trim)} (hk : Keep r0 s) :
    Keep r0 (State.agreed s d xs).2 := by
  unfold State.agreed
  all_goals repeat' first
    | intro _
    | with_reducible assumption
    | with_reducible apply State.disagree_keep
    | with_reducible apply keep_ite
    | with_reducible apply keep_foldl
    | with_reducible apply keep_foldl_snd
    | split
    | dsimp only

theorem State.calStart_keep {r0 s : State} {d sel : Nat} {ok : Bool → Trim → Bool} {far : Trim → Nat} {set : State → Nat → Trim → State}
    {deg : RF} {fails : State → State} {xs : List (List Trim)} (hk : Keep r0 s) (hf : ∀ t n x, Keep r0 t → Keep r0 (set t n x))
    (hg : ∀ t, Keep r0 t → Keep r0 (fails t)) : Keep r0 (State.calStart s d sel ok far set deg fails xs) := by
  unfold State.calStart
  dsimp only
  repeat' first
    | intro _
    | apply hf
    | apply hg
    | with_reducible assumption
    | with_reducible apply State.raise_keep
    | with_reducible apply State.setB_keep
    | with_reducible apply State.agreed_keep
    | with_reducible apply keep_ite
    | split
    | dsimp only

theorem State.setAdc_keep {r0 s : State} {sel : Nat} {t : Trim} (hk : Keep r0 s) :
    Keep r0 (State.setAdc s sel t) := by
  unfold State.setAdc
  all_goals repeat' first
    | intro _
    | with_reducible assumption
    | with_reducible apply State.set_keep
    | with_reducible apply keep_ite
    | split
    | dsimp only

theorem State.calService_keep {r0 s : State} {d sel : Nat} {ok : Bool → Trim → Bool} {was : Trim} {set : State → Nat → Trim → State}
    {xs : List (List Trim)} (hk : Keep r0 s) (hf : ∀ t n x, Keep r0 t → Keep r0 (set t n x)) :
    Keep r0 (State.calService s d sel ok was set xs) := by
  unfold State.calService
  dsimp only
  repeat' first
    | intro _
    | apply hf
    | with_reducible assumption
    | with_reducible apply State.raise_keep
    | with_reducible apply State.disagree_keep
    | with_reducible apply keep_ite
    | split
    | dsimp only

theorem State.setOsc_keep {r0 s : State} {sel : Nat} {t : Trim} (hk : Keep r0 s) :
    Keep r0 (State.setOsc s sel t) := by
  unfold State.setOsc
  all_goals repeat' first
    | intro _
    | with_reducible assumption
    | with_reducible apply State.set_keep
    | with_reducible apply keep_ite
    | split
    | dsimp only

theorem State.refCal_keep {r0 s : State} {start : Bool} {vref : List Int} {adc : List (List Trim)} {osc : List (List Trim)} (hk : Keep r0 s) :
    Keep r0 (State.refCal s start vref adc osc) := by
  unfold State.refCal
  extract_lets x1 x2 x3 x4 x5
  try clear_value x2
  try clear_value x3
  refine Keep.cut (a := Keep r0 x1) ?_ fun kx1 => ?_
  unfold x1
  rotate_left
  clear_value x1
  refine Keep.cut (a := Keep r0 x4) ?_ fun kx4 => ?_
  unfold x4
  rotate_left
  clear_value x4
  refine Keep.cut (a := Keep r0 x5) ?_ fun kx5 => ?_
  unfold x5
  rotate_left
  clear_value x5
  all_goals repeat' first
    | intro _
    | with_reducible assumption
    | with_reducible apply State.calVref_keep
    | with_reducible apply State.calStart_keep
    | with_reducible apply State.setAdc_keep
    | with_reducible apply State.setB_keep
    | with_reducible apply State.calService_keep
    | with_reducible apply State.setOsc_keep
    | with_reducible apply State.raise_keep
    | with_reducible apply keep_id
    | with_reducible apply keep_ite
    | split
    | dsimp only

theorem execReferenceCalibration_good (start : Bool) (vref : List Int) (adc : List (List (Int × Int))) (osc : List (List (Int × Int))) (s : State) : Good s (execReferenceCalibration start vref adc osc s) := by
  have hk := Keep.refl s
  unfold execReferenceCalibration
  all_goals repeat' first
    | intro _
    | with_reducible apply good_okIf
    | with_reducible apply good_okAon
    | with_reducible apply good_ok
    | with_reducible apply good_ite
    | with_reducible assumption
    | with_reducible apply State.refCal_keep
    | with_reducible apply keep_ite
    | split
    | dsimp only

theorem State.failRecal_keep {r0 s : State} {a : Nat} {h : Nat} (hk : Keep r0 s) :
    Keep r0 (State.failRecal s a h) := by
  unfold State.failRecal
  extract_lets x1 x2 x3 x4 x5 x6
  try clear_value x1
  try clear_value x2
  try clear_value x3
  try clear_value x4
  try clear_value x6
  refine Keep.cut (a := Keep r0 x5) ?_ fun kx5 => ?_
  unfold x5
  rotate_left
  clear_value x5
  all_goals repeat' first
    | intro _
    | with_reducible assumption
    | with_reducible apply State.raise_keep
    | with_reducible apply State.bump_keep
    | with_reducible apply State.showChecks_keep
    | with_reducible apply State.setHeadWork_keep
    | with_reducible apply State.disagree_keep
    | with_reducible apply State.loseHead_keep
    | with_reducible apply State.setHeadRec_keep
    | with_reducible apply keep_ite
    | split
    | dsimp only

theorem State.acceptRecal_keep {r0 s : State} {a : Nat} {h : Nat} {r : HeadRec} {full : Bool} (hk : Keep r0 s) :
    Keep r0 (State.acceptRecal s a h r full) := by
  unfold State.acceptRecal
  extract_lets x1 x2 x3
  try clear_value x1
  refine Keep.cut (a := Keep r0 x2) ?_ fun kx2 => ?_
  unfold x2
  rotate_left
  clear_value x2
  refine Keep.cut (a := Keep r0 x3) ?_ fun kx3 => ?_
  unfold x3
  rotate_left
  clear_value x3
  all_goals repeat' first
    | intro _
    | with_reducible assumption
    | with_reducible apply State.showChecks_keep
    | with_reducible apply State.setHeadWork_keep
    | with_reducible apply State.setHeadRec_keep
    | with_reducible apply State.bump_keep
    | with_reducible apply State.raise_keep
    | with_reducible apply keep_ite
    | split
    | dsimp only

theorem execRecalibrationSweepDone_good (a : Nat) (h : Nat) (qs : List Nat) (reps : List Nat) (rise : Nat) (duty : Nat) (full : List Nat) (s : State) : Good s (execRecalibrationSweepDone a h qs reps rise duty full s) := by
  have hk := Keep.refl s
  unfold execRecalibrationSweepDone
  extract_lets x1 x2
  try clear_value x1
  try clear_value x2
  all_goals repeat' first
    | intro _
    | with_reducible apply good_okIf
    | with_reducible apply good_okAon
    | with_reducible apply good_ok
    | with_reducible apply good_ite
    | with_reducible assumption
    | with_reducible apply State.startSweep_keep
    | with_reducible apply State.failRecal_keep
    | with_reducible apply State.acceptRecal_keep
    | with_reducible apply State.raise_keep
    | with_reducible apply keep_ite
    | split
    | dsimp only

theorem State.sensorSel_keep {r0 s : State} {a : Nat} {id : Nat} (hk : Keep r0 s) :
    Keep r0 (State.sensorSel s a id) := by
  unfold State.sensorSel
  all_goals repeat' first
    | intro _
    | with_reducible assumption
    | with_reducible apply State.sendCmd_keep
    | with_reducible apply keep_ite
    | split
    | dsimp only

theorem State.onAsc_keep {r0 s : State} {f : AscSt → AscSt} (hk : Keep r0 s) :
    Keep r0 (State.onAsc s f) := by
  unfold State.onAsc
  all_goals repeat' first
    | intro _
    | with_reducible assumption
    | with_reducible apply keep_ite
    | split
    | with_reducible apply Keep.mk'
    | dsimp only

theorem State.huAccept_keep {r0 s : State} {p : (Nat × Nat × Bool) × Nat × Nat × Bool} (hk : Keep r0 s) :
    Keep r0 (State.huAccept s p) := by
  unfold State.huAccept
  extract_lets x1 x2 x3 x4
  try clear_value x1
  try clear_value x2
  refine Keep.cut (a := Keep r0 x3) ?_ fun kx3 => ?_
  unfold x3
  rotate_left
  clear_value x3
  refine Keep.cut (a := Keep r0 x4) ?_ fun kx4 => ?_
  unfold x4
  rotate_left
  clear_value x4
  all_goals repeat' first
    | intro _
    | with_reducible assumption
    | with_reducible apply State.set_keep
    | with_reducible apply State.setB_keep
    | with_reducible apply State.syncCache_keep
    | with_reducible apply State.raise_keep
    | with_reducible apply State.onAsc_keep
    | with_reducible apply keep_ite
    | split
    | dsimp only

theorem execHoldupMeasurementEnd_good (drawn : Nat) (v1 : Nat) (v2 : Nat) (esr : Nat) (late : Bool) (s : State) : Good s (execHoldupMeasurementEnd drawn v1 v2 esr late s) := by
  have hk := Keep.refl s
  unfold execHoldupMeasurementEnd
  extract_lets x1 x2 x3 x4 x5 x6
  try clear_value x1
  try clear_value x2
  try clear_value x3
  try clear_value x4
  try clear_value x5
  refine Keep.cut (a := Keep s x6) ?_ fun kx6 => ?_
  unfold x6
  rotate_left
  clear_value x6
  all_goals repeat' first
    | intro _
    | with_reducible apply good_okIf
    | with_reducible apply good_okAon
    | with_reducible apply good_ok
    | with_reducible apply good_ite
    | with_reducible assumption
    | with_reducible apply State.bump_keep
    | with_reducible apply State.setB_keep
    | with_reducible apply State.huAccept_keep
    | with_reducible apply State.onAsc_keep
    | with_reducible apply State.disagree_keep
    | with_reducible apply keep_ite
    | split
    | with_reducible apply Keep.mk'
    | dsimp only

theorem execQualityCheck_good (a : Nat) (h : Nat) (s : State) : Good s (execQualityCheck a h s) := by
  have hk := Keep.refl s
  unfold execQualityCheck
  extract_lets x1
  try clear_value x1
  all_goals repeat' first
    | intro _
    | with_reducible apply good_okIf
    | with_reducible apply good_okAon
    | with_reducible apply good_ok
    | with_reducible apply good_ite
    | with_reducible assumption
    | with_reducible apply State.showChecks_keep
    | with_reducible apply State.bump_keep
    | with_reducible apply State.setHeadWork_keep
    | with_reducible apply State.startVerify_keep
    | with_reducible apply keep_ite
    | split
    | dsimp only

theorem execHuAgeExpiry_good  (s : State) : Good s (execHuAgeExpiry s) := by
  have hk := Keep.refl s
  unfold execHuAgeExpiry
  extract_lets x1
  try clear_value x1
  all_goals repeat' first
    | intro _
    | with_reducible apply good_okIf
    | with_reducible apply good_okAon
    | with_reducible apply good_ok
    | with_reducible apply good_ite
    | with_reducible assumption
    | with_reducible apply State.syncCache_keep
    | with_reducible apply State.raise_keep
    | with_reducible apply State.set_keep
    | with_reducible apply State.setB_keep
    | with_reducible apply keep_ite
    | split
    | dsimp only

theorem execTempStale_good (n : Nat) (s : State) : Good s (execTempStale n s) := by
  have hk := Keep.refl s
  unfold execTempStale
  all_goals repeat' first
    | intro _
    | with_reducible apply good_okIf
    | with_reducible apply good_okAon
    | with_reducible apply good_ok
    | with_reducible apply good_ite
    | with_reducible assumption
    | with_reducible apply State.raise_keep
    | with_reducible apply keep_ite
    | split
    | dsimp only

theorem execHuGo_good (y0 : Accessor) (s : State) : Good s (execHuGo y0 s) := by
  have hk := Keep.refl s
  unfold execHuGo
  all_goals repeat' first
    | intro _
    | with_reducible apply good_okIf
    | with_reducible apply good_okAon
    | with_reducible apply good_ok
    | with_reducible apply good_ite
    | with_reducible assumption
    | with_reducible apply State.onAsc_keep
    | with_reducible apply keep_ite
    | split
    | dsimp only

theorem State.frefCal_keep {r0 s : State} {present_ : Bool} {ppm : List Int} (hk : Keep r0 s) :
    Keep r0 (State.frefCal s present_ ppm) := by
  unfold State.frefCal
  extract_lets x1
  refine Keep.cut (a := Keep r0 x1) ?_ fun kx1 => ?_
  unfold x1
  rotate_left
  clear_value x1
  all_goals repeat' first
    | intro _
    | with_reducible assumption
    | with_reducible apply State.raise_keep
    | with_reducible apply State.setB_keep
    | with_reducible apply State.set_keep
    | with_reducible apply State.disagree_keep
    | with_reducible apply keep_ite
    | split
    | dsimp only

theorem execRefGo_good (y0 : Accessor) (vref : List Int) (adc : List (List (Int × Int))) (osc : List (List (Int × Int))) (fref : Bool) (ppm : List Int) (s : State) : Good s (execRefGo y0 vref adc osc fref ppm s) := by
  have hk := Keep.refl s
  unfold execRefGo
  all_goals repeat' first
    | intro _
    | with_reducible apply good_okIf
    | with_reducible apply good_okAon
    | with_reducible apply good_ok
    | with_reducible apply good_ite
    | with_reducible assumption
    | with_reducible apply State.refCal_keep
    | with_reducible apply State.frefCal_keep
    | with_reducible apply keep_ite
    | split
    | dsimp only

theorem State.headTick_keep {r0 s : State} {k : Nat} {d : Nat} (hk : Keep r0 s) :
    Keep r0 (State.headTick s k d) := by
  unfold State.headTick
  extract_lets x1 x2 x3 x4 x5
  try clear_value x1
  try clear_value x2
  try clear_value x3
  try clear_value x4
  try clear_value x5
  all_goals repeat' first
    | intro _
    | with_reducible assumption
    | with_reducible apply keep_ite
    | split
    | with_reducible apply Keep.mk'
    | dsimp only

theorem execBiasTableMeasure_good (a : Nat) (avgs : List (List Int)) (s : State) : Good s (execBiasTableMeasure a avgs s) := by
  have hk := Keep.refl s
  unfold execBiasTableMeasure
  extract_lets x1 x2 x3 x4 x5 x6
  try clear_value x2
  try clear_value x4
  try clear_value x6
  refine Keep.cut (a := ∀ u0 u1 u2, Keep s u0 → Keep s (x1 u0 u1 u2)) ?_ fun kx1 => ?_
  unfold x1
  rotate_left
  clear_value x1
  refine Keep.cut (a := Keep s x3) ?_ fun kx3 => ?_
  unfold x3
  rotate_left
  clear_value x3
  refine Keep.cut (a := Keep s x5) ?_ fun kx5 => ?_
  unfold x5
  rotate_left
  clear_value x5
  all_goals repeat' first
    | intro _
    | with_reducible apply good_okIf
    | with_reducible apply kx1
    | with_reducible apply good_okAon
    | with_reducible apply good_ok
    | with_reducible apply good_ite
    | with_reducible assumption
    | with_reducible apply State.disagree_keep
    | with_reducible apply keep_ite
    | with_reducible apply keep_foldl
    | with_reducible apply ioKeep_foldl
    | split
    | with_reducible apply Keep.mk'
    | dsimp only

theorem State.sampleLink_keep {r0 s : State} {a : Nat} (hk : Keep r0 s) :
    Keep r0 (State.sampleLink s a) := by
  unfold State.sampleLink
  all_goals repeat' first
    | intro _
    | with_reducible assumption
    | with_reducible apply State.sensorSel_keep
    | with_reducible apply keep_ite
    | split
    | dsimp only

theorem execTempSample_good (n : Nat) (t : Int) (s : State) : Good s (execTempSample n t s) := by
  have hk := Keep.refl s
  unfold execTempSample
  extract_lets x1 x2
  try clear_value x2
  refine Keep.cut (a := Keep s x1) ?_ fun kx1 => ?_
  unfold x1
  rotate_left
  clear_value x1
  all_goals repeat' first
    | intro _
    | with_reducible apply good_okIf
    | with_reducible apply good_okAon
    | with_reducible apply good_ok
    | with_reducible apply good_ite
    | with_reducible assumption
    | with_reducible apply State.sampleLink_keep
    | with_reducible apply keep_ite
    | split
    | with_reducible apply Keep.mk'
    | dsimp only

theorem execHeadThermalTick_good (duty : List (Nat × Nat)) (s : State) : Good s (execHeadThermalTick duty s) := by
  have hk := Keep.refl s
  unfold execHeadThermalTick
  extract_lets x1
  try clear_value x1
  all_goals repeat' first
    | intro _
    | with_reducible apply good_okIf
    | with_reducible apply good_okAon
    | with_reducible apply good_ok
    | with_reducible apply good_ite
    | with_reducible assumption
    | with_reducible apply State.headTick_keep
    | with_reducible apply keep_ite
    | with_reducible apply keep_foldl
    | split
    | dsimp only

theorem execFrefMeasure_good (fref : Bool) (ppm : List Int) (s : State) : Good s (execFrefMeasure fref ppm s) := by
  have hk := Keep.refl s
  unfold execFrefMeasure
  all_goals repeat' first
    | intro _
    | with_reducible apply good_okIf
    | with_reducible apply good_okAon
    | with_reducible apply good_ok
    | with_reducible apply good_ite
    | with_reducible assumption
    | with_reducible apply State.frefCal_keep
    | with_reducible apply keep_ite
    | split
    | dsimp only

end Sys2Proof.Machine
end

