-- ==== Sys2Proof/Laws/KeepFaultOps.lean ====
section
/-! SUPPORT. What the operations of Machine/FaultOps.lean keep. -/

namespace Sys2Proof.Machine

set_option linter.unreachableTactic false
set_option linter.unusedTactic false

theorem State.loadBlobs_keep {r0 s : State} {bad : List Nat} (hk : Keep r0 s) :
    Keep r0 (State.loadBlobs s bad) := by
  unfold State.loadBlobs
  extract_lets x1
  refine Keep.cut (a := Keep r0 x1) ?_ fun kx1 => ?_
  unfold x1
  rotate_left
  clear_value x1
  all_goals repeat' first
    | intro _
    | with_reducible assumption
    | with_reducible apply State.setSlot_keep
    | with_reducible apply State.set_keep
    | with_reducible apply State.raise_keep
    | with_reducible apply State.onSys_keep
    | with_reducible apply keep_ite
    | with_reducible apply keep_foldl
    | split
    | dsimp only

theorem State.escalate_keep {r0 s : State} {set : Nat} {ps : List BrickPlace} {dur : Nat} {vend : Nat} (hk : Keep r0 s) :
    Keep r0 (State.escalate s set ps dur vend) := by
  unfold State.escalate
  all_goals repeat' first
    | intro _
    | with_reducible assumption
    | with_reducible apply State.faultHold_keep
    | with_reducible apply State.requestReset_keep
    | with_reducible apply State.raise_keep
    | with_reducible apply keep_ite
    | split
    | dsimp only

theorem State.dropMessages_keep {r0 s : State}  (hk : Keep r0 s) :
    Keep r0 (State.dropMessages s) := by
  unfold State.dropMessages
  all_goals repeat' first
    | intro _
    | with_reducible assumption
    | with_reducible apply State.keyMiss_keep
    | with_reducible apply State.setEngine_keep
    | with_reducible apply keep_ite
    | with_reducible apply keep_foldl
    | split
    | dsimp only

theorem State.restart_keep {r0 s : State} {set : Nat} {recent : Nat} {ps : List BrickPlace} {dur : Nat} {vend : Nat} (hk : Keep r0 s) :
    Keep r0 (State.restart s set recent ps dur vend) := by
  unfold State.restart
  extract_lets x1 x2
  try clear_value x1
  refine Keep.cut (a := Keep r0 x2) ?_ fun kx2 => ?_
  unfold x2
  rotate_left
  clear_value x2
  all_goals repeat' first
    | intro _
    | with_reducible assumption
    | with_reducible apply State.onSys_keep
    | with_reducible apply State.bump_keep
    | with_reducible apply State.escalate_keep
    | with_reducible apply keep_ite
    | split
    | dsimp only

theorem State.mgpFault_keep {r0 s : State} {mchk : Bool} {recent : Nat} {ps : List BrickPlace} {dur : Nat} {vend : Nat} (hk : Keep r0 s) :
    Keep r0 (State.mgpFault s mchk recent ps dur vend) := by
  unfold State.mgpFault
  extract_lets x1 x2
  refine Keep.cut (a := Keep r0 x1) ?_ fun kx1 => ?_
  unfold x1
  rotate_left
  clear_value x1
  refine Keep.cut (a := Keep r0 x2) ?_ fun kx2 => ?_
  unfold x2
  rotate_left
  clear_value x2
  all_goals repeat' first
    | intro _
    | with_reducible assumption
    | with_reducible apply State.bump_keep
    | with_reducible apply State.onSys_keep
    | with_reducible apply State.onSec_keep
    | with_reducible apply State.dropMessages_keep
    | with_reducible apply State.restart_keep
    | with_reducible apply State.set_keep
    | with_reducible apply State.setB_keep
    | with_reducible apply keep_ite
    | split
    | dsimp only

theorem State.dropFlights_keep {r0 s : State}  (hk : Keep r0 s) :
    Keep r0 (State.dropFlights s) := by
  unfold State.dropFlights
  extract_lets x1
  refine Keep.cut (a := Keep r0 x1) ?_ fun kx1 => ?_
  unfold x1
  rotate_left
  clear_value x1
  all_goals repeat' first
    | intro _
    | with_reducible assumption
    | with_reducible apply State.endStore_keep
    | with_reducible apply State.applyFetched_keep
    | with_reducible apply State.showWaiting_keep
    | with_reducible apply State.settle_keep
    | with_reducible apply State.setFlights_keep
    | with_reducible apply keep_ite
    | with_reducible apply keep_foldl
    | split
    | dsimp only

theorem State.cpxFault_keep {r0 s : State} {core : Nat} {cause : Nat} {recent : Nat} {ps : List BrickPlace} {dur : Nat} {vend : Nat} (hk : Keep r0 s) :
    Keep r0 (State.cpxFault s core cause recent ps dur vend) := by
  unfold State.cpxFault
  extract_lets x1 x2 x3 x4
  refine Keep.cut (a := Keep r0 x1) ?_ fun kx1 => ?_
  unfold x1
  rotate_left
  clear_value x1
  refine Keep.cut (a := Keep r0 x2) ?_ fun kx2 => ?_
  unfold x2
  rotate_left
  clear_value x2
  refine Keep.cut (a := Keep r0 x3) ?_ fun kx3 => ?_
  unfold x3
  rotate_left
  clear_value x3
  refine Keep.cut (a := Keep r0 x4) ?_ fun kx4 => ?_
  unfold x4
  rotate_left
  clear_value x4
  all_goals repeat' first
    | intro _
    | with_reducible assumption
    | with_reducible apply State.set_keep
    | with_reducible apply State.raise_keep
    | with_reducible apply State.bump_keep
    | with_reducible apply State.onSys_keep
    | with_reducible apply State.dropFlights_keep
    | with_reducible apply State.setB_keep
    | with_reducible apply State.restart_keep
    | with_reducible apply keep_ite
    | split
    | dsimp only

end Sys2Proof.Machine
end

