-- ==== Sys2Proof/Laws/KeepFaults.lean ====
section
/-! SUPPORT. What the operations of Machine/Faults.lean keep. -/

namespace Sys2Proof.Machine

set_option linter.unreachableTactic false
set_option linter.unusedTactic false

theorem execMgpFault_good (mchk : Bool) (recent : Nat) (places : List BrickPlace) (dur : Nat) (vend : Nat) (s : State) : Good s (execMgpFault mchk recent places dur vend s) := by
  have hk := Keep.refl s
  unfold execMgpFault
  all_goals repeat' first
    | intro _
    | with_reducible apply good_okIf
    | with_reducible apply good_okAon
    | with_reducible apply good_ok
    | with_reducible apply good_ite
    | with_reducible assumption
    | with_reducible apply State.mgpFault_keep
    | with_reducible apply keep_ite
    | split
    | dsimp only

theorem execRecStatClear_good (acc : Accessor) (mask : Nat) (s : State) : Good s (execRecStatClear acc mask s) := by
  have hk := Keep.refl s
  unfold execRecStatClear
  extract_lets x1 x2 x3 x4
  try clear_value x1
  refine Keep.cut (a := Keep s x2) ?_ fun kx2 => ?_
  unfold x2
  rotate_left
  clear_value x2
  refine Keep.cut (a := Keep s x3) ?_ fun kx3 => ?_
  unfold x3
  rotate_left
  clear_value x3
  refine Keep.cut (a := Keep s x4) ?_ fun kx4 => ?_
  unfold x4
  rotate_left
  clear_value x4
  all_goals repeat' first
    | intro _
    | with_reducible apply good_okIf
    | with_reducible apply good_okAon
    | with_reducible apply good_ok
    | with_reducible apply good_ite
    | with_reducible assumption
    | with_reducible apply State.onNor_keep
    | with_reducible apply State.set_keep
    | with_reducible apply State.setB_keep
    | with_reducible apply State.lockedWrite_keep
    | with_reducible apply keep_ite
    | split
    | dsimp only

theorem execCpxFault_good (core : Nat) (cause : Nat) (recent : Nat) (places : List BrickPlace) (dur : Nat) (vend : Nat) (s : State) : Good s (execCpxFault core cause recent places dur vend s) := by
  have hk := Keep.refl s
  unfold execCpxFault
  all_goals repeat' first
    | intro _
    | with_reducible apply good_okIf
    | with_reducible apply good_okAon
    | with_reducible apply good_ok
    | with_reducible apply good_ite
    | with_reducible assumption
    | with_reducible apply State.cpxFault_keep
    | with_reducible apply keep_ite
    | split
    | dsimp only

theorem execClockUnlockLoss_good (c : Nat) (acc : Bool) (dest : Nat) (s : State) : Good s (execClockUnlockLoss c acc dest s) := by
  have hk := Keep.refl s
  unfold execClockUnlockLoss
  extract_lets x1
  try clear_value x1
  all_goals repeat' first
    | intro _
    | with_reducible apply good_okIf
    | with_reducible apply good_okAon
    | with_reducible apply good_ok
    | with_reducible apply good_ite
    | with_reducible assumption
    | with_reducible apply State.loseCluster_keep
    | with_reducible apply State.raise_keep
    | with_reducible apply State.set_keep
    | with_reducible apply keep_ite
    | split
    | dsimp only

theorem execProcessorRestartDone_good (set : Nat) (ms : Nat) (bad : List Nat) (s : State) : Good s (execProcessorRestartDone set ms bad s) := by
  have hk := Keep.refl s
  unfold execProcessorRestartDone
  extract_lets x1 x2 x3
  refine Keep.cut (a := ∀ u0, Keep s u0 → Keep s (x1 u0)) ?_ fun kx1 => ?_
  unfold x1
  rotate_left
  clear_value x1
  refine Keep.cut (a := Keep s x2) ?_ fun kx2 => ?_
  unfold x2
  rotate_left
  clear_value x2
  refine Keep.cut (a := Keep s x3) ?_ fun kx3 => ?_
  unfold x3
  rotate_left
  clear_value x3
  all_goals repeat' first
    | intro _
    | with_reducible apply good_okIf
    | with_reducible apply kx1
    | with_reducible apply good_okAon
    | with_reducible apply good_ok
    | with_reducible apply good_ite
    | with_reducible assumption
    | with_reducible apply State.raise_keep
    | with_reducible apply State.set_keep
    | with_reducible apply State.setB_keep
    | with_reducible apply State.onSys_keep
    | with_reducible apply State.loadBlobs_keep
    | with_reducible apply keep_ite
    | split
    | dsimp only

theorem execDirtyNsClear_good (nsid : Nat) (s : State) : Good s (execDirtyNsClear nsid s) := by
  have hk := Keep.refl s
  unfold execDirtyNsClear
  extract_lets x1
  try clear_value x1
  all_goals repeat' first
    | intro _
    | with_reducible apply good_okIf
    | with_reducible apply good_okAon
    | with_reducible apply good_ok
    | with_reducible apply good_ite
    | with_reducible assumption
    | with_reducible apply State.onNor_keep
    | with_reducible apply keep_ite
    | split
    | dsimp only

theorem execRestartTimeout_good (set : Nat) (places : List BrickPlace) (dur : Nat) (vend : Nat) (s : State) : Good s (execRestartTimeout set places dur vend s) := by
  have hk := Keep.refl s
  unfold execRestartTimeout
  all_goals repeat' first
    | intro _
    | with_reducible apply good_okIf
    | with_reducible apply good_okAon
    | with_reducible apply good_ok
    | with_reducible apply good_ite
    | with_reducible assumption
    | with_reducible apply State.escalate_keep
    | with_reducible apply keep_ite
    | split
    | dsimp only

end Sys2Proof.Machine
end

