-- ==== Sys2Proof/Laws/KeepFifo.lean ====
section
/-! SUPPORT. What the operations of Machine/Fifo.lean keep. -/

namespace Sys2Proof.Machine

set_option linter.unreachableTactic false
set_option linter.unusedTactic false

theorem execFifoPop_good (acc : Accessor) (core : Nat) (s : State) : Good s (execFifoPop acc core s) := by
  have hk := Keep.refl s
  unfold execFifoPop
  extract_lets x1 x2 x3
  try clear_value x1
  try clear_value x2
  refine Keep.cut (a := ∀ u0 u1, Keep s u0 → Keep s (x3 u0 u1)) ?_ fun kx3 => ?_
  unfold x3
  rotate_left
  clear_value x3
  all_goals repeat' first
    | intro _
    | with_reducible apply good_okIf
    | with_reducible apply kx3
    | with_reducible apply good_okAon
    | with_reducible apply good_ok
    | with_reducible apply good_ite
    | with_reducible assumption
    | with_reducible apply State.gave_keep
    | with_reducible apply State.bump_keep
    | with_reducible apply State.onFifo_keep
    | with_reducible apply keep_onIo
    | with_reducible apply keep_ite
    | with_reducible apply ioKeep_ite
    | split
    | with_reducible apply IoKeep.mk'
    | dsimp only

theorem State.doorbell_keep {r0 s : State} {fifo : Nat} {cnt : RF} {slot : Nat} (hk : Keep r0 s) :
    Keep r0 (State.doorbell s fifo cnt slot) := by
  unfold State.doorbell
  all_goals repeat' first
    | intro _
    | with_reducible assumption
    | with_reducible apply State.postItem_keep
    | with_reducible apply State.onHod_keep
    | with_reducible apply State.bump_keep
    | with_reducible apply State.raise_keep
    | refine Keep.snd (by with_reducible assumption) ?_
    | with_reducible apply keep_ite
    | exact fun _ hb => hb
    | split
    | dsimp only

theorem execMbxM2cDoorbell_good (acc : Accessor) (slot : Nat) (s : State) : Good s (execMbxM2cDoorbell acc slot s) := by
  have hk := Keep.refl s
  unfold execMbxM2cDoorbell
  all_goals repeat' first
    | intro _
    | with_reducible apply good_okIf
    | with_reducible apply good_okAon
    | with_reducible apply good_ok
    | with_reducible apply good_ite
    | with_reducible assumption
    | with_reducible apply State.lockedWrite_keep
    | with_reducible apply State.doorbell_keep
    | with_reducible apply keep_ite
    | split
    | dsimp only

theorem execFifoCommit_good (acc : Accessor) (core : Nat) (s : State) : Good s (execFifoCommit acc core s) := by
  have hk := Keep.refl s
  unfold execFifoCommit
  all_goals repeat' first
    | intro _
    | with_reducible apply good_okIf
    | with_reducible apply good_okAon
    | with_reducible apply good_ok
    | with_reducible apply good_ite
    | with_reducible assumption
    | with_reducible apply State.commitItems_keep
    | with_reducible apply State.lockedWrite_keep
    | with_reducible apply keep_ite
    | split
    | dsimp only

theorem execFifoDataWrite_good (acc : Accessor) (core : Nat) (i : Nat) (value : Word) (s : State) : Good s (execFifoDataWrite acc core i value s) := by
  have hk := Keep.refl s
  unfold execFifoDataWrite
  extract_lets x1 x2 x3 x4 x5
  try clear_value x1
  try clear_value x2
  try clear_value x3
  try clear_value x4
  refine Keep.cut (a := Keep s x5) ?_ fun kx5 => ?_
  unfold x5
  rotate_left
  clear_value x5
  all_goals repeat' first
    | intro _
    | with_reducible apply good_okIf
    | with_reducible apply good_okAon
    | with_reducible apply good_ok
    | with_reducible apply good_ite
    | with_reducible assumption
    | with_reducible apply State.lockedWrite_keep
    | with_reducible apply State.postItem_keep
    | refine Keep.snd (by with_reducible assumption) ?_
    | with_reducible apply keep_onIo
    | with_reducible apply keep_ite
    | with_reducible apply ioKeep_ite
    | split
    | with_reducible apply IoKeep.mk'
    | dsimp only

theorem execFifoRewind_good (acc : Accessor) (core : Nat) (s : State) : Good s (execFifoRewind acc core s) := by
  have hk := Keep.refl s
  unfold execFifoRewind
  all_goals repeat' first
    | intro _
    | with_reducible apply good_okIf
    | with_reducible apply good_okAon
    | with_reducible apply good_ok
    | with_reducible apply good_ite
    | with_reducible assumption
    | with_reducible apply State.rewindBy_keep
    | with_reducible apply State.lockedWrite_keep
    | with_reducible apply keep_ite
    | split
    | dsimp only

theorem execFifoPost_good (n : Nat) (agent : Nat) (item : Nat) (commit : Bool) (s : State) : Good s (execFifoPost n agent item commit s) := by
  have hk := Keep.refl s
  unfold execFifoPost
  extract_lets x1
  refine Keep.cut (a := Keep s x1) ?_ fun kx1 => ?_
  unfold x1
  rotate_left
  clear_value x1
  all_goals repeat' first
    | intro _
    | with_reducible apply good_okIf
    | with_reducible apply good_okAon
    | with_reducible apply good_ok
    | with_reducible apply good_ite
    | with_reducible assumption
    | with_reducible apply State.postItem_keep
    | with_reducible apply State.commitItems_keep
    | refine Keep.snd (by with_reducible assumption) ?_
    | with_reducible apply keep_ite
    | split
    | dsimp only

theorem execClaimTimeout_good (n : Nat) (s : State) : Good s (execClaimTimeout n s) := by
  have hk := Keep.refl s
  unfold execClaimTimeout
  all_goals repeat' first
    | intro _
    | with_reducible apply good_okIf
    | with_reducible apply good_okAon
    | with_reducible apply good_ok
    | with_reducible apply good_ite
    | with_reducible assumption
    | with_reducible apply State.raise_keep
    | with_reducible apply State.rewindItems_keep
    | with_reducible apply keep_ite
    | split
    | dsimp only

theorem execExchangeLate_good (slot : Nat) (s : State) : Good s (execExchangeLate slot s) := by
  have hk := Keep.refl s
  unfold execExchangeLate
  all_goals repeat' first
    | intro _
    | with_reducible apply good_okIf
    | with_reducible apply good_okAon
    | with_reducible apply good_ok
    | with_reducible apply good_ite
    | with_reducible assumption
    | with_reducible apply State.raise_keep
    | with_reducible apply keep_ite
    | split
    | dsimp only

theorem execMbxC2mDoorbell_good (acc : Accessor) (slot : Nat) (s : State) : Good s (execMbxC2mDoorbell acc slot s) := by
  have hk := Keep.refl s
  unfold execMbxC2mDoorbell
  all_goals repeat' first
    | intro _
    | with_reducible apply good_okIf
    | with_reducible apply good_okAon
    | with_reducible apply good_ok
    | with_reducible apply good_ite
    | with_reducible assumption
    | with_reducible apply State.lockedWrite_keep
    | with_reducible apply State.doorbell_keep
    | with_reducible apply keep_ite
    | split
    | dsimp only

end Sys2Proof.Machine
end

