-- ==== Sys2Proof/Laws/KeepMedia.lean ====
section
/-! SUPPORT. What the operations of Machine/Media.lean keep. -/

namespace Sys2Proof.Machine

set_option linter.unreachableTactic false
set_option linter.unusedTactic false

theorem State.writeSys_keep {r0 s : State} {a : Nat} {i : Nat} {ok : Bool} (hk : Keep r0 s) :
    Keep r0 (State.writeSys s a i ok) := by
  unfold State.writeSys
  extract_lets x1 x2 x3 x4
  try clear_value x1
  try clear_value x2
  try clear_value x3
  try clear_value x4
  all_goals repeat' first
    | intro _
    | with_reducible assumption
    | with_reducible apply keep_ite
    | split
    | with_reducible apply Keep.mk'
    | dsimp only

theorem execSystemTileUpdate_good (a : Nat) (readBackOk : Bool) (s : State) : Good s (execSystemTileUpdate a readBackOk s) := by
  have hk := Keep.refl s
  unfold execSystemTileUpdate
  all_goals repeat' first
    | intro _
    | with_reducible apply good_okIf
    | with_reducible apply good_okAon
    | with_reducible apply good_ok
    | with_reducible apply good_ite
    | with_reducible assumption
    | with_reducible apply State.writeSys_keep
    | with_reducible apply keep_ite
    | split
    | dsimp only

theorem execWritePointerScan_good (id : Nat) (found : List Scanned) (s : State) : Good s (execWritePointerScan id found s) := by
  have hk := Keep.refl s
  unfold execWritePointerScan
  extract_lets x1 x2 x3 x4
  try clear_value x1
  try clear_value x2
  try clear_value x4
  refine Keep.cut (a := Keep s x3) ?_ fun kx3 => ?_
  unfold x3
  rotate_left
  clear_value x3
  all_goals repeat' first
    | intro _
    | with_reducible apply good_okIf
    | with_reducible apply good_okAon
    | with_reducible apply good_ok
    | with_reducible apply good_ite
    | with_reducible assumption
    | with_reducible apply State.recordVoid_keep
    | with_reducible apply State.setTile_keep
    | with_reducible apply keep_ite
    | with_reducible apply keep_foldl
    | split
    | dsimp only

theorem execTileReset_good (id : Nat) (s : State) : Good s (execTileReset id s) := by
  have hk := Keep.refl s
  unfold execTileReset
  all_goals repeat' first
    | intro _
    | with_reducible apply good_okIf
    | with_reducible apply good_okAon
    | with_reducible apply good_ok
    | with_reducible apply good_ite
    | with_reducible assumption
    | with_reducible apply State.resetTile_keep
    | with_reducible apply keep_ite
    | split
    | dsimp only

theorem execTileFirstWriteArm_good (id : Nat) (s : State) : Good s (execTileFirstWriteArm id s) := by
  have hk := Keep.refl s
  unfold execTileFirstWriteArm
  extract_lets x1
  try clear_value x1
  all_goals repeat' first
    | intro _
    | with_reducible apply good_okIf
    | with_reducible apply good_okAon
    | with_reducible apply good_ok
    | with_reducible apply good_ite
    | with_reducible assumption
    | with_reducible apply State.putTile_keep
    | with_reducible apply keep_ite
    | split
    | dsimp only

theorem State.slotBack_keep {r0 s : State} {n : Nat} (hk : Keep r0 s) :
    Keep r0 (State.slotBack s n) := by
  unfold State.slotBack
  all_goals repeat' first
    | intro _
    | with_reducible assumption
    | with_reducible apply State.takeBack_keep
    | with_reducible apply keep_ite
    | split
    | dsimp only

theorem State.takeFormat_keep {r0 s : State} {a : Nat} {f : Option Format} {d : List Defect} {cal : List (Nat × Nat)} (hk : Keep r0 s) :
    Keep r0 (State.takeFormat s a f d cal) := by
  unfold State.takeFormat
  extract_lets x1
  try clear_value x1
  all_goals repeat' first
    | intro _
    | with_reducible assumption
    | with_reducible apply State.loadCal_keep
    | with_reducible apply State.unloadLoaded_keep
    | with_reducible apply State.raise_keep
    | with_reducible apply keep_ite
    | with_reducible apply keep_foldl
    | with_reducible apply ioKeep_foldl
    | split
    | with_reducible apply Keep.mk'
    | dsimp only

theorem execTileClose_good (id : Nat) (reason : Nat) (s : State) : Good s (execTileClose id reason s) := by
  have hk := Keep.refl s
  unfold execTileClose
  extract_lets x1 x2 x3
  try clear_value x1
  refine Keep.cut (a := Keep s x2) ?_ fun kx2 => ?_
  unfold x2
  rotate_left
  clear_value x2
  refine Keep.cut (a := Keep s x3) ?_ fun kx3 => ?_
  unfold x3
  rotate_left
  clear_value x3
  all_goals repeat' first
    | intro _
    | with_reducible apply good_okIf
    | with_reducible apply good_okAon
    | with_reducible apply good_ok
    | with_reducible apply good_ite
    | with_reducible assumption
    | with_reducible apply State.setTile_keep
    | with_reducible apply State.setTileCnt_keep
    | with_reducible apply State.closeCourse_keep
    | with_reducible apply keep_ite
    | split
    | dsimp only

theorem execHdaAcceptance_good (n : Nat) (fa : Option Format) (fb : Option Format) (da : List Defect) (db : List Defect) (ca : List (Nat × Nat)) (cb : List (Nat × Nat)) (s : State) : Good s (execHdaAcceptance n fa fb da db ca cb s) := by
  have hk := Keep.refl s
  unfold execHdaAcceptance
  extract_lets x1 x2 x3 x4 x5
  try clear_value x1
  try clear_value x3
  try clear_value x4
  refine Keep.cut (a := Keep s x2) ?_ fun kx2 => ?_
  unfold x2
  rotate_left
  clear_value x2
  refine Keep.cut (a := Keep s x5) ?_ fun kx5 => ?_
  unfold x5
  rotate_left
  clear_value x5
  all_goals repeat' first
    | intro _
    | with_reducible apply good_okIf
    | with_reducible apply good_okAon
    | with_reducible apply good_ok
    | with_reducible apply good_ite
    | with_reducible assumption
    | with_reducible apply State.takeFormat_keep
    | with_reducible apply State.tryExclude_keep
    | with_reducible apply State.raise_keep
    | with_reducible apply State.toSlot_keep
    | with_reducible apply State.slotBack_keep
    | with_reducible apply State.onMason_keep
    | with_reducible apply State.renewTiles_keep
    | with_reducible apply keep_ite
    | split
    | dsimp only

end Sys2Proof.Machine
end

