-- ==== Sys2Proof/Laws/KeepNvmeCtl.lean ====
section
/-! SUPPORT. What the operations of Machine/NvmeCtl.lean keep. -/

namespace Sys2Proof.Machine

set_option linter.unreachableTactic false
set_option linter.unusedTactic false

theorem State.miAnswer_keep {r0 s : State} {r : MiReq} {reader : Nat} (hk : Keep r0 s) :
    Keep r0 (State.miAnswer s r reader).2.2 := by
  unfold State.miAnswer
  extract_lets x1 x2
  try clear_value x2
  refine Keep.cut (a := ∀ u0 u1, Keep r0 (x1 u0 u1).2.2) ?_ fun kx1 => ?_
  unfold x1
  rotate_left
  clear_value x1
  all_goals repeat' first
    | intro _
    | with_reducible assumption
    | with_reducible apply kx1
    | with_reducible apply State.onNvme_keep
    | with_reducible apply State.readLog_keep
    | refine Keep.snd (by with_reducible assumption) ?_
    | with_reducible apply keep_ite
    | split
    | dsimp only

theorem State.sideband_keep {r0 s : State} {i3c : Bool} {pecOk : Bool} {r : MiReq} (hk : Keep r0 s) :
    Keep r0 (State.sideband s i3c pecOk r) := by
  unfold State.sideband
  extract_lets x1 x2
  try clear_value x1
  refine Keep.cut (a := Keep r0 (x2).2.2) ?_ fun kx2 => ?_
  unfold x2
  rotate_left
  clear_value x2
  all_goals repeat' first
    | intro _
    | with_reducible assumption
    | with_reducible apply State.raise_keep
    | with_reducible apply State.bump_keep
    | with_reducible apply State.miAnswer_keep
    | with_reducible apply State.onNvme_keep
    | refine Keep.thd (by with_reducible assumption) ?_
    | with_reducible apply keep_ite
    | split
    | dsimp only

theorem execMiConfigurationGet_good (i3c : Bool) (pecOk : Bool) (cid : Nat) (s : State) : Good s (execMiConfigurationGet i3c pecOk cid s) := by
  have hk := Keep.refl s
  unfold execMiConfigurationGet
  all_goals repeat' first
    | intro _
    | with_reducible apply good_okIf
    | with_reducible apply good_okAon
    | with_reducible apply good_ok
    | with_reducible apply good_ite
    | with_reducible assumption
    | with_reducible apply State.sideband_keep
    | with_reducible apply keep_ite
    | split
    | dsimp only

theorem State.resetPort_keep {r0 s : State} {port : Nat} (hk : Keep r0 s) :
    Keep r0 (State.resetPort s port) := by
  unfold State.resetPort
  all_goals repeat' first
    | intro _
    | with_reducible assumption
    | with_reducible apply State.set_keep
    | with_reducible apply State.resetCtrl_keep
    | with_reducible apply keep_ite
    | with_reducible apply keep_foldl
    | split
    | dsimp only

theorem execCqDoorbellWrite_good (ctl : Nat) (q : Nat) (value : Nat) (s : State) : Good s (execCqDoorbellWrite ctl q value s) := by
  have hk := Keep.refl s
  unfold execCqDoorbellWrite
  extract_lets x1
  try clear_value x1
  all_goals repeat' first
    | intro _
    | with_reducible apply good_okIf
    | with_reducible apply good_okAon
    | with_reducible apply good_ok
    | with_reducible apply good_ite
    | with_reducible assumption
    | with_reducible apply State.raise_keep
    | with_reducible apply State.asyncTo_keep
    | with_reducible apply State.setCtrl_keep
    | with_reducible apply keep_ite
    | split
    | dsimp only

theorem execMiReadDataStructure_good (i3c : Bool) (pecOk : Bool) (kind : Nat) (portOrCtl : Nat) (s : State) : Good s (execMiReadDataStructure i3c pecOk kind portOrCtl s) := by
  have hk := Keep.refl s
  unfold execMiReadDataStructure
  all_goals repeat' first
    | intro _
    | with_reducible apply good_okIf
    | with_reducible apply good_okAon
    | with_reducible apply good_ok
    | with_reducible apply good_ite
    | with_reducible assumption
    | with_reducible apply State.sideband_keep
    | with_reducible apply keep_ite
    | split
    | dsimp only

theorem execCcEnClear_good (ctl : Nat) (s : State) : Good s (execCcEnClear ctl s) := by
  have hk := Keep.refl s
  unfold execCcEnClear
  all_goals repeat' first
    | intro _
    | with_reducible apply good_okIf
    | with_reducible apply good_okAon
    | with_reducible apply good_ok
    | with_reducible apply good_ite
    | with_reducible assumption
    | with_reducible apply State.resetCtrl_keep
    | with_reducible apply keep_ite
    | split
    | dsimp only

theorem execI3cAddressAssigned_good (da : Nat) (s : State) : Good s (execI3cAddressAssigned da s) := by
  have hk := Keep.refl s
  unfold execI3cAddressAssigned
  extract_lets x1
  refine Keep.cut (a := Keep s x1) ?_ fun kx1 => ?_
  unfold x1
  rotate_left
  clear_value x1
  all_goals repeat' first
    | intro _
    | with_reducible apply good_okIf
    | with_reducible apply good_okAon
    | with_reducible apply good_ok
    | with_reducible apply good_ite
    | with_reducible assumption
    | with_reducible apply State.setB_keep
    | with_reducible apply State.set_keep
    | with_reducible apply State.raise_keep
    | with_reducible apply keep_ite
    | split
    | dsimp only

theorem execMiTunnelledAdmin_good (i3c : Bool) (pecOk : Bool) (op : Nat) (ctl : Nat) (a : Nat) (b : Nat) (ofs : Nat) (len : Nat) (s : State) : Good s (execMiTunnelledAdmin i3c pecOk op ctl a b ofs len s) := by
  have hk := Keep.refl s
  unfold execMiTunnelledAdmin
  all_goals repeat' first
    | intro _
    | with_reducible apply good_okIf
    | with_reducible apply good_okAon
    | with_reducible apply good_ok
    | with_reducible apply good_ite
    | with_reducible assumption
    | with_reducible apply State.sideband_keep
    | with_reducible apply keep_ite
    | split
    | dsimp only

theorem execMiConfigurationSet_good (i3c : Bool) (pecOk : Bool) (cid : Nat) (value : Nat) (s : State) : Good s (execMiConfigurationSet i3c pecOk cid value s) := by
  have hk := Keep.refl s
  unfold execMiConfigurationSet
  all_goals repeat' first
    | intro _
    | with_reducible apply good_okIf
    | with_reducible apply good_okAon
    | with_reducible apply good_ok
    | with_reducible apply good_ite
    | with_reducible assumption
    | with_reducible apply State.sideband_keep
    | with_reducible apply keep_ite
    | split
    | dsimp only

theorem execMsixVectorUnmask_good (port : Nat) (v : Nat) (s : State) : Good s (execMsixVectorUnmask port v s) := by
  have hk := Keep.refl s
  unfold execMsixVectorUnmask
  all_goals repeat' first
    | intro _
    | with_reducible apply good_okIf
    | with_reducible apply good_okAon
    | with_reducible apply good_ok
    | with_reducible apply good_ite
    | with_reducible assumption
    | with_reducible apply keep_onIo
    | with_reducible apply keep_ite
    | with_reducible apply ioKeep_ite
    | split
    | with_reducible apply IoKeep.mk'
    | dsimp only

theorem State.clearCfs_keep {r0 s : State} {ids : List Nat} (hk : Keep r0 s) :
    Keep r0 (State.clearCfs s ids) := by
  unfold State.clearCfs
  extract_lets x1 x2
  try clear_value x1
  try clear_value x2
  all_goals repeat' first
    | intro _
    | with_reducible assumption
    | with_reducible apply State.setB_keep
    | with_reducible apply keep_ite
    | split
    | with_reducible apply Keep.mk'
    | dsimp only

theorem execPcieLinkUp_good (port : Nat) (speed : Nat) (width : Nat) (s : State) : Good s (execPcieLinkUp port speed width s) := by
  have hk := Keep.refl s
  unfold execPcieLinkUp
  extract_lets x1 x2 x3 x4 x5 x6 x7
  try clear_value x1
  try clear_value x2
  try clear_value x3
  try clear_value x4
  refine Keep.cut (a := Keep s x5) ?_ fun kx5 => ?_
  unfold x5
  rotate_left
  clear_value x5
  refine Keep.cut (a := Keep s x6) ?_ fun kx6 => ?_
  unfold x6
  rotate_left
  clear_value x6
  refine Keep.cut (a := Keep s x7) ?_ fun kx7 => ?_
  unfold x7
  rotate_left
  clear_value x7
  all_goals repeat' first
    | intro _
    | with_reducible apply good_okIf
    | with_reducible apply good_okAon
    | with_reducible apply good_ok
    | with_reducible apply good_ite
    | with_reducible assumption
    | with_reducible apply State.set_keep
    | with_reducible apply State.setB_keep
    | with_reducible apply State.raise_keep
    | with_reducible apply keep_ite
    | split
    | dsimp only

theorem execMiSubsystemHealthPoll_good (i3c : Bool) (pecOk : Bool) (s : State) : Good s (execMiSubsystemHealthPoll i3c pecOk s) := by
  have hk := Keep.refl s
  unfold execMiSubsystemHealthPoll
  all_goals repeat' first
    | intro _
    | with_reducible apply good_okIf
    | with_reducible apply good_okAon
    | with_reducible apply good_ok
    | with_reducible apply good_ite
    | with_reducible assumption
    | with_reducible apply State.sideband_keep
    | with_reducible apply keep_ite
    | split
    | dsimp only

theorem State.portReset_keep {r0 s : State} {port : Nat} (hk : Keep r0 s) :
    Keep r0 (State.portReset s port) := by
  unfold State.portReset
  extract_lets x1 x2
  refine Keep.cut (a := Keep r0 x1) ?_ fun kx1 => ?_
  unfold x1
  rotate_left
  clear_value x1
  refine Keep.cut (a := Keep r0 x2) ?_ fun kx2 => ?_
  unfold x2
  rotate_left
  clear_value x2
  all_goals repeat' first
    | intro _
    | with_reducible assumption
    | with_reducible apply State.setB_keep
    | with_reducible apply State.resetPort_keep
    | with_reducible apply State.set_keep
    | with_reducible apply keep_onIo
    | with_reducible apply keep_ite
    | with_reducible apply ioKeep_ite
    | with_reducible apply keep_foldl
    | with_reducible apply ioKeep_foldl
    | split
    | with_reducible apply IoKeep.mk'
    | dsimp only

theorem execPcieLinkDown_good (port : Nat) (s : State) : Good s (execPcieLinkDown port s) := by
  have hk := Keep.refl s
  unfold execPcieLinkDown
  all_goals repeat' first
    | intro _
    | with_reducible apply good_okIf
    | with_reducible apply good_okAon
    | with_reducible apply good_ok
    | with_reducible apply good_ite
    | with_reducible assumption
    | with_reducible apply State.raise_keep
    | with_reducible apply State.portReset_keep
    | with_reducible apply keep_ite
    | split
    | dsimp only

theorem execMiVpdRead_good (i3c : Bool) (pecOk : Bool) (ofs : Nat) (len : Nat) (s : State) : Good s (execMiVpdRead i3c pecOk ofs len s) := by
  have hk := Keep.refl s
  unfold execMiVpdRead
  all_goals repeat' first
    | intro _
    | with_reducible apply good_okIf
    | with_reducible apply good_okAon
    | with_reducible apply good_ok
    | with_reducible apply good_ite
    | with_reducible assumption
    | with_reducible apply State.sideband_keep
    | with_reducible apply keep_ite
    | split
    | dsimp only

theorem execMiControllerHealthPoll_good (i3c : Bool) (pecOk : Bool) (ctl : Nat) (s : State) : Good s (execMiControllerHealthPoll i3c pecOk ctl s) := by
  have hk := Keep.refl s
  unfold execMiControllerHealthPoll
  all_goals repeat' first
    | intro _
    | with_reducible apply good_okIf
    | with_reducible apply good_okAon
    | with_reducible apply good_ok
    | with_reducible apply good_ite
    | with_reducible assumption
    | with_reducible apply State.sideband_keep
    | with_reducible apply keep_ite
    | split
    | dsimp only

theorem execNvmeMiSend_good (c : Cmd) (r : MiReq) (s : State) : Good s (execNvmeMiSend c r s) := by
  have hk := Keep.refl s
  unfold execNvmeMiSend
  all_goals repeat' first
    | intro _
    | with_reducible apply good_okIf
    | with_reducible apply good_okAon
    | with_reducible apply good_ok
    | with_reducible apply good_ite
    | with_reducible assumption
    | with_reducible apply State.admin_good
    | with_reducible apply State.miAnswer_keep
    | with_reducible apply State.done_keep
    | with_reducible apply State.onNvme_keep
    | refine Keep.thd (by with_reducible assumption) ?_
    | with_reducible apply keep_ite
    | split
    | dsimp only

theorem execNvmeMiReceive_good (c : Cmd) (s : State) : Good s (execNvmeMiReceive c s) := by
  have hk := Keep.refl s
  unfold execNvmeMiReceive
  all_goals repeat' first
    | intro _
    | with_reducible apply good_okIf
    | with_reducible apply good_okAon
    | with_reducible apply good_ok
    | with_reducible apply good_ite
    | with_reducible assumption
    | with_reducible apply State.admin_good
    | with_reducible apply State.doneWith_keep
    | with_reducible apply State.onNvme_keep
    | with_reducible apply State.done_keep
    | with_reducible apply keep_ite
    | split
    | dsimp only

theorem State.startShutdown_keep {r0 s : State} {ctl : Nat} (hk : Keep r0 s) :
    Keep r0 (State.startShutdown s ctl) := by
  unfold State.startShutdown
  extract_lets x1
  try clear_value x1
  all_goals repeat' first
    | intro _
    | with_reducible assumption
    | with_reducible apply State.settle_keep
    | with_reducible apply State.setCtrl_keep
    | with_reducible apply keep_ite
    | split
    | dsimp only

theorem execCcShnNormal_good (ctl : Nat) (s : State) : Good s (execCcShnNormal ctl s) := by
  have hk := Keep.refl s
  unfold execCcShnNormal
  all_goals repeat' first
    | intro _
    | with_reducible apply good_okIf
    | with_reducible apply good_okAon
    | with_reducible apply good_ok
    | with_reducible apply good_ite
    | with_reducible assumption
    | with_reducible apply State.startShutdown_keep
    | with_reducible apply keep_ite
    | split
    | dsimp only

theorem execCompletionTimeout_good (c : Option Cmd) (n : Nat) (s : State) : Good s (execCompletionTimeout c n s) := by
  have hk := Keep.refl s
  unfold execCompletionTimeout
  extract_lets x1
  try clear_value x1
  all_goals repeat' first
    | intro _
    | with_reducible apply good_okIf
    | with_reducible apply good_okAon
    | with_reducible apply good_ok
    | with_reducible apply good_ite
    | with_reducible assumption
    | with_reducible apply State.raise_keep
    | with_reducible apply State.bump_keep
    | with_reducible apply State.showWaiting_keep
    | with_reducible apply State.finish_keep
    | with_reducible apply State.endStore_keep
    | with_reducible apply State.applyFetched_keep
    | with_reducible apply State.done_keep
    | with_reducible apply State.fetch_keep
    | with_reducible apply State.syncHod_keep
    | with_reducible apply State.hodFault_keep
    | with_reducible apply keep_ite
    | split
    | dsimp only

theorem execNamespaceReady_good (nsid : Nat) (sec : Nat) (s : State) : Good s (execNamespaceReady nsid sec s) := by
  have hk := Keep.refl s
  unfold execNamespaceReady
  extract_lets x1 x2
  try clear_value x1
  refine Keep.cut (a := Keep s x2) ?_ fun kx2 => ?_
  unfold x2
  rotate_left
  clear_value x2
  all_goals repeat' first
    | intro _
    | with_reducible apply good_okIf
    | with_reducible apply good_okAon
    | with_reducible apply good_ok
    | with_reducible apply good_ite
    | with_reducible assumption
    | with_reducible apply State.setNs_keep
    | with_reducible apply State.set_keep
    | with_reducible apply keep_ite
    | split
    | dsimp only

theorem execCcShnAbrupt_good (ctl : Nat) (s : State) : Good s (execCcShnAbrupt ctl s) := by
  have hk := Keep.refl s
  unfold execCcShnAbrupt
  all_goals repeat' first
    | intro _
    | with_reducible apply good_okIf
    | with_reducible apply good_okAon
    | with_reducible apply good_ok
    | with_reducible apply good_ite
    | with_reducible assumption
    | with_reducible apply State.startShutdown_keep
    | with_reducible apply State.showWaiting_keep
    | with_reducible apply State.setFlights_keep
    | with_reducible apply keep_ite
    | split
    | dsimp only

theorem execPortReset_good (port : Nat) (cause : Nat) (s : State) : Good s (execPortReset port cause s) := by
  have hk := Keep.refl s
  unfold execPortReset
  extract_lets x1 x2
  try clear_value x2
  refine Keep.cut (a := Keep s x1) ?_ fun kx1 => ?_
  unfold x1
  rotate_left
  clear_value x1
  all_goals repeat' first
    | intro _
    | with_reducible apply good_okIf
    | with_reducible apply good_okAon
    | with_reducible apply good_ok
    | with_reducible apply good_ite
    | with_reducible assumption
    | with_reducible apply State.portReset_keep
    | with_reducible apply State.hostDisabled_keep
    | with_reducible apply keep_ite
    | with_reducible apply keep_foldl
    | with_reducible apply ioKeep_foldl
    | split
    | with_reducible apply Keep.mk'
    | dsimp only

theorem execFetchResume_good  (s : State) : Good s (execFetchResume s) := by
  have hk := Keep.refl s
  unfold execFetchResume
  all_goals repeat' first
    | intro _
    | with_reducible apply good_okIf
    | with_reducible apply good_okAon
    | with_reducible apply good_ok
    | with_reducible apply good_ite
    | with_reducible assumption
    | with_reducible apply State.onNvme_keep
    | with_reducible apply keep_ite
    | split
    | dsimp only

theorem execFunctionLevelReset_good (port : Nat) (fn : Nat) (s : State) : Good s (execFunctionLevelReset port fn s) := by
  have hk := Keep.refl s
  unfold execFunctionLevelReset
  all_goals repeat' first
    | intro _
    | with_reducible apply good_okIf
    | with_reducible apply good_okAon
    | with_reducible apply good_ok
    | with_reducible apply good_ite
    | with_reducible assumption
    | with_reducible apply State.resetPort_keep
    | with_reducible apply State.hostDisabled_keep
    | with_reducible apply State.resetCtrl_keep
    | with_reducible apply keep_onIo
    | with_reducible apply keep_ite
    | with_reducible apply ioKeep_ite
    | with_reducible apply keep_foldl
    | with_reducible apply ioKeep_foldl
    | split
    | with_reducible apply IoKeep.mk'
    | dsimp only

theorem execVfEnableClear_good (port : Nat) (s : State) : Good s (execVfEnableClear port s) := by
  have hk := Keep.refl s
  unfold execVfEnableClear
  all_goals repeat' first
    | intro _
    | with_reducible apply good_okIf
    | with_reducible apply good_okAon
    | with_reducible apply good_ok
    | with_reducible apply good_ite
    | with_reducible assumption
    | with_reducible apply State.set_keep
    | with_reducible apply State.resetCtrl_keep
    | with_reducible apply keep_ite
    | with_reducible apply keep_foldl
    | split
    | dsimp only

theorem execSqDoorbellWrite_good (ctl : Nat) (q : Nat) (value : Nat) (s : State) : Good s (execSqDoorbellWrite ctl q value s) := by
  have hk := Keep.refl s
  unfold execSqDoorbellWrite
  extract_lets x1
  try clear_value x1
  all_goals repeat' first
    | intro _
    | with_reducible apply good_okIf
    | with_reducible apply good_okAon
    | with_reducible apply good_ok
    | with_reducible apply good_ite
    | with_reducible assumption
    | with_reducible apply State.raise_keep
    | with_reducible apply State.asyncTo_keep
    | with_reducible apply State.setCtrl_keep
    | with_reducible apply keep_ite
    | split
    | dsimp only

theorem execSmbusTimeout_good  (s : State) : Good s (execSmbusTimeout s) := by
  have hk := Keep.refl s
  unfold execSmbusTimeout
  all_goals repeat' first
    | intro _
    | with_reducible apply good_okIf
    | with_reducible apply good_okAon
    | with_reducible apply good_ok
    | with_reducible apply good_ite
    | with_reducible assumption
    | with_reducible apply State.raise_keep
    | with_reducible apply State.setB_keep
    | with_reducible apply keep_ite
    | split
    | dsimp only

theorem execCcEnSet_good (ctl : Nat) (asq : Nat) (acq : Nat) (numVfs : Nat) (s : State) : Good s (execCcEnSet ctl asq acq numVfs s) := by
  have hk := Keep.refl s
  unfold execCcEnSet
  extract_lets x1 x2 x3 x4 x5 x6 x7
  try clear_value x1
  try clear_value x2
  try clear_value x3
  try clear_value x4
  try clear_value x5
  refine Keep.cut (a := Keep s x6) ?_ fun kx6 => ?_
  unfold x6
  rotate_left
  clear_value x6
  refine Keep.cut (a := Keep s x7) ?_ fun kx7 => ?_
  unfold x7
  rotate_left
  clear_value x7
  all_goals repeat' first
    | intro _
    | with_reducible apply good_okIf
    | with_reducible apply good_okAon
    | with_reducible apply good_ok
    | with_reducible apply good_ite
    | with_reducible assumption
    | with_reducible apply State.set_keep
    | with_reducible apply State.setCtrl_keep
    | with_reducible apply State.setB_keep
    | with_reducible apply State.retarget_keep
    | with_reducible apply State.clearCfs_keep
    | with_reducible apply keep_ite
    | split
    | dsimp only

theorem execPcieErrorDetected_good (port : Nat) (kind : Nat) (s : State) : Good s (execPcieErrorDetected port kind s) := by
  have hk := Keep.refl s
  unfold execPcieErrorDetected
  extract_lets x1
  try clear_value x1
  all_goals repeat' first
    | intro _
    | with_reducible apply good_okIf
    | with_reducible apply good_okAon
    | with_reducible apply good_ok
    | with_reducible apply good_ite
    | with_reducible assumption
    | with_reducible apply State.raise_keep
    | with_reducible apply State.bump_keep
    | with_reducible apply keep_ite
    | split
    | dsimp only

theorem execPerstDeassert_good (port : Nat) (two : Bool) (sris : Bool) (s : State) : Good s (execPerstDeassert port two sris s) := by
  have hk := Keep.refl s
  unfold execPerstDeassert
  extract_lets x1 x2 x3
  try clear_value x1
  try clear_value x3
  refine Keep.cut (a := Keep s x2) ?_ fun kx2 => ?_
  unfold x2
  rotate_left
  clear_value x2
  all_goals repeat' first
    | intro _
    | with_reducible apply good_okIf
    | with_reducible apply good_okAon
    | with_reducible apply good_ok
    | with_reducible apply good_ite
    | with_reducible assumption
    | with_reducible apply State.setB_keep
    | with_reducible apply keep_ite
    | split
    | with_reducible apply Keep.mk'
    | dsimp only

end Sys2Proof.Machine
end

