-- ==== Sys2Proof/Laws/KeepNvmeIo.lean ====
section
/-! SUPPORT. What the operations of Machine/NvmeIo.lean keep. -/

namespace Sys2Proof.Machine

set_option linter.unreachableTactic false
set_option linter.unusedTactic false

theorem execVerify_good (c : Cmd) (nsid : Nat) (slba : Nat) (nlb : Nat) (media : List (Nat × Brick)) (s : State) : Good s (execVerify c nsid slba nlb media s) := by
  have hk := Keep.refl s
  unfold execVerify
  extract_lets x1
  try clear_value x1
  all_goals repeat' first
    | intro _
    | with_reducible apply good_okIf
    | with_reducible apply good_okAon
    | with_reducible apply good_ok
    | with_reducible apply good_ite
    | with_reducible assumption
    | with_reducible apply State.raise_keep
    | with_reducible apply State.ioCmd_good
    | with_reducible apply State.readRun_keep
    | with_reducible apply State.done_keep
    | refine Keep.snd (by with_reducible assumption) ?_
    | with_reducible apply keep_ite
    | split
    | dsimp only

theorem execZoneAppend_good (c : Cmd) (nsid : Nat) (zslba : Nat) (nlb : Nat) (fua : Bool) (data : List Nat) (dptr : Nat) (s : State) : Good s (execZoneAppend c nsid zslba nlb fua data dptr s) := by
  have hk := Keep.refl s
  unfold execZoneAppend
  extract_lets x1 x2
  try clear_value x1
  try clear_value x2
  all_goals repeat' first
    | intro _
    | with_reducible apply good_okIf
    | with_reducible apply good_okAon
    | with_reducible apply good_ok
    | with_reducible apply good_ite
    | with_reducible assumption
    | with_reducible apply State.goOnFlight_keep
    | with_reducible apply State.ioCmd_good
    | with_reducible apply State.startFlight_keep
    | with_reducible apply State.zoneWritten_keep
    | with_reducible apply keep_ite
    | split
    | dsimp only

theorem State.zoneAccepts_keep {r0 s : State} {nsid : Nat} {slba : Nat} {n : Nat} (hk : Keep r0 s) :
    Keep r0 (State.zoneAccepts s nsid slba n) := by
  unfold State.zoneAccepts
  all_goals repeat' first
    | intro _
    | with_reducible assumption
    | with_reducible apply State.zoneWritten_keep
    | with_reducible apply keep_ite
    | split
    | dsimp only

theorem execWriteZeroes_good (c : Cmd) (nsid : Nat) (slba : Nat) (nlb : Nat) (fua : Bool) (s : State) : Good s (execWriteZeroes c nsid slba nlb fua s) := by
  have hk := Keep.refl s
  unfold execWriteZeroes
  extract_lets x1
  try clear_value x1
  all_goals repeat' first
    | intro _
    | with_reducible apply good_okIf
    | with_reducible apply good_okAon
    | with_reducible apply good_ok
    | with_reducible apply good_ite
    | with_reducible assumption
    | with_reducible apply State.ioCmd_good
    | with_reducible apply State.startFlight_keep
    | with_reducible apply State.zoneAccepts_keep
    | with_reducible apply keep_ite
    | split
    | dsimp only

theorem execFlush_good (c : Cmd) (nsid : Nat) (s : State) : Good s (execFlush c nsid s) := by
  have hk := Keep.refl s
  unfold execFlush
  all_goals repeat' first
    | intro _
    | with_reducible apply good_okIf
    | with_reducible apply good_okAon
    | with_reducible apply good_ok
    | with_reducible apply good_ite
    | with_reducible assumption
    | with_reducible apply State.ioCmdAny_good
    | with_reducible apply State.settle_keep
    | with_reducible apply State.setFlights_keep
    | with_reducible apply keep_ite
    | split
    | dsimp only

theorem execExist_good (c : Cmd) (nsid : Nat) (key : List Nat) (s : State) : Good s (execExist c nsid key s) := by
  have hk := Keep.refl s
  unfold execExist
  all_goals repeat' first
    | intro _
    | with_reducible apply good_okIf
    | with_reducible apply good_okAon
    | with_reducible apply good_ok
    | with_reducible apply good_ite
    | with_reducible assumption
    | with_reducible apply State.ioCmd_good
    | with_reducible apply State.done_keep
    | with_reducible apply keep_ite
    | split
    | dsimp only

theorem execFlushComplete_good (c : Cmd) (s : State) : Good s (execFlushComplete c s) := by
  have hk := Keep.refl s
  unfold execFlushComplete
  all_goals repeat' first
    | intro _
    | with_reducible apply good_okIf
    | with_reducible apply good_okAon
    | with_reducible apply good_ok
    | with_reducible apply good_ite
    | with_reducible assumption
    | with_reducible apply State.finish_keep
    | with_reducible apply keep_ite
    | split
    | dsimp only

theorem State.zoneSend_good {s : State} {c : Cmd} {nsid slba : Nat} {all_ : Bool} {sts : List Nat} {bad : State → Option Sc}
    {change : State → Nat → State} (hf : ∀ t z, Keep s t → Keep s (change t z)) :
    Good s (State.zoneSend s c nsid slba all_ sts bad change) := by
  have hk := Keep.refl s
  unfold State.zoneSend
  repeat' first
    | intro _
    | with_reducible apply good_ite
    | with_reducible apply good_ok
    | with_reducible apply State.ioCmd_good
    | with_reducible apply keep_foldl
    | apply hf
    | with_reducible assumption
    | with_reducible apply State.settle_keep
    | with_reducible apply State.mapDone_keep
    | with_reducible apply keep_ite
    | split
    | dsimp only

theorem State.zoneTo_keep {r0 s : State} {nsid : Nat} {z : Nat} {st : Nat} (hk : Keep r0 s) :
    Keep r0 (State.zoneTo s nsid z st) := by
  unfold State.zoneTo
  extract_lets x1
  try clear_value x1
  all_goals repeat' first
    | intro _
    | with_reducible assumption
    | with_reducible apply State.setZone_keep
    | with_reducible apply keep_ite
    | split
    | dsimp only

theorem execZoneClose_good (c : Cmd) (nsid : Nat) (slba : Nat) (all_ : Bool) (s : State) : Good s (execZoneClose c nsid slba all_ s) := by
  have hk := Keep.refl s
  unfold execZoneClose
  all_goals repeat' first
    | intro _
    | with_reducible apply good_okIf
    | with_reducible apply good_okAon
    | with_reducible apply good_ok
    | with_reducible apply good_ite
    | with_reducible assumption
    | with_reducible apply State.zoneSend_good
    | with_reducible apply State.zoneTo_keep
    | with_reducible apply keep_ite
    | split
    | dsimp only

theorem execZoneFinish_good (c : Cmd) (nsid : Nat) (slba : Nat) (all_ : Bool) (s : State) : Good s (execZoneFinish c nsid slba all_ s) := by
  have hk := Keep.refl s
  unfold execZoneFinish
  all_goals repeat' first
    | intro _
    | with_reducible apply good_okIf
    | with_reducible apply good_okAon
    | with_reducible apply good_ok
    | with_reducible apply good_ite
    | with_reducible assumption
    | with_reducible apply State.zoneSend_good
    | with_reducible apply State.setZone_keep
    | with_reducible apply keep_ite
    | split
    | dsimp only

theorem execZoneOpen_good (c : Cmd) (nsid : Nat) (slba : Nat) (all_ : Bool) (s : State) : Good s (execZoneOpen c nsid slba all_ s) := by
  have hk := Keep.refl s
  unfold execZoneOpen
  all_goals repeat' first
    | intro _
    | with_reducible apply good_okIf
    | with_reducible apply good_okAon
    | with_reducible apply good_ok
    | with_reducible apply good_ite
    | with_reducible assumption
    | with_reducible apply State.zoneSend_good
    | with_reducible apply State.zoneTo_keep
    | with_reducible apply keep_ite
    | split
    | dsimp only

theorem execKvChunkTagCheck_good (c : Cmd) (again : List Nat) (s : State) : Good s (execKvChunkTagCheck c again s) := by
  have hk := Keep.refl s
  unfold execKvChunkTagCheck
  all_goals repeat' first
    | intro _
    | with_reducible apply good_okIf
    | with_reducible apply good_okAon
    | with_reducible apply good_ok
    | with_reducible apply good_ite
    | with_reducible assumption
    | with_reducible apply State.addTo_keep
    | with_reducible apply State.finish_keep
    | with_reducible apply State.setFlight_keep
    | with_reducible apply State.raise_keep
    | with_reducible apply State.bump_keep
    | with_reducible apply State.brickLost_keep
    | with_reducible apply State.unrecAdd_keep
    | with_reducible apply keep_ite
    | split
    | dsimp only

theorem execZoneOffline_good (c : Cmd) (nsid : Nat) (s : State) : Good s (execZoneOffline c nsid s) := by
  have hk := Keep.refl s
  unfold execZoneOffline
  all_goals repeat' first
    | intro _
    | with_reducible apply good_okIf
    | with_reducible apply good_okAon
    | with_reducible apply good_ok
    | with_reducible apply good_ite
    | with_reducible assumption
    | with_reducible apply State.ioCmd_good
    | with_reducible apply keep_id
    | with_reducible apply keep_ite
    | split
    | dsimp only

theorem execDatasetManagement_good (c : Cmd) (nsid : Nat) (nr : Nat) (ad : Bool) (ranges : List (Nat × Nat)) (s : State) : Good s (execDatasetManagement c nsid nr ad ranges s) := by
  have hk := Keep.refl s
  unfold execDatasetManagement
  extract_lets x1
  try clear_value x1
  all_goals repeat' first
    | intro _
    | with_reducible apply good_okIf
    | with_reducible apply good_okAon
    | with_reducible apply good_ok
    | with_reducible apply good_ite
    | with_reducible assumption
    | with_reducible apply State.ioCmd_good
    | with_reducible apply State.settle_keep
    | with_reducible apply State.mapDone_keep
    | with_reducible apply State.deallocate_keep
    | with_reducible apply State.done_keep
    | with_reducible apply keep_ite
    | with_reducible apply keep_foldl
    | split
    | dsimp only

theorem execList_good (c : Cmd) (nsid : Nat) (key : List Nat) (s : State) : Good s (execList c nsid key s) := by
  have hk := Keep.refl s
  unfold execList
  all_goals repeat' first
    | intro _
    | with_reducible apply good_okIf
    | with_reducible apply good_okAon
    | with_reducible apply good_ok
    | with_reducible apply good_ite
    | with_reducible assumption
    | with_reducible apply State.ioCmd_good
    | with_reducible apply State.doneWith_keep
    | with_reducible apply keep_ite
    | split
    | dsimp only

theorem execWriteAcknowledge_good (c : Cmd) (s : State) : Good s (execWriteAcknowledge c s) := by
  have hk := Keep.refl s
  unfold execWriteAcknowledge
  all_goals repeat' first
    | intro _
    | with_reducible apply good_okIf
    | with_reducible apply good_okAon
    | with_reducible apply good_ok
    | with_reducible apply good_ite
    | with_reducible assumption
    | with_reducible apply State.unrecDrop_keep
    | with_reducible apply State.endStore_keep
    | with_reducible apply State.unrecCut_keep
    | with_reducible apply State.finish_keep
    | with_reducible apply keep_ite
    | split
    | dsimp only

theorem State.tagFlight_keep {r0 s : State} {f : Flight} (hk : Keep r0 s) :
    Keep r0 (State.tagFlight s f).1 := by
  unfold State.tagFlight
  extract_lets x1
  try clear_value x1
  all_goals repeat' first
    | intro _
    | with_reducible assumption
    | with_reducible apply State.addTo_keep
    | with_reducible apply keep_ite
    | split
    | dsimp only

theorem execStore_good (c : Cmd) (nsid : Nat) (key : List Nat) (size : Nat) (noOver : Bool) (onlyOver : Bool) (data : List Nat) (dptr : Nat) (s : State) : Good s (execStore c nsid key size noOver onlyOver data dptr s) := by
  have hk := Keep.refl s
  unfold execStore
  extract_lets x1
  try clear_value x1
  all_goals repeat' first
    | intro _
    | with_reducible apply good_okIf
    | with_reducible apply good_okAon
    | with_reducible apply good_ok
    | with_reducible apply good_ite
    | with_reducible assumption
    | with_reducible apply State.tagFlight_keep
    | with_reducible apply State.goOnFlight_keep
    | with_reducible apply State.ioCmd_good
    | with_reducible apply State.onNvme_keep
    | with_reducible apply State.startFlight_keep
    | refine Keep.fst (by with_reducible assumption) ?_
    | with_reducible apply keep_ite
    | split
    | dsimp only

theorem execWrite_good (c : Cmd) (nsid : Nat) (slba : Nat) (nlb : Nat) (fua : Bool) (data : List Nat) (dptr : Nat) (s : State) : Good s (execWrite c nsid slba nlb fua data dptr s) := by
  have hk := Keep.refl s
  unfold execWrite
  extract_lets x1
  try clear_value x1
  all_goals repeat' first
    | intro _
    | with_reducible apply good_okIf
    | with_reducible apply good_okAon
    | with_reducible apply good_ok
    | with_reducible apply good_ite
    | with_reducible assumption
    | with_reducible apply State.goOnFlight_keep
    | with_reducible apply State.ioCmd_good
    | with_reducible apply State.startFlight_keep
    | with_reducible apply State.zoneAccepts_keep
    | with_reducible apply keep_ite
    | split
    | dsimp only

theorem execWriteWaitEnd_good (c : Cmd) (s : State) : Good s (execWriteWaitEnd c s) := by
  have hk := Keep.refl s
  unfold execWriteWaitEnd
  all_goals repeat' first
    | intro _
    | with_reducible apply good_okIf
    | with_reducible apply good_okAon
    | with_reducible apply good_ok
    | with_reducible apply good_ite
    | with_reducible assumption
    | with_reducible apply State.goOnFlight_keep
    | with_reducible apply keep_ite
    | split
    | dsimp only

theorem execZoneManagementReceive_good (c : Cmd) (nsid : Nat) (slba : Nat) (zra : Nat) (s : State) : Good s (execZoneManagementReceive c nsid slba zra s) := by
  have hk := Keep.refl s
  unfold execZoneManagementReceive
  all_goals repeat' first
    | intro _
    | with_reducible apply good_okIf
    | with_reducible apply good_okAon
    | with_reducible apply good_ok
    | with_reducible apply good_ite
    | with_reducible assumption
    | with_reducible apply State.ioCmd_good
    | with_reducible apply State.doneWith_keep
    | with_reducible apply keep_ite
    | split
    | dsimp only

theorem execZoneReset_good (c : Cmd) (nsid : Nat) (slba : Nat) (all_ : Bool) (s : State) : Good s (execZoneReset c nsid slba all_ s) := by
  have hk := Keep.refl s
  unfold execZoneReset
  all_goals repeat' first
    | intro _
    | with_reducible apply good_okIf
    | with_reducible apply good_okAon
    | with_reducible apply good_ok
    | with_reducible apply good_ite
    | with_reducible assumption
    | with_reducible apply State.zoneSend_good
    | with_reducible apply State.setZone_keep
    | with_reducible apply State.deallocate_keep
    | with_reducible apply keep_ite
    | split
    | dsimp only

theorem execCompare_good (c : Cmd) (nsid : Nat) (slba : Nat) (nlb : Nat) (data : List Nat) (dptr : Nat) (media : List (Nat × Brick)) (s : State) : Good s (execCompare c nsid slba nlb data dptr media s) := by
  have hk := Keep.refl s
  unfold execCompare
  extract_lets x1
  try clear_value x1
  all_goals repeat' first
    | intro _
    | with_reducible apply good_okIf
    | with_reducible apply good_okAon
    | with_reducible apply good_ok
    | with_reducible apply good_ite
    | with_reducible assumption
    | with_reducible apply State.raise_keep
    | with_reducible apply State.ioCmd_good
    | with_reducible apply State.readRun_keep
    | with_reducible apply State.done_keep
    | refine Keep.snd (by with_reducible assumption) ?_
    | with_reducible apply keep_ite
    | split
    | dsimp only

theorem execDelete_good (c : Cmd) (nsid : Nat) (key : List Nat) (s : State) : Good s (execDelete c nsid key s) := by
  have hk := Keep.refl s
  unfold execDelete
  all_goals repeat' first
    | intro _
    | with_reducible apply good_okIf
    | with_reducible apply good_okAon
    | with_reducible apply good_ok
    | with_reducible apply good_ite
    | with_reducible assumption
    | with_reducible apply State.ioCmd_good
    | with_reducible apply State.dropObj_keep
    | with_reducible apply State.setNs_keep
    | with_reducible apply State.unrecDrop_keep
    | with_reducible apply State.settle_keep
    | with_reducible apply State.mapDone_keep
    | with_reducible apply keep_ite
    | split
    | dsimp only

theorem execRetrieve_good (c : Cmd) (nsid : Nat) (key : List Nat) (bufSize : Nat) (ofs : Nat) (dptr : Nat) (media : List (Nat × Brick)) (s : State) : Good s (execRetrieve c nsid key bufSize ofs dptr media s) := by
  have hk := Keep.refl s
  unfold execRetrieve
  extract_lets x1
  try clear_value x1
  all_goals repeat' first
    | intro _
    | with_reducible apply good_okIf
    | with_reducible apply good_okAon
    | with_reducible apply good_ok
    | with_reducible apply good_ite
    | with_reducible assumption
    | with_reducible apply State.raise_keep
    | with_reducible apply State.ioCmd_good
    | with_reducible apply State.doneWith_keep
    | with_reducible apply State.readRun_keep
    | with_reducible apply State.setFlights_keep
    | refine Keep.snd (by with_reducible assumption) ?_
    | with_reducible apply keep_ite
    | split
    | dsimp only

theorem execRead_good (c : Cmd) (nsid : Nat) (slba : Nat) (nlb : Nat) (fua : Bool) (lr : Bool) (dptr : Nat) (media : List (Nat × Brick)) (s : State) : Good s (execRead c nsid slba nlb fua lr dptr media s) := by
  have hk := Keep.refl s
  unfold execRead
  extract_lets x1 x2
  try clear_value x1
  try clear_value x2
  all_goals repeat' first
    | intro _
    | with_reducible apply good_okIf
    | with_reducible apply good_okAon
    | with_reducible apply good_ok
    | with_reducible apply good_ite
    | with_reducible assumption
    | with_reducible apply State.raise_keep
    | with_reducible apply State.ioCmd_good
    | with_reducible apply State.writeBack_keep
    | with_reducible apply State.readRun_keep
    | with_reducible apply State.track_keep
    | with_reducible apply State.fillRead_keep
    | with_reducible apply State.doneWith_keep
    | refine Keep.snd (by with_reducible assumption) ?_
    | with_reducible apply keep_ite
    | split
    | dsimp only

end Sys2Proof.Machine
end

