-- ==== Sys2Proof/Laws/KeepPower.lean ====
section
/-! SUPPORT. What the operations of Machine/Power.lean keep. -/

namespace Sys2Proof.Machine

set_option linter.unreachableTactic false
set_option linter.unusedTactic false

theorem execRailPgLoss_good (r : Nat) (dest : Nat) (back : Bool) (s : State) : Good s (execRailPgLoss r dest back s) := by
  have hk := Keep.refl s
  unfold execRailPgLoss
  all_goals repeat' first
    | intro _
    | with_reducible apply good_okIf
    | with_reducible apply good_okAon
    | with_reducible apply good_ok
    | with_reducible apply good_ite
    | with_reducible assumption
    | with_reducible apply State.powerCut_keep
    | with_reducible apply State.railFails_keep
    | with_reducible apply keep_ite
    | with_reducible apply keep_foldl
    | split
    | dsimp only

theorem execSleepRetry_good (d : Nat) (s : State) : Good s (execSleepRetry d s) := by
  have hk := Keep.refl s
  unfold execSleepRetry
  all_goals repeat' first
    | intro _
    | with_reducible apply good_okIf
    | with_reducible apply good_okAon
    | with_reducible apply good_ok
    | with_reducible apply good_ite
    | with_reducible assumption
    | with_reducible apply State.askSleep_keep
    | with_reducible apply keep_ite
    | split
    | dsimp only

theorem execCpxIdleSleep_good  (s : State) : Good s (execCpxIdleSleep s) := by
  have hk := Keep.refl s
  unfold execCpxIdleSleep
  all_goals repeat' first
    | intro _
    | with_reducible apply good_okIf
    | with_reducible apply good_okAon
    | with_reducible apply good_ok
    | with_reducible apply good_ite
    | with_reducible assumption
    | with_reducible apply State.enterSleep_keep
    | with_reducible apply keep_ite
    | split
    | dsimp only

theorem execVinOv_good (beyond : Bool) (places : List BrickPlace) (dur : Nat) (vend : Nat) (s : State) : Good s (execVinOv beyond places dur vend s) := by
  have hk := Keep.refl s
  unfold execVinOv
  extract_lets x1 x2 x3
  refine Keep.cut (a := Keep s x1) ?_ fun kx1 => ?_
  unfold x1
  rotate_left
  clear_value x1
  refine Keep.cut (a := Keep s x2) ?_ fun kx2 => ?_
  unfold x2
  rotate_left
  clear_value x2
  refine Keep.cut (a := Keep s x3) ?_ fun kx3 => ?_
  unfold x3
  rotate_left
  clear_value x3
  all_goals repeat' first
    | intro _
    | with_reducible apply good_okIf
    | with_reducible apply good_okAon
    | with_reducible apply good_ok
    | with_reducible apply good_ite
    | with_reducible assumption
    | with_reducible apply State.onPwr_keep
    | with_reducible apply State.breach_keep
    | with_reducible apply State.raise_keep
    | with_reducible apply State.toPhase_keep
    | with_reducible apply State.shutdown_keep
    | with_reducible apply keep_ite
    | split
    | dsimp only

theorem execPowerLossShutdown_good (places : List BrickPlace) (dur : Nat) (vend : Nat) (s : State) : Good s (execPowerLossShutdown places dur vend s) := by
  have hk := Keep.refl s
  unfold execPowerLossShutdown
  extract_lets x1
  refine Keep.cut (a := Keep s x1) ?_ fun kx1 => ?_
  unfold x1
  rotate_left
  clear_value x1
  all_goals repeat' first
    | intro _
    | with_reducible apply good_okIf
    | with_reducible apply good_okAon
    | with_reducible apply good_ok
    | with_reducible apply good_ite
    | with_reducible assumption
    | with_reducible apply State.onPwr_keep
    | with_reducible apply State.raise_keep
    | with_reducible apply State.toPhase_keep
    | with_reducible apply State.shutdown_keep
    | with_reducible apply keep_ite
    | split
    | dsimp only

theorem execApstIdleTimeout_good (ctl : Nat) (s : State) : Good s (execApstIdleTimeout ctl s) := by
  have hk := Keep.refl s
  unfold execApstIdleTimeout
  extract_lets x1
  try clear_value x1
  all_goals repeat' first
    | intro _
    | with_reducible apply good_okIf
    | with_reducible apply good_okAon
    | with_reducible apply good_ok
    | with_reducible apply good_ite
    | with_reducible assumption
    | with_reducible apply State.retarget_keep
    | with_reducible apply State.onPwr_keep
    | with_reducible apply keep_ite
    | split
    | dsimp only

theorem execXtalSettleTimeout_good  (s : State) : Good s (execXtalSettleTimeout s) := by
  have hk := Keep.refl s
  unfold execXtalSettleTimeout
  extract_lets x1 x2
  refine Keep.cut (a := Keep s x1) ?_ fun kx1 => ?_
  unfold x1
  rotate_left
  clear_value x1
  refine Keep.cut (a := Keep s x2) ?_ fun kx2 => ?_
  unfold x2
  rotate_left
  clear_value x2
  all_goals repeat' first
    | intro _
    | with_reducible apply good_okIf
    | with_reducible apply good_okAon
    | with_reducible apply good_ok
    | with_reducible apply good_ite
    | with_reducible assumption
    | with_reducible apply State.setB_keep
    | with_reducible apply State.set_keep
    | with_reducible apply State.syncCache_keep
    | with_reducible apply State.degraded_keep
    | with_reducible apply State.raise_keep
    | with_reducible apply keep_ite
    | with_reducible apply keep_foldl
    | split
    | dsimp only

theorem execClusterSleepWrite_good (_acc : Accessor) (value : Nat) (s : State) : Good s (execClusterSleepWrite _acc value s) := by
  have hk := Keep.refl s
  unfold execClusterSleepWrite
  extract_lets x1
  refine Keep.cut (a := Keep s x1) ?_ fun kx1 => ?_
  unfold x1
  rotate_left
  clear_value x1
  all_goals repeat' first
    | intro _
    | with_reducible apply good_okIf
    | with_reducible apply good_okAon
    | with_reducible apply good_ok
    | with_reducible apply good_ite
    | with_reducible assumption
    | with_reducible apply State.set_keep
    | with_reducible apply State.wake_keep
    | with_reducible apply keep_ite
    | with_reducible apply keep_foldl
    | split
    | dsimp only

theorem execPowerStateExit_good  (s : State) : Good s (execPowerStateExit s) := by
  have hk := Keep.refl s
  unfold execPowerStateExit
  extract_lets x1
  refine Keep.cut (a := Keep s x1) ?_ fun kx1 => ?_
  unfold x1
  rotate_left
  clear_value x1
  all_goals repeat' first
    | intro _
    | with_reducible apply good_okIf
    | with_reducible apply good_okAon
    | with_reducible apply good_ok
    | with_reducible apply good_ite
    | with_reducible assumption
    | with_reducible apply State.onPwr_keep
    | with_reducible apply State.toPs_keep
    | with_reducible apply State.retarget_keep
    | with_reducible apply keep_ite
    | split
    | dsimp only

theorem execPowerStateEntry_good  (s : State) : Good s (execPowerStateEntry s) := by
  have hk := Keep.refl s
  unfold execPowerStateEntry
  extract_lets x1
  try clear_value x1
  all_goals repeat' first
    | intro _
    | with_reducible apply good_okIf
    | with_reducible apply good_okAon
    | with_reducible apply good_ok
    | with_reducible apply good_ite
    | with_reducible assumption
    | with_reducible apply State.toPs_keep
    | with_reducible apply keep_ite
    | split
    | dsimp only

theorem execHoldupShort_good (places : List BrickPlace) (jseq : Nat) (s : State) : Good s (execHoldupShort places jseq s) := by
  have hk := Keep.refl s
  unfold execHoldupShort
  extract_lets x1
  refine Keep.cut (a := Keep s x1) ?_ fun kx1 => ?_
  unfold x1
  rotate_left
  clear_value x1
  all_goals repeat' first
    | intro _
    | with_reducible apply good_okIf
    | with_reducible apply good_okAon
    | with_reducible apply good_ok
    | with_reducible apply good_ite
    | with_reducible assumption
    | with_reducible apply State.onPwr_keep
    | with_reducible apply State.raise_keep
    | with_reducible apply State.toPhase_keep
    | with_reducible apply State.shutdownCut_keep
    | with_reducible apply keep_ite
    | split
    | dsimp only

theorem execVholdCollapse_good  (s : State) : Good s (execVholdCollapse s) := by
  have hk := Keep.refl s
  unfold execVholdCollapse
  all_goals repeat' first
    | intro _
    | with_reducible apply good_okIf
    | with_reducible apply good_okAon
    | with_reducible apply good_ok
    | with_reducible apply good_ite
    | with_reducible assumption
    | with_reducible apply State.toPhase_keep
    | with_reducible apply State.onSys_keep
    | with_reducible apply State.onPwr_keep
    | with_reducible apply keep_ite
    | split
    | dsimp only

theorem execSleepRequest_good (d : Nat) (s : State) : Good s (execSleepRequest d s) := by
  have hk := Keep.refl s
  unfold execSleepRequest
  all_goals repeat' first
    | intro _
    | with_reducible apply good_okIf
    | with_reducible apply good_okAon
    | with_reducible apply good_ok
    | with_reducible apply good_ite
    | with_reducible assumption
    | with_reducible apply State.askSleep_keep
    | with_reducible apply keep_ite
    | split
    | dsimp only

theorem execCapControlTick_good (vin : Nat) (vhold : Nat) (pin : Nat) (spent : Bool) (ease : Bool) (s : State) : Good s (execCapControlTick vin vhold pin spent ease s) := by
  have hk := Keep.refl s
  unfold execCapControlTick
  extract_lets x1 x2 x3 x4
  try clear_value x2
  try clear_value x3
  try clear_value x4
  refine Keep.cut (a := Keep s x1) ?_ fun kx1 => ?_
  unfold x1
  rotate_left
  clear_value x1
  all_goals repeat' first
    | intro _
    | with_reducible apply good_okIf
    | with_reducible apply good_okAon
    | with_reducible apply good_ok
    | with_reducible apply good_ite
    | with_reducible assumption
    | with_reducible apply State.showCap_keep
    | with_reducible apply State.set_keep
    | with_reducible apply State.onPwr_keep
    | with_reducible apply keep_ite
    | split
    | dsimp only

theorem execVinHigh_good  (s : State) : Good s (execVinHigh s) := by
  have hk := Keep.refl s
  unfold execVinHigh
  all_goals repeat' first
    | intro _
    | with_reducible apply good_okIf
    | with_reducible apply good_okAon
    | with_reducible apply good_ok
    | with_reducible apply good_ite
    | with_reducible assumption
    | with_reducible apply State.raise_keep
    | with_reducible apply State.bump_keep
    | with_reducible apply keep_ite
    | split
    | dsimp only

theorem execRailPgTimeout_good (r : Nat) (dest : Nat) (s : State) : Good s (execRailPgTimeout r dest s) := by
  have hk := Keep.refl s
  unfold execRailPgTimeout
  extract_lets x1
  try clear_value x1
  all_goals repeat' first
    | intro _
    | with_reducible apply good_okIf
    | with_reducible apply good_okAon
    | with_reducible apply good_ok
    | with_reducible apply good_ite
    | with_reducible assumption
    | with_reducible apply State.railFails_keep
    | with_reducible apply State.onPwr_keep
    | with_reducible apply keep_ite
    | split
    | dsimp only

theorem execVinDip_good  (s : State) : Good s (execVinDip s) := by
  have hk := Keep.refl s
  unfold execVinDip
  all_goals repeat' first
    | intro _
    | with_reducible apply good_okIf
    | with_reducible apply good_okAon
    | with_reducible apply good_ok
    | with_reducible apply good_ite
    | with_reducible assumption
    | with_reducible apply State.raise_keep
    | with_reducible apply State.bump_keep
    | with_reducible apply keep_ite
    | split
    | dsimp only

theorem execInrushFail_good  (s : State) : Good s (execInrushFail s) := by
  have hk := Keep.refl s
  unfold execInrushFail
  all_goals repeat' first
    | intro _
    | with_reducible apply good_okIf
    | with_reducible apply good_okAon
    | with_reducible apply good_ok
    | with_reducible apply good_ite
    | with_reducible assumption
    | with_reducible apply State.raise_keep
    | with_reducible apply State.setB_keep
    | with_reducible apply State.onPwr_keep
    | with_reducible apply keep_ite
    | split
    | dsimp only

theorem execInrushRetry_good  (s : State) : Good s (execInrushRetry s) := by
  have hk := Keep.refl s
  unfold execInrushRetry
  all_goals repeat' first
    | intro _
    | with_reducible apply good_okIf
    | with_reducible apply good_okAon
    | with_reducible apply good_ok
    | with_reducible apply good_ite
    | with_reducible assumption
    | with_reducible apply State.setB_keep
    | with_reducible apply State.onPwr_keep
    | with_reducible apply keep_ite
    | split
    | dsimp only

theorem execSleepAnswerTimeout_good (d : Nat) (pg : Nat) (s : State) : Good s (execSleepAnswerTimeout d pg s) := by
  have hk := Keep.refl s
  unfold execSleepAnswerTimeout
  extract_lets x1
  try clear_value x1
  all_goals repeat' first
    | intro _
    | with_reducible apply good_okIf
    | with_reducible apply good_okAon
    | with_reducible apply good_ok
    | with_reducible apply good_ite
    | with_reducible assumption
    | with_reducible apply State.refused_keep
    | with_reducible apply keep_ite
    | split
    | dsimp only

theorem execDomainWake_good (d : Nat) (s : State) : Good s (execDomainWake d s) := by
  have hk := Keep.refl s
  unfold execDomainWake
  all_goals repeat' first
    | intro _
    | with_reducible apply good_okIf
    | with_reducible apply good_okAon
    | with_reducible apply good_ok
    | with_reducible apply good_ite
    | with_reducible assumption
    | with_reducible apply State.wake_keep
    | with_reducible apply keep_ite
    | split
    | dsimp only

theorem execVinPowerUp_good  (s : State) : Good s (execVinPowerUp s) := by
  have hk := Keep.refl s
  unfold execVinPowerUp
  extract_lets x1
  refine Keep.cut (a := ∀ u0, Keep s u0 → Keep s (x1 u0)) ?_ fun kx1 => ?_
  unfold x1
  rotate_left
  clear_value x1
  all_goals repeat' first
    | intro _
    | with_reducible apply good_okIf
    | with_reducible apply kx1
    | with_reducible apply good_okAon
    | with_reducible apply good_ok
    | with_reducible apply good_ite
    | with_reducible assumption
    | with_reducible apply State.setB_keep
    | with_reducible apply State.onPwr_keep
    | with_reducible apply State.toPhase_keep
    | with_reducible apply IoKeep.filter
    | with_reducible apply keep_onIo
    | with_reducible apply keep_ite
    | with_reducible apply ioKeep_ite
    | split
    | with_reducible apply IoKeep.mk'
    | dsimp only

end Sys2Proof.Machine
end

