-- ==== Sys2Proof/Laws/KeepReadChannel.lean ====
section
/-! SUPPORT. What the operations of Machine/ReadChannel.lean keep. -/

namespace Sys2Proof.Machine

set_option linter.unreachableTactic false
set_option linter.unusedTactic false

theorem State.liveFails_keep {r0 s : State} {a : Nat} {u : Nat} {reason : Nat} (hk : Keep r0 s) :
    Keep r0 (State.liveFails s a u reason) := by
  unfold State.liveFails
  all_goals repeat' first
    | intro _
    | with_reducible assumption
    | with_reducible apply State.toLadder_keep
    | with_reducible apply State.setDec_keep
    | with_reducible apply State.raise_keep
    | with_reducible apply State.bump_keep
    | with_reducible apply keep_ite
    | split
    | dsimp only

theorem execDecoderParityError_good (c : Nat) (dec : Nat) (s : State) : Good s (execDecoderParityError c dec s) := by
  have hk := Keep.refl s
  unfold execDecoderParityError
  extract_lets x1 x2 x3 x4 x5 x6
  try clear_value x1
  try clear_value x2
  try clear_value x3
  refine Keep.cut (a := Keep s x4) ?_ fun kx4 => ?_
  unfold x4
  rotate_left
  clear_value x4
  refine Keep.cut (a := Keep s x5) ?_ fun kx5 => ?_
  unfold x5
  rotate_left
  clear_value x5
  refine Keep.cut (a := Keep s x6) ?_ fun kx6 => ?_
  unfold x6
  rotate_left
  clear_value x6
  all_goals repeat' first
    | intro _
    | with_reducible apply good_okIf
    | with_reducible apply good_okAon
    | with_reducible apply good_ok
    | with_reducible apply good_ite
    | with_reducible assumption
    | with_reducible apply State.raise_keep
    | with_reducible apply State.bump_keep
    | with_reducible apply State.set_keep
    | with_reducible apply State.liveFails_keep
    | with_reducible apply State.setPool_keep
    | with_reducible apply State.settlePool_keep
    | with_reducible apply keep_ite
    | split
    | dsimp only

theorem execReplayDone_good (c : Nat) (unit : Nat) (s : State) : Good s (execReplayDone c unit s) := by
  have hk := Keep.refl s
  unfold execReplayDone
  extract_lets x1
  try clear_value x1
  all_goals repeat' first
    | intro _
    | with_reducible apply good_okIf
    | with_reducible apply good_okAon
    | with_reducible apply good_ok
    | with_reducible apply good_ite
    | with_reducible assumption
    | with_reducible apply State.setPool_keep
    | with_reducible apply keep_ite
    | split
    | dsimp only

theorem State.liveJudged_keep {r0 s : State} {a : Nat} {r : Record} {unit : Nat} {ciph : Nat} {b : Brick} {o : Nat} (hk : Keep r0 s) :
    Keep r0 (State.liveJudged s a r unit ciph b o) := by
  unfold State.liveJudged
  extract_lets x1
  refine Keep.cut (a := Keep r0 x1) ?_ fun kx1 => ?_
  unfold x1
  rotate_left
  clear_value x1
  all_goals repeat' first
    | intro _
    | with_reducible assumption
    | with_reducible apply State.holdBrick_keep
    | with_reducible apply State.setDec_keep
    | with_reducible apply State.bump_keep
    | with_reducible apply State.readOver_keep
    | with_reducible apply State.reportRec_keep
    | with_reducible apply State.liveFails_keep
    | with_reducible apply keep_ite
    | split
    | dsimp only

theorem State.countQm_keep {r0 s : State} {a : Nat} {head : Nat} {flips : Nat} (hk : Keep r0 s) :
    Keep r0 (State.countQm s a head flips) := by
  unfold State.countQm
  all_goals repeat' first
    | intro _
    | with_reducible assumption
    | with_reducible apply State.addTo_keep
    | with_reducible apply keep_ite
    | split
    | dsimp only

theorem State.liveEnds_keep {r0 s : State} {a : Nat} {j : LiveJob} {d : Decode} (hk : Keep r0 s) :
    Keep r0 (State.liveEnds s a j d) := by
  unfold State.liveEnds
  extract_lets x1 x2 x3 x4 x5 x6
  try clear_value x1
  try clear_value x2
  try clear_value x3
  try clear_value x4
  refine Keep.cut (a := Keep r0 x5) ?_ fun kx5 => ?_
  unfold x5
  rotate_left
  refine Keep.cut (a := Keep r0 x6) ?_ fun kx6 => ?_
  unfold x6
  rotate_left
  all_goals repeat' first
    | intro _
    | with_reducible assumption
    | with_reducible apply State.setRingRec_keep
    | with_reducible apply State.bump_keep
    | with_reducible apply State.settlePool_keep
    | with_reducible apply State.setPool_keep
    | with_reducible apply State.set_keep
    | with_reducible apply State.setB_keep
    | with_reducible apply State.liveFails_keep
    | with_reducible apply State.liveJudged_keep
    | with_reducible apply State.judge_keep
    | with_reducible apply State.countQm_keep
    | with_reducible apply keep_ite
    | split
    | dsimp only

theorem execLiveDecodeDone_good (a : Nat) (d : Decode) (s : State) : Good s (execLiveDecodeDone a d s) := by
  have hk := Keep.refl s
  unfold execLiveDecodeDone
  all_goals repeat' first
    | intro _
    | with_reducible apply good_okIf
    | with_reducible apply good_okAon
    | with_reducible apply good_ok
    | with_reducible apply good_ite
    | with_reducible assumption
    | with_reducible apply State.liveEnds_keep
    | with_reducible apply keep_ite
    | split
    | dsimp only

theorem State.levelDone_keep {r0 s : State} {c : Nat} {dec : Nat} (hk : Keep r0 s) :
    Keep r0 (State.levelDone s c dec) := by
  unfold State.levelDone
  all_goals repeat' first
    | intro _
    | with_reducible assumption
    | with_reducible apply State.raise_keep
    | with_reducible apply State.bump_keep
    | with_reducible apply keep_ite
    | split
    | dsimp only

theorem execQmClear_good (a : Nat) (s : State) : Good s (execQmClear a s) := by
  have hk := Keep.refl s
  unfold execQmClear
  all_goals repeat' first
    | intro _
    | with_reducible apply good_okIf
    | with_reducible apply good_okAon
    | with_reducible apply good_ok
    | with_reducible apply good_ite
    | with_reducible assumption
    | with_reducible apply State.set_keep
    | with_reducible apply keep_ite
    | split
    | dsimp only

theorem State.deliver_keep {r0 s : State} {c : Nat} {r : Record} {b : Brick} (hk : Keep r0 s) :
    Keep r0 (State.deliver s c r b) := by
  unfold State.deliver
  extract_lets x1
  refine Keep.cut (a := ∀ u0 u1, Keep r0 u0 → Keep r0 (x1 u0 u1)) ?_ fun kx1 => ?_
  unfold x1
  rotate_left
  clear_value x1
  all_goals repeat' first
    | intro _
    | with_reducible assumption
    | with_reducible apply kx1
    | with_reducible apply State.decrypt_keep
    | refine Keep.snd (by with_reducible assumption) ?_
    | with_reducible apply keep_ite
    | split
    | with_reducible apply Keep.mk'
    | dsimp only

theorem State.showSync_keep {r0 s : State} {a : Nat} {m : Marks} (hk : Keep r0 s) :
    Keep r0 (State.showSync s a m) := by
  unfold State.showSync
  extract_lets x1 x2 x3 x4 x5 x6
  try clear_value x1
  try clear_value x2
  try clear_value x3
  try clear_value x4
  refine Keep.cut (a := Keep r0 x5) ?_ fun kx5 => ?_
  unfold x5
  rotate_left
  clear_value x5
  refine Keep.cut (a := Keep r0 x6) ?_ fun kx6 => ?_
  unfold x6
  rotate_left
  clear_value x6
  all_goals repeat' first
    | intro _
    | with_reducible assumption
    | with_reducible apply State.setB_keep
    | with_reducible apply State.set_keep
    | with_reducible apply State.bumpN_keep
    | with_reducible apply keep_ite
    | split
    | dsimp only

theorem State.setSyncFound_keep {r0 s : State} {a : Nat} {b : Bool} (hk : Keep r0 s) :
    Keep r0 (State.setSyncFound s a b) := by
  unfold State.setSyncFound
  extract_lets x1 x2
  try clear_value x1
  try clear_value x2
  all_goals repeat' first
    | intro _
    | with_reducible assumption
    | with_reducible apply keep_ite
    | split
    | with_reducible apply Keep.mk'
    | dsimp only

theorem State.searchEnds_keep {r0 s : State} {a : Nat} {w : RdWin} {m : Marks} (hk : Keep r0 s) :
    Keep r0 (State.searchEnds s a w m) := by
  unfold State.searchEnds
  extract_lets x1 x2 x3 x4 x5 x6 x7
  try clear_value x2
  try clear_value x3
  try clear_value x4
  try clear_value x5
  try clear_value x6
  refine Keep.cut (a := Keep r0 x1) ?_ fun kx1 => ?_
  unfold x1
  rotate_left
  clear_value x1
  refine Keep.cut (a := Keep r0 x7) ?_ fun kx7 => ?_
  unfold x7
  rotate_left
  clear_value x7
  all_goals repeat' first
    | intro _
    | with_reducible assumption
    | with_reducible apply State.showSync_keep
    | with_reducible apply State.setRingRec_keep
    | with_reducible apply State.raise_keep
    | with_reducible apply State.bump_keep
    | with_reducible apply State.setSyncFound_keep
    | with_reducible apply State.toLadder_keep
    | with_reducible apply State.placeLive_keep
    | with_reducible apply State.setDec_keep
    | with_reducible apply keep_ite
    | split
    | dsimp only

theorem execSoftDetectionDone_good (a : Nat) (m : Marks) (s : State) : Good s (execSoftDetectionDone a m s) := by
  have hk := Keep.refl s
  unfold execSoftDetectionDone
  all_goals repeat' first
    | intro _
    | with_reducible apply good_okIf
    | with_reducible apply good_okAon
    | with_reducible apply good_ok
    | with_reducible apply good_ite
    | with_reducible assumption
    | with_reducible apply State.searchEnds_keep
    | with_reducible apply State.onDet_keep
    | with_reducible apply keep_ite
    | split
    | dsimp only

theorem execRetryStoreCopyDone_good (a : Nat) (u : Nat) (unit : Nat) (sram : Nat) (s : State) : Good s (execRetryStoreCopyDone a u unit sram s) := by
  have hk := Keep.refl s
  unfold execRetryStoreCopyDone
  extract_lets x1 x2 x3 x4
  try clear_value x1
  try clear_value x2
  refine Keep.cut (a := Keep s x3) ?_ fun kx3 => ?_
  unfold x3
  rotate_left
  clear_value x3
  refine Keep.cut (a := Keep s x4) ?_ fun kx4 => ?_
  unfold x4
  rotate_left
  clear_value x4
  all_goals repeat' first
    | intro _
    | with_reducible apply good_okIf
    | with_reducible apply good_okAon
    | with_reducible apply good_ok
    | with_reducible apply good_ite
    | with_reducible assumption
    | with_reducible apply State.setPin_keep
    | with_reducible apply State.reportRec_keep
    | with_reducible apply State.raise_keep
    | with_reducible apply State.bump_keep
    | with_reducible apply State.setStored_keep
    | with_reducible apply State.takeUnit_keep
    | with_reducible apply keep_ite
    | split
    | dsimp only

theorem execBrickRelease_good (a : Nat) (s : State) : Good s (execBrickRelease a s) := by
  have hk := Keep.refl s
  unfold execBrickRelease
  extract_lets x1 x2
  try clear_value x1
  try clear_value x2
  all_goals repeat' first
    | intro _
    | with_reducible apply good_okIf
    | with_reducible apply good_okAon
    | with_reducible apply good_ok
    | with_reducible apply good_ite
    | with_reducible assumption
    | with_reducible apply State.decrypt_keep
    | refine Keep.snd (by with_reducible assumption) ?_
    | with_reducible apply keep_ite
    | split
    | with_reducible apply Keep.mk'
    | dsimp only

theorem State.levelFails_keep {r0 s : State} {c : Nat} {dec : Nat} {j : RetryJob} (hk : Keep r0 s) :
    Keep r0 (State.levelFails s c dec j) := by
  unfold State.levelFails
  extract_lets x1 x2 x3 x4 x5 x6
  try clear_value x1
  try clear_value x5
  try clear_value x6
  refine Keep.cut (a := Keep r0 x2) ?_ fun kx2 => ?_
  unfold x2
  rotate_left
  clear_value x2
  refine Keep.cut (a := Keep r0 x3) ?_ fun kx3 => ?_
  unfold x3
  rotate_left
  clear_value x3
  refine Keep.cut (a := Keep r0 x4) ?_ fun kx4 => ?_
  unfold x4
  rotate_left
  clear_value x4
  all_goals repeat' first
    | intro _
    | with_reducible assumption
    | with_reducible apply State.reportRec_keep
    | with_reducible apply State.levelDone_keep
    | with_reducible apply State.bump_keep
    | with_reducible apply State.raise_keep
    | with_reducible apply State.setStored_keep
    | with_reducible apply State.setPool_keep
    | with_reducible apply keep_ite
    | split
    | with_reducible apply Keep.mk'
    | dsimp only

theorem State.leaveDec_keep {r0 s : State} {c : Nat} {run : Running} (hk : Keep r0 s) :
    Keep r0 (State.leaveDec s c run) := by
  unfold State.leaveDec
  extract_lets x1
  try clear_value x1
  all_goals repeat' first
    | intro _
    | with_reducible assumption
    | with_reducible apply State.setPool_keep
    | with_reducible apply keep_ite
    | split
    | dsimp only

theorem State.attemptFails_keep {r0 s : State} {c : Nat} {run : Running} {r : Record} (hk : Keep r0 s) :
    Keep r0 (State.attemptFails s c run r) := by
  unfold State.attemptFails
  extract_lets x1 x2 x3
  try clear_value x1
  try clear_value x2
  try clear_value x3
  all_goals repeat' first
    | intro _
    | with_reducible assumption
    | with_reducible apply State.setPool_keep
    | with_reducible apply State.settlePool_keep
    | with_reducible apply State.levelFails_keep
    | with_reducible apply State.leaveDec_keep
    | with_reducible apply keep_ite
    | split
    | dsimp only

theorem State.countRecov_keep {r0 s : State} {a : Nat} {lv : Nat} (hk : Keep r0 s) :
    Keep r0 (State.countRecov s a lv) := by
  unfold State.countRecov
  all_goals repeat' first
    | intro _
    | with_reducible assumption
    | with_reducible apply State.bump_keep
    | with_reducible apply keep_ite
    | split
    | dsimp only

theorem execFenceWrite_good (c : Nat) (value : Word) (s : State) : Good s (execFenceWrite c value s) := by
  have hk := Keep.refl s
  unfold execFenceWrite
  extract_lets x1
  refine Keep.cut (a := Keep s x1) ?_ fun kx1 => ?_
  unfold x1
  rotate_left
  clear_value x1
  all_goals repeat' first
    | intro _
    | with_reducible apply good_okIf
    | with_reducible apply good_okAon
    | with_reducible apply good_ok
    | with_reducible apply good_ite
    | with_reducible assumption
    | with_reducible apply State.set_keep
    | with_reducible apply State.settlePool_keep
    | with_reducible apply State.setPool_keep
    | with_reducible apply keep_ite
    | split
    | dsimp only

theorem State.jobPassed_keep {r0 s : State} {c : Nat} {dec : Nat} {j : RetryJob} {r : Record} {b : Brick} (hk : Keep r0 s) :
    Keep r0 (State.jobPassed s c dec j r b) := by
  unfold State.jobPassed
  extract_lets x1 x2 x3
  try clear_value x1
  refine Keep.cut (a := Keep r0 x2) ?_ fun kx2 => ?_
  unfold x2
  rotate_left
  clear_value x2
  refine Keep.cut (a := Keep r0 x3) ?_ fun kx3 => ?_
  unfold x3
  rotate_left
  clear_value x3
  all_goals repeat' first
    | intro _
    | with_reducible assumption
    | with_reducible apply State.deliver_keep
    | with_reducible apply State.levelDone_keep
    | with_reducible apply State.countRecov_keep
    | with_reducible apply State.freeUnits_keep
    | with_reducible apply State.readOver_keep
    | with_reducible apply State.reportRec_keep
    | with_reducible apply State.settlePool_keep
    | with_reducible apply keep_ite
    | split
    | dsimp only

theorem State.jobOver_keep {r0 s : State} {c : Nat} {dec : Nat} {j : RetryJob} {r : Record} {k : ReportKind} (hk : Keep r0 s) :
    Keep r0 (State.jobOver s c dec j r k) := by
  unfold State.jobOver
  all_goals repeat' first
    | intro _
    | with_reducible assumption
    | with_reducible apply State.settlePool_keep
    | with_reducible apply State.freeUnits_keep
    | with_reducible apply State.reportRec_keep
    | with_reducible apply State.levelDone_keep
    | with_reducible apply keep_ite
    | split
    | dsimp only

theorem State.attemptEnds_keep {r0 s : State} {c : Nat} {run : Running} {d : Decode} (hk : Keep r0 s) :
    Keep r0 (State.attemptEnds s c run d) := by
  unfold State.attemptEnds
  extract_lets x1 x2 x3 x4
  try clear_value x1
  try clear_value x2
  try clear_value x3
  refine Keep.cut (a := Keep r0 x4) ?_ fun kx4 => ?_
  unfold x4
  rotate_left
  all_goals repeat' first
    | intro _
    | with_reducible assumption
    | with_reducible apply State.judge_keep
    | with_reducible apply State.setStored_keep
    | with_reducible apply State.jobPassed_keep
    | with_reducible apply State.leaveDec_keep
    | with_reducible apply State.jobOver_keep
    | with_reducible apply State.attemptFails_keep
    | with_reducible apply keep_ite
    | split
    | dsimp only

theorem execRetryAttemptDone_good (c : Nat) (dec : Nat) (d : Decode) (s : State) : Good s (execRetryAttemptDone c dec d s) := by
  have hk := Keep.refl s
  unfold execRetryAttemptDone
  all_goals repeat' first
    | intro _
    | with_reducible apply good_okIf
    | with_reducible apply good_okAon
    | with_reducible apply good_ok
    | with_reducible apply good_ite
    | with_reducible assumption
    | with_reducible apply State.attemptEnds_keep
    | with_reducible apply keep_ite
    | split
    | dsimp only

theorem execRetryJobPost_good (c : Nat) (unit : Nat) (urgent : Bool) (s : State) : Good s (execRetryJobPost c unit urgent s) := by
  have hk := Keep.refl s
  unfold execRetryJobPost
  extract_lets x1 x2 x3 x4
  try clear_value x1
  try clear_value x2
  try clear_value x3
  try clear_value x4
  all_goals repeat' first
    | intro _
    | with_reducible apply good_okIf
    | with_reducible apply good_okAon
    | with_reducible apply good_ok
    | with_reducible apply good_ite
    | with_reducible assumption
    | with_reducible apply State.setPool_keep
    | with_reducible apply State.postRetry_keep
    | with_reducible apply keep_ite
    | split
    | dsimp only

theorem execReadWindowEnd_good (a : Nat) (taps0 : List Int) (taps1 : List Int) (s : State) : Good s (execReadWindowEnd a taps0 taps1 s) := by
  have hk := Keep.refl s
  unfold execReadWindowEnd
  all_goals repeat' first
    | intro _
    | with_reducible apply good_okIf
    | with_reducible apply good_okAon
    | with_reducible apply good_ok
    | with_reducible apply good_ite
    | with_reducible assumption
    | with_reducible apply State.onDet_keep
    | with_reducible apply State.raise_keep
    | with_reducible apply State.dramWrite_keep
    | with_reducible apply keep_ite
    | split
    | dsimp only

theorem execLevelBoundaryDecision_good (c : Nat) (tag : Nat) (tRb : Nat) (dest : Nat) (s : State) : Good s (execLevelBoundaryDecision c tag tRb dest s) := by
  have hk := Keep.refl s
  unfold execLevelBoundaryDecision
  extract_lets x1 x2
  try clear_value x1
  try clear_value x2
  all_goals repeat' first
    | intro _
    | with_reducible apply good_okIf
    | with_reducible apply good_okAon
    | with_reducible apply good_ok
    | with_reducible apply good_ite
    | with_reducible assumption
    | with_reducible apply State.setPool_keep
    | with_reducible apply State.reportRec_keep
    | with_reducible apply State.freeUnits_keep
    | with_reducible apply State.settlePool_keep
    | with_reducible apply State.setStored_keep
    | with_reducible apply keep_ite
    | split
    | dsimp only

theorem execWedgeDemodulated_good (a : Nat) (rec : WedgeRec) (s : State) : Good s (execWedgeDemodulated a rec s) := by
  have hk := Keep.refl s
  unfold execWedgeDemodulated
  extract_lets x1 x2 x3 x4 x5 x6 x7 x8 x9 x10 x11
  try clear_value x1
  try clear_value x2
  try clear_value x3
  try clear_value x4
  try clear_value x6
  try clear_value x8
  try clear_value x9
  try clear_value x10
  refine Keep.cut (a := Keep s x5) ?_ fun kx5 => ?_
  unfold x5
  rotate_left
  clear_value x5
  refine Keep.cut (a := Keep s x7) ?_ fun kx7 => ?_
  unfold x7
  rotate_left
  clear_value x7
  refine Keep.cut (a := Keep s x11) ?_ fun kx11 => ?_
  unfold x11
  rotate_left
  clear_value x11
  all_goals repeat' first
    | intro _
    | with_reducible apply good_okIf
    | with_reducible apply good_okAon
    | with_reducible apply good_ok
    | with_reducible apply good_ite
    | with_reducible assumption
    | with_reducible apply State.onDet_keep
    | with_reducible apply State.raise_keep
    | with_reducible apply State.bump_keep
    | with_reducible apply keep_ite
    | split
    | with_reducible apply Keep.mk'
    | dsimp only

theorem execRetryJobDeferredPost_good (c : Nat) (s : State) : Good s (execRetryJobDeferredPost c s) := by
  have hk := Keep.refl s
  unfold execRetryJobDeferredPost
  extract_lets x1
  try clear_value x1
  all_goals repeat' first
    | intro _
    | with_reducible apply good_okIf
    | with_reducible apply good_okAon
    | with_reducible apply good_ok
    | with_reducible apply good_ite
    | with_reducible assumption
    | with_reducible apply State.postRetry_keep
    | with_reducible apply keep_ite
    | split
    | with_reducible apply Keep.mk'
    | dsimp only

end Sys2Proof.Machine
end

