-- ==== Sys2Proof/Laws/KeepSequencer.lean ====
section
/-! SUPPORT. What the operations of Machine/Sequencer.lean keep. -/

namespace Sys2Proof.Machine

set_option linter.unreachableTactic false
set_option linter.unusedTactic false

theorem State.showDigest_keep {r0 s : State} {c : Nat} (hk : Keep r0 s) :
    Keep r0 (State.showDigest s c) := by
  unfold State.showDigest
  extract_lets x1
  try clear_value x1
  all_goals repeat' first
    | intro _
    | with_reducible assumption
    | with_reducible apply State.set_keep
    | with_reducible apply keep_ite
    | with_reducible apply keep_foldl
    | split
    | dsimp only

theorem State.runThread_keep {r0 s : State} {a : Nat} (hk : Keep r0 s) :
    Keep r0 (State.runThread s a) := by
  unfold State.runThread
  all_goals repeat' first
    | intro _
    | with_reducible assumption
    | with_reducible apply State.toSq_keep
    | with_reducible apply State.onThr_keep
    | with_reducible apply keep_ite
    | split
    | dsimp only

theorem execThreadRun_good (acc : Accessor) (a : Nat) (s : State) : Good s (execThreadRun acc a s) := by
  have hk := Keep.refl s
  unfold execThreadRun
  all_goals repeat' first
    | intro _
    | with_reducible apply good_okIf
    | with_reducible apply good_okAon
    | with_reducible apply good_ok
    | with_reducible apply good_ite
    | with_reducible assumption
    | with_reducible apply State.lockedWrite_keep
    | with_reducible apply State.runThread_keep
    | with_reducible apply keep_ite
    | split
    | dsimp only

theorem State.machineCheck_keep {r0 s : State} {a : Nat} {w : Nat} {cause : Nat} (hk : Keep r0 s) :
    Keep r0 (State.machineCheck s a w cause) := by
  unfold State.machineCheck
  extract_lets x1 x2 x3 x4
  try clear_value x1
  refine Keep.cut (a := Keep r0 x2) ?_ fun kx2 => ?_
  unfold x2
  rotate_left
  clear_value x2
  refine Keep.cut (a := Keep r0 x3) ?_ fun kx3 => ?_
  unfold x3
  rotate_left
  clear_value x3
  refine Keep.cut (a := Keep r0 x4) ?_ fun kx4 => ?_
  unfold x4
  rotate_left
  clear_value x4
  all_goals repeat' first
    | intro _
    | with_reducible assumption
    | with_reducible apply State.raise_keep
    | with_reducible apply State.bump_keep
    | with_reducible apply State.set_keep
    | with_reducible apply State.toSq_keep
    | with_reducible apply State.setB_keep
    | with_reducible apply State.token_keep
    | with_reducible apply State.abandonWin_keep
    | with_reducible apply keep_ite
    | split
    | dsimp only

theorem State.goOn_keep {r0 s : State} {a : Nat} {w : Nat} {c : Bool} {lc : Nat} {op : Nat} (hk : Keep r0 s) :
    Keep r0 (State.goOn s a w c lc op) := by
  unfold State.goOn
  extract_lets x1 x2 x3
  try clear_value x1
  try clear_value x3
  refine Keep.cut (a := ∀ u0 u1, Keep r0 u0 → Keep r0 (x2 u0 u1)) ?_ fun kx2 => ?_
  unfold x2
  rotate_left
  clear_value x2
  all_goals repeat' first
    | intro _
    | with_reducible assumption
    | with_reducible apply kx2
    | with_reducible apply State.onThr_keep
    | with_reducible apply State.set_keep
    | with_reducible apply State.toSq_keep
    | with_reducible apply State.raise_keep
    | with_reducible apply keep_ite
    | split
    | dsimp only

theorem State.tickTimers_keep {r0 s : State} {a : Nat} {n : Nat} (hk : Keep r0 s) :
    Keep r0 (State.tickTimers s a n) := by
  unfold State.tickTimers
  all_goals repeat' first
    | intro _
    | with_reducible assumption
    | with_reducible apply State.set_keep
    | with_reducible apply keep_ite
    | split
    | dsimp only

theorem State.showWord_keep {r0 s : State} {a : Nat} {w : Nat} (hk : Keep r0 s) :
    Keep r0 (State.showWord s a w) := by
  unfold State.showWord
  all_goals repeat' first
    | intro _
    | with_reducible assumption
    | with_reducible apply State.set_keep
    | with_reducible apply keep_ite
    | split
    | dsimp only

theorem State.openBrick_keep {r0 s : State} {a : Nat} {w : Nat} (hk : Keep r0 s) :
    Keep r0 (State.openBrick s a w) := by
  unfold State.openBrick
  extract_lets x1 x2 x3 x4 x5 x6 x7 x8 x9 x10 x11 x12
  try clear_value x1
  try clear_value x2
  try clear_value x3
  try clear_value x4
  try clear_value x5
  try clear_value x6
  try clear_value x7
  try clear_value x8
  try clear_value x9
  try clear_value x10
  try clear_value x11
  refine Keep.cut (a := Keep r0 x12) ?_ fun kx12 => ?_
  unfold x12
  rotate_left
  clear_value x12
  all_goals repeat' first
    | intro _
    | with_reducible assumption
    | with_reducible apply State.reportRec_keep
    | with_reducible apply State.raise_keep
    | with_reducible apply State.bump_keep
    | with_reducible apply State.onDet_keep
    | with_reducible apply State.setRingRec_keep
    | with_reducible apply State.setB_keep
    | with_reducible apply State.set_keep
    | with_reducible apply keep_ite
    | split
    | dsimp only

theorem State.doSwin_keep {r0 s : State} {a : Nat} {w : Nat} (hk : Keep r0 s) :
    Keep r0 (State.doSwin s a w) := by
  unfold State.doSwin
  all_goals repeat' first
    | intro _
    | with_reducible assumption
    | with_reducible apply State.openBrick_keep
    | with_reducible apply State.onDet_keep
    | with_reducible apply keep_ite
    | split
    | dsimp only

theorem State.emitArm_keep {r0 s : State} {a : Nat} (hk : Keep r0 s) :
    Keep r0 (State.emitArm s a) := by
  unfold State.emitArm
  extract_lets x1 x2 x3
  try clear_value x1
  try clear_value x2
  refine Keep.cut (a := Keep r0 x3) ?_ fun kx3 => ?_
  unfold x3
  rotate_left
  clear_value x3
  all_goals repeat' first
    | intro _
    | with_reducible assumption
    | with_reducible apply State.sendCmd_keep
    | with_reducible apply State.syncGate_keep
    | with_reducible apply State.onThr_keep
    | with_reducible apply keep_ite
    | split
    | dsimp only

theorem State.doEmit_keep {r0 s : State} {a : Nat} {w : Nat} (hk : Keep r0 s) :
    Keep r0 (State.doEmit s a w) := by
  unfold State.doEmit
  extract_lets x1 x2 x3
  try clear_value x1
  try clear_value x2
  try clear_value x3
  all_goals repeat' first
    | intro _
    | with_reducible assumption
    | with_reducible apply State.emitArm_keep
    | with_reducible apply State.emitBrick_keep
    | with_reducible apply State.restage_keep
    | with_reducible apply State.syncGate_keep
    | with_reducible apply State.onThr_keep
    | with_reducible apply State.onLk_keep
    | with_reducible apply State.emitSplit_keep
    | with_reducible apply State.emitResume_keep
    | with_reducible apply State.sendCmd_keep
    | with_reducible apply State.setB_keep
    | with_reducible apply State.loadRequest_keep
    | with_reducible apply State.sendUnload_keep
    | with_reducible apply State.assistSet_keep
    | with_reducible apply State.killGates_keep
    | with_reducible apply State.sendDn_keep
    | with_reducible apply keep_ite
    | split
    | with_reducible apply Keep.mk'
    | dsimp only

theorem State.doAsst_keep {r0 s : State} {a : Nat} {w : Nat} (hk : Keep r0 s) :
    Keep r0 (State.doAsst s a w) := by
  unfold State.doAsst
  all_goals repeat' first
    | intro _
    | with_reducible assumption
    | with_reducible apply State.assistAuto_keep
    | with_reducible apply State.assistSet_keep
    | with_reducible apply keep_ite
    | split
    | dsimp only

theorem State.doPal_keep {r0 s : State} {a : Nat} {w : Nat} (hk : Keep r0 s) :
    Keep r0 (State.doPal s a w) := by
  unfold State.doPal
  all_goals repeat' first
    | intro _
    | with_reducible assumption
    | with_reducible apply State.stage_keep
    | with_reducible apply State.onThr_keep
    | with_reducible apply State.returnPallet_keep
    | with_reducible apply keep_ite
    | split
    | dsimp only

theorem State.doJob_keep {r0 s : State} {a : Nat} {w : Nat} (hk : Keep r0 s) :
    Keep r0 (State.doJob s a w) := by
  unfold State.doJob
  all_goals repeat' first
    | intro _
    | with_reducible assumption
    | with_reducible apply State.onThr_keep
    | with_reducible apply Io.setFifo_keep
    | with_reducible apply State.token_keep
    | with_reducible apply keep_onIo
    | with_reducible apply keep_ite
    | with_reducible apply ioKeep_ite
    | split
    | dsimp only

theorem State.doSvr_keep {r0 s : State} {a : Nat} {w : Nat} (hk : Keep r0 s) :
    Keep r0 (State.doSvr s a w) := by
  unfold State.doSvr
  extract_lets x1
  try clear_value x1
  all_goals repeat' first
    | intro _
    | with_reducible assumption
    | with_reducible apply State.seekRequest_keep
    | with_reducible apply keep_ite
    | split
    | dsimp only

theorem State.doOfs_keep {r0 s : State} {a : Nat} {w : Nat} (hk : Keep r0 s) :
    Keep r0 (State.doOfs s a w) := by
  unfold State.doOfs
  all_goals repeat' first
    | intro _
    | with_reducible assumption
    | with_reducible apply State.set_keep
    | with_reducible apply State.toZone_keep
    | with_reducible apply keep_ite
    | split
    | dsimp only

theorem State.doTmr_keep {r0 s : State} {a : Nat} {w : Nat} (hk : Keep r0 s) :
    Keep r0 (State.doTmr s a w) := by
  unfold State.doTmr
  all_goals repeat' first
    | intro _
    | with_reducible assumption
    | with_reducible apply State.set_keep
    | with_reducible apply keep_ite
    | split
    | dsimp only

theorem State.doFlg_keep {r0 s : State} {a : Nat} {w : Nat} (hk : Keep r0 s) :
    Keep r0 (State.doFlg s a w) := by
  unfold State.doFlg
  extract_lets x1 x2
  try clear_value x1
  try clear_value x2
  all_goals repeat' first
    | intro _
    | with_reducible assumption
    | with_reducible apply State.set_keep
    | with_reducible apply keep_ite
    | split
    | dsimp only

theorem State.doActions_keep {r0 s : State} {a : Nat} {w : Nat} (hk : Keep r0 s) :
    Keep r0 (State.doActions s a w) := by
  unfold State.doActions
  all_goals repeat' first
    | intro _
    | with_reducible assumption
    | with_reducible apply State.doSwin_keep
    | with_reducible apply State.doEmit_keep
    | with_reducible apply State.doAsst_keep
    | with_reducible apply State.doPal_keep
    | with_reducible apply State.doJob_keep
    | with_reducible apply State.doSvr_keep
    | with_reducible apply State.doOfs_keep
    | with_reducible apply State.doTmr_keep
    | with_reducible apply State.doFlg_keep
    | with_reducible apply keep_ite
    | split
    | dsimp only

theorem State.firstSlot_keep {r0 s : State} {a : Nat} {w : Nat} (hk : Keep r0 s) :
    Keep r0 (State.firstSlot s a w) := by
  unfold State.firstSlot
  extract_lets x1 x2 x3 x4 x5
  try clear_value x1
  refine Keep.cut (a := Keep r0 x2) ?_ fun kx2 => ?_
  unfold x2
  rotate_left
  clear_value x2
  refine Keep.cut (a := Keep r0 x3) ?_ fun kx3 => ?_
  unfold x3
  rotate_left
  clear_value x3
  refine Keep.cut (a := Keep r0 x4) ?_ fun kx4 => ?_
  unfold x4
  rotate_left
  clear_value x4
  refine Keep.cut (a := Keep r0 x5) ?_ fun kx5 => ?_
  unfold x5
  rotate_left
  clear_value x5
  all_goals repeat' first
    | intro _
    | with_reducible assumption
    | with_reducible apply State.tickTimers_keep
    | with_reducible apply State.setB_keep
    | with_reducible apply State.set_keep
    | with_reducible apply State.showWord_keep
    | with_reducible apply State.onThr_keep
    | with_reducible apply State.doActions_keep
    | with_reducible apply State.drawn_keep
    | with_reducible apply keep_ite
    | split
    | dsimp only

theorem State.issue_keep {r0 s : State} {a : Nat} {w : Nat} (hk : Keep r0 s) :
    Keep r0 (State.issue s a w) := by
  unfold State.issue
  extract_lets x1 x2 x3 x4 x5 x6 x7 x8 x9 x10
  try clear_value x1
  try clear_value x2
  try clear_value x3
  try clear_value x4
  try clear_value x7
  try clear_value x8
  try clear_value x9
  refine Keep.cut (a := Keep r0 x5) ?_ fun kx5 => ?_
  unfold x5
  rotate_left
  clear_value x5
  refine Keep.cut (a := Keep r0 x6) ?_ fun kx6 => ?_
  unfold x6
  rotate_left
  clear_value x6
  refine Keep.cut (a := Keep r0 x10) ?_ fun kx10 => ?_
  unfold x10
  rotate_left
  clear_value x10
  all_goals repeat' first
    | intro _
    | with_reducible assumption
    | with_reducible apply State.set_keep
    | with_reducible apply State.goOn_keep
    | with_reducible apply State.firstSlot_keep
    | with_reducible apply State.tickTimers_keep
    | with_reducible apply State.machineCheck_keep
    | with_reducible apply keep_ite
    | split
    | dsimp only

theorem State.seqSlot_keep {r0 s : State} {a : Nat} {upset : Nat} {op : Nat} (hk : Keep r0 s) :
    Keep r0 (State.seqSlot s a upset op) := by
  unfold State.seqSlot
  extract_lets x1 x2 x3 x4 x5
  try clear_value x1
  try clear_value x2
  try clear_value x3
  try clear_value x4
  refine Keep.cut (a := Keep r0 x5) ?_ fun kx5 => ?_
  unfold x5
  rotate_left
  clear_value x5
  all_goals repeat' first
    | intro _
    | with_reducible assumption
    | with_reducible apply State.setCsWord_keep
    | with_reducible apply State.machineCheck_keep
    | with_reducible apply State.issue_keep
    | with_reducible apply keep_ite
    | split
    | dsimp only

theorem execSeqBranch_good (a : Nat) (upset : Nat) (s : State) : Good s (execSeqBranch a upset s) := by
  have hk := Keep.refl s
  unfold execSeqBranch
  all_goals repeat' first
    | intro _
    | with_reducible apply good_okIf
    | with_reducible apply good_okAon
    | with_reducible apply good_ok
    | with_reducible apply good_ite
    | with_reducible assumption
    | with_reducible apply State.seqSlot_keep
    | with_reducible apply keep_ite
    | split
    | dsimp only

theorem execZoneEntryStore_good (acc : Accessor) (c : Nat) (value : Word) (s : State) : Good s (execZoneEntryStore acc c value s) := by
  have hk := Keep.refl s
  unfold execZoneEntryStore
  extract_lets x1 x2 x3 x4 x5
  try clear_value x1
  try clear_value x2
  try clear_value x3
  try clear_value x5
  refine Keep.cut (a := Keep s x4) ?_ fun kx4 => ?_
  unfold x4
  rotate_left
  clear_value x4
  all_goals repeat' first
    | intro _
    | with_reducible apply good_okIf
    | with_reducible apply good_okAon
    | with_reducible apply good_ok
    | with_reducible apply good_ite
    | with_reducible assumption
    | with_reducible apply State.lockedWrite_keep
    | with_reducible apply State.set_keep
    | with_reducible apply keep_ite
    | split
    | with_reducible apply Keep.mk'
    | dsimp only

theorem execCsParityRepair_good (c : Nat) (n : Nat) (word : Nat) (s : State) : Good s (execCsParityRepair c n word s) := by
  have hk := Keep.refl s
  unfold execCsParityRepair
  all_goals repeat' first
    | intro _
    | with_reducible apply good_okIf
    | with_reducible apply good_okAon
    | with_reducible apply good_ok
    | with_reducible apply good_ite
    | with_reducible assumption
    | with_reducible apply State.runThread_keep
    | with_reducible apply State.setCsWord_keep
    | with_reducible apply keep_ite
    | with_reducible apply keep_foldl
    | split
    | dsimp only

theorem execWaitSatisfied_good (a : Nat) (slots : Nat) (s : State) : Good s (execWaitSatisfied a slots s) := by
  have hk := Keep.refl s
  unfold execWaitSatisfied
  extract_lets x1 x2
  try clear_value x1
  refine Keep.cut (a := Keep s x2) ?_ fun kx2 => ?_
  unfold x2
  rotate_left
  clear_value x2
  all_goals repeat' first
    | intro _
    | with_reducible apply good_okIf
    | with_reducible apply good_okAon
    | with_reducible apply good_ok
    | with_reducible apply good_ite
    | with_reducible assumption
    | with_reducible apply State.tickTimers_keep
    | with_reducible apply State.toSq_keep
    | with_reducible apply State.onThr_keep
    | with_reducible apply keep_ite
    | split
    | dsimp only

theorem execSqWordRead_good (acc : Accessor) (a : Nat) (s : State) : Good s (execSqWordRead acc a s) := by
  have hk := Keep.refl s
  unfold execSqWordRead
  extract_lets x1
  try clear_value x1
  all_goals repeat' first
    | intro _
    | with_reducible apply good_okIf
    | with_reducible apply good_okAon
    | with_reducible apply good_ok
    | with_reducible apply good_ite
    | with_reducible assumption
    | with_reducible apply keep_onIo
    | with_reducible apply keep_ite
    | with_reducible apply ioKeep_ite
    | split
    | with_reducible apply IoKeep.mk'
    | dsimp only

theorem execSeqNext_good (a : Nat) (upset : Nat) (s : State) : Good s (execSeqNext a upset s) := by
  have hk := Keep.refl s
  unfold execSeqNext
  all_goals repeat' first
    | intro _
    | with_reducible apply good_okIf
    | with_reducible apply good_okAon
    | with_reducible apply good_ok
    | with_reducible apply good_ite
    | with_reducible assumption
    | with_reducible apply State.seqSlot_keep
    | with_reducible apply keep_ite
    | split
    | dsimp only

theorem execThreadAbort_good (acc : Accessor) (a : Nat) (s : State) : Good s (execThreadAbort acc a s) := by
  have hk := Keep.refl s
  unfold execThreadAbort
  all_goals repeat' first
    | intro _
    | with_reducible apply good_okIf
    | with_reducible apply good_okAon
    | with_reducible apply good_ok
    | with_reducible apply good_ite
    | with_reducible assumption
    | with_reducible apply State.lockedWrite_keep
    | with_reducible apply State.setB_keep
    | with_reducible apply keep_ite
    | split
    | dsimp only

theorem execSeqHalt_good (a : Nat) (upset : Nat) (s : State) : Good s (execSeqHalt a upset s) := by
  have hk := Keep.refl s
  unfold execSeqHalt
  all_goals repeat' first
    | intro _
    | with_reducible apply good_okIf
    | with_reducible apply good_okAon
    | with_reducible apply good_ok
    | with_reducible apply good_ite
    | with_reducible assumption
    | with_reducible apply State.seqSlot_keep
    | with_reducible apply keep_ite
    | split
    | dsimp only

theorem execCsLoadEnable_good (acc : Accessor) (c : Nat) (value : Bool) (s : State) : Good s (execCsLoadEnable acc c value s) := by
  have hk := Keep.refl s
  unfold execCsLoadEnable
  all_goals repeat' first
    | intro _
    | with_reducible apply good_okIf
    | with_reducible apply good_okAon
    | with_reducible apply good_ok
    | with_reducible apply good_ite
    | with_reducible assumption
    | with_reducible apply State.lockedWrite_keep
    | with_reducible apply State.setB_keep
    | with_reducible apply keep_ite
    | split
    | dsimp only

theorem execGateEndTimeout_good (a : Nat) (tag : Nat) (s : State) : Good s (execGateEndTimeout a tag s) := by
  have hk := Keep.refl s
  unfold execGateEndTimeout
  all_goals repeat' first
    | intro _
    | with_reducible apply good_okIf
    | with_reducible apply good_okAon
    | with_reducible apply good_ok
    | with_reducible apply good_ite
    | with_reducible assumption
    | with_reducible apply State.dropGate_keep
    | with_reducible apply keep_ite
    | split
    | dsimp only

theorem execDigestClr_good (acc : Accessor) (c : Nat) (s : State) : Good s (execDigestClr acc c s) := by
  have hk := Keep.refl s
  unfold execDigestClr
  extract_lets x1
  try clear_value x1
  all_goals repeat' first
    | intro _
    | with_reducible apply good_okIf
    | with_reducible apply good_okAon
    | with_reducible apply good_ok
    | with_reducible apply good_ite
    | with_reducible assumption
    | with_reducible apply State.lockedWrite_keep
    | with_reducible apply State.showDigest_keep
    | with_reducible apply keep_ite
    | split
    | with_reducible apply Keep.mk'
    | dsimp only

theorem execSeqLoop_good (a : Nat) (upset : Nat) (s : State) : Good s (execSeqLoop a upset s) := by
  have hk := Keep.refl s
  unfold execSeqLoop
  all_goals repeat' first
    | intro _
    | with_reducible apply good_okIf
    | with_reducible apply good_okAon
    | with_reducible apply good_ok
    | with_reducible apply good_ite
    | with_reducible assumption
    | with_reducible apply State.seqSlot_keep
    | with_reducible apply keep_ite
    | split
    | dsimp only

theorem execSeqWait_good (a : Nat) (upset : Nat) (s : State) : Good s (execSeqWait a upset s) := by
  have hk := Keep.refl s
  unfold execSeqWait
  all_goals repeat' first
    | intro _
    | with_reducible apply good_okIf
    | with_reducible apply good_okAon
    | with_reducible apply good_ok
    | with_reducible apply good_ite
    | with_reducible assumption
    | with_reducible apply State.seqSlot_keep
    | with_reducible apply keep_ite
    | split
    | dsimp only

theorem execJobPost_good (a : Nat) (item : Nat) (pred : Nat) (s : State) : Good s (execJobPost a item pred s) := by
  have hk := Keep.refl s
  unfold execJobPost
  extract_lets x1
  refine Keep.cut (a := Keep s x1) ?_ fun kx1 => ?_
  unfold x1
  rotate_left
  clear_value x1
  all_goals repeat' first
    | intro _
    | with_reducible apply good_okIf
    | with_reducible apply good_okAon
    | with_reducible apply good_ok
    | with_reducible apply good_ite
    | with_reducible assumption
    | with_reducible apply State.post_keep
    | with_reducible apply State.enqueue_keep
    | with_reducible apply State.raise_keep
    | with_reducible apply keep_ite
    | split
    | dsimp only

theorem execSeqJump_good (a : Nat) (upset : Nat) (s : State) : Good s (execSeqJump a upset s) := by
  have hk := Keep.refl s
  unfold execSeqJump
  all_goals repeat' first
    | intro _
    | with_reducible apply good_okIf
    | with_reducible apply good_okAon
    | with_reducible apply good_ok
    | with_reducible apply good_ite
    | with_reducible assumption
    | with_reducible apply State.seqSlot_keep
    | with_reducible apply keep_ite
    | split
    | dsimp only

theorem execThreadHalt_good (acc : Accessor) (a : Nat) (s : State) : Good s (execThreadHalt acc a s) := by
  have hk := Keep.refl s
  unfold execThreadHalt
  all_goals repeat' first
    | intro _
    | with_reducible apply good_okIf
    | with_reducible apply good_okAon
    | with_reducible apply good_ok
    | with_reducible apply good_ite
    | with_reducible assumption
    | with_reducible apply State.lockedWrite_keep
    | with_reducible apply State.toSq_keep
    | with_reducible apply keep_ite
    | split
    | dsimp only

theorem execSeqCall_good (a : Nat) (upset : Nat) (s : State) : Good s (execSeqCall a upset s) := by
  have hk := Keep.refl s
  unfold execSeqCall
  all_goals repeat' first
    | intro _
    | with_reducible apply good_okIf
    | with_reducible apply good_okAon
    | with_reducible apply good_ok
    | with_reducible apply good_ite
    | with_reducible assumption
    | with_reducible apply State.seqSlot_keep
    | with_reducible apply keep_ite
    | split
    | dsimp only

theorem execCsRepairEnable_good (acc : Accessor) (c : Nat) (value : Bool) (s : State) : Good s (execCsRepairEnable acc c value s) := by
  have hk := Keep.refl s
  unfold execCsRepairEnable
  all_goals repeat' first
    | intro _
    | with_reducible apply good_okIf
    | with_reducible apply good_okAon
    | with_reducible apply good_ok
    | with_reducible apply good_ite
    | with_reducible assumption
    | with_reducible apply State.lockedWrite_keep
    | with_reducible apply State.setB_keep
    | with_reducible apply keep_ite
    | split
    | dsimp only

theorem execWgEffectiveLoss_good (a : Nat) (s : State) : Good s (execWgEffectiveLoss a s) := by
  have hk := Keep.refl s
  unfold execWgEffectiveLoss
  all_goals repeat' first
    | intro _
    | with_reducible apply good_okIf
    | with_reducible apply good_okAon
    | with_reducible apply good_ok
    | with_reducible apply good_ite
    | with_reducible assumption
    | with_reducible apply State.setB_keep
    | with_reducible apply State.killGates_keep
    | with_reducible apply keep_ite
    | split
    | dsimp only

theorem execSeqRet_good (a : Nat) (upset : Nat) (s : State) : Good s (execSeqRet a upset s) := by
  have hk := Keep.refl s
  unfold execSeqRet
  all_goals repeat' first
    | intro _
    | with_reducible apply good_okIf
    | with_reducible apply good_okAon
    | with_reducible apply good_ok
    | with_reducible apply good_ite
    | with_reducible assumption
    | with_reducible apply State.seqSlot_keep
    | with_reducible apply keep_ite
    | split
    | dsimp only

theorem execCsWordCommit_good (acc : Accessor) (c : Nat) (data4 : Word) (s : State) : Good s (execCsWordCommit acc c data4 s) := by
  have hk := Keep.refl s
  unfold execCsWordCommit
  extract_lets x1 x2 x3 x4 x5 x6
  try clear_value x1
  try clear_value x2
  try clear_value x3
  try clear_value x4
  try clear_value x6
  refine Keep.cut (a := Keep s x5) ?_ fun kx5 => ?_
  unfold x5
  rotate_left
  clear_value x5
  all_goals repeat' first
    | intro _
    | with_reducible apply good_okIf
    | with_reducible apply good_okAon
    | with_reducible apply good_ok
    | with_reducible apply good_ite
    | with_reducible assumption
    | with_reducible apply State.lockedWrite_keep
    | with_reducible apply State.raise_keep
    | with_reducible apply State.set_keep
    | with_reducible apply State.setCsWord_keep
    | with_reducible apply State.showDigest_keep
    | with_reducible apply keep_ite
    | split
    | with_reducible apply Keep.mk'
    | dsimp only

theorem execSeqDispatch_good (a : Nat) (upset : Nat) (s : State) : Good s (execSeqDispatch a upset s) := by
  have hk := Keep.refl s
  unfold execSeqDispatch
  all_goals repeat' first
    | intro _
    | with_reducible apply good_okIf
    | with_reducible apply good_okAon
    | with_reducible apply good_ok
    | with_reducible apply good_ite
    | with_reducible assumption
    | with_reducible apply State.seqSlot_keep
    | with_reducible apply keep_ite
    | split
    | dsimp only

end Sys2Proof.Machine
end

