-- ==== Sys2Proof/Laws/KeepWindows.lean ====
section
/-! SUPPORT. What the operations of Machine/Windows.lean keep. -/

namespace Sys2Proof.Machine

set_option linter.unreachableTactic false
set_option linter.unusedTactic false

theorem State.validate_keep {r0 s : State} {w : Nat} {agent : Nat} (hk : Keep r0 s) :
    Keep r0 (State.validate s w agent) := by
  unfold State.validate
  all_goals repeat' first
    | intro _
    | with_reducible assumption
    | with_reducible apply State.showFree_keep
    | with_reducible apply State.setB_keep
    | with_reducible apply State.flagRefused_keep
    | with_reducible apply keep_ite
    | split
    | dsimp only

theorem execEventFlagSet_good (_acc : Accessor) (mask : Nat) (s : State) : Good s (execEventFlagSet _acc mask s) := by
  have hk := Keep.refl s
  unfold execEventFlagSet
  all_goals repeat' first
    | intro _
    | with_reducible apply good_okIf
    | with_reducible apply good_okAon
    | with_reducible apply good_ok
    | with_reducible apply good_ite
    | with_reducible assumption
    | with_reducible apply State.setFlags_keep
    | with_reducible apply keep_ite
    | split
    | dsimp only

theorem execWindowValidSet_good (acc : Accessor) (w : Nat) (s : State) : Good s (execWindowValidSet acc w s) := by
  have hk := Keep.refl s
  unfold execWindowValidSet
  all_goals repeat' first
    | intro _
    | with_reducible apply good_okIf
    | with_reducible apply good_okAon
    | with_reducible apply good_ok
    | with_reducible apply good_ite
    | with_reducible assumption
    | with_reducible apply State.rwl_keep
    | with_reducible apply State.validate_keep
    | with_reducible apply keep_ite
    | split
    | dsimp only

theorem State.allocFor_keep {r0 s : State} {acc : Accessor} {pair : Bool} (hk : Keep r0 s) :
    Keep r0 (State.allocFor s acc pair) := by
  unfold State.allocFor
  extract_lets x1 x2
  try clear_value x1
  refine Keep.cut (a := Keep r0 (x2).2) ?_ fun kx2 => ?_
  unfold x2
  rotate_left
  clear_value x2
  all_goals repeat' first
    | intro _
    | with_reducible assumption
    | with_reducible apply State.allocate1_keep
    | with_reducible apply State.onHod_keep
    | refine Keep.snd (by with_reducible assumption) ?_
    | with_reducible apply keep_ite
    | exact fun _ hb => hb
    | split
    | dsimp only

theorem execSlotAllocateOne_good (acc : Accessor) (s : State) : Good s (execSlotAllocateOne acc s) := by
  have hk := Keep.refl s
  unfold execSlotAllocateOne
  all_goals repeat' first
    | intro _
    | with_reducible apply good_okIf
    | with_reducible apply good_okAon
    | with_reducible apply good_ok
    | with_reducible apply good_ite
    | with_reducible assumption
    | with_reducible apply State.allocFor_keep
    | with_reducible apply keep_ite
    | split
    | dsimp only

theorem State.gaveAgent_keep {r0 s : State} {agent : Nat} {v : Nat} (hk : Keep r0 s) :
    Keep r0 (State.gaveAgent s agent v) := by
  unfold State.gaveAgent
  all_goals repeat' first
    | intro _
    | with_reducible assumption
    | with_reducible apply State.gave_keep
    | with_reducible apply keep_ite
    | split
    | dsimp only

theorem execFlagRead_good (agent : Nat) (space : Nat) (addr : Nat) (s : State) : Good s (execFlagRead agent space addr s) := by
  have hk := Keep.refl s
  unfold execFlagRead
  extract_lets x1
  refine Keep.cut (a := Keep s (x1).2) ?_ fun kx1 => ?_
  unfold x1
  rotate_left
  clear_value x1
  all_goals repeat' first
    | intro _
    | with_reducible apply good_okIf
    | with_reducible apply good_okAon
    | with_reducible apply good_ok
    | with_reducible apply good_ite
    | with_reducible assumption
    | with_reducible apply State.flagRead_keep
    | with_reducible apply State.gaveAgent_keep
    | refine Keep.snd (by with_reducible assumption) ?_
    | with_reducible apply keep_ite
    | split
    | dsimp only

theorem State.cwPut_keep {r0 s : State} {agent : Nat} {addr : Nat} {b : Nat} (hk : Keep r0 s) :
    Keep r0 (State.cwPut s agent addr b) := by
  unfold State.cwPut
  all_goals repeat' first
    | intro _
    | with_reducible assumption
    | with_reducible apply State.setMemByte_keep
    | with_reducible apply keep_ite
    | split
    | dsimp only

theorem execCommonWindowAccess_good (agent : Nat) (addr : Nat) (n : Nat) (ecc : Nat) (write : Option (List Nat)) (s : State) : Good s (execCommonWindowAccess agent addr n ecc write s) := by
  have hk := Keep.refl s
  unfold execCommonWindowAccess
  extract_lets x1 x2 x3 x4
  try clear_value x1
  try clear_value x2
  refine Keep.cut (a := Keep s x3) ?_ fun kx3 => ?_
  unfold x3
  rotate_left
  clear_value x3
  refine Keep.cut (a := Keep s x4) ?_ fun kx4 => ?_
  unfold x4
  rotate_left
  clear_value x4
  all_goals repeat' first
    | intro _
    | with_reducible apply good_okIf
    | with_reducible apply good_okAon
    | with_reducible apply good_ok
    | with_reducible apply good_ite
    | with_reducible assumption
    | with_reducible apply State.flagRefused_keep
    | with_reducible apply State.cwPut_keep
    | with_reducible apply State.gaveAgent_keep
    | with_reducible apply State.bump_keep
    | with_reducible apply State.onHod_keep
    | with_reducible apply State.raise_keep
    | with_reducible apply keep_ite
    | with_reducible apply keep_foldl
    | exact fun _ hb => hb
    | split
    | dsimp only

theorem execEventFlagClear_good (_acc : Accessor) (mask : Nat) (s : State) : Good s (execEventFlagClear _acc mask s) := by
  have hk := Keep.refl s
  unfold execEventFlagClear
  all_goals repeat' first
    | intro _
    | with_reducible apply good_okIf
    | with_reducible apply good_okAon
    | with_reducible apply good_ok
    | with_reducible apply good_ite
    | with_reducible assumption
    | with_reducible apply State.clearFlags_keep
    | with_reducible apply keep_ite
    | split
    | dsimp only

theorem execFlagWrite_good (agent : Nat) (space : Nat) (addr : Nat) (owner : Nat) (hseq : Nat) (err : Bool) (s : State) : Good s (execFlagWrite agent space addr owner hseq err s) := by
  have hk := Keep.refl s
  unfold execFlagWrite
  all_goals repeat' first
    | intro _
    | with_reducible apply good_okIf
    | with_reducible apply good_okAon
    | with_reducible apply good_ok
    | with_reducible apply good_ite
    | with_reducible assumption
    | with_reducible apply State.flagWrite_keep
    | refine Keep.snd (by with_reducible assumption) ?_
    | with_reducible apply keep_ite
    | split
    | dsimp only

theorem execSlotAllocatePair_good (acc : Accessor) (s : State) : Good s (execSlotAllocatePair acc s) := by
  have hk := Keep.refl s
  unfold execSlotAllocatePair
  all_goals repeat' first
    | intro _
    | with_reducible apply good_okIf
    | with_reducible apply good_okAon
    | with_reducible apply good_ok
    | with_reducible apply good_ite
    | with_reducible assumption
    | with_reducible apply State.allocFor_keep
    | with_reducible apply keep_ite
    | split
    | dsimp only

end Sys2Proof.Machine
end

