-- ==== Sys2Proof/Laws/KeepStartOps.lean ====
section
/-! SUPPORT. What the operations of Machine/StartOps.lean keep. -/

namespace Sys2Proof.Machine

set_option linter.unreachableTactic false
set_option linter.unusedTactic false

theorem State.stopsAt_keep {r0 s : State} {stage : Nat} (hk : Keep r0 s) :
    Keep r0 (State.stopsAt s stage) := by
  unfold State.stopsAt
  all_goals repeat' first
    | intro _
    | with_reducible assumption
    | with_reducible apply State.setB_keep
    | with_reducible apply State.set_keep
    | with_reducible apply keep_ite
    | with_reducible apply keep_foldl
    | split
    | dsimp only

theorem State.jumpInto_keep {r0 s : State} {slot : Nat} {dev : Nat} (hk : Keep r0 s) :
    Keep r0 (State.jumpInto s slot dev) := by
  unfold State.jumpInto
  extract_lets x1 x2 x3
  try clear_value x1
  refine Keep.cut (a := Keep r0 x2) ?_ fun kx2 => ?_
  unfold x2
  rotate_left
  clear_value x2
  refine Keep.cut (a := Keep r0 x3) ?_ fun kx3 => ?_
  unfold x3
  rotate_left
  clear_value x3
  all_goals repeat' first
    | intro _
    | with_reducible assumption
    | with_reducible apply State.set_keep
    | with_reducible apply State.raiseSvn_keep
    | with_reducible apply State.raise_keep
    | with_reducible apply keep_ite
    | split
    | dsimp only

theorem State.loadMicro_keep {r0 s : State} {img : List Nat} {bad : Bool} {c : Nat} (hk : Keep r0 s) :
    Keep r0 (State.loadMicro s img bad c) := by
  unfold State.loadMicro
  extract_lets x1 x2 x3 x4 x5 x6
  try clear_value x1
  try clear_value x2
  try clear_value x4
  refine Keep.cut (a := Keep r0 x3) ?_ fun kx3 => ?_
  unfold x3
  rotate_left
  clear_value x3
  refine Keep.cut (a := Keep r0 x5) ?_ fun kx5 => ?_
  unfold x5
  rotate_left
  clear_value x5
  refine Keep.cut (a := Keep r0 x6) ?_ fun kx6 => ?_
  unfold x6
  rotate_left
  clear_value x6
  all_goals repeat' first
    | intro _
    | with_reducible assumption
    | with_reducible apply State.setCsWord_keep
    | with_reducible apply State.showDigest_keep
    | with_reducible apply State.set_keep
    | with_reducible apply State.raise_keep
    | with_reducible apply State.setB_keep
    | with_reducible apply keep_ite
    | with_reducible apply keep_foldl
    | with_reducible apply ioKeep_foldl
    | split
    | with_reducible apply Keep.mk'
    | dsimp only

theorem State.calibrated_keep {r0 s : State}  (hk : Keep r0 s) :
    Keep r0 (State.calibrated s) := by
  unfold State.calibrated
  extract_lets x1 x2
  try clear_value x1
  refine Keep.cut (a := Keep r0 x2) ?_ fun kx2 => ?_
  unfold x2
  rotate_left
  clear_value x2
  all_goals repeat' first
    | intro _
    | with_reducible assumption
    | with_reducible apply State.set_keep
    | with_reducible apply State.loadCal_keep
    | with_reducible apply keep_ite
    | with_reducible apply keep_foldl
    | split
    | dsimp only

theorem State.programmed_keep {r0 s : State}  (hk : Keep r0 s) :
    Keep r0 (State.programmed s) := by
  unfold State.programmed
  extract_lets x1 x2 x3 x4
  try clear_value x3
  refine Keep.cut (a := Keep r0 x1) ?_ fun kx1 => ?_
  unfold x1
  rotate_left
  clear_value x1
  refine Keep.cut (a := Keep r0 x2) ?_ fun kx2 => ?_
  unfold x2
  rotate_left
  clear_value x2
  refine Keep.cut (a := Keep r0 x4) ?_ fun kx4 => ?_
  unfold x4
  rotate_left
  clear_value x4
  all_goals repeat' first
    | intro _
    | with_reducible assumption
    | with_reducible apply Io.setWin_keep
    | with_reducible apply State.set_keep
    | with_reducible apply State.setB_keep
    | with_reducible apply State.validate_keep
    | with_reducible apply State.syncEngine_keep
    | with_reducible apply keep_onIo
    | with_reducible apply keep_ite
    | with_reducible apply ioKeep_ite
    | with_reducible apply keep_foldl
    | with_reducible apply ioKeep_foldl
    | split
    | dsimp only

theorem State.watched'_keep {r0 s : State}  (hk : Keep r0 s) :
    Keep r0 (State.watched' s) := by
  unfold State.watched'
  extract_lets x1
  refine Keep.cut (a := Keep r0 x1) ?_ fun kx1 => ?_
  unfold x1
  rotate_left
  clear_value x1
  all_goals repeat' first
    | intro _
    | with_reducible assumption
    | with_reducible apply State.set_keep
    | with_reducible apply State.setB_keep
    | with_reducible apply keep_ite
    | split
    | dsimp only

theorem State.released_keep {r0 s : State} {c : Nat} (hk : Keep r0 s) :
    Keep r0 (State.released s c) := by
  unfold State.released
  all_goals repeat' first
    | intro _
    | with_reducible assumption
    | with_reducible apply State.onRetract_keep
    | with_reducible apply State.setB_keep
    | with_reducible apply keep_ite
    | split
    | dsimp only

theorem State.enginesUp_keep {r0 s : State} {img : List Nat} {badCl : List Nat} (hk : Keep r0 s) :
    Keep r0 (State.enginesUp s img badCl) := by
  unfold State.enginesUp
  extract_lets x1 x2 x3 x4 x5 x6 x7
  try clear_value x1
  try clear_value x4
  try clear_value x5
  refine Keep.cut (a := Keep r0 x2) ?_ fun kx2 => ?_
  unfold x2
  rotate_left
  clear_value x2
  refine Keep.cut (a := Keep r0 x3) ?_ fun kx3 => ?_
  unfold x3
  rotate_left
  clear_value x3
  refine Keep.cut (a := Keep r0 x6) ?_ fun kx6 => ?_
  unfold x6
  rotate_left
  clear_value x6
  refine Keep.cut (a := Keep r0 x7) ?_ fun kx7 => ?_
  unfold x7
  rotate_left
  clear_value x7
  all_goals repeat' first
    | intro _
    | with_reducible assumption
    | with_reducible apply State.loadMicro_keep
    | with_reducible apply State.calibrated_keep
    | with_reducible apply State.programmed_keep
    | with_reducible apply State.watched'_keep
    | with_reducible apply State.released_keep
    | with_reducible apply State.requestReset_keep
    | with_reducible apply State.loseCluster_keep
    | with_reducible apply State.setB_keep
    | with_reducible apply State.syncCache_keep
    | with_reducible apply State.set_keep
    | with_reducible apply keep_ite
    | with_reducible apply keep_foldl
    | split
    | dsimp only

theorem State.attestUp_keep {r0 s : State} {attOk : Bool} (hk : Keep r0 s) :
    Keep r0 (State.attestUp s attOk) := by
  unfold State.attestUp
  all_goals repeat' first
    | intro _
    | with_reducible assumption
    | with_reducible apply State.set_keep
    | with_reducible apply State.setB_keep
    | with_reducible apply keep_ite
    | split
    | dsimp only

theorem State.bootFrom_keep {r0 s : State} {copy : Option (Nat × Nat)} {badBlobs : List Nat} {attOk : Bool} {badCl : List Nat} (hk : Keep r0 s) :
    Keep r0 (State.bootFrom s copy badBlobs attOk badCl) := by
  unfold State.bootFrom
  all_goals repeat' first
    | intro _
    | with_reducible assumption
    | with_reducible apply State.stopsAt_keep
    | with_reducible apply State.raise_keep
    | with_reducible apply State.setB_keep
    | with_reducible apply State.jumpInto_keep
    | with_reducible apply State.enginesUp_keep
    | with_reducible apply State.attestUp_keep
    | with_reducible apply State.loadBlobs_keep
    | with_reducible apply keep_ite
    | split
    | dsimp only

theorem State.railsUp_keep {r0 s : State}  (hk : Keep r0 s) :
    Keep r0 (State.railsUp s) := by
  unfold State.railsUp
  extract_lets x1 x2 x3
  refine Keep.cut (a := Keep r0 x1) ?_ fun kx1 => ?_
  unfold x1
  rotate_left
  clear_value x1
  refine Keep.cut (a := Keep r0 x2) ?_ fun kx2 => ?_
  unfold x2
  rotate_left
  clear_value x2
  refine Keep.cut (a := Keep r0 x3) ?_ fun kx3 => ?_
  unfold x3
  rotate_left
  clear_value x3
  all_goals repeat' first
    | intro _
    | with_reducible assumption
    | with_reducible apply State.set_keep
    | with_reducible apply State.setB_keep
    | with_reducible apply State.drawn_keep
    | with_reducible apply State.showDomains_keep
    | with_reducible apply keep_ite
    | with_reducible apply keep_foldl
    | split
    | dsimp only

theorem State.restartIo_keep {r0 io : Io} {perst0 : Bool} (hk : IoKeep r0 io) :
    IoKeep r0 (State.restartIo io perst0) := by
  unfold State.restartIo
  extract_lets x1 x2
  try clear_value x1
  refine Keep.cut (a := IoKeep r0 x2) ?_ fun kx2 => ?_
  unfold x2
  rotate_left
  clear_value x2
  all_goals repeat' first
    | intro _
    | with_reducible assumption
    | with_reducible apply Io.setFld_keep
    | with_reducible apply Io.resetRegs_keep
    | with_reducible apply IoKeep.filter
    | with_reducible apply ioKeep_ite
    | with_reducible apply ioKeep_foldl
    | split
    | with_reducible apply IoKeep.mk'
    | dsimp only

theorem State.wiped_keep {r0 s : State} {cycles : Nat} (hk : Keep r0 s) : Keep r0 (State.wiped s cycles) := by
  unfold State.wiped
  extract_lets p j a b c d s1 s2 s3
  have k1 : Keep r0 s1 := ⟨hk.queue, State.restartIo_keep hk.io, fun _ => rfl, fun _ => rfl⟩
  have k2 : Keep r0 s2 := keep_onIo _ k1 fun _ h => Io.setHst_keep h
  have k3 : Keep r0 s3 := keep_foldl _ _ k2 fun u n hu => keep_ite (State.set_keep hu) hu
  exact State.newNonce_keep (State.set_keep (State.set_keep (State.set_keep k3)))

theorem State.causes_keep {r0 s : State}  (hk : Keep r0 s) :
    Keep r0 (State.causes s) := by
  unfold State.causes
  extract_lets x1 x2 x3 x4 x5 x6 x7 x8 x9
  try clear_value x1
  try clear_value x2
  try clear_value x3
  try clear_value x4
  refine Keep.cut (a := Keep r0 x5) ?_ fun kx5 => ?_
  unfold x5
  rotate_left
  clear_value x5
  refine Keep.cut (a := Keep r0 x6) ?_ fun kx6 => ?_
  unfold x6
  rotate_left
  clear_value x6
  refine Keep.cut (a := Keep r0 x7) ?_ fun kx7 => ?_
  unfold x7
  rotate_left
  clear_value x7
  refine Keep.cut (a := Keep r0 x8) ?_ fun kx8 => ?_
  unfold x8
  rotate_left
  clear_value x8
  refine Keep.cut (a := Keep r0 x9) ?_ fun kx9 => ?_
  unfold x9
  rotate_left
  clear_value x9
  all_goals repeat' first
    | intro _
    | with_reducible assumption
    | with_reducible apply State.onNvme_keep
    | with_reducible apply State.wiped_keep
    | with_reducible apply State.onNor_keep
    | with_reducible apply State.setB_keep
    | with_reducible apply State.set_keep
    | with_reducible apply keep_ite
    | split
    | dsimp only

theorem State.lcEffects_keep {r0 s : State} {target : Nat} (hk : Keep r0 s) :
    Keep r0 (State.lcEffects s target) := by
  unfold State.lcEffects
  extract_lets x1 x2
  try clear_value x2
  refine Keep.cut (a := ∀ u0, Keep r0 u0 → Keep r0 (x1 u0)) ?_ fun kx1 => ?_
  unfold x1
  rotate_left
  clear_value x1
  all_goals repeat' first
    | intro _
    | with_reducible assumption
    | with_reducible apply kx1
    | with_reducible apply State.onNor_keep
    | with_reducible apply State.onSec_keep
    | with_reducible apply State.set_keep
    | with_reducible apply keep_ite
    | split
    | with_reducible apply Keep.mk'
    | dsimp only

theorem State.lcResumed_keep {r0 s : State}  (hk : Keep r0 s) :
    Keep r0 (State.lcResumed s) := by
  unfold State.lcResumed
  all_goals repeat' first
    | intro _
    | with_reducible assumption
    | with_reducible apply State.onSys_keep
    | with_reducible apply State.onNor_keep
    | with_reducible apply State.lcEffects_keep
    | with_reducible apply keep_ite
    | split
    | dsimp only

theorem State.failSpent_keep {r0 s : State}  (hk : Keep r0 s) :
    Keep r0 (State.failSpent s) := by
  unfold State.failSpent
  all_goals repeat' first
    | intro _
    | with_reducible assumption
    | with_reducible apply State.setB_keep
    | with_reducible apply keep_ite
    | with_reducible apply keep_foldl
    | split
    | dsimp only

theorem State.memoryUp_keep {r0 s : State}  (hk : Keep r0 s) :
    Keep r0 (State.memoryUp s) := by
  unfold State.memoryUp
  extract_lets x1
  refine Keep.cut (a := Keep r0 x1) ?_ fun kx1 => ?_
  unfold x1
  rotate_left
  clear_value x1
  all_goals repeat' first
    | intro _
    | with_reducible assumption
    | with_reducible apply State.set_keep
    | with_reducible apply State.setB_keep
    | with_reducible apply State.rgnValidate_keep
    | with_reducible apply State.raise_keep
    | with_reducible apply keep_ite
    | with_reducible apply keep_foldl
    | split
    | dsimp only

theorem State.invalidCopies_keep {r0 s : State}  (hk : Keep r0 s) :
    Keep r0 (State.invalidCopies s) := by
  unfold State.invalidCopies
  all_goals repeat' first
    | intro _
    | with_reducible assumption
    | with_reducible apply State.raise_keep
    | with_reducible apply keep_ite
    | with_reducible apply keep_foldl
    | split
    | dsimp only

theorem State.start_keep {r0 s : State} {memFail : Bool} {badBlobs : List Nat} {attOk : Bool} {badCl : List Nat} (hk : Keep r0 s) :
    Keep r0 (State.start s memFail badBlobs attOk badCl) := by
  unfold State.start
  extract_lets x1 x2 x3
  refine Keep.cut (a := Keep r0 x1) ?_ fun kx1 => ?_
  unfold x1
  rotate_left
  clear_value x1
  refine Keep.cut (a := Keep r0 x2) ?_ fun kx2 => ?_
  unfold x2
  rotate_left
  clear_value x2
  refine Keep.cut (a := Keep r0 x3) ?_ fun kx3 => ?_
  unfold x3
  rotate_left
  clear_value x3
  all_goals repeat' first
    | intro _
    | with_reducible assumption
    | with_reducible apply State.railsUp_keep
    | with_reducible apply State.causes_keep
    | with_reducible apply State.lcResumed_keep
    | with_reducible apply State.raise_keep
    | with_reducible apply State.stopsAt_keep
    | with_reducible apply State.setB_keep
    | with_reducible apply State.failSpent_keep
    | with_reducible apply State.memoryUp_keep
    | with_reducible apply State.bootFrom_keep
    | with_reducible apply State.invalidCopies_keep
    | with_reducible apply keep_ite
    | split
    | dsimp only

theorem State.repairCopy_keep {r0 s : State}  (hk : Keep r0 s) :
    Keep r0 (State.repairCopy s) := by
  unfold State.repairCopy
  extract_lets x1 x2
  try clear_value x1
  try clear_value x2
  all_goals repeat' first
    | intro _
    | with_reducible assumption
    | with_reducible apply State.onNor_keep
    | with_reducible apply keep_ite
    | with_reducible apply keep_foldl
    | split
    | dsimp only

theorem State.bootDone_keep {r0 s : State} {ms : Nat} (hk : Keep r0 s) :
    Keep r0 (State.bootDone s ms) := by
  unfold State.bootDone
  extract_lets x1 x2
  refine Keep.cut (a := Keep r0 x1) ?_ fun kx1 => ?_
  unfold x1
  rotate_left
  clear_value x1
  refine Keep.cut (a := Keep r0 x2) ?_ fun kx2 => ?_
  unfold x2
  rotate_left
  clear_value x2
  all_goals repeat' first
    | intro _
    | with_reducible assumption
    | with_reducible apply State.set_keep
    | with_reducible apply State.setB_keep
    | with_reducible apply State.raise_keep
    | with_reducible apply State.repairCopy_keep
    | with_reducible apply keep_ite
    | split
    | dsimp only

theorem State.listDirty_keep {r0 s : State}  (hk : Keep r0 s) :
    Keep r0 (State.listDirty s) := by
  unfold State.listDirty
  extract_lets x1 x2 x3 x4 x5
  try clear_value x1
  try clear_value x2
  refine Keep.cut (a := Keep r0 x3) ?_ fun kx3 => ?_
  unfold x3
  rotate_left
  clear_value x3
  refine Keep.cut (a := Keep r0 x4) ?_ fun kx4 => ?_
  unfold x4
  rotate_left
  clear_value x4
  refine Keep.cut (a := Keep r0 x5) ?_ fun kx5 => ?_
  unfold x5
  rotate_left
  clear_value x5
  all_goals repeat' first
    | intro _
    | with_reducible assumption
    | with_reducible apply State.setExtent_keep
    | with_reducible apply State.unrecAdd_keep
    | with_reducible apply State.setB_keep
    | with_reducible apply State.onNor_keep
    | with_reducible apply State.raise_keep
    | with_reducible apply keep_ite
    | with_reducible apply keep_foldl
    | split
    | dsimp only

theorem State.replay_keep {r0 s : State} {b : JrnBody} (hk : Keep r0 s) :
    Keep r0 (State.replay s b) := by
  unfold State.replay
  all_goals repeat' first
    | intro _
    | with_reducible assumption
    | with_reducible apply State.putExtent_keep
    | with_reducible apply State.putCourse_keep
    | with_reducible apply State.putTile_keep
    | with_reducible apply keep_ite
    | split
    | dsimp only

theorem State.tablesLoaded_keep {r0 s : State}  (hk : Keep r0 s) :
    Keep r0 (State.tablesLoaded s) := by
  unfold State.tablesLoaded
  extract_lets x1 x2 x3 x4
  try clear_value x1
  try clear_value x3
  refine Keep.cut (a := Keep r0 x2) ?_ fun kx2 => ?_
  unfold x2
  rotate_left
  clear_value x2
  refine Keep.cut (a := Keep r0 x4) ?_ fun kx4 => ?_
  unfold x4
  rotate_left
  clear_value x4
  all_goals repeat' first
    | intro _
    | with_reducible assumption
    | with_reducible apply State.onMason_keep
    | with_reducible apply State.replay_keep
    | with_reducible apply State.set_keep
    | with_reducible apply keep_ite
    | with_reducible apply keep_foldl
    | split
    | dsimp only

theorem State.duties_keep {r0 s : State}  (hk : Keep r0 s) :
    Keep r0 (State.duties s) := by
  unfold State.duties
  extract_lets x1 x2 x3
  refine Keep.cut (a := Keep r0 x1) ?_ fun kx1 => ?_
  unfold x1
  rotate_left
  clear_value x1
  refine Keep.cut (a := Keep r0 x2) ?_ fun kx2 => ?_
  unfold x2
  rotate_left
  clear_value x2
  refine Keep.cut (a := Keep r0 x3) ?_ fun kx3 => ?_
  unfold x3
  rotate_left
  clear_value x3
  all_goals repeat' first
    | intro _
    | with_reducible assumption
    | with_reducible apply State.listDirty_keep
    | with_reducible apply State.breach_keep
    | with_reducible apply State.raise_keep
    | with_reducible apply State.onNor_keep
    | with_reducible apply State.setB_keep
    | with_reducible apply State.record_keep
    | with_reducible apply keep_ite
    | split
    | dsimp only

end Sys2Proof.Machine
end

