-- ==== Sys2Proof/Laws/KeepSecure.lean ====
section
/-! SUPPORT. What the operations of Machine/Secure.lean keep. -/

namespace Sys2Proof.Machine

set_option linter.unreachableTactic false
set_option linter.unusedTactic false

theorem execTokenDataWrite_good (acc : Accessor) (value : Word) (s : State) : Good s (execTokenDataWrite acc value s) := by
  have hk := Keep.refl s
  unfold execTokenDataWrite
  all_goals repeat' first
    | intro _
    | with_reducible apply good_okIf
    | with_reducible apply good_okAon
    | with_reducible apply good_ok
    | with_reducible apply good_ite
    | with_reducible assumption
    | with_reducible apply State.lockedWrite_keep
    | with_reducible apply State.set_keep
    | with_reducible apply State.onSec_keep
    | with_reducible apply keep_ite
    | split
    | dsimp only

theorem onDomain_good {acc : Accessor} {s : State} {run : Nat → State} (hf : ∀ d, Keep s (run d)) : Good s (onDomain acc s run) := by
  have hk := Keep.refl s
  unfold onDomain
  repeat' first
    | intro _
    | with_reducible apply good_okIf
    | apply hf
    | with_reducible assumption
    | with_reducible apply State.lockedWrite_keep
    | with_reducible apply keep_ite
    | split
    | dsimp only

theorem execDomainRetire_good (acc : Accessor) (s : State) : Good s (execDomainRetire acc s) := by
  have hk := Keep.refl s
  unfold execDomainRetire
  all_goals repeat' first
    | intro _
    | with_reducible apply good_okIf
    | with_reducible apply good_okAon
    | with_reducible apply good_ok
    | with_reducible apply good_ite
    | with_reducible assumption
    | with_reducible apply onDomain_good
    | with_reducible apply State.set_keep
    | with_reducible apply keep_ite
    | split
    | dsimp only

theorem State.suspend_keep {r0 s : State} {e : Nat} {m : Msg} (hk : Keep r0 s) :
    Keep r0 (State.suspend s e m) := by
  unfold State.suspend
  extract_lets x1 x2 x3
  try clear_value x1
  try clear_value x2
  refine Keep.cut (a := Keep r0 x3) ?_ fun kx3 => ?_
  unfold x3
  rotate_left
  clear_value x3
  all_goals repeat' first
    | intro _
    | with_reducible assumption
    | with_reducible apply State.setEngine_keep
    | with_reducible apply State.bump_keep
    | with_reducible apply keep_ite
    | split
    | dsimp only

theorem execXtsMessage_good (e : Nat) (id : Nat) (cls : Nat) (kdom : Nat) (dec : Bool) (fin : Bool) (s : State) : Good s (execXtsMessage e id cls kdom dec fin s) := by
  have hk := Keep.refl s
  unfold execXtsMessage
  extract_lets x1 x2
  try clear_value x1
  try clear_value x2
  all_goals repeat' first
    | intro _
    | with_reducible apply good_okIf
    | with_reducible apply good_okAon
    | with_reducible apply good_ok
    | with_reducible apply good_ite
    | with_reducible assumption
    | with_reducible apply State.keyMiss_keep
    | with_reducible apply State.setEngine_keep
    | with_reducible apply State.suspend_keep
    | with_reducible apply keep_ite
    | split
    | dsimp only

theorem State.lcRefused_keep {r0 s : State}  (hk : Keep r0 s) :
    Keep r0 (State.lcRefused s) := by
  unfold State.lcRefused
  all_goals repeat' first
    | intro _
    | with_reducible assumption
    | with_reducible apply State.raise_keep
    | with_reducible apply keep_ite
    | split
    | dsimp only

theorem State.transition_keep {r0 s : State} {target : Nat} {ps : List BrickPlace} {dur : Nat} {vend : Nat} (hk : Keep r0 s) :
    Keep r0 (State.transition s target ps dur vend) := by
  unfold State.transition
  extract_lets x1 x2 x3
  refine Keep.cut (a := Keep r0 x1) ?_ fun kx1 => ?_
  unfold x1
  rotate_left
  clear_value x1
  refine Keep.cut (a := Keep r0 x2) ?_ fun kx2 => ?_
  unfold x2
  rotate_left
  clear_value x2
  refine Keep.cut (a := Keep r0 x3) ?_ fun kx3 => ?_
  unfold x3
  rotate_left
  clear_value x3
  all_goals repeat' first
    | intro _
    | with_reducible assumption
    | with_reducible apply State.onNor_keep
    | with_reducible apply State.setB_keep
    | with_reducible apply State.set_keep
    | with_reducible apply State.lcEffects_keep
    | with_reducible apply State.requestReset_keep
    | with_reducible apply keep_ite
    | with_reducible apply keep_foldl
    | split
    | dsimp only

theorem State.present__keep {r0 s : State} {tok : List Nat} {r : Nat} {ps : List BrickPlace} {dur : Nat} {vend : Nat} (hk : Keep r0 s) :
    Keep r0 (State.present_ s tok r ps dur vend) := by
  unfold State.present_
  extract_lets x1 x2
  try clear_value x2
  refine Keep.cut (a := Keep r0 x1) ?_ fun kx1 => ?_
  unfold x1
  rotate_left
  clear_value x1
  all_goals repeat' first
    | intro _
    | with_reducible assumption
    | with_reducible apply State.tokenShown_keep
    | with_reducible apply State.lcRefused_keep
    | with_reducible apply State.clearRecorder_keep
    | with_reducible apply State.transition_keep
    | with_reducible apply State.setB_keep
    | with_reducible apply State.onSec_keep
    | with_reducible apply keep_ite
    | split
    | dsimp only

theorem execTokenPresent_good (acc : Accessor) (places : List BrickPlace) (dur : Nat) (vend : Nat) (s : State) : Good s (execTokenPresent acc places dur vend s) := by
  have hk := Keep.refl s
  unfold execTokenPresent
  extract_lets x1
  try clear_value x1
  all_goals repeat' first
    | intro _
    | with_reducible apply good_okIf
    | with_reducible apply good_okAon
    | with_reducible apply good_ok
    | with_reducible apply good_ite
    | with_reducible assumption
    | with_reducible apply State.lockedWrite_keep
    | with_reducible apply State.present__keep
    | with_reducible apply keep_ite
    | split
    | dsimp only

theorem execLcTransitionRequest_good (acc : Accessor) (target : Nat) (places : List BrickPlace) (dur : Nat) (vend : Nat) (s : State) : Good s (execLcTransitionRequest acc target places dur vend s) := by
  have hk := Keep.refl s
  unfold execLcTransitionRequest
  extract_lets x1
  try clear_value x1
  all_goals repeat' first
    | intro _
    | with_reducible apply good_okIf
    | with_reducible apply good_okAon
    | with_reducible apply good_ok
    | with_reducible apply good_ite
    | with_reducible assumption
    | with_reducible apply State.lockedWrite_keep
    | with_reducible apply State.transition_keep
    | with_reducible apply State.lcRefused_keep
    | with_reducible apply keep_ite
    | split
    | dsimp only

theorem execDomainReplace_good (acc : Accessor) (w0 : Bool) (w1 : Bool) (s : State) : Good s (execDomainReplace acc w0 w1 s) := by
  have hk := Keep.refl s
  unfold execDomainReplace
  all_goals repeat' first
    | intro _
    | with_reducible apply good_okIf
    | with_reducible apply good_okAon
    | with_reducible apply good_ok
    | with_reducible apply good_ite
    | with_reducible assumption
    | with_reducible apply onDomain_good
    | with_reducible apply State.spentCheck_keep
    | with_reducible apply State.makeKeys_keep
    | refine Keep.snd (by with_reducible assumption) ?_
    | with_reducible apply keep_ite
    | split
    | dsimp only

theorem State.reserve_keep {r0 s : State} {q : Nat} {w0 : Bool} {w1 : Bool} (hk : Keep r0 s) :
    Keep r0 (State.reserve s q w0 w1).2 := by
  unfold State.reserve
  extract_lets x1 x2 x3
  try clear_value x1
  try clear_value x2
  refine Keep.cut (a := Keep r0 x3) ?_ fun kx3 => ?_
  unfold x3
  rotate_left
  clear_value x3
  all_goals repeat' first
    | intro _
    | with_reducible assumption
    | with_reducible apply State.onNor_keep
    | with_reducible apply State.raise_keep
    | with_reducible apply State.setB_keep
    | with_reducible apply keep_ite
    | split
    | dsimp only

theorem execXtsMessageResume_good (e : Nat) (unwrapOk : Bool) (fin : Bool) (s : State) : Good s (execXtsMessageResume e unwrapOk fin s) := by
  have hk := Keep.refl s
  unfold execXtsMessageResume
  extract_lets x1
  try clear_value x1
  all_goals repeat' first
    | intro _
    | with_reducible apply good_okIf
    | with_reducible apply good_okAon
    | with_reducible apply good_ok
    | with_reducible apply good_ite
    | with_reducible assumption
    | with_reducible apply State.setEngine_keep
    | with_reducible apply State.raise_keep
    | with_reducible apply State.bump_keep
    | with_reducible apply keep_ite
    | split
    | dsimp only

theorem execDomainDestroy_good (acc : Accessor) (s : State) : Good s (execDomainDestroy acc s) := by
  have hk := Keep.refl s
  unfold execDomainDestroy
  all_goals repeat' first
    | intro _
    | with_reducible apply good_okIf
    | with_reducible apply good_okAon
    | with_reducible apply good_ok
    | with_reducible apply good_ite
    | with_reducible assumption
    | with_reducible apply onDomain_good
    | with_reducible apply State.freeDomain_keep
    | with_reducible apply keep_ite
    | split
    | dsimp only

theorem execDomainCreate_good (acc : Accessor) (w0 : Bool) (w1 : Bool) (s : State) : Good s (execDomainCreate acc w0 w1 s) := by
  have hk := Keep.refl s
  unfold execDomainCreate
  all_goals repeat' first
    | intro _
    | with_reducible apply good_okIf
    | with_reducible apply good_okAon
    | with_reducible apply good_ok
    | with_reducible apply good_ite
    | with_reducible assumption
    | with_reducible apply onDomain_good
    | with_reducible apply State.makeKeys_keep
    | refine Keep.snd (by with_reducible assumption) ?_
    | with_reducible apply keep_ite
    | split
    | dsimp only

theorem execJtagLcToken_good (tok : List Nat) (places : List BrickPlace) (dur : Nat) (vend : Nat) (s : State) : Good s (execJtagLcToken tok places dur vend s) := by
  have hk := Keep.refl s
  unfold execJtagLcToken
  extract_lets x1
  try clear_value x1
  all_goals repeat' first
    | intro _
    | with_reducible apply good_okIf
    | with_reducible apply good_okAon
    | with_reducible apply good_ok
    | with_reducible apply good_ite
    | with_reducible assumption
    | with_reducible apply State.present__keep
    | with_reducible apply State.onSec_keep
    | with_reducible apply keep_ite
    | split
    | dsimp only

theorem execGetAttestationReport_good (c : Cmd) (nonce : List Nat) (len : Nat) (w0 : Bool) (w1 : Bool) (s : State) : Good s (execGetAttestationReport c nonce len w0 w1 s) := by
  have hk := Keep.refl s
  unfold execGetAttestationReport
  all_goals repeat' first
    | intro _
    | with_reducible apply good_okIf
    | with_reducible apply good_okAon
    | with_reducible apply good_ok
    | with_reducible apply good_ite
    | with_reducible assumption
    | with_reducible apply State.admin_good
    | with_reducible apply State.done_keep
    | with_reducible apply State.reserve_keep
    | with_reducible apply State.set_keep
    | with_reducible apply State.doneWith_keep
    | refine Keep.snd (by with_reducible assumption) ?_
    | with_reducible apply keep_ite
    | split
    | dsimp only

end Sys2Proof.Machine
end

