-- ==== Sys2Proof/Laws/KeepSpindle.lean ====
section
/-! SUPPORT. What the operations of Machine/Spindle.lean keep. -/

namespace Sys2Proof.Machine

set_option linter.unreachableTactic false
set_option linter.unusedTactic false

theorem execReacquired_good (n : Nat) (speed : Int) (theta : Nat) (s : State) : Good s (execReacquired n speed theta s) := by
  have hk := Keep.refl s
  unfold execReacquired
  extract_lets x1
  refine Keep.cut (a := Keep s x1) ?_ fun kx1 => ?_
  unfold x1
  rotate_left
  clear_value x1
  all_goals repeat' first
    | intro _
    | with_reducible apply good_okIf
    | with_reducible apply good_okAon
    | with_reducible apply good_ok
    | with_reducible apply good_ite
    | with_reducible assumption
    | with_reducible apply State.spRaise_keep
    | with_reducible apply State.spBump_keep
    | with_reducible apply State.spSet_keep
    | with_reducible apply State.enterRun_keep
    | with_reducible apply State.stopRun_keep
    | with_reducible apply keep_ite
    | split
    | dsimp only

theorem State.lowSpeed_keep {r0 s : State} {n : Nat} (hk : Keep r0 s) :
    Keep r0 (State.lowSpeed s n) := by
  unfold State.lowSpeed
  extract_lets x1 x2 x3 x4 x5 x6 x7
  try clear_value x1
  try clear_value x2
  try clear_value x3
  try clear_value x4
  try clear_value x5
  refine Keep.cut (a := Keep r0 x6) ?_ fun kx6 => ?_
  unfold x6
  rotate_left
  clear_value x6
  refine Keep.cut (a := Keep r0 x7) ?_ fun kx7 => ?_
  unfold x7
  rotate_left
  clear_value x7
  all_goals repeat' first
    | intro _
    | with_reducible assumption
    | with_reducible apply State.onCh_keep
    | with_reducible apply State.spRaise_keep
    | with_reducible apply State.sendUnload_keep
    | with_reducible apply keep_ite
    | split
    | dsimp only

theorem execProbeEnd_good (n : Nat) (speed : Int) (s : State) : Good s (execProbeEnd n speed s) := by
  have hk := Keep.refl s
  unfold execProbeEnd
  extract_lets x1
  refine Keep.cut (a := Keep s x1) ?_ fun kx1 => ?_
  unfold x1
  rotate_left
  clear_value x1
  all_goals repeat' first
    | intro _
    | with_reducible apply good_okIf
    | with_reducible apply good_okAon
    | with_reducible apply good_ok
    | with_reducible apply good_ite
    | with_reducible assumption
    | with_reducible apply State.spSet_keep
    | with_reducible apply State.toSpin_keep
    | with_reducible apply State.enterRun_keep
    | with_reducible apply keep_ite
    | split
    | dsimp only

theorem execSpindleStart_good (n : Nat) (s : State) : Good s (execSpindleStart n s) := by
  have hk := Keep.refl s
  unfold execSpindleStart
  extract_lets x1 x2
  try clear_value x2
  refine Keep.cut (a := Keep s x1) ?_ fun kx1 => ?_
  unfold x1
  rotate_left
  clear_value x1
  all_goals repeat' first
    | intro _
    | with_reducible apply good_okIf
    | with_reducible apply good_okAon
    | with_reducible apply good_ok
    | with_reducible apply good_ite
    | with_reducible assumption
    | with_reducible apply State.spRaise_keep
    | with_reducible apply State.onCh_keep
    | with_reducible apply State.toSpin_keep
    | with_reducible apply keep_ite
    | split
    | with_reducible apply Keep.mk'
    | dsimp only

theorem execAlignEnd_good (n : Nat) (s : State) : Good s (execAlignEnd n s) := by
  have hk := Keep.refl s
  unfold execAlignEnd
  all_goals repeat' first
    | intro _
    | with_reducible apply good_okIf
    | with_reducible apply good_okAon
    | with_reducible apply good_ok
    | with_reducible apply good_ite
    | with_reducible assumption
    | with_reducible apply State.onCh_keep
    | with_reducible apply State.toSpin_keep
    | with_reducible apply keep_ite
    | split
    | dsimp only

theorem State.observerMode_keep {r0 s : State} {n : Nat} (hk : Keep r0 s) :
    Keep r0 (State.observerMode s n) := by
  unfold State.observerMode
  all_goals repeat' first
    | intro _
    | with_reducible assumption
    | with_reducible apply State.spSet_keep
    | with_reducible apply keep_ite
    | split
    | dsimp only

theorem execSpindleStop_good (n : Nat) (s : State) : Good s (execSpindleStop n s) := by
  have hk := Keep.refl s
  unfold execSpindleStop
  all_goals repeat' first
    | intro _
    | with_reducible apply good_okIf
    | with_reducible apply good_okAon
    | with_reducible apply good_ok
    | with_reducible apply good_ite
    | with_reducible assumption
    | with_reducible apply State.onCh_keep
    | with_reducible apply State.unloadSlot_keep
    | with_reducible apply State.stopSpin_keep
    | with_reducible apply keep_ite
    | split
    | dsimp only

theorem execOvercurrent_good (n : Nat) (s : State) : Good s (execOvercurrent n s) := by
  have hk := Keep.refl s
  unfold execOvercurrent
  extract_lets x1
  try clear_value x1
  all_goals repeat' first
    | intro _
    | with_reducible apply good_okIf
    | with_reducible apply good_okAon
    | with_reducible apply good_ok
    | with_reducible apply good_ite
    | with_reducible assumption
    | with_reducible apply State.observerLoss_keep
    | with_reducible apply State.spRaise_keep
    | with_reducible apply State.toSpin_keep
    | with_reducible apply State.spCause_keep
    | with_reducible apply State.spinFree_keep
    | with_reducible apply keep_ite
    | split
    | dsimp only

theorem execTargetWrite_good (n : Nat) (rpm : Nat) (s : State) : Good s (execTargetWrite n rpm s) := by
  have hk := Keep.refl s
  unfold execTargetWrite
  extract_lets x1
  refine Keep.cut (a := Keep s x1) ?_ fun kx1 => ?_
  unfold x1
  rotate_left
  clear_value x1
  all_goals repeat' first
    | intro _
    | with_reducible apply good_okIf
    | with_reducible apply good_okAon
    | with_reducible apply good_ok
    | with_reducible apply good_ite
    | with_reducible assumption
    | with_reducible apply State.spSet_keep
    | with_reducible apply State.spRaise_keep
    | with_reducible apply State.loseSpeed_keep
    | with_reducible apply keep_ite
    | split
    | dsimp only

theorem execStartTimeout_good (n : Nat) (s : State) : Good s (execStartTimeout n s) := by
  have hk := Keep.refl s
  unfold execStartTimeout
  all_goals repeat' first
    | intro _
    | with_reducible apply good_okIf
    | with_reducible apply good_okAon
    | with_reducible apply good_ok
    | with_reducible apply good_ite
    | with_reducible assumption
    | with_reducible apply State.spRaise_keep
    | with_reducible apply State.spinFree_keep
    | with_reducible apply State.toSpin_keep
    | with_reducible apply State.spCause_keep
    | with_reducible apply keep_ite
    | split
    | dsimp only

theorem execSpindleClear_good (n : Nat) (s : State) : Good s (execSpindleClear n s) := by
  have hk := Keep.refl s
  unfold execSpindleClear
  all_goals repeat' first
    | intro _
    | with_reducible apply good_okIf
    | with_reducible apply good_okAon
    | with_reducible apply good_ok
    | with_reducible apply good_ite
    | with_reducible assumption
    | with_reducible apply State.toSpin_keep
    | with_reducible apply keep_ite
    | split
    | dsimp only

theorem State.spSequence_keep {r0 s : State} {n : Nat} (hk : Keep r0 s) :
    Keep r0 (State.spSequence s n) := by
  unfold State.spSequence
  extract_lets x1 x2 x3 x4 x5 x6
  try clear_value x1
  try clear_value x2
  try clear_value x3
  try clear_value x5
  try clear_value x6
  refine Keep.cut (a := Keep r0 x4) ?_ fun kx4 => ?_
  unfold x4
  rotate_left
  clear_value x4
  all_goals repeat' first
    | intro _
    | with_reducible assumption
    | with_reducible apply State.toSpin_keep
    | with_reducible apply State.onCh_keep
    | with_reducible apply State.spSet_keep
    | with_reducible apply State.enterRun_keep
    | with_reducible apply State.observerMode_keep
    | with_reducible apply State.loseSpeed_keep
    | with_reducible apply State.stopGoesOn_keep
    | with_reducible apply keep_ite
    | split
    | dsimp only

theorem execSpeedTick_good (n : Nat) (speed : Int) (s : State) : Good s (execSpeedTick n speed s) := by
  have hk := Keep.refl s
  unfold execSpeedTick
  all_goals repeat' first
    | intro _
    | with_reducible apply good_okIf
    | with_reducible apply good_okAon
    | with_reducible apply good_ok
    | with_reducible apply good_ite
    | with_reducible assumption
    | with_reducible apply State.lowSpeed_keep
    | with_reducible apply State.spSequence_keep
    | with_reducible apply State.spSet_keep
    | with_reducible apply keep_ite
    | split
    | dsimp only

theorem execCurrentPeriodMissed_good (n : Nat) (s : State) : Good s (execCurrentPeriodMissed n s) := by
  have hk := Keep.refl s
  unfold execCurrentPeriodMissed
  extract_lets x1 x2
  try clear_value x1
  refine Keep.cut (a := Keep s x2) ?_ fun kx2 => ?_
  unfold x2
  rotate_left
  clear_value x2
  all_goals repeat' first
    | intro _
    | with_reducible apply good_okIf
    | with_reducible apply good_okAon
    | with_reducible apply good_ok
    | with_reducible apply good_ite
    | with_reducible assumption
    | with_reducible apply State.onCh_keep
    | with_reducible apply State.observerLoss_keep
    | with_reducible apply State.spRaise_keep
    | with_reducible apply State.spinOut_keep
    | with_reducible apply keep_ite
    | split
    | dsimp only

theorem execBrakeTimeout_good (n : Nat) (s : State) : Good s (execBrakeTimeout n s) := by
  have hk := Keep.refl s
  unfold execBrakeTimeout
  all_goals repeat' first
    | intro _
    | with_reducible apply good_okIf
    | with_reducible apply good_okAon
    | with_reducible apply good_ok
    | with_reducible apply good_ite
    | with_reducible assumption
    | with_reducible apply State.spRaise_keep
    | with_reducible apply State.spinFree_keep
    | with_reducible apply State.toSpin_keep
    | with_reducible apply State.spCause_keep
    | with_reducible apply keep_ite
    | split
    | dsimp only

theorem execMotorRegisterWrite_good (acc : Accessor) (n : Nat) (off : Nat) (value : Word) (s : State) : Good s (execMotorRegisterWrite acc n off value s) := by
  have hk := Keep.refl s
  unfold execMotorRegisterWrite
  extract_lets x1 x2 x3
  try clear_value x1
  try clear_value x2
  try clear_value x3
  all_goals repeat' first
    | intro _
    | with_reducible apply good_okIf
    | with_reducible apply good_okAon
    | with_reducible apply good_ok
    | with_reducible apply good_ite
    | with_reducible assumption
    | with_reducible apply State.spRaise_keep
    | with_reducible apply State.setB_keep
    | with_reducible apply State.spSet_keep
    | with_reducible apply keep_ite
    | with_reducible apply keep_foldl
    | split
    | dsimp only

theorem execStartPlaceAdmit_good  (s : State) : Good s (execStartPlaceAdmit s) := by
  have hk := Keep.refl s
  unfold execStartPlaceAdmit
  extract_lets x1
  try clear_value x1
  all_goals repeat' first
    | intro _
    | with_reducible apply good_okIf
    | with_reducible apply good_okAon
    | with_reducible apply good_ok
    | with_reducible apply good_ite
    | with_reducible assumption
    | with_reducible apply State.toSpin_keep
    | with_reducible apply State.spBump_keep
    | with_reducible apply State.spStatBit_keep
    | with_reducible apply State.setPlaces_keep
    | with_reducible apply keep_ite
    | split
    | with_reducible apply Keep.mk'
    | dsimp only

theorem execObserverLost_good (n : Nat) (s : State) : Good s (execObserverLost n s) := by
  have hk := Keep.refl s
  unfold execObserverLost
  all_goals repeat' first
    | intro _
    | with_reducible apply good_okIf
    | with_reducible apply good_okAon
    | with_reducible apply good_ok
    | with_reducible apply good_ite
    | with_reducible assumption
    | with_reducible apply State.observerLoss_keep
    | with_reducible apply keep_ite
    | split
    | dsimp only

theorem execReacquireTimeout_good (n : Nat) (s : State) : Good s (execReacquireTimeout n s) := by
  have hk := Keep.refl s
  unfold execReacquireTimeout
  all_goals repeat' first
    | intro _
    | with_reducible apply good_okIf
    | with_reducible apply good_okAon
    | with_reducible apply good_ok
    | with_reducible apply good_ite
    | with_reducible assumption
    | with_reducible apply State.spRaise_keep
    | with_reducible apply State.coastDown_keep
    | with_reducible apply State.spCause_keep
    | with_reducible apply keep_ite
    | split
    | dsimp only

theorem execSpindleMemAccess_good (acc : Accessor) (e : Nat) (write : Bool) (value : Word) (s : State) : Good s (execSpindleMemAccess acc e write value s) := by
  have hk := Keep.refl s
  unfold execSpindleMemAccess
  extract_lets x1 x2 x3 x4
  try clear_value x1
  try clear_value x2
  try clear_value x4
  refine Keep.cut (a := Keep s x3) ?_ fun kx3 => ?_
  unfold x3
  rotate_left
  clear_value x3
  all_goals repeat' first
    | intro _
    | with_reducible apply good_okIf
    | with_reducible apply good_okAon
    | with_reducible apply good_ok
    | with_reducible apply good_ite
    | with_reducible assumption
    | with_reducible apply State.set_keep
    | with_reducible apply keep_onIo
    | with_reducible apply keep_ite
    | with_reducible apply ioKeep_ite
    | split
    | with_reducible apply IoKeep.mk'
    | with_reducible apply Keep.mk'
    | dsimp only

theorem execAtSpeedReached_good (n : Nat) (s : State) : Good s (execAtSpeedReached n s) := by
  have hk := Keep.refl s
  unfold execAtSpeedReached
  all_goals repeat' first
    | intro _
    | with_reducible apply good_okIf
    | with_reducible apply good_okAon
    | with_reducible apply good_ok
    | with_reducible apply good_ite
    | with_reducible assumption
    | with_reducible apply State.spRaise_keep
    | with_reducible apply State.freePlace_keep
    | with_reducible apply State.onCh_keep
    | with_reducible apply State.spStatBit_keep
    | with_reducible apply State.spSet_keep
    | with_reducible apply keep_ite
    | split
    | dsimp only

theorem execStartProbeCheck_good (n : Nat) (forward : Bool) (s : State) : Good s (execStartProbeCheck n forward s) := by
  have hk := Keep.refl s
  unfold execStartProbeCheck
  extract_lets x1
  refine Keep.cut (a := Keep s x1) ?_ fun kx1 => ?_
  unfold x1
  rotate_left
  clear_value x1
  all_goals repeat' first
    | intro _
    | with_reducible apply good_okIf
    | with_reducible apply good_okAon
    | with_reducible apply good_ok
    | with_reducible apply good_ite
    | with_reducible assumption
    | with_reducible apply State.onCh_keep
    | with_reducible apply State.spRaise_keep
    | with_reducible apply State.spinFree_keep
    | with_reducible apply State.toSpin_keep
    | with_reducible apply State.spCause_keep
    | with_reducible apply keep_ite
    | split
    | dsimp only

end Sys2Proof.Machine
end

