-- ==== Sys2Proof/Laws/KeepStart.lean ====
section
/-! SUPPORT. What the operations of Machine/Start.lean keep. -/

namespace Sys2Proof.Machine

set_option linter.unreachableTactic false
set_option linter.unusedTactic false

theorem execBootWatchdogExpiry_good (places : List BrickPlace) (dur : Nat) (vend : Nat) (s : State) : Good s (execBootWatchdogExpiry places dur vend s) := by
  have hk := Keep.refl s
  unfold execBootWatchdogExpiry
  extract_lets x1
  refine Keep.cut (a := Keep s x1) ?_ fun kx1 => ?_
  unfold x1
  rotate_left
  clear_value x1
  all_goals repeat' first
    | intro _
    | with_reducible apply good_okIf
    | with_reducible apply good_okAon
    | with_reducible apply good_ok
    | with_reducible apply good_ite
    | with_reducible assumption
    | with_reducible apply State.raise_keep
    | with_reducible apply State.requestReset_keep
    | with_reducible apply keep_ite
    | split
    | dsimp only

theorem execMgpWatchdogExpiry_good (recent : Nat) (places : List BrickPlace) (dur : Nat) (vend : Nat) (s : State) : Good s (execMgpWatchdogExpiry recent places dur vend s) := by
  have hk := Keep.refl s
  unfold execMgpWatchdogExpiry
  extract_lets x1
  refine Keep.cut (a := Keep s x1) ?_ fun kx1 => ?_
  unfold x1
  rotate_left
  clear_value x1
  all_goals repeat' first
    | intro _
    | with_reducible apply good_okIf
    | with_reducible apply good_okAon
    | with_reducible apply good_ok
    | with_reducible apply good_ite
    | with_reducible assumption
    | with_reducible apply State.raise_keep
    | with_reducible apply State.bump_keep
    | with_reducible apply State.mgpFault_keep
    | with_reducible apply keep_ite
    | split
    | dsimp only

theorem execModuleStart_good (memFail : Bool) (badBlobs : List Nat) (attOk : Bool) (badCl : List Nat) (s : State) : Good s (execModuleStart memFail badBlobs attOk badCl s) := by
  have hk := Keep.refl s
  unfold execModuleStart
  all_goals repeat' first
    | intro _
    | with_reducible apply good_okIf
    | with_reducible apply good_okAon
    | with_reducible apply good_ok
    | with_reducible apply good_ite
    | with_reducible assumption
    | with_reducible apply State.start_keep
    | with_reducible apply keep_ite
    | split
    | dsimp only

theorem execRecoveryCommit_good (acc : Accessor) (w0 : Bool) (w1 : Bool) (s : State) : Good s (execRecoveryCommit acc w0 w1 s) := by
  have hk := Keep.refl s
  unfold execRecoveryCommit
  extract_lets x1 x2 x3
  try clear_value x1
  try clear_value x2
  refine Keep.cut (a := Keep s x3) ?_ fun kx3 => ?_
  unfold x3
  rotate_left
  clear_value x3
  all_goals repeat' first
    | intro _
    | with_reducible apply good_okIf
    | with_reducible apply good_okAon
    | with_reducible apply good_ok
    | with_reducible apply good_ite
    | with_reducible assumption
    | with_reducible apply State.onSys_keep
    | with_reducible apply State.set_keep
    | with_reducible apply State.requestReset_keep
    | with_reducible apply State.writeImage_keep
    | with_reducible apply keep_ite
    | split
    | dsimp only

theorem execRecoveryDataWrite_good (acc : Accessor) (value : Word) (s : State) : Good s (execRecoveryDataWrite acc value s) := by
  have hk := Keep.refl s
  unfold execRecoveryDataWrite
  extract_lets x1
  try clear_value x1
  all_goals repeat' first
    | intro _
    | with_reducible apply good_okIf
    | with_reducible apply good_okAon
    | with_reducible apply good_ok
    | with_reducible apply good_ite
    | with_reducible assumption
    | with_reducible apply State.set_keep
    | with_reducible apply State.onSys_keep
    | with_reducible apply keep_ite
    | split
    | dsimp only

theorem execWatchdogPrewarn_good (n : Nat) (s : State) : Good s (execWatchdogPrewarn n s) := by
  have hk := Keep.refl s
  unfold execWatchdogPrewarn
  extract_lets x1
  refine Keep.cut (a := Keep s x1) ?_ fun kx1 => ?_
  unfold x1
  rotate_left
  clear_value x1
  all_goals repeat' first
    | intro _
    | with_reducible apply good_okIf
    | with_reducible apply good_okAon
    | with_reducible apply good_ok
    | with_reducible apply good_ite
    | with_reducible assumption
    | with_reducible apply State.raise_keep
    | with_reducible apply State.onSys_keep
    | with_reducible apply State.set_keep
    | with_reducible apply keep_ite
    | split
    | dsimp only

theorem execServiceFailTimeout_good (port : Nat) (s : State) : Good s (execServiceFailTimeout port s) := by
  have hk := Keep.refl s
  unfold execServiceFailTimeout
  extract_lets x1 x2
  try clear_value x1
  try clear_value x2
  all_goals repeat' first
    | intro _
    | with_reducible apply good_okIf
    | with_reducible apply good_okAon
    | with_reducible apply good_ok
    | with_reducible apply good_ite
    | with_reducible assumption
    | with_reducible apply State.setB_keep
    | with_reducible apply State.onSys_keep
    | with_reducible apply keep_ite
    | split
    | dsimp only

theorem execRecoveryRetry_good (acc : Accessor) (places : List BrickPlace) (dur : Nat) (vend : Nat) (s : State) : Good s (execRecoveryRetry acc places dur vend s) := by
  have hk := Keep.refl s
  unfold execRecoveryRetry
  extract_lets x1 x2
  try clear_value x1
  refine Keep.cut (a := Keep s x2) ?_ fun kx2 => ?_
  unfold x2
  rotate_left
  clear_value x2
  all_goals repeat' first
    | intro _
    | with_reducible apply good_okIf
    | with_reducible apply good_okAon
    | with_reducible apply good_ok
    | with_reducible apply good_ite
    | with_reducible assumption
    | with_reducible apply State.setB_keep
    | with_reducible apply State.set_keep
    | with_reducible apply State.requestReset_keep
    | with_reducible apply keep_ite
    | with_reducible apply keep_foldl
    | split
    | dsimp only

theorem execRecoveryStart_good (acc : Accessor) (s : State) : Good s (execRecoveryStart acc s) := by
  have hk := Keep.refl s
  unfold execRecoveryStart
  extract_lets x1
  try clear_value x1
  all_goals repeat' first
    | intro _
    | with_reducible apply good_okIf
    | with_reducible apply good_okAon
    | with_reducible apply good_ok
    | with_reducible apply good_ite
    | with_reducible assumption
    | with_reducible apply State.set_keep
    | with_reducible apply State.onSys_keep
    | with_reducible apply keep_ite
    | split
    | dsimp only

theorem execNorRefresh_good (area : Nat) (dev : Nat) (good : Bool) (s : State) : Good s (execNorRefresh area dev good s) := by
  have hk := Keep.refl s
  unfold execNorRefresh
  extract_lets x1
  try clear_value x1
  all_goals repeat' first
    | intro _
    | with_reducible apply good_okIf
    | with_reducible apply good_okAon
    | with_reducible apply good_ok
    | with_reducible apply good_ite
    | with_reducible assumption
    | with_reducible apply State.onNor_keep
    | with_reducible apply keep_ite
    | split
    | dsimp only

theorem execTripCooldownRestart_good (memFail : Bool) (badBlobs : List Nat) (attOk : Bool) (badCl : List Nat) (s : State) : Good s (execTripCooldownRestart memFail badBlobs attOk badCl s) := by
  have hk := Keep.refl s
  unfold execTripCooldownRestart
  all_goals repeat' first
    | intro _
    | with_reducible apply good_okIf
    | with_reducible apply good_okAon
    | with_reducible apply good_ok
    | with_reducible apply good_ite
    | with_reducible assumption
    | with_reducible apply State.start_keep
    | with_reducible apply keep_ite
    | split
    | dsimp only

theorem execTableLoad_good (ms : Nat) (s : State) : Good s (execTableLoad ms s) := by
  have hk := Keep.refl s
  unfold execTableLoad
  all_goals repeat' first
    | intro _
    | with_reducible apply good_okIf
    | with_reducible apply good_okAon
    | with_reducible apply good_ok
    | with_reducible apply good_ite
    | with_reducible assumption
    | with_reducible apply State.duties_keep
    | with_reducible apply State.showPool_keep
    | with_reducible apply State.bootDone_keep
    | with_reducible apply State.tablesLoaded_keep
    | with_reducible apply keep_ite
    | with_reducible apply keep_foldl
    | split
    | dsimp only

theorem execReadyLate_good  (s : State) : Good s (execReadyLate s) := by
  have hk := Keep.refl s
  unfold execReadyLate
  all_goals repeat' first
    | intro _
    | with_reducible apply good_okIf
    | with_reducible apply good_okAon
    | with_reducible apply good_ok
    | with_reducible apply good_ite
    | with_reducible assumption
    | with_reducible apply State.raise_keep
    | with_reducible apply keep_ite
    | split
    | dsimp only

theorem execModuleResetRequest_good (acc : Accessor) (value : Word) (places : List BrickPlace) (dur : Nat) (vend : Nat) (s : State) : Good s (execModuleResetRequest acc value places dur vend s) := by
  have hk := Keep.refl s
  unfold execModuleResetRequest
  extract_lets x1
  try clear_value x1
  all_goals repeat' first
    | intro _
    | with_reducible apply good_okIf
    | with_reducible apply good_okAon
    | with_reducible apply good_ok
    | with_reducible apply good_ite
    | with_reducible assumption
    | with_reducible apply State.requestReset_keep
    | with_reducible apply keep_ite
    | split
    | dsimp only

theorem execCpxWatchdogExpiry_good (core : Nat) (recent : Nat) (places : List BrickPlace) (dur : Nat) (vend : Nat) (s : State) : Good s (execCpxWatchdogExpiry core recent places dur vend s) := by
  have hk := Keep.refl s
  unfold execCpxWatchdogExpiry
  extract_lets x1
  refine Keep.cut (a := Keep s x1) ?_ fun kx1 => ?_
  unfold x1
  rotate_left
  clear_value x1
  all_goals repeat' first
    | intro _
    | with_reducible apply good_okIf
    | with_reducible apply good_okAon
    | with_reducible apply good_ok
    | with_reducible apply good_ite
    | with_reducible assumption
    | with_reducible apply State.raise_keep
    | with_reducible apply State.bump_keep
    | with_reducible apply State.cpxFault_keep
    | with_reducible apply keep_ite
    | split
    | dsimp only

theorem execWdgKick_good (acc : Accessor) (value : Word) (s : State) : Good s (execWdgKick acc value s) := by
  have hk := Keep.refl s
  unfold execWdgKick
  extract_lets x1 x2 x3 x4
  try clear_value x1
  try clear_value x2
  try clear_value x3
  refine Keep.cut (a := Keep s x4) ?_ fun kx4 => ?_
  unfold x4
  rotate_left
  clear_value x4
  all_goals repeat' first
    | intro _
    | with_reducible apply good_okIf
    | with_reducible apply good_okAon
    | with_reducible apply good_ok
    | with_reducible apply good_ite
    | with_reducible assumption
    | with_reducible apply State.onSys_keep
    | with_reducible apply State.lockedWrite_keep
    | with_reducible apply State.set_keep
    | with_reducible apply keep_ite
    | split
    | dsimp only

end Sys2Proof.Machine
end

