-- ==== Sys2Proof/Laws/Memory.lean ====
section
/-! SUPPORT. The laws of the buffer memory's bytes and of the FIFOs' contents: a read after a write to the same place, and
every other place left alone. -/

namespace Sys2Proof.Machine

namespace State

@[simp] theorem dramByte_setDramByte_self (s : State) (a : Nat) (b : Byte) : (s.setDramByte a b).dramByte a = b :=
  Tab.get_put_self _ _ _ _

theorem dramByte_setDramByte_ne (s : State) {a c : Nat} (b : Byte) (h : c ≠ a) : (s.setDramByte a b).dramByte c = s.dramByte c :=
  Tab.get_put_ne _ _ _ _ h

/-- Bytes outside the span written keep their values. -/
theorem dramByte_dramWrite_out (s : State) (addr : Nat) (bs : List Nat) {c : Nat} (h : c < addr ∨ addr + bs.length ≤ c) :
    (s.dramWrite addr bs).dramByte c = s.dramByte c := by
  induction bs generalizing s addr with
  | nil => rfl
  | cons b bs ih =>
    simp only [List.length_cons] at h
    rw [dramWrite, ih _ _ (by omega), dramByte_setDramByte_ne _ _ (by omega)]

/-- A byte of the span written reads back. -/
theorem dramByte_dramWrite_in (s : State) (addr : Nat) (bs : List Nat) {i : Nat} (h : i < bs.length) :
    (s.dramWrite addr bs).dramByte (addr + i) = BitVec.ofNat 8 (bs.getD i 0) := by
  induction bs generalizing s addr i with
  | nil => simp at h
  | cons b bs ih =>
    cases i with
    | zero => simp [dramWrite, dramByte_dramWrite_out _ (addr + 1) bs (c := addr) (.inl (Nat.lt_succ_self _))]
    | succ i =>
      have := ih (s.setDramByte addr (BitVec.ofNat 8 b)) (addr + 1) (i := i) (by simpa using h)
      simpa [dramWrite, Nat.add_assoc, Nat.add_comm 1 i] using this

/-- A write to DRAM changes the buffer memory alone. -/
theorem dramWrite_frame (s : State) (addr : Nat) (bs : List Nat) : s.dramWrite addr bs = s.onBuf fun _ => (s.dramWrite addr bs).buf := by
  induction bs generalizing s addr with
  | nil => rfl
  | cons b bs ih => rw [dramWrite, ih]; rfl

/-- What cleans poison leaves the bytes alone. -/
@[simp] theorem cleanWrite_dram (s : State) (addr n : Nat) : (s.cleanWrite addr n).buf.dram = s.buf.dram := by
  unfold cleanWrite
  generalize s.buf.poison.filter _ = l
  suffices h : ∀ t : State, t.buf.dram = s.buf.dram → (l.foldl _ t).buf.dram = s.buf.dram from h s rfl
  induction l with
  | nil => exact fun _ h => h
  | cons kv l ih =>
    intro t h
    refine ih _ ?_
    dsimp only
    split
    · exact h
    · split
      · split <;> exact h
      · exact h

end State

namespace Io

@[simp] theorem fifo_setFifo_self (io : Io) (n : Nat) (f : Fifo) : (io.setFifo n f).fifo n = f :=
  Tab.get_put_self _ _ _ _

theorem fifo_setFifo_ne (io : Io) {n m : Nat} (f : Fifo) (h : m ≠ n) : (io.setFifo n f).fifo m = io.fifo m :=
  Tab.get_put_ne _ _ _ _ h

end Io

end Sys2Proof.Machine
end

