-- ==== Sys2Proof/WellFormed.lean ====
section
/-! DEFINITION. Well-formed commands: the units that a command names exist on the larger part (R1, R2, R28), and an aperture
address is an aligned word of the 1 MiB (R28, R31). -/

namespace Sys2Proof

/-- An actuator, ACT0-ACT127 (R1). -/
def actNo (a : Nat) : Bool := decide (a < 128)

/-- A slot, 0-63 (R1). -/
def slotNo (n : Nat) : Bool := decide (n < 64)

/-- A cluster, CL0-CL7 (R1). -/
def clusterNo (c : Nat) : Bool := decide (c < 8)

/-- A servo control engine or spindle unit, 0-15 (R1). -/
def engineNo (e : Nat) : Bool := decide (e < 16)

/-- A Hod channel, 0-31 (R356). -/
def channelNo (n : Nat) : Bool := decide (n < 32)

/-- A hardware FIFO's number (R367). -/
def fifoNo (n : Nat) : Bool := decide (n < 1024)

/-- A page of the aperture (R28). -/
def pageNo (pg : Nat) : Bool := decide (pg < 256)

/-- An aligned 32-bit word of the aperture (R28, R31). -/
def apertureAddr (addr : Nat) : Bool := decide (addr < 0x100000) && decide (addr % 4 = 0)

/-- The commands that a sender may send. -/
def WellFormed : Instr → Bool
  | .registerWrite _ addr _ _ => apertureAddr addr
  | .rcRegisterRead _ addr => apertureAddr addr
  | .lowWordRead _ addr => apertureAddr addr
  | .highWordRead _ addr => apertureAddr addr
  | .lowWordWrite _ addr _ => apertureAddr addr
  | .highWordWrite _ addr _ => apertureAddr addr
  | .pageLock _ pg => pageNo pg
  | .pageFreeze _ pg => pageNo pg
  | .pageThaw _ pg => pageNo pg
  | .softReset _ pg _ => pageNo pg
  | .softResetDone pg => pageNo pg
  | .blockEnable _ pg => pageNo pg
  | .blockDisable _ pg => pageNo pg
  | .evPendClear _ pg _ => pageNo pg
  | .evSet _ pg _ => pageNo pg
  | .evEnWrite _ pg _ => pageNo pg
  | .evRouteWrite _ pg _ => pageNo pg
  | .winCfgStore _ pg _ => pageNo pg
  | .winCfgSelect _ pg _ => pageNo pg
  | .errInjOneshot _ pg src => pageNo pg && decide (src < 32)
  | .errInjCont _ pg src => pageNo pg && decide (src < 32)
  | .windowLeak pg src => pageNo pg && decide (src < 32)
  | .lastingAction pg src dest _ => pageNo pg && decide (src < 32) && clusterNo dest
  | .wakePatternDetected a => actNo a
  | .trainT1Pass a => actNo a
  | .configSend a => actNo a
  | .identReceived a _ => actNo a
  | .eqAdapted a => actNo a
  | .trainT4Pass a => actNo a
  | .trainPhaseTimeout a => actNo a
  | .losTimeout a => actNo a
  | .invalidBlockHeader a _ => actNo a
  | .sampleFlit a _ _ _ => actNo a
  | .timeFlit a _ _ _ => actNo a
  | .statusFlit a _ _ _ => actNo a
  | .checkFlit a _ _ _ => actNo a
  | .reservedTypeFlit a _ => actNo a
  | .sampleGapDetected a _ => actNo a
  | .longStall a _ => actNo a
  | .ackTimeout a => actNo a
  | .linkRetrain _ a => actNo a
  | .dozeRequest _ a _ => actNo a
  | .forceDown _ a _ => actNo a
  | .retractSwWrite _ c _ => clusterNo c
  | .retractHwRelease _ c => clusterNo c
  | .retractHoldExpiry c => clusterNo c
  | .unloadAckTimeout a _ => actNo a
  | .parkWaitTimeout a => actNo a
  | .hdaAcceptance n _ _ _ _ _ _ => slotNo n
  | .tileReset _ => true
  | .tileFirstWriteArm _ => true
  | .tileClose _ _ => true
  | .writePointerScan _ _ => true
  | .systemTileUpdate a _ => actNo a
  | .wedgeDemodulated a _ => actNo a
  | .softDetectionDone a _ => actNo a
  | .readWindowEnd a _ _ => actNo a
  | .liveDecodeDone a _ => actNo a
  | .retryStoreCopyDone a _ _ _ => actNo a
  | .brickRelease a => actNo a
  | .retryJobPost c _ _ => clusterNo c
  | .retryJobDeferredPost c => clusterNo c
  | .replayDone c _ => clusterNo c
  | .retryAttemptDone c dec _ => clusterNo c && decide (dec < 20)
  | .levelBoundaryDecision c _ _ dest => clusterNo c && clusterNo dest
  | .decoderParityError c dec => clusterNo c && decide (dec < 20)
  | .qmClear a => actNo a
  | .fenceWrite c _ => clusterNo c
  | .seqNext a _ => actNo a
  | .seqJump a _ => actNo a
  | .seqBranch a _ => actNo a
  | .seqCall a _ => actNo a
  | .seqRet a _ => actNo a
  | .seqWait a _ => actNo a
  | .seqLoop a _ => actNo a
  | .seqDispatch a _ => actNo a
  | .seqHalt a _ => actNo a
  | .waitSatisfied a _ => actNo a
  | .wgEffectiveLoss a => actNo a
  | .gateEndTimeout a _ => actNo a
  | .threadRun _ a => actNo a
  | .threadHalt _ a => actNo a
  | .threadAbort _ a => actNo a
  | .jobPost a _ _ => actNo a
  | .csLoadEnable _ c _ => clusterNo c
  | .csRepairEnable _ c _ => clusterNo c
  | .digestClr _ c => clusterNo c
  | .csWordCommit _ c _ => clusterNo c
  | .csParityRepair c n _ => clusterNo c && decide (n < 8192)
  | .zoneEntryStore _ c _ => clusterNo c
  | .sqWordRead _ a => actNo a
  | .servoUpdate e _ _ _ _ _ => engineNo e
  | .traceDone e => engineNo e
  | .loopAcquired a => actNo a
  | .loadingOutputTick a => actNo a
  | .loadTimeout a => actNo a
  | .lostTimeout a => actNo a
  | .unloadTimeout a => actNo a
  | .settleTimeout a => actNo a
  | .loadRequest a => actNo a
  | .unloadRequest a _ => actNo a
  | .retractLoopUnload a => actNo a
  | .loopClear a => actNo a
  | .setWrite a n => actNo a && decide (n < 4)
  | .seekRequest a _ => actNo a
  | .coefMemWrite e _ => engineNo e
  | .servoMemRead _ e => engineNo e
  | .traceArm e _ => engineNo e
  | .traceStop e _ => engineNo e
  | .currentPeriodMissed n => slotNo n
  | .speedTick n _ => slotNo n
  | .startProbeCheck n _ => slotNo n
  | .observerLost n => slotNo n
  | .overcurrent n => slotNo n
  | .atSpeedReached n => slotNo n
  | .probeEnd n _ => slotNo n
  | .brakeTimeout n => slotNo n
  | .alignEnd n => slotNo n
  | .startTimeout n => slotNo n
  | .reacquired n _ _ => slotNo n
  | .reacquireTimeout n => slotNo n
  | .spindleStart n => slotNo n
  | .startPlaceAdmit => true
  | .spindleStop n => slotNo n
  | .spindleClear n => slotNo n
  | .targetWrite n _ => slotNo n
  | .motorRegisterWrite _ n _ _ => slotNo n
  | .spindleMemAccess _ e _ _ => engineNo e
  | .tempSample n _ => slotNo n
  | .tempStale n => slotNo n
  | .headThermalTick _ => true
  | .qualityCheck a h => actNo a && decide (h < 12)
  | .verifyDone a h _ => actNo a && decide (h < 12)
  | .recalibrationSweepDone a h _ _ _ _ _ => actNo a && decide (h < 12)
  | .biasTableMeasure a _ => actNo a
  | .referenceCalibration _ _ _ _ => true
  | .refGo _ _ _ _ _ _ => true
  | .frefMeasure _ _ => true
  | .huGo _ => true
  | .holdupMeasurementStart => true
  | .holdupMeasurementEnd _ _ _ _ _ => true
  | .huAgeExpiry => true
  | .poolSlotsWrite _ p _ => decide (p < 8)
  | .slotDrain n => slotNo n
  | .slotCancel n => slotNo n
  | .slotExclude _ n _ => slotNo n
  | .courseOpen p _ _ _ _ _ _ _ => decide (p < 8)
  | .mortarRowEncode _ _ _ => true
  | .rowComplete _ _ => true
  | .courseClose _ => true
  | .reconstructionRead _ _ _ _ _ => true
  | .reconstructionWaitEnd _ _ => true
  | .brickDecision _ _ _ _ _ _ _ => true
  | .heatSweep => true
  | .replicaCommit _ _ _ => true
  | .compactionStart p => decide (p < 8)
  | .extentMoveCommit _ _ _ => true
  | .rebuildStart _ _ => true
  | .rebuildMemberSwitch _ _ => true
  | .drainMemberSwitch _ _ _ => true
  | .rekeyStart d _ _ => decide (d < 1024)
  | .journalPagePersist _ => true
  | .checkpointStart => true
  | .checkpointEnd _ => true
  | .seekTableAccess _ _ _ => true
  | .tableSegmentRebuild _ _ => true
  | .deleteIoSubmissionQueue _ _ => true
  | .createIoSubmissionQueue _ _ _ _ _ _ => true
  | .deleteIoCompletionQueue _ _ => true
  | .createIoCompletionQueue _ _ _ _ _ => true
  | .getLogPage _ _ _ _ _ _ => true
  | .identify _ _ _ => true
  | .abort _ _ _ _ => true
  | .setFeatures _ _ _ _ _ => true
  | .getFeatures _ _ _ => true
  | .asynchronousEventRequest _ => true
  | .namespaceCreate _ _ _ _ _ _ _ _ _ _ _ => true
  | .namespaceDelete _ _ => true
  | .namespaceAttach _ _ _ => true
  | .namespaceDetach _ _ _ => true
  | .firmwareImageDownload _ _ _ => true
  | .firmwareCommitReplace _ _ _ _ _ => true
  | .firmwareCommitNextBoot _ _ => true
  | .firmwareCommitActivate _ _ => true
  | .activationQuiesced _ => true
  | .activationQuiesceTimeout => true
  | .nvmeMiSend _ _ => true
  | .nvmeMiReceive _ => true
  | .formatNvm _ _ _ _ _ => true
  | .formatDone => true
  | .sanitizeCryptoErase _ _ _ => true
  | .sanitizeBlockErase _ _ _ => true
  | .sanitizeOverwrite _ _ _ => true
  | .sanitizeDone => true
  | .clearEventRecorder _ _ => true
  | .getAttestationReport _ _ _ _ _ => true
  | .unsupportedCommand _ => true
  | .flush _ _ => true
  | .flushComplete _ => true
  | .write _ _ _ _ _ _ _ => true
  | .writeAcknowledge _ => true
  | .writeWaitEnd _ => true
  | .read _ _ _ _ _ _ _ _ => true
  | .compare _ _ _ _ _ _ _ => true
  | .writeZeroes _ _ _ _ _ => true
  | .datasetManagement _ _ _ _ _ => true
  | .verify _ _ _ _ _ => true
  | .zoneClose _ _ _ _ => true
  | .zoneFinish _ _ _ _ => true
  | .zoneOpen _ _ _ _ => true
  | .zoneReset _ _ _ _ => true
  | .zoneOffline _ _ => true
  | .zoneManagementReceive _ _ _ _ => true
  | .zoneAppend _ _ _ _ _ _ _ => true
  | .store _ _ _ _ _ _ _ _ => true
  | .retrieve _ _ _ _ _ _ _ => true
  | .delete _ _ _ => true
  | .exist _ _ _ => true
  | .list _ _ _ => true
  | .sqDoorbellWrite _ _ _ => true
  | .fetchResume => true
  | .cqDoorbellWrite _ _ _ => true
  | .ccEnClear _ => true
  | .ccEnSet _ _ _ _ => true
  | .functionLevelReset port _ => decide (port < 2)
  | .portReset port _ => decide (port < 2)
  | .vfEnableClear port => decide (port < 2)
  | .ccShnNormal _ => true
  | .ccShnAbrupt _ => true
  | .namespaceReady _ _ => true
  | .miReadDataStructure _ _ _ _ => true
  | .miSubsystemHealthPoll _ _ => true
  | .miControllerHealthPoll _ _ _ => true
  | .miConfigurationGet _ _ _ => true
  | .miConfigurationSet _ _ _ _ => true
  | .miVpdRead _ _ _ _ => true
  | .miTunnelledAdmin _ _ _ _ _ _ _ _ => true
  | .smbusTimeout => true
  | .i3cAddressAssigned _ => true
  | .pcieLinkUp port _ _ => decide (port < 2)
  | .pcieLinkDown port => decide (port < 2)
  | .perstDeassert port _ _ => decide (port < 2)
  | .regionValidSet _ r => decide (r < 16)
  | .regionWipeDone r => decide (r < 16)
  | .regionValidClear _ r => decide (r < 16)
  | .dramRead _ _ _ => true
  | .correctedWriteBack _ => true
  | .dramPartialWrite _ _ _ _ => true
  | .dramFullWrite _ _ => true
  | .scrubLine _ _ _ _ => true
  | .dvDataRead _ => true
  | .dvDataWrite _ _ => true
  | .destageStart _ _ => true
  | .subBlockAgeExpiry _ _ => true
  | .destageCopyDone _ _ => true
  | .evictionDone _ => true
  | .subBlockFillDone _ _ _ => true
  | .cacheDisableWrite _ _ => true
  | .hodNop n => channelNo n
  | .hodMove n _ => channelNo n
  | .hodFill n => channelNo n
  | .hodCompare n _ _ => channelNo n
  | .hodWait n => channelNo n
  | .hodWaitSatisfied n => channelNo n
  | .hodWaitTimeout n => channelNo n
  | .hodFlip n => channelNo n
  | .hodSignal n => channelNo n
  | .hodPost n => channelNo n
  | .hodPostRetry n => channelNo n
  | .hodBranch n => channelNo n
  | .hodSetlc n => channelNo n
  | .hodStop n => channelNo n
  | .hodStride n => channelNo n
  | .hodIllegal n => channelNo n
  | .hodUnblock n => channelNo n
  | .hodChannelStart _ n => channelNo n
  | .hodChannelAbort _ n => channelNo n
  | .eventFlagSet _ _ => true
  | .eventFlagClear _ _ => true
  | .flagWrite agent space _ _ _ _ => decide (agent < 256) && decide (space < 2)
  | .flagRead agent space _ => decide (agent < 256) && decide (space < 2)
  | .slotAllocateOne _ => true
  | .slotAllocatePair _ => true
  | .commonWindowAccess agent _ _ _ _ => decide (agent < 256)
  | .windowValidSet _ w => decide (w < 16)
  | .fifoPost n agent _ _ => fifoNo n && decide (agent < 256)
  | .fifoDataWrite _ core i _ => decide (core < 8) && decide (i < 4)
  | .fifoPop _ core => decide (core < 8)
  | .fifoCommit _ core => decide (core < 8)
  | .fifoRewind _ core => decide (core < 8)
  | .claimTimeout n => fifoNo n
  | .mbxC2mDoorbell _ slot => decide (slot < 16)
  | .mbxM2cDoorbell _ slot => decide (slot < 16)
  | .exchangeLate slot => decide (slot < 16)
  | .lcTransitionRequest _ target _ _ _ => decide (target < 5)
  | .tokenDataWrite _ _ => true
  | .tokenPresent _ _ _ _ => true
  | .jtagLcToken _ _ _ _ => true
  | .domainCreate _ _ _ => true
  | .domainReplace _ _ _ => true
  | .domainDestroy _ => true
  | .domainRetire _ => true
  | .xtsMessage e _ _ _ _ _ => decide (e < 9)
  | .xtsMessageResume e _ _ => decide (e < 9)
  | .kvChunkTagCheck _ _ => true
  | .powerLossShutdown _ _ _ => true
  | .vinDip => true
  | .vinHigh => true
  | .vinOv _ _ _ _ => true
  | .holdupShort _ _ => true
  | .inrushFail => true
  | .inrushRetry => true
  | .railPgTimeout r dest => decide (r < 7) && clusterNo dest
  | .railPgLoss r dest _ => decide (r < 7) && clusterNo dest
  | .xtalSettleTimeout => true
  | .sleepRequest d => decide (d < 15)
  | .sleepAnswerTimeout d pg => decide (d < 15) && pageNo pg
  | .sleepRetry d => decide (d < 15)
  | .domainWake d => decide (d < 15)
  | .clusterSleepWrite _ _ => true
  | .powerStateEntry => true
  | .powerStateExit => true
  | .apstIdleTimeout _ => true
  | .cpxIdleSleep => true
  | .capControlTick _ _ _ _ _ => true
  | .thermalModelTick _ _ => true
  | .sensorTrustRestore n => decide (n < 30)
  | .caseTempEstimate => true
  | .throttleStepDown => true
  | .throttleStepUp => true
  | .thermalTrip _ _ _ => true
  | .tripCooldownRestart _ _ _ _ => true
  | .cpxFault core _ _ _ _ _ => decide (core < 8)
  | .mgpFault _ _ _ _ _ => true
  | .processorRestartDone set _ _ => decide (set < 2)
  | .restartTimeout set _ _ _ => decide (set < 2)
  | .clockUnlockLoss c _ dest => clusterNo c && clusterNo dest
  | .recStatClear _ _ => true
  | .dirtyNsClear _ => true
  | .recordNorWrite _ _ => true
  | .operatingHourTick => true
  | .quantitySample _ => true
  | .recorderFreeze _ => true
  | .recorderThaw _ => true
  | .recordRead _ => true
  | .moduleStart _ _ _ _ => true
  | .tableLoad _ => true
  | .readyLate => true
  | .bootWatchdogExpiry _ _ _ => true
  | .cpxWatchdogExpiry core _ _ _ _ => decide (core < 8)
  | .mgpWatchdogExpiry _ _ _ _ => true
  | .watchdogPrewarn n => decide (n < 10)
  | .wdgKick _ _ => true
  | .moduleResetRequest _ _ _ _ _ => true
  | .recoveryStart _ => true
  | .recoveryDataWrite _ _ => true
  | .recoveryCommit _ _ _ => true
  | .recoveryRetry _ _ _ _ => true
  | .serviceFailTimeout port => decide (port < 2)
  | .norRefresh _ _ _ => true
  | .vinPowerUp => true
  | .vholdCollapse => true
  | .blockLockRegained a _ => actNo a
  | .msixVectorUnmask port v => decide (port < 2) && decide (v < 128)
  | .busMasterEnableClear port _ => decide (port < 2)
  | .completionTimeout _ n => channelNo n
  | .pcieErrorDetected port _ => decide (port < 2)
  | .tempDerate _ _ => true

end Sys2Proof
end

