-- ==== Sys2Proof/Tests/Slice0.lean ====
section
/-! SUPPORT. The model's own tests: a witness for the hypotheses of every obligation, ill-formed commands that WellFormed refuses,
and worked examples of the spec, whose expected values are the spec's own. -/

namespace Sys2Proof.Tests

open Sys2Proof Sys2Proof.Machine Sys2Proof.Machine.State

set_option maxRecDepth 100000
set_option Elab.async false
set_option linter.unusedVariables false

/-- The reset state with the module running. -/
def run : State := { State.reset with pwr := { State.reset.pwr with phase := .run } }
/-- That, with these pages enabled. -/
def on (ps : List Nat) : State := ps.foldl (fun s p => s.setB p HDR.PG_CTL.ENABLE true) run
/-- Link 0 in this state and phase, its cluster's controller enabled. -/
def lkAt (st ph : Nat) : State := ((on [0x40, 0x48]).set 0x80 ACT.LK_STAT.STATE st).set 0x80 ACT.LK_STAT.PHASE ph

/-- Thread 0 in this state, its sequencer enabled and this word at address 0 of its control store. -/
def thrAt (st w : Nat) : State :=
  let s := (on [0x0C, 0x40, 0x58]).set 0x80 ACT.SQ_STAT.STATE st
  { s with seq := { s.seq with store := if w = 0 then [] else [(0, w)] } }
/-- Servo loop 0 in this state. -/
def svAt (st : Nat) : State := (on [0x20]).set 0x80 ACT.SV_CTL.STATE st
/-- Spindle channel 0 in this state. -/
def spAt (st : Nat) : State := (on [0x30]).spSet 0 SPM.SPk_CTL.STATE st

/-- Spindle channel 0 at speed. -/
def spFast : State := ((spAt 6).spSet 0 SPM.SPk_SPEED.SPEED (256 * 7200)).spSet 0 SPM.SPk_CTL.INJECT 0

/-- A head's record: valid, five tiles written since its last check. -/
def head : HeadRec := { parseRec (List.replicate 160 0) with valid := true, tileCnt := 5 }
/-- This course number 7. -/
def crs (c : Course) : State := (on [0x18, 0x19, 0x1A]).putCourse 7 c
/-- Extent 3 of course 7. -/
def ext (e : Extent) (c : Course) : State := (crs c).putExtent 3 e

/-- Three slots of pool 0, one tile of each to be had. -/
def pooled : State :=
  [0, 16, 32].foldl (fun s a => (({ s with media := { s.media with fmts := Tab.put Format.zero s.media.fmts a { Format.zero with tiles := 9 } } }.setHeadRec a 0 head).set
      (pgMsn (a / 2)) MSN.SLOT_STAT.STATE 1 |>.set (0x80 + a) ACT.SV_CTL.SET_VALID 7).setB (0x80 + a) ACT.SV_CTL.CP_VALID true)
    (((on [0x18]).set 0x19 MAP.CT_COURSES.N 100).set (pgMsn 0) MSN.POOL_SLOTS.SLOTS 0x10101)

/-- A command of controller 1's admin queue and of its I/O queue 1. -/
def adminCmd : Cmd := ⟨1, 0, 0⟩
def ioCmd1 : Cmd := ⟨1, 1, 0⟩
/-- Controller 1 with a command waiting in each queue, and namespace 1. -/
def host (n : Ns) : State :=
  let s := ((on [0x11, 0x19]).setCtrl 1 { Ctrl.zero with en := true, rdy := true, attached := [1], sqs := [(0, ⟨4, 0, 0, 0, 1⟩), (1, ⟨4, 1, 0, 0, 1⟩)], cqs := [(0, ⟨4, 0, 0, 0⟩), (1, ⟨4, 0, 0, 0⟩)] }).onNvme fun x => { x with ns := Tab.put Ns.zero x.ns 1 n }
  s.putCourse 7 { Course.zero with geom := 1, st := 1, kind := 1 }
/-- A namespace of 64 bricks of this command set. -/
def nsBlk (set : Nat) : Ns := { Ns.zero with live := true, set := set, nsze := 64, ready := true, maxValue := 9999 }
/-- That host with this command in flight. -/
def flying (c : Cmd) (k : FlightKind) : State :=
  (host (nsBlk 0)).setFlights [(host (nsBlk 0)).newFlight c k 1 0 0 false []]

/-- A host without a namespace, its pool 0 with a slot. -/
def nsHost : State := (host Ns.zero).set (pgMsn 0) MSN.POOL_SLOTS.SLOTS 1

/-- A value of two chunks whose first chunk carries its tag, and a Retrieve of it. -/
def tagObj : KvObj := ⟨[5], 1, 2000000, [State.chunkTag 0 1 0 2000000 1 []], 0⟩
def tagFlight1 : Flight := { (host (nsBlk 1)).newFlight ioCmd1 .retrieve 1 0 512 false [] with new := some tagObj }

/-- A provisioned module past its start's stage 7, port 0's link up. -/
def ready0 : State := ((on [0x11]).set 8 LCS.LC_STAT.STATE 1).set 0 DEV.BOOT_STAT.STAGE 7 |>.setB 0x10 PCX.P0_LINK.DL_UP true

/-- Region 0: valid, of this code, owner and size, with this line of it. -/
def rgn (code owner : Nat) : State :=
  (((((on [0x13]).setB (pgRgn 0) MPS.RGN_CFG.VALID true).set (pgRgn 0) MPS.RGN_CFG.CODE code).set (pgRgn 0) MPS.RGN_CFG.OWNER owner).set
    (pgRgn 0) MPS.RGN_GEOM.BASE 0).set (pgRgn 0) MPS.RGN_GEOM.SIZE 1
/-- Way 0 of the cache. -/
def way0 (l : Line) : State := (on [0x14]).setWay 0 l
/-- Channel 0 of Hod in this state, at this instruction in the SRAM. -/
def hodOn (st op flags : Nat) : State :=
  let s := (((on [0x1B, 0x0D]).hset 0 HOD.CH_STAT.STATE st).hset 0 HOD.CH_PC.SPACE 1).hset 0 HOD.CH_PC.ADDR 2
  [op, 0, 0, 0, flags].zipIdx.foldl (fun s bi => (s.memWrite 1 (64 + bi.2) [bi.1])) (s.memWrite 1 64 (List.replicate 32 0))

/-- In power state 4. -/
def deep : State := run.set 2 PWC.PWC_STAT.PS_NOW 4

/-- In RECOVERY, an image being received. -/
def rcv : State := (run.setB 0 DEV.BOOT_STAT.RECOVERY true).onSys fun x => { x with rcvOpen := true }

/-- GF0 in COMMIT mode, claimed by writer 1 with this many items held. -/
def gfAt (n : Nat) : State := (((on [0xC]).set (Io.fifoPg 0xC0) FIF.FIFO_CFG.MODE 2).set 0xC FIF.FIFO_SEL.FIFO 0xC0).onFifo 0xC0 fun f =>
  { f with held := List.replicate n 5, claimer := some 1 }
/-- Region 0 valid over the first 8 MiB, with this code. -/
def rgnOne (c : Nat) : State :=
  ((run.setB (State.pgRgn 0) MPS.RGN_CFG.VALID true).set (State.pgRgn 0) MPS.RGN_CFG.CODE c).set (State.pgRgn 0) MPS.RGN_GEOM.SIZE 1

/-! ### Witnesses -/

/-- States and operands that meet the hypotheses of `Obligations.ApertureAccessesComplete`, clause by clause. -/
theorem witness_ApertureAccessesComplete :
  (∃ (acc : Accessor) (addr : Nat) (value : Word) (fullBe : Bool) (s : State),
      s.pwr.phase = .run ∧ addr < 2 ^ 20 ∧ addr % 4 = 0 ∧ fullBe = true ∧ State.isLow (addrPage addr) (addrOfs addr) = false ∧ State.isHigh (addrPage addr) (addrOfs addr) = false) ∧
  (∃ (acc : Accessor) (addr : Nat) (value : Word) (fullBe : Bool) (s : State),
      s.pwr.phase = .run ∧ addr < 2 ^ 20 ∧ addr % 4 = 0 ∧ fullBe = false) ∧
  (∃ (acc : Accessor) (addr : Nat) (s : State),
      s.pwr.phase = .run ∧ addr < 2 ^ 20 ∧ addr % 4 = 0 ∧ State.isLow (addrPage addr) (addrOfs addr) = false ∧ State.isHigh (addrPage addr) (addrOfs addr) = false) ∧
  (∃ (acc : Accessor) (addr : Nat) (s : State),
      s.pwr.phase = .run ∧ addr < 2 ^ 20 ∧ State.isLow (addrPage addr) (addrOfs addr) = true) ∧
  (∃ (acc : Accessor) (addr : Nat) (s : State),
      s.pwr.phase = .run ∧ addr < 2 ^ 20 ∧ State.isHigh (addrPage addr) (addrOfs addr) = true) ∧
  (∃ (acc : Accessor) (addr : Nat) (value : Word) (s : State),
      s.pwr.phase = .run ∧ addr < 2 ^ 20 ∧ State.isLow (addrPage addr) (addrOfs addr) = true) ∧
  (∃ (acc : Accessor) (addr : Nat) (value : Word) (s : State),
      s.pwr.phase = .run ∧ addr < 2 ^ 20 ∧ State.isHigh (addrPage addr) (addrOfs addr) = true) :=
  ⟨⟨.mgp, 0x5090, 1, true, run, by decide +kernel⟩,
   ⟨.mgp, 0x5090, 1, false, run, by decide +kernel⟩,
   ⟨.mgp, 0x5090, run, by decide +kernel⟩,
   ⟨.mgp, 0x18058, run, by decide +kernel⟩,
   ⟨.mgp, 0x1805C, run, by decide +kernel⟩,
   ⟨.mgp, 0x18058, 1, run, by decide +kernel⟩,
   ⟨.mgp, 0x1805C, 1, run, by decide +kernel⟩⟩

/-- States and operands that meet the hypotheses of `Obligations.PageHeaderCommandsComplete`, clause by clause. -/
theorem witness_PageHeaderCommandsComplete :
  (∃ (acc : Accessor) (pg : Nat) (s : State),
      s.pwr.phase = .run ∧ present s.part pg = true ∧ s.closedWrite acc pg 0 = false) ∧
  (∃ (acc : Accessor) (pg : Nat) (s : State),
      s.pwr.phase = .run ∧ present s.part pg = true ∧ s.closedWrite acc pg 0 = false ∧ s.io.heldPages.contains pg = false) ∧
  (∃ (acc : Accessor) (pg : Nat) (s : State),
      s.pwr.phase = .run ∧ present s.part pg = true ∧ s.closedWrite acc pg 0 = false) ∧
  (∃ (acc : Accessor) (pg : Nat) (enable : Bool) (s : State),
      s.pwr.phase = .run ∧ present s.part pg = true ∧ s.closedWrite acc pg 0 = false ∧ s.enabled pg = false ∧ s.resetBarred pg = false) ∧
  (∃ (acc : Accessor) (pg : Nat) (enable : Bool) (s : State),
      s.pwr.phase = .run ∧ present s.part pg = true ∧ s.closedWrite acc pg 0 = false ∧ s.enabled pg = true) ∧
  (∃ (pg : Nat) (s : State),
      s.pwr.phase = .run ∧ present s.part pg = true ∧ s.flag pg HDR.PG_STAT.RESET_BUSY = true) ∧
  (∃ (acc : Accessor) (pg : Nat) (s : State),
      s.pwr.phase = .run ∧ present s.part pg = true ∧ s.closedWrite acc pg 0 = false) ∧
  (∃ (acc : Accessor) (pg : Nat) (s : State),
      s.pwr.phase = .run ∧ present s.part pg = true ∧ s.closedWrite acc pg 0 = false) :=
  ⟨⟨.mgp, 5, run, by decide +kernel⟩,
   ⟨.mgp, 5, run, by decide +kernel⟩,
   ⟨.mgp, 5, run, by decide +kernel⟩,
   ⟨.mgp, 3, false, run, by decide +kernel⟩,
   ⟨.mgp, 3, false, on [3], by decide +kernel⟩,
   ⟨5, run.setB 5 HDR.PG_STAT.RESET_BUSY true, by decide +kernel⟩,
   ⟨.mgp, 5, run, by decide +kernel⟩,
   ⟨.mgp, 5, run, by decide +kernel⟩⟩

/-- States and operands that meet the hypotheses of `Obligations.EventHeaderCommandsComplete`, clause by clause. -/
theorem witness_EventHeaderCommandsComplete :
  (∃ (acc : Accessor) (pg : Nat) (mask : Word) (s : State),
      s.pwr.phase = .run ∧ present s.part pg = true ∧ s.closedWrite acc pg 0 = false) ∧
  (∃ (acc : Accessor) (pg : Nat) (mask : Word) (s : State),
      s.pwr.phase = .run ∧ present s.part pg = true ∧ s.closedWrite acc pg 0 = false) ∧
  (∃ (acc : Accessor) (pg : Nat) (value : Word) (s : State),
      s.pwr.phase = .run ∧ present s.part pg = true ∧ s.closedWrite acc pg 0 = false) ∧
  (∃ (acc : Accessor) (pg : Nat) (value : Word) (s : State),
      s.pwr.phase = .run ∧ present s.part pg = true ∧ s.closedWrite acc pg 0 = false ∧ s.io.locked pg = false) ∧
  (∃ (acc : Accessor) (pg : Nat) (value : Word) (s : State),
      s.pwr.phase = .run ∧ present s.part pg = true ∧ s.closedWrite acc pg 0 = false ∧ s.io.locked pg = false) ∧
  (∃ (acc : Accessor) (pg : Nat) (value : Word) (s : State),
      s.pwr.phase = .run ∧ present s.part pg = true ∧ s.closedWrite acc pg 0 = false) ∧
  (∃ (acc : Accessor) (pg : Nat) (src : Nat) (s : State),
      s.pwr.phase = .run ∧ present s.part pg = true ∧ s.closedWrite acc pg 0 = false) ∧
  (∃ (acc : Accessor) (pg : Nat) (src : Nat) (s : State),
      s.pwr.phase = .run ∧ present s.part pg = true ∧ s.closedWrite acc pg 0 = false) ∧
  (∃ (pg : Nat) (src : Nat) (s : State),
      s.pwr.phase = .run ∧ present s.part pg = true ∧ src < 32) ∧
  (∃ (pg : Nat) (src : Nat) (dest : Nat) (again : Bool) (s : State),
      s.pwr.phase = .run ∧ present s.part pg = true ∧ src < 32 ∧ bitOf (s.fld pg HDR.WIN_LASTING.V) src = true) :=
  ⟨⟨.mgp, 5, 1, run, by decide +kernel⟩,
   ⟨.mgp, 5, 1, run, by decide +kernel⟩,
   ⟨.mgp, 5, 1, run, by decide +kernel⟩,
   ⟨.mgp, 5, 1, run, by decide +kernel⟩,
   ⟨.mgp, 5, 1, run, by decide +kernel⟩,
   ⟨.mgp, 5, 1, run, by decide +kernel⟩,
   ⟨.mgp, 5, 1, run, by decide +kernel⟩,
   ⟨.mgp, 5, 1, run, by decide +kernel⟩,
   ⟨5, 1, run, by decide +kernel⟩,
   ⟨5, 1, 0, false, run.set 5 HDR.WIN_LASTING.V 2, by decide +kernel⟩⟩

/-- States and operands that meet the hypotheses of `Obligations.LinkTrainingCompletes`, clause by clause. -/
theorem witness_LinkTrainingCompletes :
  (∃ (a : Nat) (s : State),
      s.pwr.phase = .run ∧ s.klcOn a = true ∧ s.lkState a = 0 ∧ s.flag (pgAct a) ACT.LK_CTL.FORCE_DOWN = false ∧ s.pwr.asleep.contains (7 + clOf a) = false) ∧
  (∃ (a : Nat) (s : State),
      s.pwr.phase = .run ∧ s.klcOn a = true ∧ s.lkState a = 1 ∧ s.lkPhase a = 1 ∧ s.bridgeHere (slotOf a) = true) ∧
  (∃ (a : Nat) (s : State),
      s.pwr.phase = .run ∧ s.klcOn a = true ∧ s.lkState a = 1 ∧ s.lkPhase a = 2) ∧
  (∃ (a : Nat) (i : Ident) (s : State),
      s.pwr.phase = .run ∧ s.klcOn a = true ∧ s.lkState a = 1 ∧ s.lkPhase a = 2 ∧ State.identBad a i = false ∧ s.serialsDiffer a i = false ∧ s.fullRate a = true) ∧
  (∃ (a : Nat) (i : Ident) (s : State),
      s.pwr.phase = .run ∧ s.klcOn a = true ∧ s.lkState a = 1 ∧ s.lkPhase a = 2 ∧ State.identBad a i = true) ∧
  (∃ (a : Nat) (s : State),
      s.pwr.phase = .run ∧ s.klcOn a = true ∧ s.lkState a = 1 ∧ s.lkPhase a = 3) ∧
  (∃ (a : Nat) (s : State),
      s.pwr.phase = .run ∧ s.klcOn a = true ∧ s.lkState a = 1 ∧ s.lkPhase a = 4) ∧
  (∃ (a : Nat) (s : State),
      s.pwr.phase = .run ∧ s.klcOn a = true ∧ s.lkState a = 1 ∧ (s.lk a).fails + 1 ≥ max 1 (s.fld (pgKlc (clOf a)) KLC.KLC_CFG.TRAIN_MAX)) ∧
  (∃ (a : Nat) (s : State),
      s.pwr.phase = .run ∧ s.klcOn a = true ∧ s.lkState a = 1 ∧ (s.lk a).fails + 1 < max 1 (s.fld (pgKlc (clOf a)) KLC.KLC_CFG.TRAIN_MAX)) ∧
  (∃ (a : Nat) (s : State),
      s.pwr.phase = .run ∧ s.klcOn a = true ∧ s.lkState a ≠ 0) :=
  ⟨⟨0, lkAt 0 0, by decide +kernel⟩,
   ⟨0, (lkAt 1 1).set 0x40 KLC.PRESENT.V 1, by decide +kernel⟩,
   ⟨0, lkAt 1 2, by decide +kernel⟩,
   ⟨0, ⟨0, 0, 0, 0, 4, 0, 32, 4400, 4700, 1⟩, (lkAt 1 2).set 0x40 KLC.RATE.V 1, by decide +kernel⟩,
   ⟨0, ⟨0, 0, 0, 1, 4, 0, 32, 4400, 4700, 1⟩, lkAt 1 2, by decide +kernel⟩,
   ⟨0, lkAt 1 3, by decide +kernel⟩,
   ⟨0, lkAt 1 4, by decide +kernel⟩,
   ⟨0, (lkAt 1 1).onLk 0 fun l => { l with fails := 3 }, by decide +kernel⟩,
   ⟨0, lkAt 1 1, by decide +kernel⟩,
   ⟨0, lkAt 1 2, by decide +kernel⟩⟩

/-- States and operands that meet the hypotheses of `Obligations.LinkReceptionCompletes`, clause by clause. -/
theorem witness_LinkReceptionCompletes :
  (∃ (a : Nat) (n : Lane) (s : State),
      s.pwr.phase = .run ∧ actOk s.part a = true) ∧
  (∃ (a : Nat) (n : Lane) (s : State),
      s.pwr.phase = .run ∧ actOk s.part a = true) ∧
  (∃ (a : Nat) (n : Lane) (sseq : Nat) (samples : List Int) (s : State),
      let l := s.lane a n
      s.pwr.phase = .run ∧ actOk s.part a = true ∧ s.lkState a = 2 ∧ l.locked = true ∧ (s.lane a n).sseq = some sseq ∧ n = .up0) ∧
  (∃ (a : Nat) (n : Lane) (index : Nat) (sseq : Nat) (s : State),
      let l := s.lane a n
      s.pwr.phase = .run ∧ actOk s.part a = true ∧ s.lkState a = 2 ∧ l.locked = true ∧ (s.lane a n).sseq = none) ∧
  (∃ (a : Nat) (st : Status) (ce : Nat) (ue : Nat) (s : State),
      s.pwr.phase = .run ∧ actOk s.part a = true ∧ (decide (s.lkState a = 2) || decide (s.lkState a = 3) || (decide (s.lkState a = 1) && decide (s.lkPhase a = 4))) = true) ∧
  (∃ (a : Nat) (n : Lane) (group : Nat) (crcOk : Bool) (s : State),
      s.pwr.phase = .run ∧ actOk s.part a = true ∧ s.lkState a = 2 ∧ crcOk = true ∧ (s.lane a n).group = none) ∧
  (∃ (a : Nat) (n : Lane) (group : Nat) (crcOk : Bool) (s : State),
      s.pwr.phase = .run ∧ actOk s.part a = true ∧ s.lkState a = 2 ∧ crcOk = false) ∧
  (∃ (a : Nat) (n : Lane) (s : State),
      s.pwr.phase = .run ∧ actOk s.part a = true ∧ s.lkState a = 2) ∧
  (∃ (a : Nat) (n : Lane) (s : State),
      s.pwr.phase = .run ∧ actOk s.part a = true ∧ s.lkState a = 2) ∧
  (∃ (a : Nat) (n : Lane) (s : State),
      s.pwr.phase = .run ∧ actOk s.part a = true ∧ s.lkState a = 2) :=
  ⟨⟨0, .up0, run, by decide +kernel⟩,
   ⟨0, .up0, run, by decide +kernel⟩,
   ⟨0, .up0, 5, [], (lkAt 2 0).onLane 0 .up0 fun l => { l with sseq := some 5 }, by decide +kernel⟩,
   ⟨0, .up0, 9, 5, lkAt 2 0, by decide +kernel⟩,
   ⟨0, ⟨0, 0, false, false, 0, 0, 0, 0, 0, true, 0, 0, 0, 0, 0⟩, 0, 0, lkAt 2 0, by decide +kernel⟩,
   ⟨0, .up0, 3, true, lkAt 2 0, by decide +kernel⟩,
   ⟨0, .up0, 3, false, lkAt 2 0, by decide +kernel⟩,
   ⟨0, .up0, lkAt 2 0, by decide +kernel⟩,
   ⟨0, .up0, lkAt 2 0, by decide +kernel⟩,
   ⟨0, .up0, lkAt 2 0, by decide +kernel⟩⟩

/-- States and operands that meet the hypotheses of `Obligations.LinkControlCompletes`, clause by clause. -/
theorem witness_LinkControlCompletes :
  (∃ (a : Nat) (s : State),
      s.pwr.phase = .run ∧ actOk s.part a = true ∧ (decide (s.lkState a = 2) || decide (s.lkState a = 3)) = true) ∧
  (∃ (acc : Accessor) (a : Nat) (s : State),
      s.pwr.phase = .run ∧ s.klcOn a = true ∧ s.lkState a ≠ 0) ∧
  (∃ (acc : Accessor) (a : Nat) (value : Bool) (s : State),
      s.pwr.phase = .run ∧ actOk s.part a = true ∧ value = true ∧ s.lkState a = 2 ∧ s.headsLoaded a = false ∧ s.gateOn a = false) ∧
  (∃ (acc : Accessor) (a : Nat) (value : Bool) (s : State),
      s.pwr.phase = .run ∧ actOk s.part a = true ∧ value = false ∧ s.lkState a = 3 ∧ s.fullRate a = true) ∧
  (∃ (acc : Accessor) (a : Nat) (value : Bool) (s : State),
      s.pwr.phase = .run ∧ actOk s.part a = true ∧ value = true ∧ s.lkState a ≠ 0) ∧
  (∃ (acc : Accessor) (c : Nat) (value : Bool) (s : State),
      s.pwr.phase = .run ∧ clOk s.part c = true ∧ value = true ∧ s.drives c = false) ∧
  (∃ (acc : Accessor) (c : Nat) (value : Bool) (s : State),
      s.pwr.phase = .run ∧ clOk s.part c = true ∧ value = false) ∧
  (∃ (acc : Accessor) (c : Nat) (s : State),
      s.pwr.phase = .run ∧ clOk s.part c = true ∧ acc = .mgp) ∧
  (∃ (c : Nat) (s : State),
      s.pwr.phase = .run ∧ c < 8 ∧ (s.retract c).unacked = true) ∧
  (∃ (a : Nat) (signalLost : Bool) (x : Leave) (s : State),
      s.pwr.phase = .run ∧ (s.lk a).leave = some x ∧ x.acked = false ∧ signalLost = false) ∧
  (∃ (a : Nat) (x : Leave) (s : State),
      s.pwr.phase = .run ∧ (s.lk a).leave = some x ∧ x.acked = true) :=
  ⟨⟨0, lkAt 2 0, by decide +kernel⟩,
   ⟨.mgp, 0, lkAt 2 0, by decide +kernel⟩,
   ⟨.mgp, 0, true, lkAt 2 0, by decide +kernel⟩,
   ⟨.mgp, 0, false, (lkAt 3 0).set 0x40 KLC.RATE.V 1, by decide +kernel⟩,
   ⟨.mgp, 0, true, lkAt 2 0, by decide +kernel⟩,
   ⟨.mgp, 0, true, (run.onRetract 0 fun r => { r with poweron := false }).setB 0x40 KLC.RETRACT.SW_ASSERT false, by decide +kernel⟩,
   ⟨.mgp, 0, false, run, by decide +kernel⟩,
   ⟨.mgp, 0, run, by decide +kernel⟩,
   ⟨0, run.onRetract 0 fun r => { r with unacked := true }, by decide +kernel⟩,
   ⟨0, false, ⟨1, 0, false⟩, run.onLk 0 fun l => { l with leave := some ⟨1, 0, false⟩ }, by decide +kernel⟩,
   ⟨0, ⟨1, 0, true⟩, run.onLk 0 fun l => { l with leave := some ⟨1, 0, true⟩ }, by decide +kernel⟩⟩

/-- States and operands that meet the hypotheses of `Obligations.MediaCommandsComplete`, clause by clause. -/
theorem witness_MediaCommandsComplete :
  (∃ (n : Nat) (fa : Option Format) (fb : Option Format) (da : List Defect) (db : List Defect) (ca : List (Nat × Nat)) (cb : List (Nat × Nat)) (s : State),
      let st := s.slotSt n
      s.pwr.phase = .run ∧ slotOk s.part n = true ∧ s.bridgeHere n = true ∧ s.inPool n = true ∧ (st = 0 ∨ st = 2)) ∧
  (∃ (id : Nat) (s : State),
      s.pwr.phase = .run ∧ tileNum id ≥ 2 ∧ actOk s.part (tileAct id) = true) ∧
  (∃ (id : Nat) (s : State),
      s.pwr.phase = .run ∧ (s.tile id).held = true ∧ s.tileRead id = false) ∧
  (∃ (id : Nat) (reason : Nat) (s : State),
      let t := s.tile id
      s.pwr.phase = .run ∧ t.st = 1 ∧ (1 ≤ reason ∧ reason ≤ 3) ∧ reason = 1) ∧
  (∃ (id : Nat) (found : List Scanned) (s : State),
      let t := s.tile id
      s.pwr.phase = .run ∧ t.st = 1 ∧ found = []) ∧
  (∃ (a : Nat) (readBackOk : Bool) (s : State),
      s.pwr.phase = .run ∧ actOk s.part a = true ∧ readBackOk = true) ∧
  (∃ (a : Nat) (readBackOk : Bool) (s : State),
      s.pwr.phase = .run ∧ actOk s.part a = true ∧ readBackOk = false) :=
  ⟨⟨0, none, none, [], [], [], [], ((lkAt 2 0).set 0x40 KLC.PRESENT.V 1).setB (pgMsn 0) MSN.SLOT_STAT.IN_POOL true, by decide +kernel⟩,
   ⟨2, run, by decide +kernel⟩,
   ⟨2, run.putTile 2 { TileRec.zero with held := true }, by decide +kernel⟩,
   ⟨2, 1, run.putTile 2 { TileRec.zero with st := 1 }, by decide +kernel⟩,
   ⟨2, [], run.putTile 2 { TileRec.zero with st := 1 }, by decide +kernel⟩,
   ⟨0, true, run, by decide +kernel⟩,
   ⟨0, false, run, by decide +kernel⟩⟩

/-- States and operands that meet the hypotheses of `Obligations.ReadPathCompletes`, clause by clause. -/
theorem witness_ReadPathCompletes :
  (∃ (a : Nat) (rec : WedgeRec) (s : State),
      let d := s.det a
      s.pwr.phase = .run ∧ actOk s.part a = true ∧ d.wedgeTgt.isSome = true ∧ s.enabled (pgFdc (clOf a)) = true) ∧
  (∃ (a : Nat) (m : Marks) (w : RdWin) (rest : List RdWin) (s : State),
      s.pwr.phase = .run ∧ (s.det a).pend = w :: rest) ∧
  (∃ (a : Nat) (m : Marks) (w : RdWin) (s : State),
      s.pwr.phase = .run ∧ (s.det a).pend = [] ∧ (s.det a).win = some w ∧ w.searched = false) ∧
  (∃ (a : Nat) (taps0 : List Int) (taps1 : List Int) (w : RdWin) (s : State),
      s.pwr.phase = .run ∧ (s.det a).win = some w ∧ s.flag (pgAct a) ACT.RD_CTL.ADAPT_EN = false) ∧
  (∃ (a : Nat) (d : Decode) (j : LiveJob) (s : State),
      s.pwr.phase = .run ∧ (((s.pool (clOf a)).live.find? fun j => decide (j.act = a) && decide (j.dec < 20)) = some j)) ∧
  (∃ (a : Nat) (u : Nat) (unit : Nat) (sram : Nat) (s : State),
      let r := s.ringRec a u
      s.pwr.phase = .run ∧ s.pinned a u = true ∧ (decide (sram = 2) || s.placeFree unit r.units || !s.storeRoom r.units) = true ∧ sram = 0 ∧ s.placeFree unit (s.ringRec a u).units = true) ∧
  (∃ (a : Nat) (h : HeldBrick) (s : State),
      s.pwr.phase = .run ∧ ((s.rc.held.find? fun h => decide (h.act = a) && decide (h.upTo ≤ min (s.lk a).up0.checkedTo (s.lk a).up1.checkedTo)) = some h) ∧ h.ciph ≠ 0) ∧
  (∃ (c : Nat) (unit : Nat) (urgent : Bool) (s : State),
      s.pwr.phase = .run ∧ clOk s.part c = true ∧ (Tab.find? s.rc.store unit).isSome = true ∧ (((s.pool c).queue.any fun x => decide ((s.stored x.unit).tile = (s.stored unit).tile) && decide ((s.stored x.unit).slot = (s.stored unit).slot)) = false) ∧ (((s.pool c).running.any fun x => decide ((s.stored x.job.unit).tile = (s.stored unit).tile) && decide ((s.stored x.job.unit).slot = (s.stored unit).slot)) = false)) ∧
  (∃ (c : Nat) (u : Nat) (rest : List Nat) (s : State),
      s.pwr.phase = .run ∧ s.mason.deferred = u :: rest ∧ clOk s.part c = true ∧ (s.pool c).queue.length < 32) ∧
  (∃ (c : Nat) (unit : Nat) (s : State),
      let p := s.pool c
      s.pwr.phase = .run ∧ p.replays.contains unit = true) ∧
  (∃ (c : Nat) (dec : Nat) (d : Decode) (run : Running) (s : State),
      s.pwr.phase = .run ∧ (((s.pool c).running.find? fun x => decide (x.dec = dec)) = some run) ∧ run.job.replayed = true) ∧
  (∃ (c : Nat) (tag : Nat) (tRb : Nat) (dest : Nat) (j : RetryJob) (s : State),
      s.pwr.phase = .run ∧ (((s.pool c).boundary.find? fun j => decide (j.tag = tag)) = some j) ∧ tRb * max 1 (s.fld 0x18 MSN.MSN_CFG.RB_BIAS) < 16 * State.worstLeft j.level) ∧
  (∃ (c : Nat) (dec : Nat) (s : State),
      s.pwr.phase = .run ∧ clOk s.part c = true ∧ dec < 20 ∧ (((s.pool c).live.find? fun j => decide (j.dec = dec)) = none) ∧ (((s.pool c).running.find? fun x => decide (x.dec = dec)) = none) ∧ s.io.becomesLasting (pgLdp c) 4 dec = false) ∧
  (∃ (a : Nat) (s : State),
      s.pwr.phase = .run ∧ actOk s.part a = true) ∧
  (∃ (c : Nat) (value : Word) (s : State),
      s.pwr.phase = .run ∧ clOk s.part c = true) :=
  ⟨⟨0, ⟨true, false, 0, 0, 0, 0, 0, 0⟩, (lkAt 2 0).onDet 0 fun d => { d with wedgeTgt := some 5 }, by decide +kernel⟩,
   ⟨0, ⟨[], false, [], 0, 0⟩, ⟨0, 2, 0, 0, 0, 0, 0, 0, 0, 0, 0, false, false⟩, [], run.onDet 0 fun d => { d with pend := [⟨0, 2, 0, 0, 0, 0, 0, 0, 0, 0, 0, false, false⟩] }, by decide +kernel⟩,
   ⟨0, ⟨[], false, [], 0, 0⟩, ⟨0, 2, 0, 0, 0, 0, 0, 0, 0, 0, 0, false, false⟩, run.onDet 0 fun d => { d with win := some ⟨0, 2, 0, 0, 0, 0, 0, 0, 0, 0, 0, false, false⟩ }, by decide +kernel⟩,
   ⟨0, [], [], ⟨0, 2, 0, 0, 0, 0, 0, 0, 0, 0, 0, false, false⟩, (run.setB 0x80 ACT.RD_CTL.ADAPT_EN false).onDet 0 fun d => { d with win := some ⟨0, 2, 0, 0, 0, 0, 0, 0, 0, 0, 0, false, false⟩ }, by decide +kernel⟩,
   ⟨0, ⟨1, 0, 0, none⟩, ⟨0, 0, 0, 5, 0⟩, run.setPool 0 { Pool.zero with live := [⟨0, 0, 0, 5, 0⟩] }, by decide +kernel⟩,
   ⟨0, 0, 0, 0, run.set 0x80 ACT.RING_STAT.PINNED 1, by decide +kernel⟩,
   ⟨0, ⟨0, 0, 2, 0, 0, 1, ⟨0, fillerBrick.trailer⟩⟩, { run with rc := { run.rc with held := [⟨0, 0, 2, 0, 0, 1, ⟨0, fillerBrick.trailer⟩⟩] } }, by decide +kernel⟩,
   ⟨0, 0, false, { run with rc := { run.rc with store := [(0, { Record.zero with tile := 2 })] } }, by decide +kernel⟩,
   ⟨0, 0, [], run.onMason fun m => { m with deferred := [0] }, by decide +kernel⟩,
   ⟨0, 0, run.setPool 0 { Pool.zero with replays := [0] }, by decide +kernel⟩,
   ⟨0, 0, ⟨1, 0, 0, none⟩, ⟨0, false, ⟨0, 0, 0, false, 1, 0, true⟩⟩, run.setPool 0 { Pool.zero with running := [⟨0, false, ⟨0, 0, 0, false, 1, 0, true⟩⟩] }, by decide +kernel⟩,
   ⟨0, 0, 1, 0, ⟨0, 0, 0, false, 1, 0, true⟩, run.setPool 0 { Pool.zero with boundary := [⟨0, 0, 0, false, 1, 0, true⟩] }, by decide +kernel⟩,
   ⟨0, 0, run, by decide +kernel⟩,
   ⟨0, run, by decide +kernel⟩,
   ⟨0, 3, run, by decide +kernel⟩⟩

/-- States and operands that meet the hypotheses of `Obligations.SequencerSlotsComplete`, clause by clause. -/
theorem witness_SequencerSlotsComplete :
  (∃ (a : Nat) (upset : Nat) (s : State),
      s.pwr.phase = .run ∧ actOk s.part a = true ∧ s.enabled (pgFsq (clOf a)) = true ∧ s.sqState a = 1 ∧ s.injects (pgFsq (clOf a)) 1 = false ∧ upset % 2 ^ 144 = 0 ∧ (if wSeq (s.nextWord a upset) ≥ 9 then 0 else wSeq (s.nextWord a upset)) = 0 ∧ s.checkCause a (s.nextWord a upset) = none) ∧
  (∃ (a : Nat) (upset : Nat) (s : State),
      s.pwr.phase = .run ∧ actOk s.part a = true ∧ s.enabled (pgFsq (clOf a)) = true ∧ s.sqState a = 1 ∧ s.injects (pgFsq (clOf a)) 1 = false ∧ upset % 2 ^ 144 = 0 ∧ (if wSeq (s.nextWord a upset) ≥ 9 then 0 else wSeq (s.nextWord a upset)) = 1 ∧ s.checkCause a (s.nextWord a upset) = none) ∧
  (∃ (a : Nat) (upset : Nat) (s : State),
      s.pwr.phase = .run ∧ actOk s.part a = true ∧ s.enabled (pgFsq (clOf a)) = true ∧ s.sqState a = 1 ∧ s.injects (pgFsq (clOf a)) 1 = false ∧ upset % 2 ^ 144 = 0 ∧ (if wSeq (s.nextWord a upset) ≥ 9 then 0 else wSeq (s.nextWord a upset)) = 2 ∧ s.checkCause a (s.nextWord a upset) = none) ∧
  (∃ (a : Nat) (upset : Nat) (s : State),
      s.pwr.phase = .run ∧ actOk s.part a = true ∧ s.enabled (pgFsq (clOf a)) = true ∧ s.sqState a = 1 ∧ s.injects (pgFsq (clOf a)) 1 = false ∧ upset % 2 ^ 144 = 0 ∧ (if wSeq (s.nextWord a upset) ≥ 9 then 0 else wSeq (s.nextWord a upset)) = 3 ∧ s.checkCause a (s.nextWord a upset) = none) ∧
  (∃ (a : Nat) (upset : Nat) (s : State),
      s.pwr.phase = .run ∧ actOk s.part a = true ∧ s.enabled (pgFsq (clOf a)) = true ∧ s.sqState a = 1 ∧ s.injects (pgFsq (clOf a)) 1 = false ∧ upset % 2 ^ 144 = 0 ∧ (if wSeq (s.nextWord a upset) ≥ 9 then 0 else wSeq (s.nextWord a upset)) = 4 ∧ s.checkCause a (s.nextWord a upset) = none) ∧
  (∃ (a : Nat) (upset : Nat) (s : State),
      s.pwr.phase = .run ∧ actOk s.part a = true ∧ s.enabled (pgFsq (clOf a)) = true ∧ s.sqState a = 1 ∧ s.injects (pgFsq (clOf a)) 1 = false ∧ upset % 2 ^ 144 = 0 ∧ (if wSeq (s.nextWord a upset) ≥ 9 then 0 else wSeq (s.nextWord a upset)) = 5 ∧ s.checkCause a (s.nextWord a upset) = none) ∧
  (∃ (a : Nat) (upset : Nat) (s : State),
      s.pwr.phase = .run ∧ actOk s.part a = true ∧ s.enabled (pgFsq (clOf a)) = true ∧ s.sqState a = 1 ∧ s.injects (pgFsq (clOf a)) 1 = false ∧ upset % 2 ^ 144 = 0 ∧ (if wSeq (s.nextWord a upset) ≥ 9 then 0 else wSeq (s.nextWord a upset)) = 6 ∧ s.checkCause a (s.nextWord a upset) = none) ∧
  (∃ (a : Nat) (upset : Nat) (s : State),
      s.pwr.phase = .run ∧ actOk s.part a = true ∧ s.enabled (pgFsq (clOf a)) = true ∧ s.sqState a = 1 ∧ s.injects (pgFsq (clOf a)) 1 = false ∧ upset % 2 ^ 144 = 0 ∧ (if wSeq (s.nextWord a upset) ≥ 9 then 0 else wSeq (s.nextWord a upset)) = 7 ∧ s.checkCause a (s.nextWord a upset) = none) ∧
  (∃ (a : Nat) (upset : Nat) (s : State),
      s.pwr.phase = .run ∧ actOk s.part a = true ∧ s.enabled (pgFsq (clOf a)) = true ∧ s.sqState a = 1 ∧ s.injects (pgFsq (clOf a)) 1 = false ∧ upset % 2 ^ 144 = 0 ∧ (if wSeq (s.nextWord a upset) ≥ 9 then 0 else wSeq (s.nextWord a upset)) = 8 ∧ s.checkCause a (s.nextWord a upset) = none) :=
  ⟨⟨0, 0, thrAt 1 0, by decide +kernel⟩,
   ⟨0, 0, thrAt 1 11150373263879309463225795588227710893162496, by decide +kernel⟩,
   ⟨0, 0, thrAt 1 11150373928493307355683732040131241033334784, by decide +kernel⟩,
   ⟨0, 0, thrAt 1 1993841993677373809355710590420516864, by decide +kernel⟩,
   ⟨0, 0, thrAt 1 11150375257721303140599604943938301313679360 |>.onThr 0 fun t => { t with stack := [5] }, by decide +kernel⟩,
   ⟨0, 0, thrAt 1 3323069989462289682259517650700861440, by decide +kernel⟩,
   ⟨0, 0, thrAt 1 3987683987354747618711421180841033728, by decide +kernel⟩,
   ⟨0, 0, thrAt 1 11150377251563296817973414299648891734196224 |>.onThr 0 fun t => { t with job := some ⟨0, 0, 0, 2, 0, 0⟩ }, by decide +kernel⟩,
   ⟨0, 0, thrAt 1 11150377916177294710431350751552421874368512, by decide +kernel⟩⟩

/-- States and operands that meet the hypotheses of `Obligations.ThreadCommandsComplete`, clause by clause. -/
theorem witness_ThreadCommandsComplete :
  (∃ (a : Nat) (slots : Nat) (s : State),
      let w := (s.thr a).word
      let s1 := s.tickTimers a slots
      s.pwr.phase = .run ∧ s.sqState a = 2 ∧ s1.cond a w = true) ∧
  (∃ (a : Nat) (s : State),
      s.pwr.phase = .run ∧ s.gateOn a = true ∧ s.wgEff a (s.thr a).word = false) ∧
  (∃ (a : Nat) (tag : Nat) (g : Gate) (s : State),
      s.pwr.phase = .run ∧ ((s.thr a).gates.find? (fun g => decide (g.tag = tag)) = some g)) ∧
  (∃ (acc : Accessor) (a : Nat) (s : State),
      s.pwr.phase = .run ∧ actOk s.part a = true ∧ acc.isPf1 = false ∧ s.enabled (pgFsq (clOf a)) = true ∧ (s.sqState a = 0 ∨ s.sqState a = 3)) ∧
  (∃ (acc : Accessor) (a : Nat) (s : State),
      s.pwr.phase = .run ∧ actOk s.part a = true ∧ acc.isPf1 = false ∧ (s.sqState a = 1 ∨ s.sqState a = 2)) ∧
  (∃ (acc : Accessor) (a : Nat) (s : State),
      s.pwr.phase = .run ∧ actOk s.part a = true ∧ acc.isPf1 = false) ∧
  (∃ (a : Nat) (item : Nat) (pred : Nat) (s : State),
      s.pwr.phase = .run ∧ actOk s.part a = true ∧ s.io.fifoRoom a = true) ∧
  (∃ (a : Nat) (item : Nat) (pred : Nat) (s : State),
      s.pwr.phase = .run ∧ actOk s.part a = true ∧ s.io.fifoRoom a = false) ∧
  (∃ (acc : Accessor) (a : Nat) (s : State),
      s.pwr.phase = .run ∧ actOk s.part a = true) :=
  ⟨⟨0, 1, thrAt 2 0, by decide +kernel⟩,
   ⟨0, (thrAt 1 0).onThr 0 fun t => { t with gates := [⟨0, 2, 0, 0, [], false, false⟩] }, by decide +kernel⟩,
   ⟨0, 0, ⟨0, 2, 0, 0, [], false, false⟩, (thrAt 1 0).onThr 0 fun t => { t with gates := [⟨0, 2, 0, 0, [], false, false⟩] }, by decide +kernel⟩,
   ⟨.mgp, 0, thrAt 0 0, by decide +kernel⟩,
   ⟨.mgp, 0, thrAt 1 0, by decide +kernel⟩,
   ⟨.mgp, 0, run, by decide +kernel⟩,
   ⟨0, 5, 0, thrAt 1 0, by decide +kernel⟩,
   ⟨0, 5, 0, run, by decide +kernel⟩,
   ⟨.mgp, 0, run, by decide +kernel⟩⟩

/-- States and operands that meet the hypotheses of `Obligations.ControlStoreCommandsComplete`, clause by clause. -/
theorem witness_ControlStoreCommandsComplete :
  (∃ (acc : Accessor) (c : Nat) (value : Bool) (s : State),
      s.pwr.phase = .run ∧ clOk s.part c = true ∧ acc = .mgp ∧ s.enabled (pgFsq c) = false) ∧
  (∃ (acc : Accessor) (c : Nat) (value : Bool) (s : State),
      s.pwr.phase = .run ∧ clOk s.part c = true ∧ acc = .mgp) ∧
  (∃ (acc : Accessor) (c : Nat) (s : State),
      s.pwr.phase = .run ∧ clOk s.part c = true ∧ acc = .mgp) ∧
  (∃ (acc : Accessor) (c : Nat) (data4 : Word) (s : State),
      s.pwr.phase = .run ∧ clOk s.part c = true ∧ acc = .mgp ∧ s.flag (pgFsq c) FSQ.CS_CTL.LOAD_EN = false ∧ s.flag (pgFsq c) FSQ.CS_CTL.REPAIR = true ∧ badGroups (s.csDataWord c data4.toNat) = 0 ∧ s.csDataWord c data4.toNat % 2 ^ 25 = 0) ∧
  (∃ (acc : Accessor) (c : Nat) (data4 : Word) (s : State),
      s.pwr.phase = .run ∧ clOk s.part c = true ∧ acc = .mgp ∧ s.flag (pgFsq c) FSQ.CS_CTL.REPAIR = true ∧ badGroups (s.csDataWord c data4.toNat) ≠ 0) ∧
  (∃ (c : Nat) (n : Nat) (word : Nat) (s : State),
      s.pwr.phase = .run ∧ clOk s.part c = true ∧ n < 8192 ∧ badGroups (word % 2 ^ 144) = 0) ∧
  (∃ (acc : Accessor) (c : Nat) (value : Word) (s : State),
      s.pwr.phase = .run ∧ clOk s.part c = true ∧ acc = .mgp ∧ s.sqState (16 * c + s.fld (pgFsq c) FSQ.ZT_ADDR.THREAD) = 0) :=
  ⟨⟨.mgp, 0, true, run, by decide +kernel⟩,
   ⟨.mgp, 0, true, run, by decide +kernel⟩,
   ⟨.mgp, 0, run, by decide +kernel⟩,
   ⟨.mgp, 0, 0, run.setB 0x58 FSQ.CS_CTL.REPAIR true, by decide +kernel⟩,
   ⟨.mgp, 0, 0x100, run.setB 0x58 FSQ.CS_CTL.REPAIR true, by decide +kernel⟩,
   ⟨0, 0, 0, run, by decide +kernel⟩,
   ⟨.mgp, 0, 5, run, by decide +kernel⟩⟩

/-- States and operands that meet the hypotheses of `Obligations.ServoLoopCompletes`, clause by clause. -/
theorem witness_ServoLoopCompletes :
  (∃ (e : Nat) (pipe : Nat) (lat : Nat) (ce : Nat) (ue : Nat) (ueIdx : Nat) (a : Nat) (w : WedgeRec) (s1 : State) (s : State),
      s.pwr.phase = .run ∧ s.takeRecord e pipe = some (a, w, s1)) ∧
  (∃ (a : Nat) (s : State),
      let l := s.loop a
      s.pwr.phase = .run ∧ (s.svState a = 1 ∨ s.svState a = 3) ∧ l.acq ≥ max 2 (s.fld (pgAct a) ACT.SV_LIM.ACQ_N)) ∧
  (∃ (a : Nat) (s : State),
      s.pwr.phase = .run ∧ s.svState a = 1) ∧
  (∃ (a : Nat) (s : State),
      s.pwr.phase = .run ∧ s.svState a = 1) ∧
  (∃ (a : Nat) (s : State),
      s.pwr.phase = .run ∧ s.svState a = 3) ∧
  (∃ (a : Nat) (s : State),
      s.pwr.phase = .run ∧ actOk s.part a = true ∧ s.svState a = 4) ∧
  (∃ (a : Nat) (s : State),
      let lim := s.fld (pgAct a) ACT.SV_SEEKCFG.SETTLE_TO
      s.pwr.phase = .run ∧ s.svState a = 2 ∧ lim ≠ 0 ∧ (((s.loop a).sinceAsk.any (fun n => decide ((s.loop a).intervals - n ≥ lim))) = true)) :=
  ⟨⟨0, 0, 0, 0, 0, 0, 0, ⟨true, false, 0, 0, 0, 0, 0, 0⟩, run, { run with servo := { run.servo with queue := [(0, [(0, ⟨true, false, 0, 0, 0, 0, 0, 0⟩)])] } }, by decide +kernel⟩,
   ⟨0, (svAt 1).onLoop 0 fun l => { l with acq := 255 }, by decide +kernel⟩,
   ⟨0, svAt 1, by decide +kernel⟩,
   ⟨0, svAt 1, by decide +kernel⟩,
   ⟨0, svAt 3, by decide +kernel⟩,
   ⟨0, svAt 4, by decide +kernel⟩,
   ⟨0, ((svAt 2).set 0x80 ACT.SV_SEEKCFG.SETTLE_TO 3).onLoop 0 fun l => { l with sinceAsk := some 0, intervals := 9 }, by decide +kernel⟩⟩

/-- States and operands that meet the hypotheses of `Obligations.ServoCommandsComplete`, clause by clause. -/
theorem witness_ServoCommandsComplete :
  (∃ (a : Nat) (s : State),
      s.pwr.phase = .run ∧ actOk s.part a = true) ∧
  (∃ (a : Nat) (byThread : Bool) (s : State),
      s.pwr.phase = .run ∧ actOk s.part a = true ∧ s.svState a ≠ 0 ∧ s.svState a ≠ 5 ∧ byThread = false) ∧
  (∃ (a : Nat) (byThread : Bool) (s : State),
      s.pwr.phase = .run ∧ actOk s.part a = true ∧ s.svState a ≠ 0 ∧ s.svState a ≠ 5 ∧ byThread = true) ∧
  (∃ (a : Nat) (s : State),
      s.pwr.phase = .run ∧ actOk s.part a = true ∧ s.retractLow (clOf a) = true) ∧
  (∃ (a : Nat) (s : State),
      s.pwr.phase = .run ∧ actOk s.part a = true ∧ s.svState a = 5 ∧ s.headsLoaded a = false) ∧
  (∃ (a : Nat) (n : Nat) (s : State),
      s.pwr.phase = .run ∧ actOk s.part a = true ∧ s.svState a = 2 ∧ n < 3 ∧ n = 2) ∧
  (∃ (a : Nat) (n : Nat) (s : State),
      s.pwr.phase = .run ∧ actOk s.part a = true ∧ s.svState a = 2 ∧ n < 3 ∧ n ≠ 2) ∧
  (∃ (a : Nat) (track : Nat) (s : State),
      s.pwr.phase = .run ∧ actOk s.part a = true) ∧
  (∃ (e : Nat) (value : Word) (s : State),
      s.pwr.phase = .run ∧ engOk s.part e = true ∧ s.fld (pgSve e) SVE.MEM_ADDR.MEM = 0 ∧ s.svState (8 * e + s.fld (pgSve e) SVE.MEM_ADDR.ACT) = 0) ∧
  (∃ (e : Nat) (value : Word) (s : State),
      s.pwr.phase = .run ∧ engOk s.part e = true ∧ s.fld (pgSve e) SVE.MEM_ADDR.MEM = 0 ∧ s.svState (8 * e + s.fld (pgSve e) SVE.MEM_ADDR.ACT) ≠ 0) ∧
  (∃ (acc : Accessor) (e : Nat) (s : State),
      s.pwr.phase = .run ∧ engOk s.part e = true) ∧
  (∃ (e : Nat) (value : Word) (s : State),
      s.pwr.phase = .run ∧ engOk s.part e = true) ∧
  (∃ (e : Nat) (value : Word) (s : State),
      s.pwr.phase = .run ∧ engOk s.part e = true ∧ s.fld (pgSve e) SVE.TR_STAT.STATE = 1) ∧
  (∃ (e : Nat) (s : State),
      s.pwr.phase = .run ∧ s.fld (pgSve e) SVE.TR_STAT.STATE = 2 ∧ (s.trace e).left = 0) :=
  ⟨⟨0, run, by decide +kernel⟩,
   ⟨0, false, svAt 2, by decide +kernel⟩,
   ⟨0, true, svAt 2, by decide +kernel⟩,
   ⟨0, run, by decide +kernel⟩,
   ⟨0, svAt 5, by decide +kernel⟩,
   ⟨0, 2, svAt 2, by decide +kernel⟩,
   ⟨0, 1, svAt 2, by decide +kernel⟩,
   ⟨0, 5, run, by decide +kernel⟩,
   ⟨0, 7, run, by decide +kernel⟩,
   ⟨0, 7, svAt 2, by decide +kernel⟩,
   ⟨.mgp, 0, run, by decide +kernel⟩,
   ⟨0, 1, run, by decide +kernel⟩,
   ⟨0, 1, run.set 0x20 SVE.TR_STAT.STATE 1, by decide +kernel⟩,
   ⟨0, run.set 0x20 SVE.TR_STAT.STATE 2, by decide +kernel⟩⟩

/-- States and operands that meet the hypotheses of `Obligations.SpindleRunCompletes`, clause by clause. -/
theorem witness_SpindleRunCompletes :
  (∃ (n : Nat) (s : State),
      s.pwr.phase = .run ∧ slotOk s.part n = true ∧ s.spState n ≠ 0 ∧ s.spState n ≠ 9 ∧ s.spState n = 6 ∧ (s.ch n).missed + 1 ≥ 40) ∧
  (∃ (n : Nat) (speed : Int) (s : State),
      s.pwr.phase = .run ∧ slotOk s.part n = true ∧ s.spState n ≠ 0 ∧ s.spState n ≠ 9) ∧
  (∃ (n : Nat) (forward : Bool) (s : State),
      s.pwr.phase = .run ∧ s.spState n = 6 ∧ (s.ch n).probesDue = true ∧ forward = true) ∧
  (∃ (n : Nat) (forward : Bool) (s : State),
      s.pwr.phase = .run ∧ s.spState n = 6 ∧ (s.ch n).probesDue = true ∧ forward = false ∧ (s.ch n).attempts + 1 ≥ 3) ∧
  (∃ (n : Nat) (s : State),
      s.pwr.phase = .run ∧ s.spState n = 6) ∧
  (∃ (n : Nat) (s : State),
      s.pwr.phase = .run ∧ s.spState n = 6) ∧
  (∃ (n : Nat) (s : State),
      s.pwr.phase = .run ∧ (s.spState n = 3 ∨ s.spState n = 4 ∨ s.spState n = 5 ∨ s.spState n = 8)) ∧
  (∃ (n : Nat) (s : State),
      s.pwr.phase = .run ∧ s.speedOk n = true) ∧
  (∃ (n : Nat) (speed : Int) (s : State),
      s.pwr.phase = .run ∧ s.spState n = 2) ∧
  (∃ (n : Nat) (s : State),
      s.pwr.phase = .run ∧ s.spState n = 3) ∧
  (∃ (n : Nat) (s : State),
      s.pwr.phase = .run ∧ s.spState n = 4) ∧
  (∃ (n : Nat) (s : State),
      s.pwr.phase = .run ∧ s.spin.places.contains n = true ∧ 2 ≤ s.spState n ∧ s.spState n ≤ 7) ∧
  (∃ (n : Nat) (speed : Int) (theta : Nat) (s : State),
      s.pwr.phase = .run ∧ s.spState n = 7 ∧ (s.ch n).stopHeld = false) ∧
  (∃ (n : Nat) (s : State),
      s.pwr.phase = .run ∧ s.spState n = 7) :=
  ⟨⟨0, (spAt 6).onCh 0 fun c => { c with missed := 39 }, by decide +kernel⟩,
   ⟨0, 5, spAt 6, by decide +kernel⟩,
   ⟨0, true, (spAt 6).onCh 0 fun c => { c with probesDue := true }, by decide +kernel⟩,
   ⟨0, false, (spAt 6).onCh 0 fun c => { c with probesDue := true, attempts := 2 }, by decide +kernel⟩,
   ⟨0, spAt 6, by decide +kernel⟩,
   ⟨0, spAt 6, by decide +kernel⟩,
   ⟨0, spAt 4, by decide +kernel⟩,
   ⟨0, spFast, by decide +kernel⟩,
   ⟨0, 5, spAt 2, by decide +kernel⟩,
   ⟨0, spAt 3, by decide +kernel⟩,
   ⟨0, spAt 4, by decide +kernel⟩,
   ⟨0, { spAt 4 with spin := { (spAt 4).spin with places := [0] } }, by decide +kernel⟩,
   ⟨0, 5, 0, spAt 7, by decide +kernel⟩,
   ⟨0, spAt 7, by decide +kernel⟩⟩

/-- States and operands that meet the hypotheses of `Obligations.SpindleCommandsComplete`, clause by clause. -/
theorem witness_SpindleCommandsComplete :
  (∃ (n : Nat) (s : State),
      s.pwr.phase = .run ∧ slotOk s.part n = true ∧ s.enabled (pgSpm (n / 4)) = true ∧ s.spState n = 0) ∧
  (∃ (n : Nat) (s : State),
      s.pwr.phase = .run ∧ slotOk s.part n = true ∧ s.spState n = 9) ∧
  (∃ (n : Nat) (rest : List Nat) (s : State),
      s.pwr.phase = .run ∧ s.spin.queue = n :: rest ∧ s.spin.places.length < s.startMax ∧ s.spin.places.contains n = false) ∧
  (∃ (n : Nat) (s : State),
      s.pwr.phase = .run ∧ slotOk s.part n = true ∧ s.spState n ≠ 7) ∧
  (∃ (n : Nat) (s : State),
      s.pwr.phase = .run ∧ slotOk s.part n = true ∧ s.spState n = 7) ∧
  (∃ (n : Nat) (s : State),
      s.pwr.phase = .run ∧ slotOk s.part n = true ∧ s.spState n = 9) ∧
  (∃ (n : Nat) (rpm : Nat) (s : State),
      s.pwr.phase = .run ∧ slotOk s.part n = true ∧ (s.spSet n SPM.SPk_TARGET.RPM rpm).targetRpm n ≠ s.sp n SPM.SPk_TARGET.NOM_RPM ∧ s.bothOpen n = false) ∧
  (∃ (n : Nat) (rpm : Nat) (s : State),
      s.pwr.phase = .run ∧ slotOk s.part n = true ∧ (s.spSet n SPM.SPk_TARGET.RPM rpm).targetRpm n = s.sp n SPM.SPk_TARGET.NOM_RPM ∧ (s.spSet n SPM.SPk_TARGET.RPM rpm).speedOk n = true) ∧
  (∃ (acc : Accessor) (n : Nat) (off : Nat) (value : Word) (s : State),
      let at0 := off - 0x40 * (n % 4)
      s.pwr.phase = .run ∧ slotOk s.part n = true ∧ motorRegs.contains at0 = true ∧ s.spState n = 0 ∧ s.io.locked (pgSpm (n / 4)) = false) ∧
  (∃ (acc : Accessor) (e : Nat) (write : Bool) (value : Word) (s : State),
      s.pwr.phase = .run ∧ engOk s.part e = true ∧ write = false) :=
  ⟨⟨0, spAt 0, by decide +kernel⟩,
   ⟨0, spAt 9, by decide +kernel⟩,
   ⟨0, [], { run with spin := { run.spin with queue := [0] } }, by decide +kernel⟩,
   ⟨0, run, by decide +kernel⟩,
   ⟨0, spAt 7, by decide +kernel⟩,
   ⟨0, spAt 9, by decide +kernel⟩,
   ⟨0, 3000, svAt 2, by decide +kernel⟩,
   ⟨0, 0, spFast, by decide +kernel⟩,
   ⟨.mgp, 0, 0x90, 5, run, by decide +kernel⟩,
   ⟨.mgp, 0, false, 0, run, by decide +kernel⟩⟩

/-- States and operands that meet the hypotheses of `Obligations.ThermalAndRecalibrationComplete`, clause by clause. -/
theorem witness_ThermalAndRecalibrationComplete :
  (∃ (n : Nat) (t : Int) (s : State),
      s.pwr.phase = .run ∧ slotOk s.part n = true ∧ (decide (s.lkState (2 * n) = 2) || decide (s.lkState (2 * n + 1) = 2)) = true) ∧
  (∃ (n : Nat) (s : State),
      s.pwr.phase = .run ∧ slotOk s.part n = true) ∧
  (∃ (duty : List (Nat × Nat)) (s : State),
      s.pwr.phase = .run) ∧
  (∃ (a : Nat) (h : Nat) (s : State),
      s.pwr.phase = .run ∧ actOk s.part a = true ∧ s.enabled 0x1C = true ∧ h < 12 ∧ s.checkDue a h = true ∧ (List.range h).any (s.checkDue a) = false ∧ s.checkBusy a = false ∧ s.fld (pgAct a) ACT.SV_CTL.STATE = 2 ∧ s.lkState a = 2) ∧
  (∃ (a : Nat) (h : Nat) (live : Nat) (s : State),
      let w := s.headWork a h
      s.pwr.phase = .run ∧ actOk s.part a = true ∧ h < 12 ∧ w.checking = true ∧ s.verifySide a h live = 0) ∧
  (∃ (a : Nat) (h : Nat) (live : Nat) (s : State),
      let w := s.headWork a h
      s.pwr.phase = .run ∧ actOk s.part a = true ∧ h < 12 ∧ w.checking = true ∧ s.verifySide a h live ≠ 0 ∧ (s.headWork a h).side = 0) ∧
  (∃ (a : Nat) (h : Nat) (qs : List Nat) (reps : List Nat) (rise : Nat) (duty : Nat) (full : List Nat) (i : Nat) (s : State),
      s.pwr.phase = .run ∧ s.chosenPoint qs = some i ∧ actOk s.part a = true ∧ h < 12 ∧ (s.headWork a h).recal = true ∧ qs.length = 2 * s.sweepPts + 1 ∧ (agree (fun _ y => within 25 100 (qs.getD i 0 : Int) y) Machine.dist ((qs.getD i 0 : Int) :: reps.map Int.ofNat) = none) ∧ (s.headWork a h).sweeps = 0) ∧
  (∃ (a : Nat) (h : Nat) (qs : List Nat) (reps : List Nat) (rise : Nat) (duty : Nat) (full : List Nat) (i : Nat) (p : Int × Int) (s : State),
      s.pwr.phase = .run ∧ s.chosenPoint qs = some i ∧ actOk s.part a = true ∧ h < 12 ∧ (s.headWork a h).recal = true ∧ qs.length = 2 * s.sweepPts + 1 ∧ (agree (fun _ y => within 25 100 (qs.getD i 0 : Int) y) Machine.dist ((qs.getD i 0 : Int) :: reps.map Int.ofNat) = some p) ∧ s.fld (pgAct a) ACT.BR_CAP.ASSIST = 0) ∧
  (∃ (a : Nat) (avgs : List (List Int)) (s : State),
      s.pwr.phase = .run ∧ actOk s.part a = true ∧ s.inFollow a = true ∧ (0 < avgs.length ∧ avgs.length ≤ 1024)) :=
  ⟨⟨0, 25, lkAt 2 0, by decide +kernel⟩,
   ⟨0, run, by decide +kernel⟩,
   ⟨[], run, by decide +kernel⟩,
   ⟨0, 0, ((((on [0x1C]).setHeadRec 0 0 head).set 0x1C ASC.ASC_CFG.QC_TILES 1).set 0x80 ACT.SV_CTL.STATE 2).set 0x80 ACT.LK_STAT.STATE 2, by decide +kernel⟩,
   ⟨0, 0, 100000, run.setHeadWork 0 0 { HeadWork.zero with checking := true }, by decide +kernel⟩,
   ⟨0, 0, 0, run.setHeadWork 0 0 { HeadWork.zero with checking := true }, by decide +kernel⟩,
   ⟨0, 0, List.replicate (2 * run.sweepPts + 1) 0, [], 0, 0, [], 0, run.setHeadWork 0 0 { HeadWork.zero with recal := true }, by decide +kernel⟩,
   ⟨0, 0, List.replicate (2 * run.sweepPts + 1) 0, [0], 0, 0, [], 0, (0, 0), run.setHeadWork 0 0 { HeadWork.zero with recal := true }, by decide +kernel⟩,
   ⟨0, [[5]], (svAt 2).set 0x80 ACT.SV_CTL.SET 2, by decide +kernel⟩⟩

/-- States and operands that meet the hypotheses of `Obligations.ReferenceCalibrationCompletes`, clause by clause. -/
theorem witness_ReferenceCalibrationCompletes :
  (∃ (start : Bool) (vref : List Int) (adc : List (List (Int × Int))) (osc : List (List (Int × Int))) (s : State),
      s.pwr.phase = .run) ∧
  (∃ (_x0 : Accessor) (vref : List Int) (adc : List (List (Int × Int))) (osc : List (List (Int × Int))) (fref : Bool) (ppm : List Int) (s : State),
      s.pwr.phase = .run) ∧
  (∃ (fref : Bool) (ppm : List Int) (s : State),
      s.pwr.phase = .run) ∧
  (∃ (_x0 : Accessor) (s : State),
      s.pwr.phase = .run) ∧
  (∃ (s : State),
      s.pwr.phase = .run ∧ s.huWanted = true ∧ s.huOk = true ∧ s.flag 4 CAL.CAL_STAT.HU_BUSY = false ∧ s.pwr.phase = .run) ∧
  (∃ (s : State),
      let p := s.fld 4 CAL.CAL_CTL.HU_PERIOD
      s.pwr.phase = .run ∧ s.flag 4 CAL.CAL_STAT.HU_VALID = true ∧ p ≠ 0 ∧ s.fld 4 CAL.HU_AGE.HOURS ≥ 2 * p) ∧
  (∃ (drawn : Nat) (v1 : Nat) (v2 : Nat) (esr : Nat) (late : Bool) (p : (Nat × Nat × Bool) × (Nat × Nat × Bool)) (s : State),
      let lower := late && decide (v1 < v2 + 500)
      let vEnd := if lower then v1 - 500 else v2
      s.pwr.phase = .run ∧ s.flag 4 CAL.CAL_STAT.HU_BUSY = true ∧ vEnd < v1 ∧ late = false ∧ (agree (fun (x : Nat × Nat × Bool) y => within 3 100 x.1 y.1) (fun x y => Machine.dist x.1 y.1) (s.asc.huRuns ++ [(2000000000 * drawn / (v1 * v1 - v2 * v2), esr, false)]) = some p)) :=
  ⟨⟨false, [], [], [], run, by decide +kernel⟩,
   ⟨.mgp, [], [], [], false, [], run, by decide +kernel⟩,
   ⟨false, [], run, by decide +kernel⟩,
   ⟨.mgp, run, by decide +kernel⟩,
   ⟨{ (run.setB 4 CAL.CAL_STAT.VREF_VALID true).set 2 PWC.VIN_MEAS.VHOLD 0xFFFF with asc := { run.asc with huDue := true } }, by decide +kernel⟩,
   ⟨((run.setB 4 CAL.CAL_STAT.HU_VALID true).set 4 CAL.CAL_CTL.HU_PERIOD 1).set 4 CAL.HU_AGE.HOURS 2, by decide +kernel⟩,
   ⟨0, 1000, 0, 0, false, ((0, 0, false), (0, 0, false)), { run.setB 4 CAL.CAL_STAT.HU_BUSY true with asc := { run.asc with huRuns := [(0, 0, false)] } }, by decide +kernel⟩⟩

/-- States and operands that meet the hypotheses of `Obligations.PoolAndSlotCommandsComplete`, clause by clause. -/
theorem witness_PoolAndSlotCommandsComplete :
  (∃ (acc : Accessor) (p : Nat) (slots : Nat) (s : State),
      s.pwr.phase = .run ∧ p < 8) ∧
  (∃ (n : Nat) (s : State),
      s.pwr.phase = .run ∧ slotOk s.part n = true ∧ s.slotSt n = 1) ∧
  (∃ (n : Nat) (s : State),
      s.pwr.phase = .run ∧ slotOk s.part n = true ∧ s.slotSt n = 3) ∧
  (∃ (acc : Accessor) (n : Nat) (value : Bool) (s : State),
      s.pwr.phase = .run ∧ slotOk s.part n = true ∧ s.io.locked 0x18 = false ∧ value = true) ∧
  (∃ (acc : Accessor) (n : Nat) (value : Bool) (s : State),
      s.pwr.phase = .run ∧ slotOk s.part n = true ∧ s.io.locked 0x18 = false ∧ value = false ∧ s.slotSt n ≠ 5 ∧ (s.setB (State.pgMsn n) MSN.SLOT_CTL.EXCLUDE false).slotSt n ≠ 5) ∧
  (∃ (p : Nat) (kind : Nat) (kdom : Nat) (number : Nat) (stNs : Nat) (stId : Nat) (cands : List Cand) (background : Bool) (s : State),
      let max_ := min 16 (max 1 (s.fld (pgMsn p) MSN.POOL_CFG.OPEN_MAX))
      let open_ := (s.mason.courses.filter fun kv => decide (kv.2.st = 1) && decide (kv.2.pool = p) && decide (kv.2.kind = kind)).length
      s.pwr.phase = .run ∧ p < 8 ∧ (1 ≤ kind ∧ kind ≤ 3) ∧ s.enabled 0x18 = true ∧ (s.course number).geom = 0 ∧ number < min 0x400000 (s.fld 0x19 MAP.CT_COURSES.N) ∧ open_ < max_ ∧ kind = 3 ∧ background = true ∧ (s.choose p 3 (geomK 6) (geomM 6) [] cands).length < geomK 6 + geomM 6) ∧
  (∃ (p : Nat) (kind : Nat) (kdom : Nat) (number : Nat) (stNs : Nat) (stId : Nat) (cands : List Cand) (background : Bool) (s : State),
      let max_ := min 16 (max 1 (s.fld (pgMsn p) MSN.POOL_CFG.OPEN_MAX))
      let open_ := (s.mason.courses.filter fun kv => decide (kv.2.st = 1) && decide (kv.2.pool = p) && decide (kv.2.kind = kind)).length
      let picks := s.choose p 3 (geomK 6) (geomM 6) [] cands
      s.pwr.phase = .run ∧ p < 8 ∧ (1 ≤ kind ∧ kind ≤ 3) ∧ s.enabled 0x18 = true ∧ (s.course number).geom = 0 ∧ number < min 0x400000 (s.fld 0x19 MAP.CT_COURSES.N) ∧ open_ < max_ ∧ kind = 3 ∧ background = true ∧ ¬ picks.length < geomK 6 + geomM 6) ∧
  (∃ (course : Nat) (fill : Bool) (sramUe : Bool) (s : State),
      let c := s.course course
      let (k, m) := (geomK c.geom, geomM c.geom)
      let row := c.encoded
      let waiting := (s.mason.bricks.filter fun b => decide (b.course = noRef) && decide (b.pool = c.pool) && decide (b.stream = c.stream)).take k
      let due := waiting.zipIdx.foldl (fun (l : List HostBrick) bn => l ++ [s.identify l { bn.1 with course := course, cb := row * k + bn.2 }]) []
      let calm := c.members.all fun id => !(s.headWork (tileAct id) (s.tile id).head).recal
      s.pwr.phase = .run ∧ c.st = 1 ∧ c.kind = 1 ∧ s.enabled 0x1A = true ∧ row < 65536 ∧ due.length > 0 ∧ calm = true ∧ (decide (due.length = k) || fill) = true ∧ (!s.sys.keysGone || decide (c.kdom = noKdom)) = true) ∧
  (∃ (course : Nat) (row : Nat) (s : State),
      let c := s.course course
      let (k, m) := (geomK c.geom, geomM c.geom)
      let all := (List.range (k + m)).all fun n => bitOf (Tab.get 0 c.flight row) n
      s.pwr.phase = .run ∧ c.geom ≠ 0 ∧ row = c.rows ∧ c.rows < 65536 ∧ all = true ∧ s.jrnFull = false) ∧
  (∃ (course : Nat) (s : State),
      s.pwr.phase = .run ∧ (s.course course).st = 1) :=
  ⟨⟨.mgp, 0, 3, run, by decide +kernel⟩,
   ⟨0, run.set (pgMsn 0) MSN.SLOT_STAT.STATE 1, by decide +kernel⟩,
   ⟨0, run.set (pgMsn 0) MSN.SLOT_STAT.STATE 3, by decide +kernel⟩,
   ⟨.mgp, 0, true, run, by decide +kernel⟩,
   ⟨.mgp, 0, false, run, by decide +kernel⟩,
   ⟨0, 3, 0, 0, 0, 0, [], true, (on [0x18]).set 0x19 MAP.CT_COURSES.N 100, by decide +kernel⟩,
   ⟨0, 3, 0, 0, 0, 0, [⟨0, 0, 2, 0⟩, ⟨16, 0, 16 * 2 ^ 24 + 2, 0⟩, ⟨32, 0, 32 * 2 ^ 24 + 2, 0⟩], true, pooled, by decide +kernel⟩,
   ⟨7, true, false, (crs { Course.zero with st := 1, kind := 1, geom := 1, kdom := noKdom }).onMason fun m => { m with bricks := [⟨1, 0, 0, 0, 4096, 0, (0, 0), 0, noRef, 0, noRef, 0⟩] }, by decide +kernel⟩,
   ⟨7, 0, crs { Course.zero with geom := 5, flight := [(0, 3)] }, by decide +kernel⟩,
   ⟨7, crs { Course.zero with st := 1 }, by decide +kernel⟩⟩

/-- States and operands that meet the hypotheses of `Obligations.ReconstructionCompletes`, clause by clause. -/
theorem witness_ReconstructionCompletes :
  (∃ (ix : Nat) (i : Nat) (got : List (Nat × Brick)) (waits : Bool) (sramUe : Bool) (s : State),
      let e := s.extent ix
      s.pwr.phase = .run ∧ e.st ≠ 0 ∧ i < e.len ∧ s.enabled 0x1A = true) ∧
  (∃ (ix : Nat) (i : Nat) (s : State),
      s.pwr.phase = .run ∧ s.mason.waits.contains ⟨ix, i⟩ = true) ∧
  (∃ (ix : Nat) (i : Nat) (kind : Nat) (urgentBg : Bool) (rebuildOk : Bool) (tRr : Nat) (tRb : Nat) (s : State),
      let e := s.extent ix
      s.pwr.phase = .run ∧ e.st ≠ 0 ∧ i < e.len) :=
  ⟨⟨3, 0, [], true, false, ext { Extent.zero with st := 1, len := 4, course := 7 } { Course.zero with geom := 1, kind := 1, rows := 9, members := [2, 3] }, by decide +kernel⟩,
   ⟨3, 0, run.onMason fun m => { m with waits := [⟨3, 0⟩] }, by decide +kernel⟩,
   ⟨3, 0, 1, false, true, 5, 5, ext { Extent.zero with st := 1, len := 4, course := 7 } { Course.zero with geom := 1, kind := 1, rows := 9, members := [2, 3] }, by decide +kernel⟩⟩

/-- States and operands that meet the hypotheses of `Obligations.PlacementMaintenanceCompletes`, clause by clause. -/
theorem witness_PlacementMaintenanceCompletes :
  (∃ (s : State),
      s.pwr.phase = .run) ∧
  (∃ (ix : Nat) (course : Nat) (row : Nat) (s : State),
      let c := s.course course
      s.pwr.phase = .run ∧ ((s.mason.moving.any fun kv => decide (kv.1 = ix)) = true) ∧ c.kind = 2 ∧ c.geom ≠ 0 ∧ row + (s.extent ix).len ≤ 65536 ∧ s.unchanged ix = true) ∧
  (∃ (ix : Nat) (course : Nat) (row : Nat) (s : State),
      let c := s.course course
      s.pwr.phase = .run ∧ ((s.mason.moving.any fun kv => decide (kv.1 = ix)) = true) ∧ c.kind = 2 ∧ c.geom ≠ 0 ∧ row + (s.extent ix).len ≤ 65536 ∧ s.unchanged ix = false) ∧
  (∃ (p : Nat) (s : State),
      let free := s.poolFree p
      let start := s.fld (pgMsn p) MSN.POOL_COMPACT.START
      let goes := s.mason.compacting.contains p && decide (free ≤ 100 * State.compactStopPct s p)
      s.pwr.phase = .run ∧ p < 8 ∧ s.background = true ∧ s.flag 0x18 MSN.MSN_CFG.COMPACT_EN = true ∧ (decide (free < 100 * start) || goes) = true) ∧
  (∃ (ix : Nat) (course : Nat) (start : Nat) (s : State),
      let e := s.extent ix
      let old := s.course e.course
      let c := s.course course
      let n := min 256 e.len
      let kd := ((s.mason.rekeying.find? fun dd => decide (dd.1 = old.kdom)).map (·.2)).getD old.kdom
      s.pwr.phase = .run ∧ ((s.mason.moving.any fun kv => decide (kv.1 = ix)) = true) ∧ c.geom ≠ 0 ∧ c.kind = old.kind ∧ c.kdom = kd ∧ course ≠ e.course ∧ start + n ≤ geomK c.geom * c.rows) ∧
  (∃ (n : Nat) (repl : List (Nat × Nat × Cand)) (s : State),
      s.pwr.phase = .run ∧ slotOk s.part n = true ∧ s.urgentWork = true ∧ s.flag 0x18 MSN.MSN_CFG.REBUILD_EN = true) ∧
  (∃ (course : Nat) (member : Nat) (mt : Nat × Nat) (s : State),
      s.pwr.phase = .run ∧ (((s.course course).copies.find? fun x => decide (x.1 = member)) = some mt) ∧ bitOf (s.course course).lost member = true ∧ bitOf (s.course course).rebuild member = true ∧ bitClear (s.course course).lost member ≠ 0) ∧
  (∃ (course : Nat) (member : Nat) (x : Cand) (s : State),
      let c := s.course course
      let old := c.members.getD member 0
      let n := slotOf (tileAct old)
      let (k, m) := (geomK c.geom, geomM c.geom)
      let standing := ((c.members.zipIdx).filter fun tn => decide (tn.2 ≠ member)).map fun tn => tileAct tn.1
      let weak := (s.headRec (tileAct old) (s.tile old).head).weak
      s.pwr.phase = .run ∧ c.geom ≠ 0 ∧ c.kind ≠ 2 ∧ member < k + m ∧ (decide (s.slotSt n = 3) || weak) = true ∧ s.background = true ∧ s.candOk c.pool x = true ∧ (pickMembers (capOf s.part c.kind k m) (k + m) standing [⟨x, 0⟩]).length = 1) ∧
  (∃ (d : Nat) (w0 : Bool) (w1 : Bool) (d2 : Nat) (s1 : State) (s : State),
      s.pwr.phase = .run ∧ s.firstFree = some d2 ∧ s.sec.rekeyWait.contains d = true ∧ s.domSt d = 1 ∧ s.background = true ∧ s.makeKeys d2 (s.fld (pgDom d) SEC.DOM_STAT.NSID) w0 w1 = (true, s1)) ∧
  (∃ (jseq : Nat) (s : State),
      let p := s.fld 0x19 MAP.JSEQ_PERSISTED.JSEQ
      s.pwr.phase = .run ∧ p < jseq ∧ jseq ≤ s.fld 0x19 MAP.JSEQ_APPENDED.JSEQ) ∧
  (∃ (s : State),
      s.pwr.phase = .run ∧ s.mason.ckptStart.isNone = true) ∧
  (∃ (bootSlots : Nat) (n : Nat) (s : State),
      s.pwr.phase = .run ∧ s.mason.ckptStart = some n) ∧
  (∃ (acc : Accessor) (write : Bool) (value : Nat) (s : State),
      s.pwr.phase = .run ∧ write = true ∧ s.fld 0x18 MSN.SEEK_ADDR.INDEX < 25) ∧
  (∃ (acc : Accessor) (write : Bool) (value : Nat) (s : State),
      s.pwr.phase = .run ∧ write = false ∧ s.fld 0x18 MSN.SEEK_ADDR.INDEX < 25) ∧
  (∃ (table : Nat) (idx : Nat) (s : State),
      s.pwr.phase = .run ∧ s.mason.poisoned.contains (table, idx) = true) :=
  ⟨⟨run, by decide +kernel⟩,
   ⟨3, 8, 0, ((ext { Extent.zero with st := 1, len := 4, course := 7 } { Course.zero with geom := 1, kind := 1, rows := 9, members := [2, 3] }).putCourse 8 { Course.zero with geom := 5, kind := 2, rows := 9 }).onMason fun m => { m with moving := [(3, { Extent.zero with st := 1, len := 4, course := 7 })] }, by decide +kernel⟩,
   ⟨3, 8, 0, ((ext { Extent.zero with st := 1, len := 4, course := 7 } { Course.zero with geom := 1, kind := 1, rows := 9, members := [2, 3] }).putCourse 8 { Course.zero with geom := 5, kind := 2, rows := 9 }).onMason fun m => { m with moving := [(3, Extent.zero)] }, by decide +kernel⟩,
   ⟨0, ((on [0x18]).setB 0x18 MSN.MSN_CFG.COMPACT_EN true).set (pgMsn 0) MSN.POOL_COMPACT.START 10, by decide +kernel⟩,
   ⟨3, 8, 0, ((ext { Extent.zero with st := 1, len := 4, course := 7 } { Course.zero with geom := 1, kind := 1, rows := 9, members := [2, 3] }).putCourse 8 { Course.zero with geom := 1, kind := 1, rows := 9 }).onMason fun m => { m with moving := [(3, { Extent.zero with st := 1, len := 4, course := 7 })] }, by decide +kernel⟩,
   ⟨0, [], (on [0x18]).setB 0x18 MSN.MSN_CFG.REBUILD_EN true, by decide +kernel⟩,
   ⟨7, 0, (0, 5), crs { Course.zero with geom := 5, lost := 3, rebuild := 1, copies := [(0, 5)], members := [2, 3] }, by decide +kernel⟩,
   ⟨7, 0, ⟨16, 0, 16 * 2 ^ 24 + 2, 0⟩, (pooled.set (pgMsn 0) MSN.SLOT_STAT.STATE 3).putCourse 7 { Course.zero with geom := 5, kind := 1, members := [2, 32 * 2 ^ 24 + 2], rows := 1 }, by decide +kernel⟩,
   ⟨0, true, true, 1, ((((on [0x18]).set (pgDom 0) SEC.DOM_STAT.STATE 1).onSec fun x => { x with rekeyWait := [0] } : State).makeKeys 1 0 true true).2, ((on [0x18]).set (pgDom 0) SEC.DOM_STAT.STATE 1).onSec fun x => { x with rekeyWait := [0] }, by decide +kernel, by decide +kernel, by decide +kernel, by decide +kernel, by decide +kernel, by rfl⟩,
   ⟨5, run.set 0x19 MAP.JSEQ_APPENDED.JSEQ 5, by decide +kernel⟩,
   ⟨run, by decide +kernel⟩,
   ⟨0, 5, run.onMason fun m => { m with ckptStart := some 5 }, by decide +kernel⟩,
   ⟨.mgp, true, 5, run, by decide +kernel⟩,
   ⟨.mgp, false, 5, run, by decide +kernel⟩,
   ⟨0, 0, run.onMason fun m => { m with poisoned := [(0, 0)] }, by decide +kernel⟩⟩

/-- States and operands that meet the hypotheses of `Obligations.AdminQueueCommandsComplete`, clause by clause. -/
theorem witness_AdminQueueCommandsComplete :
  (∃ (c : Cmd) (qid : Nat) (x : Sq) (s : State),
      let s1 := s.fetch c
      let k := s1.ctrl c.ctl
      s.pwr.phase = .run ∧ s.canFetch c = true ∧ c.sq = 0 ∧ s1.flag 8 LCS.LC_STAT.BUSY = false ∧ qid ≠ 0 ∧ Tab.find? k.sqs qid = some x) ∧
  (∃ (c : Cmd) (qid : Nat) (size : Nat) (cqid : Nat) (prio : Nat) (contiguous : Bool) (x : Cq) (s : State),
      let s1 := s.fetch c
      let k := s1.ctrl c.ctl
      s.pwr.phase = .run ∧ s.canFetch c = true ∧ c.sq = 0 ∧ s1.flag 8 LCS.LC_STAT.BUSY = false ∧ State.queueStatus (Tab.find? k.sqs qid).isSome qid size (grantedOf c.ctl k).1 contiguous = none ∧ cqid ≠ 0 ∧ Tab.find? k.cqs cqid = some x) ∧
  (∃ (c : Cmd) (qid : Nat) (x : Cq) (s : State),
      let s1 := s.fetch c
      let k := s1.ctrl c.ctl
      s.pwr.phase = .run ∧ s.canFetch c = true ∧ c.sq = 0 ∧ s1.flag 8 LCS.LC_STAT.BUSY = false ∧ qid ≠ 0 ∧ Tab.find? k.cqs qid = some x ∧ ((k.sqs.any fun q => decide (q.2.cq = qid)) = false)) ∧
  (∃ (c : Cmd) (qid : Nat) (size : Nat) (vector : Nat) (contiguous : Bool) (s : State),
      let s1 := s.fetch c
      let k := s1.ctrl c.ctl
      s.pwr.phase = .run ∧ s.canFetch c = true ∧ c.sq = 0 ∧ s1.flag 8 LCS.LC_STAT.BUSY = false ∧ State.queueStatus (Tab.find? k.cqs qid).isSome qid size (grantedOf c.ctl k).2 contiguous = none) ∧
  (∃ (c : Cmd) (lid : Nat) (nsid : Nat) (ofs : Nat) (len : Nat) (rae : Bool) (v : Nat) (s2 : State) (s : State),
      let s1 := s.fetch c
      s.pwr.phase = .run ∧ s.canFetch c = true ∧ c.sq = 0 ∧ ofs % 4 = 0 ∧ s1.readLog c.ctl c.ctl lid nsid ofs len rae = (some v, s2)) ∧
  (∃ (c : Cmd) (cns : Nat) (nsid : Nat) (s : State),
      s.pwr.phase = .run ∧ s.canFetch c = true ∧ c.sq = 0 ∧ cns ∈ [0, 1, 2, 3, 5, 6, 7, 8, 0x10, 0x11, 0x12, 0x13, 0x15, 0x1C]) ∧
  (∃ (c : Cmd) (sqid : Nat) (cid : Nat) (others : Nat) (f : Flight) (s : State),
      let s1 := s.fetch c
      s.pwr.phase = .run ∧ s.canFetch c = true ∧ c.sq = 0 ∧ s1.flag 8 LCS.LC_STAT.BUSY = false ∧ others < 4 ∧ sqid ≠ 0 ∧ s1.flightOf ⟨c.ctl, sqid, cid⟩ = some f ∧ f.started = false) ∧
  (∃ (c : Cmd) (fid : Nat) (nsid : Nat) (value : Nat) (data : Nat) (s : State),
      let s1 := s.fetch c
      s.pwr.phase = .run ∧ s.canFetch c = true ∧ c.sq = 0 ∧ s1.flag 8 LCS.LC_STAT.BUSY = false ∧ featOk c.ctl fid = true ∧ fid ∉ [2, 6, 7, 0xC, 0xE, 0xC0]) ∧
  (∃ (c : Cmd) (fid : Nat) (nsid : Nat) (value : Nat) (data : Nat) (s : State),
      let s1 := s.fetch c
      s.pwr.phase = .run ∧ s.canFetch c = true ∧ c.sq = 0 ∧ s1.flag 8 LCS.LC_STAT.BUSY = false ∧ featOk c.ctl fid = true ∧ fid = 6) ∧
  (∃ (c : Cmd) (fid : Nat) (nsid : Nat) (s : State),
      let s1 := s.fetch c
      s.pwr.phase = .run ∧ s.canFetch c = true ∧ c.sq = 0 ∧ s1.flag 8 LCS.LC_STAT.BUSY = false ∧ featOk c.ctl fid = true ∧ fid ∉ [0xC, 0xE, 0xC0]) ∧
  (∃ (c : Cmd) (s : State),
      let s1 := s.fetch c
      let k := s1.ctrl c.ctl
      s.pwr.phase = .run ∧ s.canFetch c = true ∧ c.sq = 0 ∧ s1.flag 8 LCS.LC_STAT.BUSY = false ∧ k.aers.length < 8 ∧ k.events = []) ∧
  (∃ (c : Cmd) (ev : Nat × Nat × Nat) (es : List (Nat × Nat × Nat)) (s : State),
      let s1 := s.fetch c
      let k := s1.ctrl c.ctl
      s.pwr.phase = .run ∧ s.canFetch c = true ∧ c.sq = 0 ∧ s1.flag 8 LCS.LC_STAT.BUSY = false ∧ k.aers.length < 8 ∧ k.events = ev :: es) :=
  ⟨⟨adminCmd, 1, ⟨4, 1, 0, 0, 1⟩, host (nsBlk 0), by decide +kernel⟩,
   ⟨adminCmd, 2, 3, 1, 0, true, ⟨4, 0, 0, 0⟩, host (nsBlk 0), by decide +kernel⟩,
   ⟨adminCmd, 2, ⟨4, 0, 0, 0⟩, (host (nsBlk 0)).setCtrl 1 { (host (nsBlk 0)).ctrl 1 with cqs := [(2, ⟨4, 0, 0, 0⟩)] }, by decide +kernel⟩,
   ⟨adminCmd, 2, 3, 0, true, host (nsBlk 0), by decide +kernel⟩,
   ⟨adminCmd, 1, 0, 0, 1, false, (((host (nsBlk 0)).fetch adminCmd).readLog 1 1 1 0 0 1 false).1.getD 0, (((host (nsBlk 0)).fetch adminCmd).readLog 1 1 1 0 0 1 false).2, host (nsBlk 0), by decide +kernel, by decide +kernel, by decide +kernel, by decide +kernel, by rfl⟩,
   ⟨adminCmd, 1, 0, host (nsBlk 0), by decide +kernel⟩,
   ⟨adminCmd, 1, 7, 0, ((host (nsBlk 0)).newFlight ⟨1, 1, 7⟩ .write 1 0 0 false []), flying ⟨1, 1, 7⟩ .write, by decide +kernel⟩,
   ⟨adminCmd, 4, 0, 5, 0, host (nsBlk 0), by decide +kernel⟩,
   ⟨adminCmd, 6, 0, 1, 0, host (nsBlk 0), by decide +kernel⟩,
   ⟨adminCmd, 4, 0, host (nsBlk 0), by decide +kernel⟩,
   ⟨adminCmd, host (nsBlk 0), by decide +kernel⟩,
   ⟨adminCmd, (1, 2, 3), [], (host (nsBlk 0)).setCtrl 1 { (host (nsBlk 0)).ctrl 1 with events := [(1, 2, 3)] }, by decide +kernel⟩⟩

/-- States and operands that meet the hypotheses of `Obligations.NamespaceCommandsComplete`, clause by clause. -/
theorem witness_NamespaceCommandsComplete :
  (∃ (c : Cmd) (set : Nat) (nsze : Nat) (ncap : Nat) (flbas : Nat) (nmic : Nat) (pool : Nat) (flags : Nat) (maxValue : Nat) (w0 : Bool) (w1 : Bool) (nsid d : Nat) (s2 : State) (s : State),
      let s1 := s.fetch c
      s.pwr.phase = .run ∧ s.canFetch c = true ∧ c.sq = 0 ∧ isPf0 c.ctl = true ∧ s1.flag 8 LCS.LC_STAT.BUSY = false ∧ (State.firstOf [s1.sanitizeStatus, State.chk (decide (nsze ≠ ncap) || decide (flbas ≠ 0) || decide (pool > 7) || decide (set > 2) || (decide (set = 1) && decide (maxValue = 0 ∨ maxValue > 0xFFFFFFFF))) .invalidField, State.chk (decide (s1.fld (State.pgMsn pool) MSN.POOL_SLOTS.SLOTS = 0)) .poolNotConfigured, State.chk (decide (nsze > s1.remaining pool)) .nsCapacity, State.chk ((((List.range 1025).drop 1).filter fun n => !(s1.nsOf n).live).isEmpty || decide ((s1.domainsIn [0]).length ≤ s1.sec.rekeyWait.length)) .nsIdUnavailable] = none) ∧ ((((List.range 1025).drop 1).filter fun n => !(s1.nsOf n).live).head? = some nsid) ∧ s1.firstFree = some d ∧ s1.makeKeys d nsid w0 w1 = (true, s2)) ∧
  (∃ (c : Cmd) (nsid : Nat) (s : State),
      let s1 := s.fetch c
      s.pwr.phase = .run ∧ s.canFetch c = true ∧ c.sq = 0 ∧ isPf0 c.ctl = true ∧ s1.flag 8 LCS.LC_STAT.BUSY = false ∧ s1.sanitizeStatus = none ∧ nsid ≠ 0xFFFFFFFF ∧ (s1.nsOf nsid).live = true) ∧
  (∃ (c : Cmd) (nsid : Nat) (ids : List Nat) (s : State),
      let s1 := s.fetch c
      s.pwr.phase = .run ∧ s.canFetch c = true ∧ c.sq = 0 ∧ isPf0 c.ctl = true ∧ s1.flag 8 LCS.LC_STAT.BUSY = false ∧ State.firstOf [State.chk (decide (nsid = 0) || !(s1.nsOf nsid).live) .invalidNamespace, State.chk (ids.isEmpty || !ids.all ctrlId) .ctrlListInvalid, State.chk (ids.any fun id => (s1.ctrl id).attached.contains nsid) .nsAttached, State.chk (decide ((s1.nsOf nsid).nmic % 2 = 0) && decide ((s1.attachedTo nsid).length + ids.length > 1)) .nsPrivate] = none) ∧
  (∃ (c : Cmd) (nsid : Nat) (ids : List Nat) (s : State),
      let s1 := s.fetch c
      s.pwr.phase = .run ∧ s.canFetch c = true ∧ c.sq = 0 ∧ isPf0 c.ctl = true ∧ s1.flag 8 LCS.LC_STAT.BUSY = false ∧ State.firstOf [State.chk (decide (nsid = 0) || !(s1.nsOf nsid).live) .invalidNamespace, State.chk (ids.isEmpty || !ids.all ctrlId) .ctrlListInvalid, State.chk (ids.any fun id => !(s1.ctrl id).attached.contains nsid) .nsNotAttached] = none) ∧
  (∃ (c : Cmd) (nsid : Nat) (ses : Nat) (w0 : Bool) (w1 : Bool) (s : State),
      let s1 := s.fetch c
      s.pwr.phase = .run ∧ s.canFetch c = true ∧ c.sq = 0 ∧ isPf0 c.ctl = true ∧ s1.flag 8 LCS.LC_STAT.BUSY = false ∧ s1.formatTargets nsid = [] ∧ (State.firstOf [s1.sanitizeStatus, State.chk (s1.nvme.ns.any fun kv => kv.2.format.isSome) .formatInProgress, State.chk false .invalidNamespace, State.chk (decide (ses > 2)) .invalidField] = none)) ∧
  (∃ (f : Flight) (s : State),
      let ts := (s.nvme.ns.filter fun kv => kv.2.format.isSome).map Prod.fst
      s.pwr.phase = .run ∧ ts.isEmpty = false ∧ ((s.nvme.flights.find? fun (f : Flight) => decide (f.kind = FlightKind.format)) = some f)) ∧
  (∃ (c : Cmd) (w0 : Bool) (w1 : Bool) (s : State),
      let s1 := s.fetch c
      s.pwr.phase = .run ∧ s.canFetch c = true ∧ c.sq = 0 ∧ isPf0 c.ctl = true ∧ s1.flag 8 LCS.LC_STAT.BUSY = false) ∧
  (∃ (c : Cmd) (w0 : Bool) (w1 : Bool) (s : State),
      let s1 := s.fetch c
      s.pwr.phase = .run ∧ s.canFetch c = true ∧ c.sq = 0 ∧ isPf0 c.ctl = true ∧ s1.flag 8 LCS.LC_STAT.BUSY = false) ∧
  (∃ (c : Cmd) (w0 : Bool) (w1 : Bool) (s : State),
      let s1 := s.fetch c
      s.pwr.phase = .run ∧ s.canFetch c = true ∧ c.sq = 0 ∧ isPf0 c.ctl = true ∧ s1.flag 8 LCS.LC_STAT.BUSY = false) ∧
  (∃ (how : Nat) (s : State),
      s.pwr.phase = .run ∧ s.nvme.sanitize = some how ∧ how ≠ 3) :=
  ⟨⟨adminCmd, 0, 9, 9, 0, 0, 0, 0, 0, true, true, 1, 0, (((nsHost).fetch adminCmd).makeKeys 0 1 true true).2, nsHost, by decide +kernel, by decide +kernel, by decide +kernel, by decide +kernel, by decide +kernel, by decide +kernel, by decide +kernel, by decide +kernel, by rfl⟩,
   ⟨adminCmd, 1, host (nsBlk 0), by decide +kernel⟩,
   ⟨adminCmd, 1, [1], (host (nsBlk 0)).setCtrl 1 { (host (nsBlk 0)).ctrl 1 with attached := [] }, by decide +kernel⟩,
   ⟨adminCmd, 1, [1], host (nsBlk 0), by decide +kernel⟩,
   ⟨adminCmd, 0xFFFFFFFF, 0, true, true, host Ns.zero, by decide +kernel⟩,
   ⟨((host (nsBlk 0)).newFlight adminCmd .format 1 0 0 false []), (flying adminCmd .format).setNs 1 { nsBlk 0 with format := some 0 }, by decide +kernel⟩,
   ⟨adminCmd, true, true, host (nsBlk 0), by decide +kernel⟩,
   ⟨adminCmd, true, true, host (nsBlk 0), by decide +kernel⟩,
   ⟨adminCmd, true, true, host (nsBlk 0), by decide +kernel⟩,
   ⟨1, run.onNvme fun n => { n with sanitize := some 1 }, by decide +kernel⟩⟩

/-- States and operands that meet the hypotheses of `Obligations.FirmwareAndManagementCommandsComplete`, clause by clause. -/
theorem witness_FirmwareAndManagementCommandsComplete :
  (∃ (c : Cmd) (ofs : Nat) (bytes : List Nat) (s : State),
      let s1 := s.fetch c
      s.pwr.phase = .run ∧ s.canFetch c = true ∧ c.sq = 0 ∧ isPf0 c.ctl = true ∧ s1.flag 8 LCS.LC_STAT.BUSY = false) ∧
  (∃ (c : Cmd) (slot : Nat) (next : Bool) (w0 : Bool) (w1 : Bool) (s : State),
      let s1 := s.fetch c
      s.pwr.phase = .run ∧ s.canFetch c = true ∧ c.sq = 0 ∧ isPf0 c.ctl = true ∧ s1.flag 8 LCS.LC_STAT.BUSY = false ∧ (1 ≤ slot ∧ slot ≤ 2) ∧ s1.nvme.sanitize = none ∧ slot ≠ s1.fld 0 DEV.BOOT_IMG.RUN_SLOT ∧ w0 = true ∧ next = false) ∧
  (∃ (c : Cmd) (slot : Nat) (next : Bool) (w0 : Bool) (w1 : Bool) (s : State),
      let s1 := s.fetch c
      s.pwr.phase = .run ∧ s.canFetch c = true ∧ c.sq = 0 ∧ isPf0 c.ctl = true ∧ s1.flag 8 LCS.LC_STAT.BUSY = false ∧ slot ≠ 0 ∧ s1.nvme.sanitize = none ∧ slot = s1.fld 0 DEV.BOOT_IMG.RUN_SLOT) ∧
  (∃ (c : Cmd) (slot : Nat) (s : State),
      let s1 := s.fetch c
      s.pwr.phase = .run ∧ s.canFetch c = true ∧ c.sq = 0 ∧ isPf0 c.ctl = true ∧ s1.flag 8 LCS.LC_STAT.BUSY = false ∧ (1 ≤ slot ∧ slot ≤ 2) ∧ s1.nvme.sanitize = none ∧ s1.flag 0 DEV.BOOT_STAT.DONE = true) ∧
  (∃ (c : Cmd) (slot : Nat) (s : State),
      let s1 := s.fetch c
      s.pwr.phase = .run ∧ s.canFetch c = true ∧ c.sq = 0 ∧ isPf0 c.ctl = true ∧ s1.flag 8 LCS.LC_STAT.BUSY = false ∧ (1 ≤ slot ∧ slot ≤ 2) ∧ s1.nvme.sanitize = none ∧ s1.nvme.activating = none) ∧
  (∃ (ms : Nat) (c : Cmd) (slot : Nat) (s : State),
      s.pwr.phase = .run ∧ s.nvme.activating = some (c, slot) ∧ ((s.nvme.flights.all fun f => decide (f.kind = .format)) = true)) ∧
  (∃ (c : Cmd) (slot : Nat) (s : State),
      s.pwr.phase = .run ∧ s.nvme.activating = some (c, slot)) ∧
  (∃ (c : Cmd) (r : MiReq) (s : State),
      let s1 := s.fetch c
      s.pwr.phase = .run ∧ s.canFetch c = true ∧ c.sq = 0 ∧ isPf0 c.ctl = true ∧ s1.flag 8 LCS.LC_STAT.BUSY = false ∧ (s1.miAnswer r c.ctl).1 ≠ .invalidOpcode) ∧
  (∃ (c : Cmd) (sc : Sc) (v : Nat) (s : State),
      let s1 := s.fetch c
      s.pwr.phase = .run ∧ s.canFetch c = true ∧ c.sq = 0 ∧ isPf0 c.ctl = true ∧ s1.flag 8 LCS.LC_STAT.BUSY = false ∧ s1.nvme.miAsked = some (sc, v)) ∧
  (∃ (c : Cmd) (tok : List Nat) (s : State),
      let s1 := s.fetch c
      s.pwr.phase = .run ∧ s.canFetch c = true ∧ c.sq = 0 ∧ isPf0 c.ctl = true ∧ s1.flag 8 LCS.LC_STAT.BUSY = false) ∧
  (∃ (c : Cmd) (nonce : List Nat) (len : Nat) (w0 : Bool) (w1 : Bool) (seed : Nat) (s : State),
      let s1 := s.fetch c
      s.pwr.phase = .run ∧ s.canFetch c = true ∧ c.sq = 0 ∧ isPf0 c.ctl = true ∧ s1.flag 8 LCS.LC_STAT.BUSY = false ∧ 3860 ≤ 4 * len ∧ s1.flag 9 SEC.ATT_STAT.ACTIVE = true ∧ s1.sec.seed = some seed ∧ s1.fld 9 SEC.ATT_STAT.LEFT ≠ 0) ∧
  (∃ (c : Cmd) (s : State),
      s.pwr.phase = .run ∧ s.canFetch c = true ∧ c.sq ≠ 0) :=
  ⟨⟨adminCmd, 0, [1, 2], host (nsBlk 0), by decide +kernel⟩,
   ⟨adminCmd, 2, false, true, true, host (nsBlk 0), by decide +kernel⟩,
   ⟨adminCmd, 2, false, true, true, (host (nsBlk 0)).set 0 DEV.BOOT_IMG.RUN_SLOT 2, by decide +kernel⟩,
   ⟨adminCmd, 2, (host (nsBlk 0)).setB 0 DEV.BOOT_STAT.DONE true, by decide +kernel⟩,
   ⟨adminCmd, 2, host (nsBlk 0), by decide +kernel⟩,
   ⟨5, adminCmd, 2, run.onNvme fun n => { n with activating := some (adminCmd, 2) }, by decide +kernel⟩,
   ⟨adminCmd, 2, run.onNvme fun n => { n with activating := some (adminCmd, 2) }, by decide +kernel⟩,
   ⟨adminCmd, ⟨3, 0, 0, 0, 0, 0, 0⟩, host (nsBlk 0), by decide +kernel⟩,
   ⟨adminCmd, .success, 0, (host (nsBlk 0)).onNvme fun n => { n with miAsked := some (.success, 0) }, by decide +kernel⟩,
   ⟨adminCmd, [], host (nsBlk 0), by decide +kernel⟩,
   ⟨adminCmd, [], 965, true, true, 5, ((((host (nsBlk 0)).setB 9 SEC.ATT_STAT.ACTIVE true).set 9 SEC.ATT_STAT.LEFT 9).onSec fun x => { x with seed := some 5 }), by decide +kernel⟩,
   ⟨ioCmd1, host (nsBlk 0), by decide +kernel⟩⟩

/-- States and operands that meet the hypotheses of `Obligations.NvmCommandsComplete`, clause by clause. -/
theorem witness_NvmCommandsComplete :
  (∃ (c : Cmd) (nsid : Nat) (s : State),
      let s1 := s.fetch c
      s.pwr.phase = .run ∧ s.canFetch c = true ∧ c.sq ≠ 0 ∧ s.sys.keysGone = false ∧ nsid ≠ allNs ∧ s1.ioStatus c nsid [0, 1, 2] = none) ∧
  (∃ (c : Cmd) (f : Flight) (s : State),
      s.pwr.phase = .run ∧ s.flightOf c = some f ∧ f.kind = .flush ∧ s.flightClean f = true ∧ s.flightPersisted f = true) ∧
  (∃ (c : Cmd) (nsid : Nat) (slba : Nat) (nlb : Nat) (fua : Bool) (data : List Nat) (dptr : Nat) (s : State),
      let s1 := s.fetch c
      s.pwr.phase = .run ∧ s.continues c .write = none ∧ s.behindWrite nsid slba (nlb + 1) = false ∧ s.canFetch c = true ∧ c.sq ≠ 0 ∧ s.sys.keysGone = false ∧ s.enabled 0x19 = true ∧ State.firstOf [s1.ioStatus c nsid [0, 2], sizeStatus (nlb + 1), s1.lbaStatus nsid slba (nlb + 1), dptrStatus dptr, s1.domStatus nsid, s1.roomStatus nsid slba (nlb + 1) false] = none) ∧
  (∃ (c : Cmd) (f : Flight) (s : State),
      s.pwr.phase = .run ∧ s.flightOf c = some f ∧ f.kind = .write ∧ s.writeSafe f = true) ∧
  (∃ (c : Cmd) (f : Flight) (s : State),
      s.pwr.phase = .run ∧ s.flightOf c = some f ∧ f.waits = true) ∧
  (∃ (c : Cmd) (nsid : Nat) (slba : Nat) (nlb : Nat) (fua : Bool) (lr : Bool) (dptr : Nat) (media : List (Nat × Brick)) (s : State),
      let s1 := s.fetch c
      s.pwr.phase = .run ∧ s.behindWrite nsid slba (nlb + 1) = false ∧ s.fillingIn nsid 0 slba (nlb + 1) = false ∧ s.walkPoison nsid 0 slba (nlb + 1) = none ∧ s.canFetch c = true ∧ c.sq ≠ 0 ∧ s.sys.keysGone = false ∧ s.enabled 0x19 = true ∧ State.firstOf [s1.ioStatus c nsid [0, 2], sizeStatus (nlb + 1), s1.lbaStatus nsid slba (nlb + 1), dptrStatus dptr, s1.domStatus nsid] = none ∧ fua = false) ∧
  (∃ (c : Cmd) (nsid : Nat) (slba : Nat) (nlb : Nat) (data : List Nat) (dptr : Nat) (media : List (Nat × Brick)) (s : State),
      let s1 := s.fetch c
      s.pwr.phase = .run ∧ s.behindWrite nsid slba (nlb + 1) = false ∧ s.fillingIn nsid 0 slba (nlb + 1) = false ∧ s.walkPoison nsid 0 slba (nlb + 1) = none ∧ s.canFetch c = true ∧ c.sq ≠ 0 ∧ s.sys.keysGone = false ∧ s.enabled 0x19 = true ∧ State.firstOf [s1.ioStatus c nsid [0, 2], sizeStatus (nlb + 1), s1.lbaStatus nsid slba (nlb + 1), dptrStatus dptr, s1.domStatus nsid] = none) ∧
  (∃ (c : Cmd) (nsid : Nat) (slba : Nat) (nlb : Nat) (fua : Bool) (s : State),
      let s1 := s.fetch c
      s.pwr.phase = .run ∧ s.behindWrite nsid slba (nlb + 1) = false ∧ s.canFetch c = true ∧ c.sq ≠ 0 ∧ s.sys.keysGone = false ∧ s.enabled 0x19 = true ∧ State.firstOf [s1.ioStatus c nsid [0, 2], chk (decide (nlb > 0xFFFF)) .invalidField, s1.lbaStatus nsid slba (nlb + 1), s1.domStatus nsid, s1.roomStatus nsid slba (nlb + 1) false] = none) ∧
  (∃ (c : Cmd) (nsid : Nat) (nr : Nat) (ad : Bool) (ranges : List (Nat × Nat)) (s : State),
      let s1 := s.fetch c
      s.pwr.phase = .run ∧ (((ranges.take (nr + 1)).any fun r => s.behindWrite nsid r.1 r.2) = false) ∧ s.canFetch c = true ∧ c.sq ≠ 0 ∧ s.sys.keysGone = false ∧ s.enabled 0x19 = true ∧ (State.firstOf [s1.ioStatus c nsid [0, 2], chk (decide (nr > 255)) .invalidField, chk ((ranges.take (nr + 1)).any fun r => decide (r.1 + r.2 > (s1.nsOf nsid).nsze)) .lbaRange] = none) ∧ ad = true) ∧
  (∃ (c : Cmd) (nsid : Nat) (slba : Nat) (nlb : Nat) (media : List (Nat × Brick)) (s : State),
      let s1 := s.fetch c
      s.pwr.phase = .run ∧ s.behindWrite nsid slba (nlb + 1) = false ∧ s.fillingIn nsid 0 slba (nlb + 1) = false ∧ s.walkPoison nsid 0 slba (nlb + 1) = none ∧ s.canFetch c = true ∧ c.sq ≠ 0 ∧ s.sys.keysGone = false ∧ s.enabled 0x19 = true ∧ State.firstOf [s1.ioStatus c nsid [0, 2], chk (decide (nlb > 0xFFFF)) .invalidField, s1.lbaStatus nsid slba (nlb + 1), s1.domStatus nsid] = none) :=
  ⟨⟨ioCmd1, 1, host (nsBlk 0), by decide +kernel⟩,
   ⟨ioCmd1, ((host (nsBlk 0)).newFlight ioCmd1 .flush 1 0 0 false []), flying ioCmd1 .flush, by decide +kernel⟩,
   ⟨ioCmd1, 1, 0, 0, false, [5], 0, host (nsBlk 0), by decide +kernel⟩,
   ⟨ioCmd1, ((host (nsBlk 0)).newFlight ioCmd1 .write 1 0 0 false []), flying ioCmd1 .write, by decide +kernel⟩,
   ⟨ioCmd1, { ((host (nsBlk 0)).newFlight ioCmd1 .write 1 0 0 false []) with waits := true }, (host (nsBlk 0)).setFlights [{ ((host (nsBlk 0)).newFlight ioCmd1 .write 1 0 0 false []) with waits := true }], by decide +kernel⟩,
   ⟨ioCmd1, 1, 0, 0, false, false, 0, [], host (nsBlk 0), by decide +kernel⟩,
   ⟨ioCmd1, 1, 0, 0, [5], 0, [], host (nsBlk 0), by decide +kernel⟩,
   ⟨ioCmd1, 1, 0, 0, false, host (nsBlk 0), by decide +kernel⟩,
   ⟨ioCmd1, 1, 0, true, [(0, 1)], host (nsBlk 0), by decide +kernel⟩,
   ⟨ioCmd1, 1, 0, 0, [], host (nsBlk 0), by decide +kernel⟩⟩

/-- States and operands that meet the hypotheses of `Obligations.ZoneCommandsComplete`, clause by clause. -/
theorem witness_ZoneCommandsComplete :
  (∃ (c : Cmd) (nsid : Nat) (slba : Nat) (all_ : Bool) (s : State),
      let s1 := s.fetch c
      s.pwr.phase = .run ∧ (((s.zonesNamed nsid slba all_ [1, 2]).any fun z => s.behindWrite nsid (z * zoneSize) zoneSize) = false) ∧ s.canFetch c = true ∧ c.sq ≠ 0 ∧ s.sys.keysGone = false ∧ s.enabled 0x19 = true ∧ (State.firstOf [s1.zoneStatus c nsid slba all_, chk (!all_ && decide ((s1.zoneAt nsid (slba / zoneSize)).st = 0 ∨ (s1.zoneAt nsid (slba / zoneSize)).st = 4)) .zoneTransition] = none)) ∧
  (∃ (c : Cmd) (nsid : Nat) (slba : Nat) (all_ : Bool) (s : State),
      let s1 := s.fetch c
      s.pwr.phase = .run ∧ (((s.zonesNamed nsid slba all_ [1, 2, 3]).any fun z => s.behindWrite nsid (z * zoneSize) zoneSize) = false) ∧ s.canFetch c = true ∧ c.sq ≠ 0 ∧ s.sys.keysGone = false ∧ s.enabled 0x19 = true ∧ State.firstOf [s1.zoneStatus c nsid slba all_, none] = none) ∧
  (∃ (c : Cmd) (nsid : Nat) (slba : Nat) (all_ : Bool) (s : State),
      let s1 := s.fetch c
      s.pwr.phase = .run ∧ (((s.zonesNamed nsid slba all_ [3]).any fun z => s.behindWrite nsid (z * zoneSize) zoneSize) = false) ∧ s.canFetch c = true ∧ c.sq ≠ 0 ∧ s.sys.keysGone = false ∧ s.enabled 0x19 = true ∧ (State.firstOf [s1.zoneStatus c nsid slba all_, (if all_ then chk (decide (s1.openZones nsid + ((s1.nsOf nsid).zones.filter fun kv => decide (kv.2.st = 3)).length > 256)) .tooManyOpen else State.firstOf [chk (decide ((s1.zoneAt nsid (slba / zoneSize)).st = 4)) .zoneTransition, s1.openStatus nsid (slba / zoneSize)])] = none)) ∧
  (∃ (c : Cmd) (nsid : Nat) (slba : Nat) (all_ : Bool) (s : State),
      let s1 := s.fetch c
      s.pwr.phase = .run ∧ (((s.zonesNamed nsid slba all_ [1, 2, 3, 4]).any fun z => s.behindWrite nsid (z * zoneSize) zoneSize) = false) ∧ s.canFetch c = true ∧ c.sq ≠ 0 ∧ s.sys.keysGone = false ∧ s.enabled 0x19 = true ∧ State.firstOf [s1.zoneStatus c nsid slba all_, none] = none) ∧
  (∃ (c : Cmd) (nsid : Nat) (e : Sc) (s : State),
      let s1 := s.fetch c
      s.pwr.phase = .run ∧ s.canFetch c = true ∧ c.sq ≠ 0 ∧ s.sys.keysGone = false ∧ s.enabled 0x19 = true ∧ State.firstOf [s1.ioStatus c nsid [2], some .invalidField] = some e) ∧
  (∃ (c : Cmd) (nsid : Nat) (slba : Nat) (zra : Nat) (s : State),
      let s1 := s.fetch c
      s.pwr.phase = .run ∧ s.canFetch c = true ∧ c.sq ≠ 0 ∧ s.sys.keysGone = false ∧ s.enabled 0x19 = true ∧ State.firstOf [s1.ioStatus c nsid [2], s1.lbaStatus nsid slba 1, chk (decide (zra ≠ 0)) .invalidField] = none) ∧
  (∃ (c : Cmd) (nsid : Nat) (zslba : Nat) (nlb : Nat) (fua : Bool) (data : List Nat) (dptr : Nat) (s : State),
      let s1 := s.fetch c
      s.pwr.phase = .run ∧ s.continues c .append = none ∧ s.canFetch c = true ∧ c.sq ≠ 0 ∧ s.sys.keysGone = false ∧ s.enabled 0x19 = true ∧ State.firstOf [s1.ioStatus c nsid [2], sizeStatus (nlb + 1), s1.lbaStatus nsid zslba 1, dptrStatus dptr, s1.domStatus nsid, s1.roomStatus nsid zslba (nlb + 1) true] = none) :=
  ⟨⟨ioCmd1, 1, 0, false, host { nsBlk 2 with zones := [(0, ⟨2, 1⟩)] }, by decide +kernel⟩,
   ⟨ioCmd1, 1, 0, false, host { nsBlk 2 with zones := [(0, ⟨2, 1⟩)] }, by decide +kernel⟩,
   ⟨ioCmd1, 1, 0, false, host { nsBlk 2 with zones := [(0, ⟨2, 1⟩)] }, by decide +kernel⟩,
   ⟨ioCmd1, 1, 0, false, host { nsBlk 2 with zones := [(0, ⟨2, 1⟩)] }, by decide +kernel⟩,
   ⟨ioCmd1, 1, .invalidField, host { nsBlk 2 with zones := [(0, ⟨2, 1⟩)] }, by decide +kernel⟩,
   ⟨ioCmd1, 1, 0, 0, host { nsBlk 2 with zones := [(0, ⟨2, 1⟩)] }, by decide +kernel⟩,
   ⟨ioCmd1, 1, 0, 0, false, [5], 0, host { nsBlk 2 with zones := [(0, ⟨2, 1⟩)] }, by decide +kernel⟩⟩

/-- States and operands that meet the hypotheses of `Obligations.KeyValueCommandsComplete`, clause by clause. -/
theorem witness_KeyValueCommandsComplete :
  (∃ (c : Cmd) (nsid : Nat) (key : List Nat) (size : Nat) (noOver : Bool) (onlyOver : Bool) (data : List Nat) (dptr : Nat) (s : State),
      let s1 := s.fetch c
      s.pwr.phase = .run ∧ s.continues c .store = none ∧ s.behindKey nsid key = false ∧ s.canFetch c = true ∧ c.sq ≠ 0 ∧ s.sys.keysGone = false ∧ s.enabled 0x19 = true ∧ State.firstOf [s1.ioStatus c nsid [1], keyStatus key, chk (decide (size > (s1.nsOf nsid).maxValue)) .invalidValueSize, dptrStatus dptr, s1.domStatus nsid, chk (noOver && (s1.objOf nsid key).isSome) .keyExists, chk (onlyOver && (s1.objOf nsid key).isNone) .keyAbsent, chk (decide (valueBricks size > s1.remaining (s1.nsOf nsid).pool)) .capacityExceeded] = none) ∧
  (∃ (c : Cmd) (nsid : Nat) (key : List Nat) (bufSize : Nat) (ofs : Nat) (dptr : Nat) (media : List (Nat × Brick)) (o : KvObj) (s : State),
      let s1 := s.fetch c
      s.pwr.phase = .run ∧ s.behindKey nsid key = false ∧ ((s.objOf nsid key).bind (fun o => if ofs ≥ o.size then none else s.walkPoison nsid o.obj (State.valueSpan o.size ofs bufSize).1 (State.valueSpan o.size ofs bufSize).2) = none) ∧ s.canFetch c = true ∧ c.sq ≠ 0 ∧ s.sys.keysGone = false ∧ s.enabled 0x19 = true ∧ State.firstOf [s1.ioStatus c nsid [1], keyStatus key, dptrStatus dptr, s1.domStatus nsid, chk (s1.objOf nsid key).isNone .keyAbsent, chk ((s1.nsOf nsid).strict && decide (bufSize > 67108864)) .strictLength] = none ∧ s1.objOf nsid key = some o ∧ ofs ≥ o.size) ∧
  (∃ (c : Cmd) (nsid : Nat) (key : List Nat) (bufSize : Nat) (ofs : Nat) (dptr : Nat) (media : List (Nat × Brick)) (o : KvObj) (s : State),
      let s1 := s.fetch c
      let r := s1.readRun nsid o.obj (State.valueSpan o.size ofs bufSize).1 (State.valueSpan o.size ofs bufSize).2 media
      s.pwr.phase = .run ∧ s.behindKey nsid key = false ∧ ((s.objOf nsid key).bind (fun o => if ofs ≥ o.size then none else s.walkPoison nsid o.obj (State.valueSpan o.size ofs bufSize).1 (State.valueSpan o.size ofs bufSize).2) = none) ∧ s.canFetch c = true ∧ c.sq ≠ 0 ∧ s.sys.keysGone = false ∧ s.enabled 0x19 = true ∧ State.firstOf [s1.ioStatus c nsid [1], keyStatus key, dptrStatus dptr, s1.domStatus nsid, chk (s1.objOf nsid key).isNone .keyAbsent, chk ((s1.nsOf nsid).strict && decide (bufSize > 67108864)) .strictLength] = none ∧ s1.objOf nsid key = some o ∧ ofs < o.size ∧ bufSize ≠ 0 ∧ s1.unrecKey nsid o.obj = false ∧ r.1.all Option.isSome = true) ∧
  (∃ (c : Cmd) (nsid : Nat) (key : List Nat) (o : KvObj) (s : State),
      let s1 := s.fetch c
      s.pwr.phase = .run ∧ s.behindKey nsid key = false ∧ s.canFetch c = true ∧ c.sq ≠ 0 ∧ s.sys.keysGone = false ∧ s.enabled 0x19 = true ∧ State.firstOf [s1.ioStatus c nsid [1], keyStatus key, chk (s1.objOf nsid key).isNone .keyAbsent] = none ∧ s1.objOf nsid key = some o) ∧
  (∃ (c : Cmd) (nsid : Nat) (key : List Nat) (s : State),
      let s1 := s.fetch c
      s.pwr.phase = .run ∧ s.behindKey nsid key = false ∧ s.canFetch c = true ∧ c.sq ≠ 0 ∧ s.sys.keysGone = false ∧ s.enabled 0x19 = true ∧ State.firstOf [s1.ioStatus c nsid [1], keyStatus key] = none) ∧
  (∃ (c : Cmd) (nsid : Nat) (key : List Nat) (s : State),
      let s1 := s.fetch c
      s.pwr.phase = .run ∧ s.canFetch c = true ∧ c.sq ≠ 0 ∧ s.sys.keysGone = false ∧ s.enabled 0x19 = true ∧ State.firstOf [s1.ioStatus c nsid [1], chk (decide (key.length > 16)) .invalidKeySize] = none) ∧
  (∃ (c : Cmd) (again : List Nat) (f : Flight) (o : KvObj) (s : State),
      s.pwr.phase = .run ∧ s.flightOf c = some f ∧ f.new = some o ∧ f.kind = .retrieve ∧ State.chunkTag o.tagKey o.obj (f.slba / 256 + f.got) o.size f.nsid ((f.part.drop (256 * f.got)).take 256) = o.tags.getD (f.slba / 256 + f.got) 0 ∧ ¬ 256 * (f.got + 1) ≥ f.total) :=
  ⟨⟨ioCmd1, 1, [6], 9, false, false, [5], 0, host { nsBlk 1 with objs := [⟨[5], 1, 9, [], 0⟩] }, by decide +kernel⟩,
   ⟨ioCmd1, 1, [5], 9, 9, 0, [], ⟨[5], 1, 9, [], 0⟩, host { nsBlk 1 with objs := [⟨[5], 1, 9, [], 0⟩] }, by decide +kernel⟩,
   ⟨ioCmd1, 1, [5], 9, 0, 0, [], ⟨[5], 1, 9, [], 0⟩, host { nsBlk 1 with objs := [⟨[5], 1, 9, [], 0⟩] }, by decide +kernel⟩,
   ⟨ioCmd1, 1, [5], ⟨[5], 1, 9, [], 0⟩, host { nsBlk 1 with objs := [⟨[5], 1, 9, [], 0⟩] }, by decide +kernel⟩,
   ⟨ioCmd1, 1, [5], host { nsBlk 1 with objs := [⟨[5], 1, 9, [], 0⟩] }, by decide +kernel⟩,
   ⟨ioCmd1, 1, [5], host { nsBlk 1 with objs := [⟨[5], 1, 9, [], 0⟩] }, by decide +kernel⟩,
   ⟨ioCmd1, [], tagFlight1, tagObj, (host (nsBlk 1)).setFlights [tagFlight1], by decide +kernel, by rfl, by rfl, by rfl, by rfl, by decide +kernel⟩⟩

/-- States and operands that meet the hypotheses of `Obligations.ControllerCommandsComplete`, clause by clause. -/
theorem witness_ControllerCommandsComplete :
  (∃ (ctl : Nat) (q : Nat) (value : Nat) (x : Sq) (s : State),
      s.pwr.phase = .run ∧ Tab.find? (s.ctrl ctl).sqs q = some x ∧ value < x.size ∧ (s.ctrl ctl).en = true) ∧
  (∃ (ctl : Nat) (q : Nat) (value : Nat) (x : Cq) (s : State),
      s.pwr.phase = .run ∧ Tab.find? (s.ctrl ctl).cqs q = some x ∧ value < x.size ∧ (s.ctrl ctl).en = true) ∧
  (∃ (ctl : Nat) (q : Nat) (value : Nat) (x : Sq) (s : State),
      s.pwr.phase = .run ∧ Tab.find? (s.ctrl ctl).sqs q = some x ∧ value ≥ x.size) ∧
  (∃ (s : State),
      s.pwr.phase = .run ∧ s.nvme.full = true ∧ s.nvme.flights.length < 65536) ∧
  (∃ (ctl : Nat) (s : State),
      s.pwr.phase = .run ∧ (s.ctrl ctl).en = true) ∧
  (∃ (ctl : Nat) (asq : Nat) (acq : Nat) (numVfs : Nat) (s : State),
      let k := s.ctrl ctl
      let vf := ctl % 0x80 - 1
      s.pwr.phase = .run ∧ s.reachable ctl = true ∧ k.en = false ∧ (isPf0 ctl || decide (vf ≤ numVfs)) = true ∧ isPf0 ctl = true ∧ s.serves = true) ∧
  (∃ (port : Nat) (fn : Nat) (s : State),
      s.pwr.phase = .run ∧ port < 2 ∧ fn ≤ 65 ∧ fn ≠ 0 ∧ fn ≠ 65) ∧
  (∃ (port : Nat) (fn : Nat) (s : State),
      s.pwr.phase = .run ∧ port < 2 ∧ fn ≤ 65 ∧ fn = 0) ∧
  (∃ (port : Nat) (cause : Nat) (s : State),
      s.pwr.phase = .run ∧ port < 2 ∧ cause ≠ 0) ∧
  (∃ (port : Nat) (s : State),
      s.pwr.phase = .run ∧ port < 2) ∧
  (∃ (ctl : Nat) (s : State),
      s.pwr.phase = .run ∧ (s.ctrl ctl).en = true ∧ (s.ctrl ctl).shst = 0) ∧
  (∃ (ctl : Nat) (s : State),
      s.pwr.phase = .run ∧ (s.ctrl ctl).en = true ∧ (s.ctrl ctl).shst ≤ 1) ∧
  (∃ (nsid : Nat) (sec : Nat) (s : State),
      let n := s.nsOf nsid
      s.pwr.phase = .run ∧ n.live = true ∧ n.ready = false ∧ s.poolReady n.pool = true ∧ s.flag 0 DEV.BOOT_STAT.DONE = true ∧ s.fld 2 PWC.PWC_STAT.PS_NOW ≤ 2 ∧ bitOf (s.fld 2 PWC.RAIL_STAT.FAILED) 4 = false) :=
  ⟨⟨1, 1, 2, ⟨4, 1, 0, 0, 1⟩, host (nsBlk 0), by decide +kernel⟩,
   ⟨1, 1, 2, ⟨4, 0, 0, 0⟩, host (nsBlk 0), by decide +kernel⟩,
   ⟨1, 1, 4, ⟨4, 1, 0, 0, 1⟩, host (nsBlk 0), by decide +kernel⟩,
   ⟨run.onNvme fun n => { n with full := true }, by decide +kernel⟩,
   ⟨1, host (nsBlk 0), by decide +kernel⟩,
   ⟨1, 3, 3, 0, ready0, by decide +kernel⟩,
   ⟨0, 1, run, by decide +kernel⟩,
   ⟨0, 0, run, by decide +kernel⟩,
   ⟨0, 1, run, by decide +kernel⟩,
   ⟨0, run, by decide +kernel⟩,
   ⟨1, host (nsBlk 0), by decide +kernel⟩,
   ⟨1, host (nsBlk 0), by decide +kernel⟩,
   ⟨1, 5, (run.setNs 1 { nsBlk 0 with ready := false }).setB 0 DEV.BOOT_STAT.DONE true, by decide +kernel⟩⟩

/-- States and operands that meet the hypotheses of `Obligations.SidebandAndLinkCommandsComplete`, clause by clause. -/
theorem witness_SidebandAndLinkCommandsComplete :
  (∃ (i3c : Bool) (pecOk : Bool) (kind : Nat) (portOrCtl : Nat) (s : State),
      s.pwr.phase = .run) ∧
  (∃ (i3c : Bool) (pecOk : Bool) (s : State),
      s.pwr.phase = .run) ∧
  (∃ (i3c : Bool) (pecOk : Bool) (ctl : Nat) (s : State),
      s.pwr.phase = .run) ∧
  (∃ (i3c : Bool) (pecOk : Bool) (cid : Nat) (s : State),
      s.pwr.phase = .run) ∧
  (∃ (i3c : Bool) (pecOk : Bool) (cid : Nat) (value : Nat) (s : State),
      s.pwr.phase = .run) ∧
  (∃ (i3c : Bool) (pecOk : Bool) (ofs : Nat) (len : Nat) (s : State),
      s.pwr.phase = .run) ∧
  (∃ (i3c : Bool) (pecOk : Bool) (op : Nat) (ctl : Nat) (a : Nat) (b : Nat) (ofs : Nat) (len : Nat) (s : State),
      s.pwr.phase = .run) ∧
  (∃ (s : State),
      s.pwr.phase = .run ∧ s.flag 7 SBI.SBI_CFG.SMB_EN = true) ∧
  (∃ (da : Nat) (s : State),
      s.pwr.phase = .run ∧ s.flag 7 SBI.SBI_CFG.I3C_EN = true ∧ da ≠ 0) ∧
  (∃ (port : Nat) (speed : Nat) (width : Nat) (s : State),
      let t := s.fld 0x10 PCX.PCX_TARGET.MAX_SPEED
      let top := if 1 ≤ t ∧ t ≤ 5 then t else 5
      let lanes := if s.sys.twoPorts then 8 else 16
      s.pwr.phase = .run ∧ (port = 0 ∨ (port = 1 ∧ s.sys.twoPorts)) ∧ s.sys.perst.contains port = true ∧ (1 ≤ speed ∧ speed ≤ top) ∧ (width ∈ [1, 2, 4, 8, 16] ∧ width ≤ lanes) ∧ (s.sys.sris && s.flag 1 CLKG.CLK_STAT.RING) = false ∧ speed = top ∧ width = lanes) ∧
  (∃ (port : Nat) (s : State),
      s.pwr.phase = .run ∧ port < 2 ∧ s.flag 0x10 (State.portReg port PCX.P0_LINK.DL_UP) = true) ∧
  (∃ (port : Nat) (two : Bool) (sris : Bool) (s : State),
      s.pwr.phase = .run ∧ port < 2 ∧ s.sys.perst.contains port = false ∧ port = 0 ∧ s.sys.strapped = false) ∧
  (∃ (port : Nat) (v : Nat) (s : State),
      s.pwr.phase = .run ∧ port < 2 ∧ v < 128 ∧ s.io.msixOpen.contains (port * 128 + v) = false) ∧
  (∃ (port : Nat) (fn : Nat) (s : State),
      s.pwr.phase = .run ∧ port < 2 ∧ fn ≤ 65) ∧
  (∃ (c : Option Cmd) (n : Nat) (cmd : Cmd) (s : State),
      s.pwr.phase = .run ∧ c = some cmd ∧ s.flightOf cmd = none ∧ s.canFetch cmd = true) ∧
  (∃ (port : Nat) (kind : Nat) (s : State),
      s.pwr.phase = .run ∧ (port = 0 ∨ (port = 1 ∧ s.sys.twoPorts)) ∧ kind ≤ 2 ∧ kind = 0) ∧
  (∃ (port : Nat) (kind : Nat) (s : State),
      s.pwr.phase = .run ∧ (port = 0 ∨ (port = 1 ∧ s.sys.twoPorts)) ∧ kind ≤ 2 ∧ kind = 1) ∧
  (∃ (port : Nat) (kind : Nat) (s : State),
      s.pwr.phase = .run ∧ (port = 0 ∨ (port = 1 ∧ s.sys.twoPorts)) ∧ kind ≤ 2 ∧ kind = 2) :=
  ⟨⟨false, true, 0, 0, run, by decide +kernel⟩,
   ⟨false, true, run, by decide +kernel⟩,
   ⟨false, true, 0, run, by decide +kernel⟩,
   ⟨false, true, 0, run, by decide +kernel⟩,
   ⟨false, true, 0, 0, run, by decide +kernel⟩,
   ⟨false, true, 0, 0, run, by decide +kernel⟩,
   ⟨false, true, 0, 0, 0, 0, 0, 0, run, by decide +kernel⟩,
   ⟨run.setB 7 SBI.SBI_CFG.SMB_EN true, by decide +kernel⟩,
   ⟨5, run.setB 7 SBI.SBI_CFG.I3C_EN true, by decide +kernel⟩,
   ⟨0, 5, 16, { run with sys := { run.sys with perst := [0] } }, by decide +kernel⟩,
   ⟨0, run.setB 0x10 PCX.P0_LINK.DL_UP true, by decide +kernel⟩,
   ⟨0, false, false, run, by decide +kernel⟩,
   ⟨0, 1, run, by decide +kernel⟩,
   ⟨0, 0, run, by decide +kernel⟩,
   ⟨some adminCmd, 0, adminCmd, host (nsBlk 0), by decide +kernel⟩,
   ⟨0, 0, run, by decide +kernel⟩,
   ⟨0, 1, run, by decide +kernel⟩,
   ⟨0, 2, run, by decide +kernel⟩⟩

/-- States and operands that meet the hypotheses of `Obligations.BufferMemoryCommandsComplete`, clause by clause. -/
theorem witness_BufferMemoryCommandsComplete :
  (∃ (acc : Accessor) (r : Nat) (s : State),
      s.pwr.phase = .run ∧ r < 16 ∧ s.rgnValid r = false ∧ s.io.locked 0x13 = false) ∧
  (∃ (r : Nat) (s : State),
      s.pwr.phase = .run ∧ s.rgnWiping r = true) ∧
  (∃ (acc : Accessor) (r : Nat) (s : State),
      s.pwr.phase = .run ∧ r < 16 ∧ s.rgnValid r = true ∧ s.io.locked 0x13 = false ∧ (s.rgnOwner r = 10 ∨ s.enabled 0x13 = false)) ∧
  (∃ (acc : Accessor) (r : Nat) (s : State),
      s.pwr.phase = .run ∧ r < 16 ∧ s.rgnValid r = true ∧ s.io.locked 0x13 = false ∧ s.rgnOwner r ≠ 10 ∧ s.enabled 0x13 = true) ∧
  (∃ (addr : Nat) (outcome : Nat) (brick : Option Nat) (r : Nat) (s : State),
      s.pwr.phase = .run ∧ s.rgnOf addr = some r ∧ s.rgnWiping r = false) ∧
  (∃ (addr : Nat) (outcome : Nat) (brick : Option Nat) (s : State),
      s.pwr.phase = .run ∧ s.rgnOf addr = none) ∧
  (∃ (line : Nat) (s : State),
      s.pwr.phase = .run ∧ s.buf.fixes.contains line = true) ∧
  (∃ (addr : Nat) (bytes : List Nat) (outcome : Nat) (brick : Option Nat) (r : Nat) (s : State),
      s.pwr.phase = .run ∧ s.rgnOf addr = some r ∧ inLine addr bytes.length = true ∧ s.rgnWiping r = false ∧ (¬ (addr % s.codeUnit r = 0 ∧ bytes.length % s.codeUnit r = 0))) ∧
  (∃ (addr : Nat) (bytes : List Nat) (r : Nat) (s : State),
      s.pwr.phase = .run ∧ s.rgnOf addr = some r ∧ inLine addr bytes.length = true ∧ s.rgnWiping r = false ∧ addr % s.codeUnit r = 0 ∧ bytes.length % s.codeUnit r = 0) ∧
  (∃ (outcome : Nat) (late : Bool) (lapMin : Nat) (brick : Option Nat) (r line : Nat) (s : State),
      s.pwr.phase = .run ∧ s.scrubAt s.scrubRgns s.buf.scrubbed = some (r, line) ∧ (s.enabled 0x13 && s.flag 0x13 MPS.SCRUB_CFG.EN && !s.flag 0x12 DMC.DMC_STAT.SELF_REFRESH && !s.rgnWiping r) = true ∧ late = false) ∧
  (∃ (acc : Accessor) (s : State),
      s.pwr.phase = .run ∧ s.dvRgn acc = none) ∧
  (∃ (acc : Accessor) (r : Nat) (s : State),
      s.pwr.phase = .run ∧ s.dvRgn acc = some r) ∧
  (∃ (acc : Accessor) (value : Word) (r : Nat) (s : State),
      s.pwr.phase = .run ∧ s.dvRgn acc = some r) ∧
  (∃ (p : Nat) (code : Nat) (s : State),
      s.pwr.phase = .run ∧ p < 4) :=
  ⟨⟨.mgp, 0, run, by decide +kernel⟩,
   ⟨0, run.setB (pgRgn 0) MPS.RGN_STAT.WIPING true, by decide +kernel⟩,
   ⟨.mgp, 0, rgn 0 10, by decide +kernel⟩,
   ⟨.mgp, 0, rgn 0 0, by decide +kernel⟩,
   ⟨64, 0, none, 0, rgn 0 0, by decide +kernel⟩,
   ⟨0, 0, none, run, by decide +kernel⟩,
   ⟨5, run.onBuf fun b => { b with fixes := [5] }, by decide +kernel⟩,
   ⟨64, [1], 0, none, 0, rgn 2 0, by decide +kernel⟩,
   ⟨64, [1], 0, rgn 0 0, by decide +kernel⟩,
   ⟨0, false, 9, none, 0, 0, (rgn 2 0).setB 0x13 MPS.SCRUB_CFG.EN true, by decide +kernel⟩,
   ⟨.mgp, run, by decide +kernel⟩,
   ⟨.mgp, 0, (rgn 0 0).setB (pgRgn 0) MPS.RGN_CFG.VIEW true, by decide +kernel⟩,
   ⟨.mgp, 7, 0, (rgn 0 0).setB (pgRgn 0) MPS.RGN_CFG.VIEW true, by decide +kernel⟩,
   ⟨0, 5, run, by decide +kernel⟩⟩

/-- States and operands that meet the hypotheses of `Obligations.CacheCommandsComplete`, clause by clause. -/
theorem witness_CacheCommandsComplete :
  (∃ (w : Nat) (sub : Nat) (s : State),
      s.pwr.phase = .run ∧ s.copyable w sub = true ∧ ((s.way w).evicting || s.flushWaits || (s.oldestDirty w && (s.aboveStart || decide (s.cacheState = 2)))) = true) ∧
  (∃ (w : Nat) (sub : Nat) (s : State),
      s.pwr.phase = .run ∧ s.copyable w sub = true ∧ s.fld 0x14 SCC.SCC_DESTAGE.AGE ≠ 0) ∧
  (∃ (w : Nat) (sub : Nat) (s : State),
      s.pwr.phase = .run ∧ sub < 16 ∧ bitOf (s.way w).copying sub = true) ∧
  (∃ (w : Nat) (s : State),
      let l := s.way w
      s.pwr.phase = .run ∧ l.evicting = true ∧ l.dirty = 0) ∧
  (∃ (w : Nat) (sub : Nat) (data : List Nat) (s : State),
      let l := s.way w
      s.pwr.phase = .run ∧ sub < 16 ∧ bitOf l.filling sub = true ∧ data.length = 16) ∧
  (∃ (_x0 : Accessor) (value : Bool) (s : State),
      s.pwr.phase = .run) :=
  ⟨⟨0, 0, way0 { Line.zero with dirty := 1, evicting := true }, by decide +kernel⟩,
   ⟨0, 0, (way0 { Line.zero with dirty := 1 }).set 0x14 SCC.SCC_DESTAGE.AGE 5, by decide +kernel⟩,
   ⟨0, 0, way0 { Line.zero with copying := 1 }, by decide +kernel⟩,
   ⟨0, way0 { Line.zero with evicting := true }, by decide +kernel⟩,
   ⟨0, 0, List.replicate 16 5, way0 { Line.zero with filling := 1 }, by decide +kernel⟩,
   ⟨.mgp, true, run, by decide +kernel⟩⟩

/-- States and operands that meet the hypotheses of `Obligations.HodInstructionsComplete`, clause by clause. -/
theorem witness_HodInstructionsComplete :
  (∃ (n : Nat) (s : State),
      s.pwr.phase = .run ∧ n < 32 ∧ s.hodSt n = 1 ∧ (¬ (s.pcSpace n ≤ 1 ∧ s.hodHeld n = true)) ∧ s.fetchBar n = 0 ∧ (s.hodAt n).op = 0 ∧ s.hodEngine (s.hodAt n) = true) ∧
  (∃ (n : Nat) (host : Option (List Nat)) (s : State),
      s.pwr.phase = .run ∧ n < 32 ∧ s.hodSt n = 1 ∧ (¬ (s.pcSpace n ≤ 1 ∧ s.hodHeld n = true)) ∧ s.fetchBar n = 0 ∧ (s.hodAt n).op = 1 ∧ s.hodEngine (s.hodAt n) = true) ∧
  (∃ (n : Nat) (s : State),
      s.pwr.phase = .run ∧ n < 32 ∧ s.hodSt n = 1 ∧ (¬ (s.pcSpace n ≤ 1 ∧ s.hodHeld n = true)) ∧ s.fetchBar n = 0 ∧ (s.hodAt n).op = 2 ∧ s.hodEngine (s.hodAt n) = true) ∧
  (∃ (n : Nat) (hostA : Option (List Nat)) (hostB : Option (List Nat)) (s : State),
      s.pwr.phase = .run ∧ n < 32 ∧ s.hodSt n = 1 ∧ (¬ (s.pcSpace n ≤ 1 ∧ s.hodHeld n = true)) ∧ s.fetchBar n = 0 ∧ (s.hodAt n).op = 3 ∧ s.hodEngine (s.hodAt n) = true) ∧
  (∃ (n : Nat) (s : State),
      s.pwr.phase = .run ∧ n < 32 ∧ s.hodSt n = 1 ∧ (¬ (s.pcSpace n ≤ 1 ∧ s.hodHeld n = true)) ∧ s.fetchBar n = 0 ∧ (s.hodAt n).op = 4 ∧ s.hodEngine (s.hodAt n) = true) ∧
  (∃ (n : Nat) (s : State),
      s.pwr.phase = .run ∧ n < 32 ∧ s.hodSt n = 1 ∧ (¬ (s.pcSpace n ≤ 1 ∧ s.hodHeld n = true)) ∧ s.fetchBar n = 0 ∧ (s.hodAt n).op = 5 ∧ s.hodEngine (s.hodAt n) = true) ∧
  (∃ (n : Nat) (s : State),
      s.pwr.phase = .run ∧ n < 32 ∧ s.hodSt n = 1 ∧ (¬ (s.pcSpace n ≤ 1 ∧ s.hodHeld n = true)) ∧ s.fetchBar n = 0 ∧ (s.hodAt n).op = 6 ∧ s.hodEngine (s.hodAt n) = true) ∧
  (∃ (n : Nat) (s : State),
      s.pwr.phase = .run ∧ n < 32 ∧ s.hodSt n = 1 ∧ (¬ (s.pcSpace n ≤ 1 ∧ s.hodHeld n = true)) ∧ s.fetchBar n = 0 ∧ (s.hodAt n).op = 7 ∧ s.hodEngine (s.hodAt n) = true) ∧
  (∃ (n : Nat) (s : State),
      s.pwr.phase = .run ∧ n < 32 ∧ s.hodSt n = 1 ∧ (¬ (s.pcSpace n ≤ 1 ∧ s.hodHeld n = true)) ∧ s.fetchBar n = 0 ∧ (s.hodAt n).op = 7 ∧ s.hodEngine (s.hodAt n) = true ∧ bitOf (s.hodAt n).flags 0 = true) ∧
  (∃ (n : Nat) (s : State),
      s.pwr.phase = .run ∧ n < 32 ∧ s.hodSt n = 1 ∧ (¬ (s.pcSpace n ≤ 1 ∧ s.hodHeld n = true)) ∧ s.fetchBar n = 0 ∧ (s.hodAt n).op = 8 ∧ s.hodEngine (s.hodAt n) = true) ∧
  (∃ (n : Nat) (s : State),
      s.pwr.phase = .run ∧ n < 32 ∧ s.hodSt n = 1 ∧ (¬ (s.pcSpace n ≤ 1 ∧ s.hodHeld n = true)) ∧ s.fetchBar n = 0 ∧ (s.hodAt n).op = 9 ∧ s.hodEngine (s.hodAt n) = true) ∧
  (∃ (n : Nat) (s : State),
      s.pwr.phase = .run ∧ n < 32 ∧ s.hodSt n = 1 ∧ (¬ (s.pcSpace n ≤ 1 ∧ s.hodHeld n = true)) ∧ s.fetchBar n = 0 ∧ (s.hodAt n).op = 10 ∧ s.hodEngine (s.hodAt n) = true ∧ bitOf (s.hodAt n).flags 0 = false) ∧
  (∃ (n : Nat) (s : State),
      s.pwr.phase = .run ∧ n < 32 ∧ s.hodSt n = 1 ∧ (¬ (s.pcSpace n ≤ 1 ∧ s.hodHeld n = true)) ∧ s.fetchBar n = 0 ∧ (s.hodAt n).op = 11 ∧ s.hodEngine (s.hodAt n) = true) ∧
  (∃ (n : Nat) (s : State),
      s.pwr.phase = .run ∧ n < 32 ∧ s.hodSt n = 1 ∧ (¬ (s.pcSpace n ≤ 1 ∧ s.hodHeld n = true)) ∧ s.fetchBar n = 0 ∧ (s.hodAt n).op ≥ 12 ∧ s.hodEngine (s.hodAt n) = true) :=
  ⟨⟨0, hodOn 1 0 0, by decide +kernel⟩,
   ⟨0, none, hodOn 1 1 0, by decide +kernel⟩,
   ⟨0, hodOn 1 2 0, by decide +kernel⟩,
   ⟨0, none, none, hodOn 1 3 0, by decide +kernel⟩,
   ⟨0, hodOn 1 4 0, by decide +kernel⟩,
   ⟨0, hodOn 1 5 0, by decide +kernel⟩,
   ⟨0, hodOn 1 6 0, by decide +kernel⟩,
   ⟨0, hodOn 1 7 0, by decide +kernel⟩,
   ⟨0, hodOn 1 7 1, by decide +kernel⟩,
   ⟨0, hodOn 1 8 0, by decide +kernel⟩,
   ⟨0, hodOn 1 9 0, by decide +kernel⟩,
   ⟨0, hodOn 1 10 0, by decide +kernel⟩,
   ⟨0, hodOn 1 11 0, by decide +kernel⟩,
   ⟨0, hodOn 1 12 0, by decide +kernel⟩⟩

/-- States and operands that meet the hypotheses of `Obligations.HodChannelCommandsComplete`, clause by clause. -/
theorem witness_HodChannelCommandsComplete :
  (∃ (n : Nat) (i : HodI) (s : State),
      s.pwr.phase = .run ∧ (s.chan n).wait = some i ∧ n < 32 ∧ s.hodSt n = 2 ∧ i.arg8 = 0 ∧ (s.chan n).woken = true) ∧
  (∃ (n : Nat) (i : HodI) (s1 : State) (s : State),
      s.pwr.phase = .run ∧ (s.chan n).wait = some i ∧ n < 32 ∧ s.hodSt n = 2 ∧ i.arg8 = 1 ∧ s.waitHolds i = (true, s1)) ∧
  (∃ (n : Nat) (i : HodI) (s : State),
      s.pwr.phase = .run ∧ (s.chan n).wait = some i ∧ n < 32 ∧ s.hodSt n = 2 ∧ i.arg8 < 2 ∧ i.arg32 ≠ 0 ∧ (s.chan n).woken = false) ∧
  (∃ (n : Nat) (s : State),
      s.pwr.phase = .run ∧ n < 32 ∧ s.hodSt n = 3 ∧ s.hodHeld n = false) ∧
  (∃ (acc : Accessor) (n : Nat) (s : State),
      s.pwr.phase = .run ∧ n < 32 ∧ acc = .mgp ∧ s.enabled 0x1B = true ∧ s.hodSt n = 0) ∧
  (∃ (acc : Accessor) (n : Nat) (s : State),
      s.pwr.phase = .run ∧ n < 32 ∧ acc = .mgp ∧ s.hodSt n ∈ [1, 2, 3]) :=
  ⟨⟨0, ⟨4, 1, 0, 0, 0, 0, 0, 0, 0, 0, 0, 0⟩, (hodOn 2 4 0).onChan 0 fun c => { c with wait := some ⟨4, 1, 0, 0, 0, 0, 0, 0, 0, 0, 0, 0⟩, woken := true }, by decide +kernel⟩,
   ⟨0, ⟨4, 1, 0, 0, 0, 0, 1, 0, 0, 0, 0, 0⟩, (((hodOn 2 4 0).onChan 0 fun c => { c with wait := some ⟨4, 1, 0, 0, 0, 0, 1, 0, 0, 0, 0, 0⟩, woken := false } : State).waitHolds ⟨4, 1, 0, 0, 0, 0, 1, 0, 0, 0, 0, 0⟩).2, (hodOn 2 4 0).onChan 0 fun c => { c with wait := some ⟨4, 1, 0, 0, 0, 0, 1, 0, 0, 0, 0, 0⟩, woken := false }, by decide +kernel⟩,
   ⟨0, ⟨4, 1, 0, 0, 0, 0, 0, 0, 0, 0, 0, 5⟩, (hodOn 2 4 0).onChan 0 fun c => { c with wait := some ⟨4, 1, 0, 0, 0, 0, 0, 0, 0, 0, 0, 5⟩, woken := false }, by decide +kernel⟩,
   ⟨0, hodOn 3 0 0, by decide +kernel⟩,
   ⟨.mgp, 0, hodOn 0 0 0, by decide +kernel⟩,
   ⟨.mgp, 0, hodOn 1 0 0, by decide +kernel⟩⟩

/-- States and operands that meet the hypotheses of `Obligations.WindowCommandsComplete`, clause by clause. -/
theorem witness_WindowCommandsComplete :
  (∃ (acc : Accessor) (mask : Nat) (s : State),
      s.pwr.phase = .run) ∧
  (∃ (acc : Accessor) (mask : Nat) (s : State),
      s.pwr.phase = .run) ∧
  (∃ (agent : Nat) (space : Nat) (addr : Nat) (owner : Nat) (hseq : Nat) (err : Bool) (s : State),
      s.pwr.phase = .run ∧ agentKnown agent = true ∧ agent ≠ 0 ∧ space < 2) ∧
  (∃ (agent : Nat) (space : Nat) (addr : Nat) (s : State),
      s.pwr.phase = .run ∧ agentKnown agent = true ∧ agent ≠ 0 ∧ space < 2) ∧
  (∃ (acc : Accessor) (s : State),
      s.pwr.phase = .run) ∧
  (∃ (acc : Accessor) (s : State),
      s.pwr.phase = .run) ∧
  (∃ (agent : Nat) (addr : Nat) (n : Nat) (ecc : Nat) (write : Option (List Nat)) (s : State),
      let k := match write with | some bs => bs.length | none => n
      s.pwr.phase = .run ∧ agentKnown agent = true ∧ agent ≠ 0 ∧ addr + k ≤ cwEnd ∧ ecc < 3 ∧ ecc = 0 ∧ write = none ∧ (((List.range n).filterMap fun i => s.cwBars agent (addr + i)).head? = none)) ∧
  (∃ (agent : Nat) (addr : Nat) (n : Nat) (ecc : Nat) (write : Option (List Nat)) (bs : List Nat) (s : State),
      let k := match write with | some bs => bs.length | none => n
      s.pwr.phase = .run ∧ agentKnown agent = true ∧ agent ≠ 0 ∧ addr + k ≤ cwEnd ∧ ecc < 3 ∧ ecc = 0 ∧ write = some bs ∧ bs.length < 64 ∧ (((List.range bs.length).filterMap fun i => s.cwBars agent (addr + i)).head? = none)) ∧
  (∃ (acc : Accessor) (w : Nat) (s : State),
      s.pwr.phase = .run ∧ w < 16 ∧ s.io.locked 0xD = false) :=
  ⟨⟨.mgp, 1, run, by decide +kernel⟩,
   ⟨.mgp, 1, run, by decide +kernel⟩,
   ⟨3, 1, 64, 1, 0, false, run, by decide +kernel⟩,
   ⟨3, 1, 64, run, by decide +kernel⟩,
   ⟨.mgp, run, by decide +kernel⟩,
   ⟨.mgp, run, by decide +kernel⟩,
   ⟨3, 64, 4, 0, none, run, by decide +kernel⟩,
   ⟨3, 64, 0, 0, some [5], [5], run, by decide +kernel⟩,
   ⟨.mgp, 0, run, by decide +kernel⟩⟩

/-- States and operands that meet the hypotheses of `Obligations.FifoCommandsComplete`, clause by clause. -/
theorem witness_FifoCommandsComplete :
  (∃ (n : Nat) (agent : Nat) (item : Nat) (commit : Bool) (s : State),
      s.pwr.phase = .run ∧ (accOf agent).isNone = true ∧ agent < 256 ∧ commit = false) ∧
  (∃ (acc : Accessor) (core : Nat) (i : Nat) (value : Word) (s : State),
      s.pwr.phase = .run ∧ i < 4 ∧ s.fifoMay acc s.fifoSel = true ∧ i < s.fifoWords s.fifoSel ∧ i + 1 ≠ s.fifoWords s.fifoSel) ∧
  (∃ (acc : Accessor) (core : Nat) (x : Nat) (xs : List Nat) (s : State),
      s.pwr.phase = .run ∧ s.enabled 0xC = true ∧ s.mayPop acc s.fifoSel = true ∧ (s.io.fifo s.fifoSel).items = x :: xs) ∧
  (∃ (acc : Accessor) (core : Nat) (s : State),
      s.pwr.phase = .run ∧ s.fifoMay acc s.fifoSel = true) ∧
  (∃ (acc : Accessor) (core : Nat) (s : State),
      s.pwr.phase = .run ∧ s.fifoMay acc s.fifoSel = true) ∧
  (∃ (n : Nat) (s : State),
      s.pwr.phase = .run ∧ (s.io.fifo n).claimer.isSome = true) ∧
  (∃ (acc : Accessor) (slot : Nat) (s : State),
      s.pwr.phase = .run ∧ acc = .cpx) ∧
  (∃ (acc : Accessor) (slot : Nat) (s : State),
      s.pwr.phase = .run ∧ acc = .mgp) ∧
  (∃ (slot : Nat) (s : State),
      s.pwr.phase = .run ∧ s.hod.exchanges.contains slot = true) :=
  ⟨⟨0xC0, 3, 5, false, on [0xC], by decide +kernel⟩,
   ⟨.mgp, 0, 0, 5, ((on [0xC]).set 0xC FIF.FIFO_SEL.FIFO 0xC0).set (bank 0xC 0xC0) FIF.FIFO_CFG.WIDTH 1, by decide +kernel⟩,
   ⟨.mgp, 0, 5, [6], (((on [0xC]).set 0xC FIF.FIFO_SEL.FIFO 0xC0).set (bank 0xC 0xC0) FIF.FIFO_CFG.WIDTH 1).onFifo 0xC0 fun f => { f with items := [5, 6] }, by decide +kernel⟩,
   ⟨.mgp, 0, ((on [0xC]).set 0xC FIF.FIFO_SEL.FIFO 0xC0).set (bank 0xC 0xC0) FIF.FIFO_CFG.WIDTH 1, by decide +kernel⟩,
   ⟨.mgp, 0, ((on [0xC]).set 0xC FIF.FIFO_SEL.FIFO 0xC0).set (bank 0xC 0xC0) FIF.FIFO_CFG.WIDTH 1, by decide +kernel⟩,
   ⟨0xC0, run.onFifo 0xC0 fun f => { f with claimer := some 3 }, by decide +kernel⟩,
   ⟨.cpx, 0, run, by decide +kernel⟩,
   ⟨.mgp, 0, run, by decide +kernel⟩,
   ⟨0, run.onHod fun h => { h with exchanges := [0] }, by decide +kernel⟩⟩

/-- States and operands that meet the hypotheses of `Obligations.LifeCycleAndKeyCommandsComplete`, clause by clause. -/
theorem witness_LifeCycleAndKeyCommandsComplete :
  (∃ (acc : Accessor) (target : Nat) (places : List BrickPlace) (dur : Nat) (vend : Nat) (s : State),
      let may := acc.isPf1 && !s.flag 8 LCS.LC_STAT.BUSY && decide ((s.lifeCycle, target) ∈ [(1, 2), (1, 3), (0, 4), (1, 4)])
      s.pwr.phase = .run ∧ (!may || s.resetFits places) = true ∧ s.lcsFiltered acc = false ∧ may = true) ∧
  (∃ (acc : Accessor) (target : Nat) (places : List BrickPlace) (dur : Nat) (vend : Nat) (s : State),
      let may := acc.isPf1 && !s.flag 8 LCS.LC_STAT.BUSY && decide ((s.lifeCycle, target) ∈ [(1, 2), (1, 3), (0, 4), (1, 4)])
      s.pwr.phase = .run ∧ (!may || s.resetFits places) = true ∧ s.lcsFiltered acc = false ∧ may = false) ∧
  (∃ (acc : Accessor) (value : Word) (s : State),
      s.pwr.phase = .run ∧ s.lcsFiltered acc = false ∧ s.sec.tok.length + 4 ≤ 1916) ∧
  (∃ (acc : Accessor) (places : List BrickPlace) (dur : Nat) (vend : Nat) (s : State),
      s.pwr.phase = .run ∧ s.resetFits places = true ∧ s.lcsFiltered acc = false) ∧
  (∃ (tok : List Nat) (places : List BrickPlace) (dur : Nat) (vend : Nat) (s : State),
      s.pwr.phase = .run ∧ s.resetFits places = true) ∧
  (∃ (acc : Accessor) (w0 : Bool) (w1 : Bool) (s : State),
      let d := s.fld 9 SEC.DOM_SEL.DOM
      s.pwr.phase = .run ∧ acc = .mgp ∧ s.domSt d = 0) ∧
  (∃ (acc : Accessor) (w0 : Bool) (w1 : Bool) (s : State),
      let d := s.fld 9 SEC.DOM_SEL.DOM
      s.pwr.phase = .run ∧ acc = .mgp ∧ (s.domSt d = 1 ∨ s.domSt d = 3)) ∧
  (∃ (acc : Accessor) (s : State),
      let d := s.fld 9 SEC.DOM_SEL.DOM
      s.pwr.phase = .run ∧ acc = .mgp ∧ s.domSt d ≠ 0) ∧
  (∃ (acc : Accessor) (s : State),
      let d := s.fld 9 SEC.DOM_SEL.DOM
      s.pwr.phase = .run ∧ acc = .mgp ∧ s.domSt d = 1) ∧
  (∃ (e : Nat) (id : Nat) (cls : Nat) (kdom : Nat) (dec : Bool) (fin : Bool) (s : State),
      s.pwr.phase = .run ∧ e ≤ 8 ∧ (decide (e = 8) || clOk s.part e) = true ∧ cls ≤ 2 ∧ (decide (kdom < 1024) || decide (kdom = noKdom)) = true ∧ s.enabled (State.engPage e) = true ∧ s.domainRuns ⟨id, cls, kdom, dec, false⟩ = true ∧ (s.engine e).running = none ∧ fin = false ∧ (((s.engine e).suspended.any fun x => decide (x.cls ≤ cls)) = false) ∧ (((s.engine e).waiting.any fun x => decide (x.cls ≤ cls)) = false)) ∧
  (∃ (e : Nat) (id : Nat) (cls : Nat) (kdom : Nat) (dec : Bool) (fin : Bool) (s : State),
      s.pwr.phase = .run ∧ e ≤ 8 ∧ (decide (e = 8) || clOk s.part e) = true ∧ cls ≤ 2 ∧ (decide (kdom < 1024) || decide (kdom = noKdom)) = true ∧ s.enabled (State.engPage e) = true ∧ s.domainRuns ⟨id, cls, kdom, dec, false⟩ = false) ∧
  (∃ (e : Nat) (unwrapOk : Bool) (fin : Bool) (m : Msg) (s : State),
      s.pwr.phase = .run ∧ s.firstSuspended e = some m ∧ e ≤ 8 ∧ (((s.engine e).running.all fun r => decide (r.cls < m.cls)) = true) ∧ m.wrapped = false ∧ fin = true) :=
  ⟨⟨.pf1p0, 2, [], 0, 0, run.set 8 LCS.LC_STAT.STATE 1, by decide +kernel⟩,
   ⟨.mgp, 2, [], 0, 0, run.setB 0 DEV.BOOT_STAT.DONE true, by decide +kernel⟩,
   ⟨.mgp, 5, run, by decide +kernel⟩,
   ⟨.mgp, [], 0, 0, run, by decide +kernel⟩,
   ⟨[], [], 0, 0, run, by decide +kernel⟩,
   ⟨.mgp, true, true, run, by decide +kernel⟩,
   ⟨.mgp, true, true, run.set (pgDom 0) SEC.DOM_STAT.STATE 1, by decide +kernel⟩,
   ⟨.mgp, run.set (pgDom 0) SEC.DOM_STAT.STATE 1, by decide +kernel⟩,
   ⟨.mgp, run.set (pgDom 0) SEC.DOM_STAT.STATE 1, by decide +kernel⟩,
   ⟨0, 1, 1, noKdom, false, false, on [0x60], by decide +kernel⟩,
   ⟨0, 1, 1, 0, false, false, on [0x60], by decide +kernel⟩,
   ⟨0, true, true, ⟨1, 1, noKdom, false, false⟩, run.setEngine 0 ⟨none, [⟨1, 1, noKdom, false, false⟩], []⟩, by decide +kernel⟩⟩

/-- States and operands that meet the hypotheses of `Obligations.SupplyCommandsComplete`, clause by clause. -/
theorem witness_SupplyCommandsComplete :
  (∃ (places : List BrickPlace) (dur : Nat) (vend : Nat) (s : State),
      let s1 := (s.raise 2 0 0).onPwr fun p => { p with fet := false }
      s.pwr.phase = .run ∧ s1.shutFits places = true) ∧
  (∃ (s : State),
      s.pwr.phase ≠ .dead) ∧
  (∃ (s : State),
      s.pwr.phase ≠ .dead) ∧
  (∃ (beyond : Bool) (places : List BrickPlace) (dur : Nat) (vend : Nat) (s : State),
      let s0 := s.onPwr fun p => { p with fet := false }
      let s1 := if beyond then (s0.raise 2 3 0).breach 3 else s0.raise 2 3 0
      let s2 := s1.raise 2 0 0
      s.pwr.phase ≠ .dead ∧ (decide (s.pwr.phase ≠ .run) || s2.shutFits places) = true ∧ beyond = false ∧ s.pwr.phase = .run) ∧
  (∃ (beyond : Bool) (places : List BrickPlace) (dur : Nat) (vend : Nat) (s : State),
      let s0 := s.onPwr fun p => { p with fet := false }
      let s1 := if beyond then (s0.raise 2 3 0).breach 3 else s0.raise 2 3 0
      let s2 := s1.raise 2 0 0
      s.pwr.phase ≠ .dead ∧ (decide (s.pwr.phase ≠ .run) || s2.shutFits places) = true ∧ beyond = false ∧ s.pwr.phase ≠ .run) ∧
  (∃ (places : List BrickPlace) (jseq : Nat) (s : State),
      let s1 := (s.raise 2 0 0).onPwr fun p => { p with fet := false }
      s.pwr.phase = .run ∧ s1.placesOk places = true) ∧
  (∃ (s : State),
      s.pwr.fet = true ∧ s.flag 2 PWC.PWC_STAT.INRUSH = true) ∧
  (∃ (s : State),
      s.pwr.fet = false ∧ s.pwr.phase ∈ [Phase.aon, .held]) ∧
  (∃ (s : State),
      s.pwr.fet = false ∧ s.pwr.phase ∈ [Phase.dead, .aon, .held]) ∧
  (∃ (s : State),
      s.pwr.phase ∈ [Phase.aon, .held, .tripHeld, .faultHold]) :=
  ⟨⟨[], 0, 0, run, by decide +kernel⟩,
   ⟨run, by decide +kernel⟩,
   ⟨run, by decide +kernel⟩,
   ⟨false, [], 0, 0, run, by decide +kernel⟩,
   ⟨false, [], 0, 0, ({ run with pwr := { run.pwr with phase := .held } } : State), by decide +kernel⟩,
   ⟨[], 0, run, by decide +kernel⟩,
   ⟨run.setB 2 PWC.PWC_STAT.INRUSH true, by decide +kernel⟩,
   ⟨{ run with pwr := { run.pwr with phase := .held, fet := false } }, by decide +kernel⟩,
   ⟨{ run with pwr := { run.pwr with phase := .dead, fet := false } }, by decide +kernel⟩,
   ⟨({ run with pwr := { run.pwr with phase := .held } } : State), by decide +kernel⟩⟩

/-- States and operands that meet the hypotheses of `Obligations.RailsAndSleepComplete`, clause by clause. -/
theorem witness_RailsAndSleepComplete :
  (∃ (r : Nat) (dest : Nat) (s : State),
      s.pwr.phase = .run ∧ railOk s r = true ∧ clOk s.part dest = true ∧ Tab.get 0 s.pwr.rails r + 1 < 3) ∧
  (∃ (r : Nat) (dest : Nat) (s : State),
      s.pwr.phase = .run ∧ railOk s r = true ∧ clOk s.part dest = true ∧ Tab.get 0 s.pwr.rails r + 1 ≥ 3) ∧
  (∃ (r : Nat) (dest : Nat) (back : Bool) (s : State),
      s.pwr.phase = .run ∧ railOk s r = true ∧ clOk s.part dest = true ∧ back = true) ∧
  (∃ (r : Nat) (dest : Nat) (back : Bool) (s : State),
      s.pwr.phase = .run ∧ railOk s r = true ∧ clOk s.part dest = true ∧ back = false) ∧
  (∃ (s : State),
      s.pwr.phase = .run) ∧
  (∃ (d : Nat) (s : State),
      s.pwr.phase = .run ∧ s.sleepable d = true ∧ Tab.get 0 s.pwr.backoff d = 0) ∧
  (∃ (d : Nat) (pg : Nat) (s : State),
      let asked := s.answers d
      s.pwr.phase = .run ∧ s.sleepable d = true ∧ ((asked.any (fun x => decide (x.1 = pg))) = true) ∧ (((asked.takeWhile fun x => decide (x.1 ≠ pg)).all (fun x => !x.2)) = true)) ∧
  (∃ (d : Nat) (s : State),
      s.pwr.phase = .run ∧ s.sleepable d = true ∧ Tab.get 0 s.pwr.backoff d ≠ 0) ∧
  (∃ (d : Nat) (s : State),
      s.pwr.phase = .run ∧ d < 15) ∧
  (∃ (acc : Accessor) (value : Nat) (s : State),
      s.pwr.phase = .run) ∧
  (∃ (s : State),
      let t := s.psNext
      s.pwr.phase = .run ∧ t ≠ s.fld 2 PWC.PWC_STAT.PS_NOW ∧ t ≤ 4 ∧ (decide (t ≤ 2) || s.mayRest) = true) ∧
  (∃ (s : State),
      s.pwr.phase = .run ∧ s.fld 2 PWC.PWC_STAT.PS_NOW ≥ 3) ∧
  (∃ (s : State),
      s.pwr.phase = .run ∧ s.fld 2 PWC.PWC_STAT.PS_NOW ≥ 3 ∧ s.pwr.asleep.contains 2 = false ∧ s.sys.cpxDown = false ∧ s.nvme.flights.isEmpty = true) ∧
  (∃ (ctl : Nat) (time ps : Nat) (s : State),
      s.pwr.phase = .run ∧ apstEntry s ctl = (time, ps) ∧ s.enabled 2 = true ∧ (s.ctrl ctl).en = true ∧ Tab.get 0 (s.ctrl ctl).feats 0xC % 2 = 1 ∧ time ≠ 0 ∧ (s.requires ctl < ps ∧ ps ≤ 4) ∧ ((s.nvme.flights.any fun f => decide (f.cmd.ctl = ctl)) = false)) :=
  ⟨⟨0, 1, run, by decide +kernel⟩,
   ⟨0, 1, { run with pwr := { run.pwr with rails := [(0, 2)] } }, by decide +kernel⟩,
   ⟨0, 1, true, run, by decide +kernel⟩,
   ⟨0, 1, false, run, by decide +kernel⟩,
   ⟨run, by decide +kernel⟩,
   ⟨7, deep, by decide +kernel⟩,
   ⟨7, 0x40, deep, by decide +kernel⟩,
   ⟨7, { deep with pwr := { deep.pwr with backoff := [(7, 1)] } }, by decide +kernel⟩,
   ⟨5, run, by decide +kernel⟩,
   ⟨.mgp, 0, run, by decide +kernel⟩,
   ⟨run.set 2 PWC.PWC_STAT.PS_TARGET 1, by decide +kernel⟩,
   ⟨deep, by decide +kernel⟩,
   ⟨deep, by decide +kernel⟩,
   ⟨1, 1, 2, ((host (nsBlk 0)).setB 2 HDR.PG_CTL.ENABLE true).setCtrl 1 { (host (nsBlk 0)).ctrl 1 with feats := [(0xC, 1 + 2 * (256 + 16))] }, by decide +kernel⟩⟩

/-- States and operands that meet the hypotheses of `Obligations.PowerAndThermalControlCompletes`, clause by clause. -/
theorem witness_PowerAndThermalControlCompletes :
  (∃ (vin : Nat) (vhold : Nat) (pin : Nat) (spent : Bool) (ease : Bool) (s : State),
      s.pwr.phase = .run) ∧
  (∃ (powers : List Nat) (raw : List Int) (s : State),
      s.watched = true ∧ raw.length = 30) ∧
  (∃ (n : Nat) (s : State),
      let x := s.sensorRaw n
      let close := fun (y : Int) => decide (apart x y ≤ 64)
      s.watched = true ∧ n < 30 ∧ s.suspect n = true ∧ ((close (s.nodeModel (nodeOfSensor n)) || (ringNext n).any fun m => close (s.sensorRaw m)) = true)) ∧
  (∃ (s : State),
      let good := (List.range 30).filter fun n => !s.suspect n
      s.watched = true ∧ good.isEmpty = false) ∧
  (∃ (s : State),
      let n := s.fld 3 THM.THM_STAT.STEP
      s.pwr.phase = .run ∧ s.enabled 3 = true ∧ s.hotNow > 1600 ∧ n < 15) ∧
  (∃ (s : State),
      let n := s.fld 3 THM.THM_STAT.STEP
      s.pwr.phase = .run ∧ s.enabled 3 = true ∧ s.hotNow < 1520 ∧ n > 0) ∧
  (∃ (places : List BrickPlace) (dur : Nat) (vend : Nat) (s : State),
      let s1 := (s.setB 3 THM.THM_STAT.TRIP true).raise 3 4 0
      s.pwr.phase = .run ∧ s.hotNow ≥ 16 * (s.tripTemp : Int) ∧ s1.shutFits places = true) ∧
  (∃ (memFail : Bool) (badBlobs : List Nat) (attOk : Bool) (badCl : List Nat) (s : State),
      s.pwr.phase = .tripHeld ∧ (((List.range 30).all fun n => s.suspect n || decide (s.sensorRaw n < 1360)) = true)) :=
  ⟨⟨0, 0, 0, false, false, run, by decide +kernel⟩,
   ⟨[], List.replicate 30 0, run, by decide +kernel⟩,
   ⟨0, run.set 3 THM.SENS_SUSPECT.SUSPECT 1, by decide +kernel⟩,
   ⟨run, by decide +kernel⟩,
   ⟨(on [3]).set (bank 3 1) THM.NODE_T.NODE 1700, by decide +kernel⟩,
   ⟨(on [3]).set 3 THM.THM_STAT.STEP 3, by decide +kernel⟩,
   ⟨[], 0, 0, (on [3]).set (bank 3 1) THM.NODE_T.NODE 2100, by decide +kernel⟩,
   ⟨false, [], true, [], ({ run with pwr := { run.pwr with phase := .tripHeld } } : State), by decide +kernel⟩⟩

/-- States and operands that meet the hypotheses of `Obligations.FaultCommandsComplete`, clause by clause. -/
theorem witness_FaultCommandsComplete :
  (∃ (core : Nat) (cause : Nat) (recent : Nat) (places : List BrickPlace) (dur : Nat) (vend : Nat) (s : State),
      s.pwr.phase = .run ∧ core < 8 ∧ (1 ≤ cause ∧ cause ≤ 4) ∧ s.sys.cpxDown = false ∧ s.faultFits places = true) ∧
  (∃ (mchk : Bool) (recent : Nat) (places : List BrickPlace) (dur : Nat) (vend : Nat) (s : State),
      s.pwr.phase = .run ∧ s.sys.mgpDown = false ∧ s.faultFits places = true) ∧
  (∃ (set : Nat) (ms : Nat) (bad : List Nat) (s : State),
      s.pwr.phase = .run ∧ set < 2 ∧ (if set = 0 then s.sys.cpxDown else s.sys.mgpDown) = true ∧ set = 0) ∧
  (∃ (set : Nat) (ms : Nat) (bad : List Nat) (s : State),
      s.pwr.phase = .run ∧ set < 2 ∧ (if set = 0 then s.sys.cpxDown else s.sys.mgpDown) = true ∧ set = 1) ∧
  (∃ (set : Nat) (places : List BrickPlace) (dur : Nat) (vend : Nat) (s : State),
      s.pwr.phase = .run ∧ set < 2 ∧ (if set = 0 then s.sys.cpxDown else s.sys.mgpDown) = true ∧ s.resetFits places = true) ∧
  (∃ (c : Nat) (acc : Bool) (dest : Nat) (s : State),
      s.pwr.phase = .run ∧ clOk s.part c = true ∧ clOk s.part dest = true ∧ dest ≠ c ∧ s.sys.lostClusters.contains c = false ∧ s.pwr.asleep.contains (domOfCl c) = false) ∧
  (∃ (acc : Accessor) (mask : Nat) (s : State),
      s.pwr.phase = .run ∧ acc.isPf1 = false ∧ bitOf mask 5 = false ∧ bitOf mask 6 = false) ∧
  (∃ (nsid : Nat) (s : State),
      let clean := (s.buf.lines.all fun kv => decide (kv.2.nsid ≠ nsid) || decide (kv.2.dirty = 0)) && s.mason.bricks.all fun b => decide (b.nsid ≠ nsid)
      s.pwr.phase = .run ∧ s.nor.dirtyNs.contains nsid = true ∧ clean = true) :=
  ⟨⟨0, 1, 0, [], 0, 0, run, by decide +kernel⟩,
   ⟨true, 0, [], 0, 0, run, by decide +kernel⟩,
   ⟨0, 5, [], run.onSys fun x => { x with cpxDown := true }, by decide +kernel⟩,
   ⟨1, 5, [], run.onSys fun x => { x with mgpDown := true }, by decide +kernel⟩,
   ⟨0, [], 0, 0, run.onSys fun x => { x with cpxDown := true }, by decide +kernel⟩,
   ⟨0, true, 1, run, by decide +kernel⟩,
   ⟨.mgp, 1, run, by decide +kernel⟩,
   ⟨5, run.onNor fun x => { x with dirtyNs := [5] }, by decide +kernel⟩⟩

/-- States and operands that meet the hypotheses of `Obligations.RecorderCommandsComplete`, clause by clause. -/
theorem witness_RecorderCommandsComplete :
  (∃ (w0 : Bool) (w1 : Bool) (s : State),
      s.pwr.phase = .run ∧ s.io.hst.nor ≠ s.io.hst.mem) ∧
  (∃ (s : State),
      s.pwr.phase = .run ∧ s.pwr.phase = .run) ∧
  (∃ (minute : List (Nat × Int)) (s : State),
      s.pwr.phase = .run ∧ s.sys.mgpDown = false) ∧
  (∃ (acc : Accessor) (s : State),
      s.pwr.phase = .run ∧ (acc.isPf1 && decide (s.lifeCycle ≥ 2)) = false) ∧
  (∃ (acc : Accessor) (s : State),
      s.pwr.phase = .run ∧ (acc.isPf1 && decide (s.lifeCycle ≥ 2)) = false) ∧
  (∃ (acc : Accessor) (r : Rec) (s : State),
      s.pwr.phase = .run ∧ s.recSelected acc = some r) :=
  ⟨⟨true, true, run.onHst fun h => { h with mem := { h.mem with first := [⟨1, 0, 0, 0, 5, 1, 0, 0, 0, 0, 1⟩] } }, by decide +kernel⟩,
   ⟨run, by decide +kernel⟩,
   ⟨[], run, by decide +kernel⟩,
   ⟨.mgp, run, by decide +kernel⟩,
   ⟨.mgp, run, by decide +kernel⟩,
   ⟨.mgp, ⟨1, 0, 0, 0, 5, 1, 0, 0, 0, 0, 1⟩, run.onHst fun h => { h with mem := { h.mem with first := [⟨1, 0, 0, 0, 5, 1, 0, 0, 0, 0, 1⟩] } }, by decide +kernel⟩⟩

/-- States and operands that meet the hypotheses of `Obligations.StartCommandsComplete`, clause by clause. -/
theorem witness_StartCommandsComplete :
  (∃ (memFail : Bool) (badBlobs : List Nat) (attOk : Bool) (badCl : List Nat) (s : State),
      ((decide (s.pwr.phase ∈ [Phase.aon, .held]) && (s.pwr.fet || s.sys.resetReq.isSome)) || (decide (s.pwr.phase = .run) && decide (s.fld 0 DEV.BOOT_STAT.STAGE = 0))) = true) ∧
  (∃ (ms : Nat) (s : State),
      s.pwr.phase = .run ∧ s.fld 0 DEV.BOOT_STAT.STAGE = 10 ∧ (((List.range 64).all fun n => !bitOf s.nor.bootSlots n || bootSlotUp s n) = true)) ∧
  (∃ (s : State),
      s.pwr.phase = .run ∧ s.fld 0 DEV.BOOT_STAT.STAGE ≥ 7 ∧ ((s.nvme.ns.any fun kv => kv.2.live && !kv.2.ready) = true)) ∧
  (∃ (places : List BrickPlace) (dur : Nat) (vend : Nat) (s : State),
      let s1 := s.raise 0xE 2 0
      s.pwr.phase = .run ∧ wdgArmed s 9 = true ∧ s1.resetFits places = true) ∧
  (∃ (core : Nat) (recent : Nat) (places : List BrickPlace) (dur : Nat) (vend : Nat) (s : State),
      let s1 := (s.bump 0xE WDG.WDG_CNT.CPX_EXP).raise 0xE 0 core
      s.pwr.phase = .run ∧ core < 8 ∧ wdgArmed s core = true ∧ s.sys.cpxDown = false ∧ s1.faultFits places = true) ∧
  (∃ (recent : Nat) (places : List BrickPlace) (dur : Nat) (vend : Nat) (s : State),
      let s1 := (s.bump 0xE WDG.WDG_CNT.MGP_EXP).raise 0xE 1 0
      s.pwr.phase = .run ∧ wdgArmed s 8 = true ∧ s.sys.mgpDown = false ∧ s1.faultFits places = true) ∧
  (∃ (n : Nat) (s : State),
      s.pwr.phase = .run ∧ wdgArmed s n = true ∧ s.sys.warned.contains n = false ∧ n < 8) ∧
  (∃ (acc : Accessor) (value : Word) (s : State),
      s.pwr.phase = .run ∧ acc = .mgp ∧ value.toNat % 16 = 8 ∧ value.toNat / 2 ^ 16 = 0xA55A ∧ wdgArmed s 8 = true) ∧
  (∃ (acc : Accessor) (value : Word) (s : State),
      s.pwr.phase = .run ∧ acc = .mgp ∧ value.toNat / 2 ^ 16 ≠ 0xA55A) ∧
  (∃ (acc : Accessor) (value : Word) (places : List BrickPlace) (dur : Nat) (vend : Nat) (s : State),
      s.pwr.phase = .run ∧ value.toNat % 2 = 1 ∧ value.toNat / 2 ^ 16 = 0x7128 ∧ s.resetFits places = true) ∧
  (∃ (acc : Accessor) (s : State),
      s.pwr.phase = .run ∧ s.flag 0 DEV.BOOT_STAT.RECOVERY = true) ∧
  (∃ (acc : Accessor) (value : Word) (s : State),
      s.pwr.phase = .run ∧ s.flag 0 DEV.BOOT_STAT.RECOVERY = true ∧ s.sys.rcvOpen = true ∧ s.sys.rcv.length + 4 ≤ imageMax) ∧
  (∃ (acc : Accessor) (w0 : Bool) (w1 : Bool) (s : State),
      s.pwr.phase = .run ∧ s.flag 0 DEV.BOOT_STAT.RECOVERY = true ∧ s.sys.rcvOpen = true ∧ s.fld 0 DEV.RCV_CTL.RESULT = 5) ∧
  (∃ (acc : Accessor) (w0 : Bool) (w1 : Bool) (s : State),
      s.pwr.phase = .run ∧ s.flag 0 DEV.BOOT_STAT.RECOVERY = true ∧ s.sys.rcvOpen = true ∧ s.fld 0 DEV.RCV_CTL.RESULT ≠ 5) ∧
  (∃ (acc : Accessor) (places : List BrickPlace) (dur : Nat) (vend : Nat) (s : State),
      let s1 := [1, 2].foldl (fun (s : State) n => (s.set 0 (State.triesOf n) 0).setB 0 (State.failedOf n) false) s
      s.pwr.phase = .run ∧ s1.resetFits places = true) ∧
  (∃ (port : Nat) (s : State),
      let none_ := decide (s.fld 0 DEV.BOOT_STAT.FAIL_STAGE ≠ 0) || s.flag 0 DEV.BOOT_STAT.RECOVERY || decide (s.lifeCycle ≠ 1 ∧ s.lifeCycle ≠ 2)
        || decide (bitsOf (s.fld 2 PWC.RAIL_STAT.FAILED) 3 2 ≠ 0)
      s.pwr.phase = .run ∧ port < 2 ∧ s.sys.perst.contains port = true ∧ none_ = true) ∧
  (∃ (area : Nat) (dev : Nat) (good : Bool) (s : State),
      let k := area * 2 + dev
      s.pwr.phase = .run ∧ dev < 2 ∧ good = true ∧ s.io.hst.hours ≥ Tab.get 0 s.nor.refreshed k + 17520 * 16) :=
  ⟨⟨false, [], true, [], run, by decide +kernel⟩,
   ⟨5, run.set 0 DEV.BOOT_STAT.STAGE 10, by decide +kernel⟩,
   ⟨(run.set 0 DEV.BOOT_STAT.STAGE 7).setNs 1 { nsBlk 0 with ready := false }, by decide +kernel⟩,
   ⟨[], 0, 0, (run.set 0 DEV.BOOT_STAT.STAGE 3).setB 0xE WDG.WDG_STAT.BOOT_ARMED true, by decide +kernel⟩,
   ⟨0, 0, [], 0, 0, run.set 0xE WDG.WDG_STAT.CPX_ARMED 1, by decide +kernel⟩,
   ⟨0, [], 0, 0, run.setB 0xE WDG.WDG_STAT.MGP_ARMED true, by decide +kernel⟩,
   ⟨0, run.set 0xE WDG.WDG_STAT.CPX_ARMED 1, by decide +kernel⟩,
   ⟨.mgp, 0xA55A0008, run.setB 0xE WDG.WDG_STAT.MGP_ARMED true, by decide +kernel⟩,
   ⟨.mgp, 0, run, by decide +kernel⟩,
   ⟨.mgp, 0x71280001, [], 0, 0, run, by decide +kernel⟩,
   ⟨.mgp, rcv, by decide +kernel⟩,
   ⟨.mgp, 5, rcv, by decide +kernel⟩,
   ⟨.mgp, true, true, rcv.set 0 DEV.RCV_CTL.RESULT 5, by decide +kernel⟩,
   ⟨.mgp, true, true, rcv, by decide +kernel⟩,
   ⟨.mgp, [], 0, 0, run, by decide +kernel⟩,
   ⟨0, ({ run with sys := { run.sys with perst := [0] } }), by decide +kernel⟩,
   ⟨0, 0, true, run.onHst fun h => { h with hours := 999999999 }, by decide +kernel⟩⟩

/-- States and operands that meet the hypotheses of `Obligations.StepRunsFrontCommand`. -/
theorem witness_StepRunsFrontCommand :
  (∃ (s : State) (c : Instr) (rest : List Instr), s.pending = c :: rest) :=
  ⟨{ run with pending := [.pageLock .mgp 5, .pageThaw .mgp 5] }, _, _, rfl⟩

/-- States and operands that meet the hypotheses of `Obligations.EmptyQueueIdles`. -/
theorem witness_EmptyQueueIdles :
  (∃ s : State, s.pending = []) :=
  ⟨run, rfl⟩

/-- States and operands that meet the hypotheses of `Obligations.ResetGivesTheResetColumn`. -/
theorem witness_ResetGivesTheResetColumn :
  (∃ pg < 256, present State.reset.part pg = true ∧ ∃ f, f ∈ pageFields pg) :=
  ⟨0xFF, by decide, by decide +kernel, HDR.PG_CTL.LOCK, by decide +kernel⟩

/-- States and operands that meet the hypotheses of `Obligations.RaisedEventsStayPending`. -/
theorem witness_RaisedEventsStayPending :
  (∃ (s : State) (pg bit : Nat), present s.part pg = true ∧ bit < 32) :=
  ⟨run, 0xFF, 31, by decide +kernel⟩

/-- States and operands that meet the hypotheses of `Obligations.HeaderCommandsTouchTheirPage`. -/
theorem witness_HeaderCommandsTouchTheirPage :
  (∃ (c : Instr) (pg : Nat) (s t : State), Claims.ownPage c = some pg ∧ pg < 256 ∧ exec c s = .next t) ∧
  (∃ (acc : Accessor) (pg : Nat) (v : Word) (s t : State), (exec (.evPendClear acc pg v) s = .next t ∨ exec (.evEnWrite acc pg v) s = .next t ∨ exec (.evRouteWrite acc pg v) s = .next t)) :=
  ⟨⟨.pageLock .mgp 255, 255, run, _, rfl, by decide, rfl⟩,
   ⟨.mgp, 255, 1, run, _, .inr (.inl rfl)⟩⟩

/-- States and operands that meet the hypotheses of `Obligations.StorelessCommandsKeepMemory`. -/
theorem witness_StorelessCommandsKeepMemory :
  (∃ (c : Instr) (s t : State), Claims.storesNothing c = true ∧ exec c s = .next t) :=
  ⟨.pageFreeze .mgp 255, run, _, rfl, rfl⟩

/-- States and operands that meet the hypotheses of `Obligations.LowReadLatchesHighHalf`. -/
theorem witness_LowReadLatchesHighHalf :
  (∃ (acc : Accessor) (addr : Nat) (s : State), s.pwr.phase = .run ∧ addr < 2 ^ 20 ∧ isLow (addrPage addr) (addrOfs addr) = true ∧ present s.part (addrPage addr) = true ∧ s.closedRead acc (addrPage addr) (addrOfs addr) = false ∧ s.inReset (addrPage addr) (addrOfs addr) = false) ∧
  (∃ (acc : Accessor) (addr : Nat) (w : Word) (s : State), s.pwr.phase = .run ∧ addr < 2 ^ 20 ∧ isHigh (addrPage addr) (addrOfs addr) = true ∧ present s.part (addrPage addr) = true ∧ s.closedRead acc (addrPage addr) (addrOfs addr) = false ∧ s.inReset (addrPage addr) (addrOfs addr) = false ∧ s.latch acc (addrPage addr) = some w) :=
  ⟨⟨.mgp, 0x19094, run, by decide +kernel⟩,
   ⟨.mgp, 0x19098, 7, run.setLatch .mgp 0x19 (some 7), by decide +kernel⟩⟩

/-- States and operands that meet the hypotheses of `Obligations.LockHoldsTheRoute`. -/
theorem witness_LockHoldsTheRoute :
  (∃ (acc : Accessor) (pg : Nat) (v : Word) (s t : State), s.io.locked pg = true ∧ acc ≠ .mgp ∧ exec (.evRouteWrite acc pg v) s = .next t) ∧
  (∃ (acc : Accessor) (pg : Nat) (v : Word) (s t : State), s.pwr.phase = .run ∧ present s.part pg = true ∧ s.io.locked pg = true ∧ acc ≠ .mgp ∧ s.closedWrite acc pg 0 = false ∧ (∃ f ∈ [HDR.EV_ROUTE.VECTOR, HDR.EV_ROUTE.PIN, HDR.EV_ROUTE.MGP, HDR.EV_ROUTE.CPX, HDR.EV_ROUTE.MSIX], bitsOf v.toNat f.hi f.lo ≠ s.fld pg f) ∧ exec (.evRouteWrite acc pg v) s = .next t) ∧
  (∃ (acc : Accessor) (pg : Nat) (v : Word) (s t : State), s.pwr.phase = .run ∧ present s.part pg = true ∧ (s.io.locked pg = false ∨ acc = .mgp) ∧ s.closedWrite acc pg 0 = false ∧ exec (.evRouteWrite acc pg v) s = .next t) :=
  ⟨⟨.cpx, 255, 1, run.setB 255 HDR.PG_CTL.LOCK true, _, by decide +kernel, by decide, rfl⟩,
   ⟨.cpx, 255, 1, run.setB 255 HDR.PG_CTL.LOCK true, _, rfl, by decide +kernel, by decide +kernel, by decide, by decide +kernel, ⟨HDR.EV_ROUTE.MSIX, by decide, by decide +kernel⟩, rfl⟩,
   ⟨.mgp, 255, 1, run.setB 255 HDR.PG_CTL.LOCK true, _, rfl, by decide +kernel, .inr rfl, by decide +kernel, rfl⟩⟩

/-- States and operands that meet the hypotheses of `Obligations.AbsentPagesReadZero`. -/
theorem witness_AbsentPagesReadZero :
  (∃ (acc : Accessor) (addr : Nat) (s : State), s.pwr.phase = .run ∧ addr < 2 ^ 20 ∧ addr % 4 = 0 ∧ present s.part (addrPage addr) = false) ∧
  (∃ pg, pg ∈ Claims.absentPages ∨ (0x28 ≤ pg ∧ pg < 0x30) ∨ (0x38 ≤ pg ∧ pg < 0x40) ∨ (0xC0 ≤ pg ∧ pg < 0x100)) :=
  ⟨⟨.mgp, 0x7FFFC, run, by decide +kernel⟩,
   ⟨0x67, .inl (by decide)⟩⟩

/-- States and operands that meet the hypotheses of `Obligations.SpindleTargetIsBounded`. -/
theorem witness_SpindleTargetIsBounded :
  (∃ (n rpm : Nat) (s : State), s.pwr.phase = .run ∧ slotOk s.part n = true ∧ (let nom := s.sp n SPM.SPk_TARGET.NOM_RPM
    let r := rpm % 2 ^ 13
    let target := if r = 0 then nom else min 7200 (max 3000 r)
    target ≠ nom ∧ s.bothOpen n = false)) ∧
  (∃ (n rpm : Nat) (s : State), s.pwr.phase = .run ∧ slotOk s.part n = true ∧ (let nom := s.sp n SPM.SPk_TARGET.NOM_RPM
    let r := rpm % 2 ^ 13
    let target := if r = 0 then nom else min 7200 (max 3000 r)
    target = nom ∨ s.bothOpen n = true)) :=
  ⟨⟨63, 2999, run.set 0xFE ACT.SV_CTL.STATE 3, by decide +kernel⟩,
   ⟨63, 7201, run, by decide +kernel⟩⟩

/-- States and operands that meet the hypotheses of `Obligations.MotorRegistersOnlyWhileStopped`. -/
theorem witness_MotorRegistersOnlyWhileStopped :
  (∃ (acc : Accessor) (n k : Nat) (s : State), s.pwr.phase = .run ∧ slotOk s.part n = true ∧ k ∈ motorRegs ∧ s.spState n ≠ 0 ∧ s.spState n ≠ 9) ∧
  (∃ (acc : Accessor) (n k : Nat) (s : State), s.pwr.phase = .run ∧ slotOk s.part n = true ∧ k ∈ motorRegs ∧ (s.spState n = 0 ∨ s.spState n = 9) ∧ (s.io.locked (pgSpm (n / 4)) = false ∨ acc = .mgp)) ∧
  (∃ (e : Nat) (s : State), s.pwr.phase = .run ∧ engOk s.part e = true) :=
  ⟨⟨.mgp, 0, 0xA8, spAt 8, by decide +kernel⟩,
   ⟨.cpx, 0, 0x90, spAt 9, by decide +kernel⟩,
   ⟨15, run, by decide +kernel⟩⟩

/-- States and operands that meet the hypotheses of `Obligations.CommitModeFifo`. -/
theorem witness_CommitModeFifo :
  (∃ (s : State) (n w item : Nat), isGf n = true ∧ s.enabled 0xC = true ∧ s.fifoMode n = 2 ∧ item ≠ s.idleItem n ∧ ((s.io.fifo n).claimer = none ∨ (s.io.fifo n).claimer = some w) ∧ Io.fifoUsed (s.io.fifo n) < Io.fifoDepth n) ∧
  (∃ (s : State) (n w item : Nat), isGf n = true ∧ s.enabled 0xC = true ∧ s.fifoMode n = 2 ∧ item ≠ s.idleItem n ∧ ((s.io.fifo n).claimer = none ∨ (s.io.fifo n).claimer = some w) ∧ Io.fifoDepth n ≤ Io.fifoUsed (s.io.fifo n)) ∧
  (∃ (s : State) (n w item : Nat), isGf n = true ∧ s.enabled 0xC = true ∧ s.fifoMode n = 2 ∧ (s.io.fifo n).claimer = some w) ∧
  (∃ (s : State) (n core : Nat) (acc : Accessor), isGf n = true ∧ s.enabled 0xC = true ∧ s.fifoMode n = 2 ∧ s.pwr.phase = .run ∧ s.fifoMay acc s.fifoSel = true) ∧
  (∃ (s : State) (n agent : Nat), isGf n = true ∧ s.enabled 0xC = true ∧ s.fifoMode n = 2 ∧ s.pwr.phase = .run ∧ (accOf agent).isNone = true ∧ agent < 256) :=
  ⟨⟨gfAt 63, 0xC0, 1, 5, by decide +kernel⟩,
   ⟨gfAt 64, 0xC0, 1, 5, by decide +kernel⟩,
   ⟨gfAt 64, 0xC0, 1, 5, by decide +kernel⟩,
   ⟨gfAt 3, 0xC0, 0, .mgp, by decide +kernel⟩,
   ⟨gfAt 3, 0xC0, 255, by decide +kernel⟩⟩

/-- States and operands that meet the hypotheses of `Obligations.NoneLinesAreUnchecked`. -/
theorem witness_NoneLinesAreUnchecked :
  (∃ (s : State) (r addr : Nat), s.rgnCode r = 0 ∧ s.pwr.phase = .run ∧ s.rgnOf addr = some r ∧ s.rgnWiping r = false) ∧
  (∃ (s : State) (r addr : Nat) (bytes : List Nat), s.rgnCode r = 0 ∧ s.pwr.phase = .run ∧ s.rgnOf addr = some r ∧ s.rgnWiping r = false ∧ State.inLine addr bytes.length = true ∧ s.poisonedRange addr bytes.length = false) :=
  ⟨⟨rgnOne 0, 0, 0x7FFFFF, by decide +kernel⟩,
   ⟨rgnOne 0, 0, 0x7FFFFF, [5], by decide +kernel⟩⟩

/-- States and operands that meet the hypotheses of `Obligations.FullWriteStoresItsBytes`. -/
theorem witness_FullWriteStoresItsBytes :
  (∃ (addr : Nat) (bytes : List Nat) (r : Nat) (s : State), s.pwr.phase = .run ∧ s.rgnOf addr = some r ∧ s.rgnWiping r = false ∧ State.inLine addr bytes.length = true ∧ addr % s.codeUnit r = 0 ∧ bytes.length % s.codeUnit r = 0) :=
  ⟨0x7FFFC0, List.replicate 64 5, 0, rgnOne 2, by decide +kernel⟩

/-- States and operands that meet the hypotheses of `Obligations.KeySerialAdvances`. -/
theorem witness_KeySerialAdvances :
  (∃ s : State, s.pwr.phase = .run ∧ s.domSt (s.fld 9 SEC.DOM_SEL.DOM) = 0 ∧ s.fld 9 SEC.KSERIAL.NEXT = 0xFFFFFFFF) ∧
  (∃ (w0 w1 : Bool) (s : State), s.pwr.phase = .run ∧ s.domSt (s.fld 9 SEC.DOM_SEL.DOM) = 0 ∧ s.fld 9 SEC.KSERIAL.NEXT ≠ 0xFFFFFFFF ∧ (w0 = true ∨ w1 = true)) :=
  ⟨⟨run.set 9 SEC.KSERIAL.NEXT 0xFFFFFFFF, by decide +kernel⟩,
   ⟨false, true, run.set 9 SEC.KSERIAL.NEXT 0xFFFFFFFE, by decide +kernel⟩⟩

/-- States and operands that meet the hypotheses of `Obligations.StepKeepsCanonicalForm`. -/
theorem witness_StepKeepsCanonicalForm :
  (∃ s t : State, s.wf = true ∧ step s = .next t) :=
  ⟨{ run with pending := [.pageLock .mgp 5] }, _, by decide +kernel, rfl⟩

/-- States and operands that meet the hypotheses of `Obligations.StepKeepsIdentityAndQueue`. -/
theorem witness_StepKeepsIdentityAndQueue :
  (∃ s t : State, step s = .next t) :=
  ⟨{ run with pending := [.pageLock .mgp 5] }, _, rfl⟩

/-! ### WellFormed refuses an ill-formed command of each check -/

theorem test_wf_address_alignment : WellFormed (.registerWrite .mgp 2 0 true) = false := by decide
theorem test_wf_address_range : WellFormed (.rcRegisterRead .mgp 0x100000) = false := by decide
theorem test_wf_page : WellFormed (.pageLock .mgp 256) = false := by decide
theorem test_wf_source : WellFormed (.errInjOneshot .mgp 5 32) = false := by decide
theorem test_wf_actuator : WellFormed (.trainT1Pass 128) = false := by decide
theorem test_wf_slot : WellFormed (.spindleClear 64) = false := by decide
theorem test_wf_cluster : WellFormed (.decoderParityError 8 0) = false := by decide
theorem test_wf_decoder : WellFormed (.decoderParityError 0 20) = false := by decide
theorem test_wf_engine : WellFormed (.traceStop 16 0) = false := by decide
theorem test_wf_channel : WellFormed (.hodNop 32) = false := by decide
theorem test_wf_fifo : WellFormed (.claimTimeout 1024) = false := by decide
theorem test_wf_control_store : WellFormed (.csParityRepair 0 8192 0) = false := by decide
theorem test_wf_head : WellFormed (.qualityCheck 0 12) = false := by decide
theorem test_wf_pool : WellFormed (.poolSlotsWrite .mgp 8 0) = false := by decide
theorem test_wf_port : WellFormed (.pcieLinkUp 2 0 0) = false := by decide
theorem test_wf_region : WellFormed (.regionValidSet .mgp 16) = false := by decide
theorem test_wf_life_cycle : WellFormed (.lcTransitionRequest .mgp 5 [] 0 0) = false := by decide
theorem test_wf_cipher_engine : WellFormed (.xtsMessageResume 9 true true) = false := by decide
theorem test_wf_domain : WellFormed (.sleepRequest 15) = false := by decide
theorem test_wf_rail : WellFormed (.railPgTimeout 7 0) = false := by decide
theorem test_wf_sensor : WellFormed (.sensorTrustRestore 30) = false := by decide
theorem test_wf_watchdog : WellFormed (.watchdogPrewarn 10) = false := by decide
theorem test_wf_vector : WellFormed (.msixVectorUnmask 0 128) = false := by decide
theorem test_wf_accepts : WellFormed (.registerWrite .mgp 0xFFFFC 0 true) = true := by decide

/-! ### Worked examples of the spec -/

/-- The worked example of R35, on MAP.WALK_CNT: the low read returns 0xFFFF_FFFF, latches 1 and clears the count. -/
theorem test_low_read_of_a_count :
    (match exec (.lowWordRead .mgp 0x19094) (run.set 0x19 MAP.WALK_CNT.LOOKUPS 0x1FFFFFFFF) with
      | .next t => (Tab.get 0 t.io.readData 3, t.latch .mgp 0x19, t.fld 0x19 MAP.WALK_CNT.LOOKUPS)
      | _ => (0, none, 0)) = (0xFFFFFFFF, some 1, 0) := by decide +kernel

/-- The shifts that chapter 4 gives for checking an implementation. -/
theorem test_ldpc_shifts :
    [(0, 0), (1, 10), (3, 40), (5, 12), (6, 64)].map (fun p => ldpcShift p.1 p.2) = [9, 355, 279, 411, 293] := by decide

/-- Step 5 of the worked example of chapter 4: the scrambler's seed of slot 1,004 of tile 0x5D00_BB80. -/
theorem test_scrambler_seed : scrSeed 0x5D00BB80 0x3EC = 0x5DFBBB80 := by decide

/-- The tweak of the worked example of R390. -/
theorem test_tweak : tweakOf 0x5D00BB80 1000 7 = 0x5D00BB8003E800000007000000000000 := by decide

/-- The example of R163: a difference of 147,200 at nominal speed gives 8,192. -/
theorem test_fine_position : finePos 147200 = 8192 := by decide

/-- The ceiling of the worked example of chapter 12: 2,725 mJ, 150 W, 4,000 µs and 24,000 MB/s give 185 MiB. -/
theorem test_ceiling :
    ((((((run.set 4 CAL.HU_E.E 2725).set 0x14 SCC.SCC_HU.SD_W 150).set 0x14 SCC.SCC_HU.T_FIX 4000).set 0x14
      SCC.SCC_DRATE.DEST_RATE 24000).setB 4 CAL.CAL_STAT.HU_VALID true).setB 1 CLKG.CLK_STAT.RING false).ceilingNow = 185 := by decide +kernel

/-- R205: values from 1 to 2,999 act as 3,000. -/
theorem test_target_floor : (run.spSet 0 SPM.SPk_TARGET.RPM 1).targetRpm 0 = 3000 := by decide +kernel

/-- R2: the pages of an absent cluster read 0, PG_ID included. -/
theorem test_absent_page :
    (({ run with io := { run.io with part := .h7064 } } : State).shown .mgp 0x44 0).toNat = 0 := by decide +kernel

/-- The table gives its rows no bits, so no word spells a command. -/
theorem test_no_word : decodeTableWord 32 0 = none := rfl

/-- R37, R474: every LOCK is 0 after reset, and the registers and memories are in canonical form. -/
theorem test_reset : State.reset.wf = true ∧ State.reset.io.locked 0xFF = false := by decide +kernel

end Sys2Proof.Tests
end

/-! ### Every command keeps the identity and the queue (R1, R4, R32) -/

namespace Sys2Proof.Machine

/-- Each command ends in a next state, which keeps the queue, the part, its grade, its revision and the canonical form. The
fact of each meaning stands in Laws/Keep*.lean. -/
theorem exec_good (c : Instr) (s : State) : Good s (exec c s) :=
  match c with
  | .registerWrite acc addr value fullBe => execRegisterWrite_good acc addr value fullBe s
  | .rcRegisterRead acc addr => execRcRegisterRead_good acc addr s
  | .lowWordRead acc addr => execLowWordRead_good acc addr s
  | .highWordRead acc addr => execHighWordRead_good acc addr s
  | .lowWordWrite acc addr value => execLowWordWrite_good acc addr value s
  | .highWordWrite acc addr value => execHighWordWrite_good acc addr value s
  | .pageLock acc pg => execPageLock_good acc pg s
  | .pageFreeze acc pg => execPageFreeze_good acc pg s
  | .pageThaw acc pg => execPageThaw_good acc pg s
  | .softReset acc pg enable => execSoftReset_good acc pg enable s
  | .softResetDone pg => execSoftResetDone_good pg s
  | .blockEnable acc pg => execBlockEnable_good acc pg s
  | .blockDisable acc pg => execBlockDisable_good acc pg s
  | .evPendClear acc pg mask => execEvPendClear_good acc pg mask s
  | .evSet acc pg mask => execEvSet_good acc pg mask s
  | .evEnWrite acc pg value => execEvEnWrite_good acc pg value s
  | .evRouteWrite acc pg value => execEvRouteWrite_good acc pg value s
  | .winCfgStore acc pg value => execWinCfgStore_good acc pg value s
  | .winCfgSelect acc pg value => execWinCfgSelect_good acc pg value s
  | .errInjOneshot acc pg src => execErrInjOneshot_good acc pg src s
  | .errInjCont acc pg src => execErrInjCont_good acc pg src s
  | .windowLeak pg src => execWindowLeak_good pg src s
  | .lastingAction pg src dest again => execLastingAction_good pg src dest again s
  | .wakePatternDetected a => execWakePatternDetected_good a s
  | .trainT1Pass a => execTrainT1Pass_good a s
  | .configSend a => execConfigSend_good a s
  | .identReceived a ident => execIdentReceived_good a ident s
  | .eqAdapted a => execEqAdapted_good a s
  | .trainT4Pass a => execTrainT4Pass_good a s
  | .trainPhaseTimeout a => execTrainPhaseTimeout_good a s
  | .losTimeout a => execLosTimeout_good a s
  | .invalidBlockHeader a lane => execInvalidBlockHeader_good a lane s
  | .sampleFlit a lane sseq samples => execSampleFlit_good a lane sseq samples s
  | .timeFlit a lane index sseq => execTimeFlit_good a lane index sseq s
  | .statusFlit a status ce ue => execStatusFlit_good a status ce ue s
  | .checkFlit a lane group crcOk => execCheckFlit_good a lane group crcOk s
  | .reservedTypeFlit a lane => execReservedTypeFlit_good a lane s
  | .sampleGapDetected a lane => execSampleGapDetected_good a lane s
  | .longStall a lane => execLongStall_good a lane s
  | .ackTimeout a => execAckTimeout_good a s
  | .linkRetrain acc a => execLinkRetrain_good acc a s
  | .dozeRequest acc a value => execDozeRequest_good acc a value s
  | .forceDown acc a value => execForceDown_good acc a value s
  | .retractSwWrite acc c value => execRetractSwWrite_good acc c value s
  | .retractHwRelease acc c => execRetractHwRelease_good acc c s
  | .retractHoldExpiry c => execRetractHoldExpiry_good c s
  | .unloadAckTimeout a signalLost => execUnloadAckTimeout_good a signalLost s
  | .parkWaitTimeout a => execParkWaitTimeout_good a s
  | .hdaAcceptance n fa fb da db ca cb => execHdaAcceptance_good n fa fb da db ca cb s
  | .tileReset id => execTileReset_good id s
  | .tileFirstWriteArm id => execTileFirstWriteArm_good id s
  | .tileClose id reason => execTileClose_good id reason s
  | .writePointerScan id found => execWritePointerScan_good id found s
  | .systemTileUpdate a readBackOk => execSystemTileUpdate_good a readBackOk s
  | .wedgeDemodulated a rec => execWedgeDemodulated_good a rec s
  | .softDetectionDone a m => execSoftDetectionDone_good a m s
  | .readWindowEnd a taps0 taps1 => execReadWindowEnd_good a taps0 taps1 s
  | .liveDecodeDone a d => execLiveDecodeDone_good a d s
  | .retryStoreCopyDone a u unit sram => execRetryStoreCopyDone_good a u unit sram s
  | .brickRelease a => execBrickRelease_good a s
  | .retryJobPost c unit urgent => execRetryJobPost_good c unit urgent s
  | .retryJobDeferredPost c => execRetryJobDeferredPost_good c s
  | .replayDone c unit => execReplayDone_good c unit s
  | .retryAttemptDone c dec d => execRetryAttemptDone_good c dec d s
  | .levelBoundaryDecision c tag tRb dest => execLevelBoundaryDecision_good c tag tRb dest s
  | .decoderParityError c dec => execDecoderParityError_good c dec s
  | .qmClear a => execQmClear_good a s
  | .fenceWrite c value => execFenceWrite_good c value s
  | .seqNext a upset => execSeqNext_good a upset s
  | .seqJump a upset => execSeqJump_good a upset s
  | .seqBranch a upset => execSeqBranch_good a upset s
  | .seqCall a upset => execSeqCall_good a upset s
  | .seqRet a upset => execSeqRet_good a upset s
  | .seqWait a upset => execSeqWait_good a upset s
  | .seqLoop a upset => execSeqLoop_good a upset s
  | .seqDispatch a upset => execSeqDispatch_good a upset s
  | .seqHalt a upset => execSeqHalt_good a upset s
  | .waitSatisfied a slots => execWaitSatisfied_good a slots s
  | .wgEffectiveLoss a => execWgEffectiveLoss_good a s
  | .gateEndTimeout a tag => execGateEndTimeout_good a tag s
  | .threadRun acc a => execThreadRun_good acc a s
  | .threadHalt acc a => execThreadHalt_good acc a s
  | .threadAbort acc a => execThreadAbort_good acc a s
  | .jobPost a item pred => execJobPost_good a item pred s
  | .csLoadEnable acc c value => execCsLoadEnable_good acc c value s
  | .csRepairEnable acc c value => execCsRepairEnable_good acc c value s
  | .digestClr acc c => execDigestClr_good acc c s
  | .csWordCommit acc c data4 => execCsWordCommit_good acc c data4 s
  | .csParityRepair c n word => execCsParityRepair_good c n word s
  | .zoneEntryStore acc c value => execZoneEntryStore_good acc c value s
  | .sqWordRead acc a => execSqWordRead_good acc a s
  | .servoUpdate e pipe lat ce ue ueIdx => execServoUpdate_good e pipe lat ce ue ueIdx s
  | .traceDone e => execTraceDone_good e s
  | .loopAcquired a => execLoopAcquired_good a s
  | .loadingOutputTick a => execLoadingOutputTick_good a s
  | .loadTimeout a => execLoadTimeout_good a s
  | .lostTimeout a => execLostTimeout_good a s
  | .unloadTimeout a => execUnloadTimeout_good a s
  | .settleTimeout a => execSettleTimeout_good a s
  | .loadRequest a => execLoadRequest_good a s
  | .unloadRequest a byThread => execUnloadRequest_good a byThread s
  | .retractLoopUnload a => execRetractLoopUnload_good a s
  | .loopClear a => execLoopClear_good a s
  | .setWrite a n => execSetWrite_good a n s
  | .seekRequest a track => execSeekRequest_good a track s
  | .coefMemWrite e value => execCoefMemWrite_good e value s
  | .servoMemRead acc e => execServoMemRead_good acc e s
  | .traceArm e value => execTraceArm_good e value s
  | .traceStop e value => execTraceStop_good e value s
  | .currentPeriodMissed n => execCurrentPeriodMissed_good n s
  | .speedTick n speed => execSpeedTick_good n speed s
  | .startProbeCheck n forward => execStartProbeCheck_good n forward s
  | .observerLost n => execObserverLost_good n s
  | .overcurrent n => execOvercurrent_good n s
  | .atSpeedReached n => execAtSpeedReached_good n s
  | .probeEnd n speed => execProbeEnd_good n speed s
  | .brakeTimeout n => execBrakeTimeout_good n s
  | .alignEnd n => execAlignEnd_good n s
  | .startTimeout n => execStartTimeout_good n s
  | .reacquired n speed theta => execReacquired_good n speed theta s
  | .reacquireTimeout n => execReacquireTimeout_good n s
  | .spindleStart n => execSpindleStart_good n s
  | .startPlaceAdmit => execStartPlaceAdmit_good s
  | .spindleStop n => execSpindleStop_good n s
  | .spindleClear n => execSpindleClear_good n s
  | .targetWrite n rpm => execTargetWrite_good n rpm s
  | .motorRegisterWrite acc n off value => execMotorRegisterWrite_good acc n off value s
  | .spindleMemAccess acc e write value => execSpindleMemAccess_good acc e write value s
  | .tempSample n t => execTempSample_good n t s
  | .tempStale n => execTempStale_good n s
  | .headThermalTick duty => execHeadThermalTick_good duty s
  | .qualityCheck a h => execQualityCheck_good a h s
  | .verifyDone a h live => execVerifyDone_good a h live s
  | .recalibrationSweepDone a h qs reps rise duty full => execRecalibrationSweepDone_good a h qs reps rise duty full s
  | .biasTableMeasure a avgs => execBiasTableMeasure_good a avgs s
  | .referenceCalibration start vref adc osc => execReferenceCalibration_good start vref adc osc s
  | .refGo acc vref adc osc fref ppm => execRefGo_good acc vref adc osc fref ppm s
  | .frefMeasure fref ppm => execFrefMeasure_good fref ppm s
  | .huGo acc => execHuGo_good acc s
  | .holdupMeasurementStart => execHoldupMeasurementStart_good s
  | .holdupMeasurementEnd drawn v1 v2 esr late => execHoldupMeasurementEnd_good drawn v1 v2 esr late s
  | .huAgeExpiry => execHuAgeExpiry_good s
  | .poolSlotsWrite acc p slots => execPoolSlotsWrite_good acc p slots s
  | .slotDrain n => execSlotDrain_good n s
  | .slotCancel n => execSlotCancel_good n s
  | .slotExclude acc n value => execSlotExclude_good acc n value s
  | .courseOpen p kind kdom number stNs stId cands background =>
    execCourseOpen_good p kind kdom number stNs stId cands background s
  | .mortarRowEncode course fill sramUe => execMortarRowEncode_good course fill sramUe s
  | .rowComplete course row => execRowComplete_good course row s
  | .courseClose course => execCourseClose_good course s
  | .reconstructionRead ix i1 got waits sramUe => execReconstructionRead_good ix i1 got waits sramUe s
  | .reconstructionWaitEnd ix i1 => execReconstructionWaitEnd_good ix i1 s
  | .brickDecision ix i1 kind urgentBg rebuildOk tRr tRb => execBrickDecision_good ix i1 kind urgentBg rebuildOk tRr tRb s
  | .heatSweep => execHeatSweep_good s
  | .replicaCommit ix course row => execReplicaCommit_good ix course row s
  | .compactionStart p => execCompactionStart_good p s
  | .extentMoveCommit ix course start => execExtentMoveCommit_good ix course start s
  | .rebuildStart n repl => execRebuildStart_good n repl s
  | .rebuildMemberSwitch course member => execRebuildMemberSwitch_good course member s
  | .drainMemberSwitch course member x => execDrainMemberSwitch_good course member x s
  | .rekeyStart d w0 w1 => execRekeyStart_good d w0 w1 s
  | .journalPagePersist jseq => execJournalPagePersist_good jseq s
  | .checkpointStart => execCheckpointStart_good s
  | .checkpointEnd bootSlots => execCheckpointEnd_good bootSlots s
  | .seekTableAccess acc write value => execSeekTableAccess_good acc write value s
  | .tableSegmentRebuild table idx => execTableSegmentRebuild_good table idx s
  | .deleteIoSubmissionQueue c qid => execDeleteIoSubmissionQueue_good c qid s
  | .createIoSubmissionQueue c qid size cqid prio contiguous =>
    execCreateIoSubmissionQueue_good c qid size cqid prio contiguous s
  | .deleteIoCompletionQueue c qid => execDeleteIoCompletionQueue_good c qid s
  | .createIoCompletionQueue c qid size vector contiguous => execCreateIoCompletionQueue_good c qid size vector contiguous s
  | .getLogPage c lid nsid ofs len rae => execGetLogPage_good c lid nsid ofs len rae s
  | .identify c cns nsid => execIdentify_good c cns nsid s
  | .abort c sqid cid others => execAbort_good c sqid cid others s
  | .setFeatures c fid nsid value data => execSetFeatures_good c fid nsid value data s
  | .getFeatures c fid nsid => execGetFeatures_good c fid nsid s
  | .asynchronousEventRequest c => execAsynchronousEventRequest_good c s
  | .namespaceCreate c set nsze ncap flbas nmic pool flags maxValue w0 w1 =>
    execNamespaceCreate_good c set nsze ncap flbas nmic pool flags maxValue w0 w1 s
  | .namespaceDelete c nsid => execNamespaceDelete_good c nsid s
  | .namespaceAttach c nsid ids => execNamespaceAttach_good c nsid ids s
  | .namespaceDetach c nsid ids => execNamespaceDetach_good c nsid ids s
  | .firmwareImageDownload c ofs bytes => execFirmwareImageDownload_good c ofs bytes s
  | .firmwareCommitReplace c slot next w0 w1 => execFirmwareCommitReplace_good c slot next w0 w1 s
  | .firmwareCommitNextBoot c slot => execFirmwareCommitNextBoot_good c slot s
  | .firmwareCommitActivate c slot => execFirmwareCommitActivate_good c slot s
  | .activationQuiesced ms => execActivationQuiesced_good ms s
  | .activationQuiesceTimeout => execActivationQuiesceTimeout_good s
  | .nvmeMiSend c r => execNvmeMiSend_good c r s
  | .nvmeMiReceive c => execNvmeMiReceive_good c s
  | .formatNvm c nsid ses w0 w1 => execFormatNvm_good c nsid ses w0 w1 s
  | .formatDone => execFormatDone_good s
  | .sanitizeCryptoErase c w0 w1 => execSanitizeCryptoErase_good c w0 w1 s
  | .sanitizeBlockErase c w0 w1 => execSanitizeBlockErase_good c w0 w1 s
  | .sanitizeOverwrite c w0 w1 => execSanitizeOverwrite_good c w0 w1 s
  | .sanitizeDone => execSanitizeDone_good s
  | .clearEventRecorder c tok => execClearEventRecorder_good c tok s
  | .getAttestationReport c nonce len w0 w1 => execGetAttestationReport_good c nonce len w0 w1 s
  | .unsupportedCommand c => execUnsupportedCommand_good c s
  | .flush c nsid => execFlush_good c nsid s
  | .flushComplete c => execFlushComplete_good c s
  | .write c nsid slba nlb fua data dptr => execWrite_good c nsid slba nlb fua data dptr s
  | .writeAcknowledge c => execWriteAcknowledge_good c s
  | .writeWaitEnd c => execWriteWaitEnd_good c s
  | .read c nsid slba nlb fua lr dptr media => execRead_good c nsid slba nlb fua lr dptr media s
  | .compare c nsid slba nlb data dptr media => execCompare_good c nsid slba nlb data dptr media s
  | .writeZeroes c nsid slba nlb fua => execWriteZeroes_good c nsid slba nlb fua s
  | .datasetManagement c nsid nr ad ranges => execDatasetManagement_good c nsid nr ad ranges s
  | .verify c nsid slba nlb media => execVerify_good c nsid slba nlb media s
  | .zoneClose c nsid slba all_ => execZoneClose_good c nsid slba all_ s
  | .zoneFinish c nsid slba all_ => execZoneFinish_good c nsid slba all_ s
  | .zoneOpen c nsid slba all_ => execZoneOpen_good c nsid slba all_ s
  | .zoneReset c nsid slba all_ => execZoneReset_good c nsid slba all_ s
  | .zoneOffline c nsid => execZoneOffline_good c nsid s
  | .zoneManagementReceive c nsid slba zra => execZoneManagementReceive_good c nsid slba zra s
  | .zoneAppend c nsid zslba nlb fua data dptr => execZoneAppend_good c nsid zslba nlb fua data dptr s
  | .store c nsid key size noOver onlyOver data dptr => execStore_good c nsid key size noOver onlyOver data dptr s
  | .retrieve c nsid key bufSize ofs dptr media => execRetrieve_good c nsid key bufSize ofs dptr media s
  | .delete c nsid key => execDelete_good c nsid key s
  | .exist c nsid key => execExist_good c nsid key s
  | .list c nsid key => execList_good c nsid key s
  | .sqDoorbellWrite ctl q value => execSqDoorbellWrite_good ctl q value s
  | .fetchResume => execFetchResume_good s
  | .cqDoorbellWrite ctl q value => execCqDoorbellWrite_good ctl q value s
  | .ccEnClear ctl => execCcEnClear_good ctl s
  | .ccEnSet ctl asq acq numVfs => execCcEnSet_good ctl asq acq numVfs s
  | .functionLevelReset port fn => execFunctionLevelReset_good port fn s
  | .portReset port cause => execPortReset_good port cause s
  | .vfEnableClear port => execVfEnableClear_good port s
  | .ccShnNormal ctl => execCcShnNormal_good ctl s
  | .ccShnAbrupt ctl => execCcShnAbrupt_good ctl s
  | .namespaceReady nsid sec => execNamespaceReady_good nsid sec s
  | .miReadDataStructure i3c pecOk kind portOrCtl => execMiReadDataStructure_good i3c pecOk kind portOrCtl s
  | .miSubsystemHealthPoll i3c pecOk => execMiSubsystemHealthPoll_good i3c pecOk s
  | .miControllerHealthPoll i3c pecOk ctl => execMiControllerHealthPoll_good i3c pecOk ctl s
  | .miConfigurationGet i3c pecOk cid => execMiConfigurationGet_good i3c pecOk cid s
  | .miConfigurationSet i3c pecOk cid value => execMiConfigurationSet_good i3c pecOk cid value s
  | .miVpdRead i3c pecOk ofs len => execMiVpdRead_good i3c pecOk ofs len s
  | .miTunnelledAdmin i3c pecOk op ctl a b ofs len => execMiTunnelledAdmin_good i3c pecOk op ctl a b ofs len s
  | .smbusTimeout => execSmbusTimeout_good s
  | .i3cAddressAssigned da => execI3cAddressAssigned_good da s
  | .pcieLinkUp port speed width => execPcieLinkUp_good port speed width s
  | .pcieLinkDown port => execPcieLinkDown_good port s
  | .perstDeassert port two sris => execPerstDeassert_good port two sris s
  | .regionValidSet acc r => execRegionValidSet_good acc r s
  | .regionWipeDone r => execRegionWipeDone_good r s
  | .regionValidClear acc r => execRegionValidClear_good acc r s
  | .dramRead addr outcome brick => execDramRead_good addr outcome brick s
  | .correctedWriteBack line => execCorrectedWriteBack_good line s
  | .dramPartialWrite addr bytes outcome brick => execDramPartialWrite_good addr bytes outcome brick s
  | .dramFullWrite addr bytes => execDramFullWrite_good addr bytes s
  | .scrubLine outcome late lapMin brick => execScrubLine_good outcome late lapMin brick s
  | .dvDataRead acc => execDvDataRead_good acc s
  | .dvDataWrite acc value => execDvDataWrite_good acc value s
  | .destageStart w sub => execDestageStart_good w sub s
  | .subBlockAgeExpiry w sub => execSubBlockAgeExpiry_good w sub s
  | .destageCopyDone w sub => execDestageCopyDone_good w sub s
  | .evictionDone w => execEvictionDone_good w s
  | .subBlockFillDone w sub data => execSubBlockFillDone_good w sub data s
  | .cacheDisableWrite acc value => execCacheDisableWrite_good acc value s
  | .hodNop n => execHodNop_good n s
  | .hodMove n host => execHodMove_good n host s
  | .hodFill n => execHodFill_good n s
  | .hodCompare n hostA hostB => execHodCompare_good n hostA hostB s
  | .hodWait n => execHodWait_good n s
  | .hodWaitSatisfied n => execHodWaitSatisfied_good n s
  | .hodWaitTimeout n => execHodWaitTimeout_good n s
  | .hodFlip n => execHodFlip_good n s
  | .hodSignal n => execHodSignal_good n s
  | .hodPost n => execHodPost_good n s
  | .hodPostRetry n => execHodPostRetry_good n s
  | .hodBranch n => execHodBranch_good n s
  | .hodSetlc n => execHodSetlc_good n s
  | .hodStop n => execHodStop_good n s
  | .hodStride n => execHodStride_good n s
  | .hodIllegal n => execHodIllegal_good n s
  | .hodUnblock n => execHodUnblock_good n s
  | .hodChannelStart acc n => execHodChannelStart_good acc n s
  | .hodChannelAbort acc n => execHodChannelAbort_good acc n s
  | .eventFlagSet acc mask => execEventFlagSet_good acc mask s
  | .eventFlagClear acc mask => execEventFlagClear_good acc mask s
  | .flagWrite agent space addr owner hseq err => execFlagWrite_good agent space addr owner hseq err s
  | .flagRead agent space addr => execFlagRead_good agent space addr s
  | .slotAllocateOne acc => execSlotAllocateOne_good acc s
  | .slotAllocatePair acc => execSlotAllocatePair_good acc s
  | .commonWindowAccess agent addr n ecc write => execCommonWindowAccess_good agent addr n ecc write s
  | .windowValidSet acc w => execWindowValidSet_good acc w s
  | .fifoPost n agent item commit => execFifoPost_good n agent item commit s
  | .fifoDataWrite acc core i1 value => execFifoDataWrite_good acc core i1 value s
  | .fifoPop acc core => execFifoPop_good acc core s
  | .fifoCommit acc core => execFifoCommit_good acc core s
  | .fifoRewind acc core => execFifoRewind_good acc core s
  | .claimTimeout n => execClaimTimeout_good n s
  | .mbxC2mDoorbell acc slot => execMbxC2mDoorbell_good acc slot s
  | .mbxM2cDoorbell acc slot => execMbxM2cDoorbell_good acc slot s
  | .exchangeLate slot => execExchangeLate_good slot s
  | .lcTransitionRequest acc target places dur vend => execLcTransitionRequest_good acc target places dur vend s
  | .tokenDataWrite acc value => execTokenDataWrite_good acc value s
  | .tokenPresent acc places dur vend => execTokenPresent_good acc places dur vend s
  | .jtagLcToken tok places dur vend => execJtagLcToken_good tok places dur vend s
  | .domainCreate acc w0 w1 => execDomainCreate_good acc w0 w1 s
  | .domainReplace acc w0 w1 => execDomainReplace_good acc w0 w1 s
  | .domainDestroy acc => execDomainDestroy_good acc s
  | .domainRetire acc => execDomainRetire_good acc s
  | .xtsMessage e id cls kdom dec fin => execXtsMessage_good e id cls kdom dec fin s
  | .xtsMessageResume e unwrapOk fin => execXtsMessageResume_good e unwrapOk fin s
  | .kvChunkTagCheck c again => execKvChunkTagCheck_good c again s
  | .powerLossShutdown places dur vend => execPowerLossShutdown_good places dur vend s
  | .vinDip => execVinDip_good s
  | .vinHigh => execVinHigh_good s
  | .vinOv beyond places dur vend => execVinOv_good beyond places dur vend s
  | .holdupShort places jseq => execHoldupShort_good places jseq s
  | .inrushFail => execInrushFail_good s
  | .inrushRetry => execInrushRetry_good s
  | .railPgTimeout r dest => execRailPgTimeout_good r dest s
  | .railPgLoss r dest back => execRailPgLoss_good r dest back s
  | .xtalSettleTimeout => execXtalSettleTimeout_good s
  | .sleepRequest d => execSleepRequest_good d s
  | .sleepAnswerTimeout d pg => execSleepAnswerTimeout_good d pg s
  | .sleepRetry d => execSleepRetry_good d s
  | .domainWake d => execDomainWake_good d s
  | .clusterSleepWrite acc value => execClusterSleepWrite_good acc value s
  | .powerStateEntry => execPowerStateEntry_good s
  | .powerStateExit => execPowerStateExit_good s
  | .apstIdleTimeout ctl => execApstIdleTimeout_good ctl s
  | .cpxIdleSleep => execCpxIdleSleep_good s
  | .capControlTick vin vhold pin spent ease => execCapControlTick_good vin vhold pin spent ease s
  | .thermalModelTick powers raw => execThermalModelTick_good powers raw s
  | .sensorTrustRestore n => execSensorTrustRestore_good n s
  | .caseTempEstimate => execCaseTempEstimate_good s
  | .throttleStepDown => execThrottleStepDown_good s
  | .throttleStepUp => execThrottleStepUp_good s
  | .thermalTrip places dur vend => execThermalTrip_good places dur vend s
  | .tripCooldownRestart memFail badBlobs attOk badCl => execTripCooldownRestart_good memFail badBlobs attOk badCl s
  | .cpxFault core cause recent places dur vend => execCpxFault_good core cause recent places dur vend s
  | .mgpFault mchk recent places dur vend => execMgpFault_good mchk recent places dur vend s
  | .processorRestartDone set ms bad => execProcessorRestartDone_good set ms bad s
  | .restartTimeout set places dur vend => execRestartTimeout_good set places dur vend s
  | .clockUnlockLoss c acc dest => execClockUnlockLoss_good c acc dest s
  | .recStatClear acc mask => execRecStatClear_good acc mask s
  | .dirtyNsClear nsid => execDirtyNsClear_good nsid s
  | .recordNorWrite w0 w1 => execRecordNorWrite_good w0 w1 s
  | .operatingHourTick => execOperatingHourTick_good s
  | .quantitySample minute => execQuantitySample_good minute s
  | .recorderFreeze acc => execRecorderFreeze_good acc s
  | .recorderThaw acc => execRecorderThaw_good acc s
  | .recordRead acc => execRecordRead_good acc s
  | .moduleStart memFail badBlobs attOk badCl => execModuleStart_good memFail badBlobs attOk badCl s
  | .tableLoad ms => execTableLoad_good ms s
  | .readyLate => execReadyLate_good s
  | .bootWatchdogExpiry places dur vend => execBootWatchdogExpiry_good places dur vend s
  | .cpxWatchdogExpiry core recent places dur vend => execCpxWatchdogExpiry_good core recent places dur vend s
  | .mgpWatchdogExpiry recent places dur vend => execMgpWatchdogExpiry_good recent places dur vend s
  | .watchdogPrewarn n => execWatchdogPrewarn_good n s
  | .wdgKick acc value => execWdgKick_good acc value s
  | .moduleResetRequest acc value places dur vend => execModuleResetRequest_good acc value places dur vend s
  | .recoveryStart acc => execRecoveryStart_good acc s
  | .recoveryDataWrite acc value => execRecoveryDataWrite_good acc value s
  | .recoveryCommit acc w0 w1 => execRecoveryCommit_good acc w0 w1 s
  | .recoveryRetry acc places dur vend => execRecoveryRetry_good acc places dur vend s
  | .serviceFailTimeout port => execServiceFailTimeout_good port s
  | .norRefresh area dev good => execNorRefresh_good area dev good s
  | .vinPowerUp => execVinPowerUp_good s
  | .vholdCollapse => execVholdCollapse_good s
  | .blockLockRegained a n => execBlockLockRegained_good a n s
  | .msixVectorUnmask port v => execMsixVectorUnmask_good port v s
  | .busMasterEnableClear port fn => execBusMasterEnableClear_good port fn s
  | .completionTimeout c n => execCompletionTimeout_good c n s
  | .pcieErrorDetected port kind => execPcieErrorDetected_good port kind s
  | .tempDerate p code => execTempDerate_good p code s

theorem step_of_pending_cons {s : State} {c : Instr} {rest : List Instr} (h : s.pending = c :: rest) :
    step s = exec c { s with pending := rest } := by
  simp only [step, h]

theorem step_of_pending_nil {s : State} (h : s.pending = []) : step s = .next s := by
  simp only [step, h]

/-- What a step answers keeps what stands in the state with the front command taken; an idle step keeps all. -/
theorem step_keep {s t : State} (h : step s = .next t) : Keep { s with pending := s.pending.tail } t := by
  cases hp : s.pending with
  | nil =>
    rw [step_of_pending_nil hp] at h
    injection h with h
    subst h
    exact ⟨hp, IoKeep.refl _, id, id⟩
  | cons c rest =>
    rw [step_of_pending_cons hp] at h
    exact (exec_good c _).keep h

/-- Settles O60: every command keeps the identity and the queue it is given (`exec_good`), and `step` gives it the tail. -/
theorem stepKeepsIdentityAndQueue : Obligations.StepKeepsIdentityAndQueue := by
  intro s t h
  have k := step_keep h
  exact ⟨k.io.part, k.io.grade, k.io.rev, k.queue⟩

end Sys2Proof.Machine

/-! ### Absent and reserved pages (R2, R28, R29) -/

namespace Sys2Proof.Machine

theorem okIf_run {c : Bool} {s t : State} (hr : s.pwr.phase = .run) (hc : c = true) : okIf c s t = .next t := by
  simp [okIf, hr, hc]

namespace State

variable {s : State} {pg : Nat}

theorem shown_absent (h : present s.part pg = false) (acc : Accessor) (off : Nat) : s.shown acc pg off = 0#64 := by
  simp [shown, h]

theorem takeRc_absent (h : present s.part pg = false) (acc : Accessor) (off : Nat) : s.takeRc acc pg off = s := by
  simp [takeRc, h]

theorem readReg_absent (h : present s.part pg = false) (acc : Accessor) (off : Nat) : s.readReg acc pg off = s.gave acc 0 := by
  simp [readReg, takeRc_absent h, shown_absent h]

theorem lowRead_absent (h : present s.part pg = false) (acc : Accessor) (off : Nat) : s.lowRead acc pg off = s.gave acc 0 := by
  simp [lowRead, h]

theorem highRead_absent (h : present s.part pg = false) (acc : Accessor) (off : Nat) : s.highRead acc pg off = s.gave acc 0 := by
  simp [highRead, h]

theorem lowWrite_absent (h : present s.part pg = false) (acc : Accessor) (off : Nat) (v : Word) : s.lowWrite acc pg off v = s := by
  simp [lowWrite, h]

theorem highWrite_absent (h : present s.part pg = false) (acc : Accessor) (off : Nat) (v : Word) : s.highWrite acc pg off v = s := by
  simp [highWrite, h]

theorem writeReg_absent (h : present s.part pg = false) (acc : Accessor) (off v : Nat) : s.writeReg acc pg off v = s := by
  simp [writeReg, h]

end State

/-- A word's place in the aperture (R31): both conditions that an access asks of its address. -/
theorem apertureWord {addr : Nat} (ha : addr < 2 ^ 20) (h4 : addr % 4 = 0) :
    (decide (addr < 2 ^ 20) && decide (addr % 4 = 0)) = true := by
  rw [decide_eq_true ha, decide_eq_true h4, Bool.and_self]

/-- The three ways of a read (a low word, a high word, a whole register) all answer 0 on a page that is not there. -/
theorem execRcRegisterRead_absent {s : State} {addr : Nat} (acc : Accessor) (hr : s.pwr.phase = .run) (ha : addr < 2 ^ 20)
    (h4 : addr % 4 = 0) (h : present s.part (addrPage addr) = false) :
    execRcRegisterRead acc addr s = .next (s.gave acc 0) := by
  unfold execRcRegisterRead
  rw [okIf_run hr (apertureWord ha h4), State.lowRead_absent h, State.highRead_absent h, State.readReg_absent h, ite_self, ite_self]

/-- So do the three ways of a full-width write leave the state as it was. -/
theorem execRegisterWrite_absent {s : State} {addr : Nat} (acc : Accessor) (v : Word) (hr : s.pwr.phase = .run) (ha : addr < 2 ^ 20)
    (h4 : addr % 4 = 0) (h : present s.part (addrPage addr) = false) :
    execRegisterWrite acc addr v true s = .next s := by
  unfold execRegisterWrite
  rw [okIf_run hr (apertureWord ha h4), State.lowWrite_absent h, State.highWrite_absent h, State.writeReg_absent h, ite_self, ite_self]
  rfl

/-- The pages from a kind's base on, one for each unit of an H7128, are of that kind (R28). -/
theorem pageKind_of_base_le {k : Kind} {pg : Nat} (lo : k.base ≤ pg) (hi : pg < k.base + k.count .h7128) : pageKind pg = some k := by
  cases k <;> simp only [Kind.base, Kind.count, clustersOf] at lo hi
  case sve | spm | klc | fdc | ldp | fsq | xtc | act => simp (disch := omega) only [pageKind, if_pos, if_neg]
  all_goals
    obtain rfl := Nat.le_antisymm (Nat.le_of_lt_succ hi) lo
    rfl

/-- A page beyond an H7064's last of its kind, and not beyond an H7128's (R2). -/
theorem present_beyond_h7064 {k : Kind} {pg : Nat} (lo : k.base + k.count .h7064 ≤ pg) (hi : pg < k.base + k.count .h7128) :
    present .h7064 pg = false ∧ present .h7128 pg = true := by
  have hk := pageKind_of_base_le (Nat.le_of_add_right_le lo) hi
  simp [present, hk, lo, hi]

/-- The pages of `Claims.absentPages` stand in five runs of four. -/
theorem beyond_h7064_of_mem_absentPages {pg : Nat} (h : pg ∈ Claims.absentPages) :
    ∃ k ∈ [Kind.klc, .fdc, .ldp, .fsq, .xtc], k.base + k.count .h7064 ≤ pg ∧ pg < k.base + k.count .h7128 := by
  revert pg
  decide

/-- Settles O52: no way of reading or writing reaches an absent page (R29), and each page named lies beyond the last
unit of its kind on an H7064 (R2). -/
theorem absentPagesReadZero : Obligations.AbsentPagesReadZero := by
  refine ⟨fun acc addr v s hr ha h4 h => ?_, fun pg h => ?_⟩
  · exact ⟨execRcRegisterRead_absent acc hr ha h4 h, execRegisterWrite_absent acc v hr ha h4 h⟩
  · obtain h | ⟨lo, hi⟩ | ⟨lo, hi⟩ | ⟨lo, hi⟩ := h
    · obtain ⟨k, -, lo, hi⟩ := beyond_h7064_of_mem_absentPages h
      exact present_beyond_h7064 lo hi
    · exact present_beyond_h7064 (k := .sve) lo hi
    · exact present_beyond_h7064 (k := .spm) lo hi
    · exact present_beyond_h7064 (k := .act) lo hi

end Sys2Proof.Machine

/-! ### The step and the queue (R32) -/

namespace Sys2Proof.Machine

/-- Settles O59: what a step answers keeps what stands in the state with the front command taken (`step_keep`), whose
registers and memories are those of the state before the step. -/
theorem stepKeepsCanonicalForm : Obligations.StepKeepsCanonicalForm :=
  fun s _ hs h => (step_keep h).wf (r := { s with pending := s.pending.tail }) hs

/-- Settles O3: each meaning ends in a next state (`exec_good`). -/
theorem everyCommandAnswers : Obligations.EveryCommandAnswers :=
  fun c s => (exec_good c s).next

/-- Settles O1: with a command in front, `step` is that command's `exec` (`step_of_pending_cons`). -/
theorem stepRunsFrontCommand : Obligations.StepRunsFrontCommand :=
  fun _ _ _ h => step_of_pending_cons h

/-- Settles O2: with no command waiting, `step` answers its state (`step_of_pending_nil`). -/
theorem emptyQueueIdles : Obligations.EmptyQueueIdles :=
  fun _ h => step_of_pending_nil h

end Sys2Proof.Machine

/-! ### Where the commands of the aperture and of the page header complete (R31, R33-R40, R450, R451, R461) -/

namespace Sys2Proof.Machine

/-- An access of the aperture completes by its own operation where its address is in the aperture and its word is of the
kind that the access asks for (R31, R35). -/
theorem okIf_aperture {c : Bool} {s t : State} {addr : Nat} (hr : s.pwr.phase = .run) (ha : addr < 2 ^ 20) (hc : c = true) :
    okIf (decide (addr < 2 ^ 20) && c) s t = .next t :=
  okIf_run hr (by rw [decide_eq_true ha, hc, Bool.and_self])

/-- A REGISTER_WRITE of an aligned word goes the way that its byte enables and its half of a value call for (R31, R35). -/
theorem execRegisterWrite_run {s : State} {addr : Nat} (acc : Accessor) (v : Word) (be : Bool) (hr : s.pwr.phase = .run)
    (ha : addr < 2 ^ 20) (h4 : addr % 4 = 0) :
    execRegisterWrite acc addr v be s = .next
      (if !be then s.raise 0x10 6 0
       else if State.isLow (addrPage addr) (addrOfs addr) then s.lowWrite acc (addrPage addr) (addrOfs addr) v
       else if State.isHigh (addrPage addr) (addrOfs addr) then s.highWrite acc (addrPage addr) (addrOfs addr) v
       else s.writeReg acc (addrPage addr) (addrOfs addr) v.toNat) :=
  okIf_aperture hr ha (decide_eq_true h4)

/-- A read of an aligned word goes the way that its half of a value calls for (R35). -/
theorem execRcRegisterRead_run {s : State} {addr : Nat} (acc : Accessor) (hr : s.pwr.phase = .run) (ha : addr < 2 ^ 20)
    (h4 : addr % 4 = 0) :
    execRcRegisterRead acc addr s = .next
      (if State.isLow (addrPage addr) (addrOfs addr) then s.lowRead acc (addrPage addr) (addrOfs addr)
       else if State.isHigh (addrPage addr) (addrOfs addr) then s.highRead acc (addrPage addr) (addrOfs addr)
       else s.readReg acc (addrPage addr) (addrOfs addr)) :=
  okIf_aperture hr ha (decide_eq_true h4)

/-- Settles O6: an aligned address in the aperture passes the check of every access, and the word's kind picks its way. -/
theorem apertureAccessesComplete : Obligations.ApertureAccessesComplete := by
  refine ⟨?registerWrite, ?partialWrite, ?registerRead, ?lowRead, ?highRead, ?lowWrite, ?highWrite⟩
  case registerWrite =>
    intro acc addr v be s hr ha h4 hbe hlow hhigh
    refine (execRegisterWrite_run acc v be hr ha h4).trans ?_
    simp [hbe, hlow, hhigh]
  case partialWrite =>
    intro acc addr v be s hr ha h4 hbe
    refine (execRegisterWrite_run acc v be hr ha h4).trans ?_
    simp [hbe]
  case registerRead =>
    intro acc addr s hr ha h4 hlow hhigh
    refine (execRcRegisterRead_run acc hr ha h4).trans ?_
    simp [hlow, hhigh]
  case lowRead => exact fun _ _ _ hr ha hlow => okIf_aperture hr ha hlow
  case highRead => exact fun _ _ _ hr ha hhigh => okIf_aperture hr ha hhigh
  case lowWrite => exact fun _ _ _ _ hr ha hlow => okIf_aperture hr ha hlow
  case highWrite => exact fun _ _ _ _ hr ha hhigh => okIf_aperture hr ha hhigh

namespace State

variable {s : State} {acc : Accessor} {pg : Nat}

/-- A header write that R33 lets through has its effect. -/
theorem headerWrite_open (h : s.closedWrite acc pg 0 = false) (t : State) : s.headerWrite acc pg t = t := by
  simp [headerWrite, h]

/-- LOCK does not bind a write where it is 0 or where MGP writes (R37). -/
theorem rwl_unbound (h : s.io.locked pg = false ∨ acc = .mgp) (t : State) : s.rwl acc pg t = t := by
  rcases h with h | h <;> simp [rwl, h]

/-- LOCK keeps every other accessor's write out, with LOCKED_WRITE where it would have changed a register (R37). -/
theorem rwl_bound (h : s.io.locked pg = true) (ha : acc ≠ .mgp) (t : State) :
    s.rwl acc pg t = if t.io.regs = s.io.regs then s else s.lockedWrite pg := by
  simp [rwl, h, ha]

end State

/-- A command of a present page's header, from an accessor that R33 lets in, has its effect. -/
theorem okIf_header {s t : State} {acc : Accessor} {pg : Nat} (hr : s.pwr.phase = .run) (hp : present s.part pg = true)
    (hc : s.closedWrite acc pg 0 = false) : okIf (present s.part pg) s (s.headerWrite acc pg t) = .next t := by
  rw [okIf_run hr hp, State.headerWrite_open hc]

/-- Settles O7: the page is present and R33 lets the writer in; FREEZE and SOFT_RESET then go by the state of the page. -/
theorem pageHeaderCommandsComplete : Obligations.PageHeaderCommandsComplete := by
  refine ⟨?pageLock, ?pageFreeze, ?pageThaw, ?softReset, ?softResetRefused, ?softResetDone, ?blockEnable, ?blockDisable⟩
  case pageLock => exact fun _ _ _ hr hp hc => okIf_header hr hp hc
  case pageFreeze =>
    intro acc pg s hr hp hc hheld
    refine (okIf_header hr hp hc).trans ?_
    rw [if_neg (by rw [hheld]; decide)]
  case pageThaw => exact fun _ _ _ hr hp hc => okIf_header hr hp hc
  case softReset =>
    intro acc pg enable s hr hp hc hen hbar
    refine (okIf_header hr hp hc).trans ?_
    simp [hen, hbar]
  case softResetRefused =>
    intro acc pg enable s hr hp hc hen
    refine (okIf_header hr hp hc).trans ?_
    simp [hen]
  case softResetDone => exact fun _ _ hr hp hbusy => okIf_run hr (by rw [hp, hbusy, Bool.and_self])
  case blockEnable => exact fun _ _ _ hr hp hc => okIf_header hr hp hc
  case blockDisable => exact fun _ _ _ hr hp hc => okIf_header hr hp hc

/-- Settles O8: the page is present and R33 lets the writer in; LOCK is 0 for the two writes that it binds (R37). -/
theorem eventHeaderCommandsComplete : Obligations.EventHeaderCommandsComplete := by
  refine ⟨?evPendClear, ?evSet, ?evEnWrite, ?evRouteWrite, ?winCfgStore, ?winCfgSelect, ?errInjOneshot, ?errInjCont,
    ?windowLeak, ?lastingAction⟩
  case evPendClear => exact fun _ _ _ _ hr hp hc => okIf_header hr hp hc
  case evSet => exact fun _ _ _ _ hr hp hc => okIf_header hr hp hc
  case evEnWrite => exact fun _ _ _ _ hr hp hc => okIf_header hr hp hc
  case evRouteWrite =>
    intro acc pg v s hr hp hc hlock
    refine (okIf_header hr hp hc).trans ?_
    rw [State.rwl_unbound (.inl hlock)]
  case winCfgStore =>
    intro acc pg v s hr hp hc hlock
    refine (okIf_header hr hp hc).trans ?_
    simp [hlock]
  case winCfgSelect => exact fun _ _ _ _ hr hp hc => okIf_header hr hp hc
  case errInjOneshot => exact fun _ _ _ _ hr hp hc => okIf_header hr hp hc
  case errInjCont => exact fun _ _ _ _ hr hp hc => okIf_header hr hp hc
  case windowLeak => exact fun _ _ _ hr hp hsrc => okIf_run hr (by rw [hp, decide_eq_true hsrc, Bool.and_self])
  case lastingAction =>
    exact fun _ _ _ _ _ hr hp hsrc hlast => okIf_run hr (by rw [hp, decide_eq_true hsrc, hlast]; rfl)

end Sys2Proof.Machine

/-! ### 64-bit values read in halves (R35) -/

namespace Sys2Proof.Machine

theorem addrPage_lt {addr : Nat} (ha : addr < 2 ^ 20) : addrPage addr < 256 := by
  unfold addrPage; omega

namespace State

variable {s : State} {acc acc' : Accessor} {pg pg' off : Nat}

/-- Two accessors' latches of pages of the aperture stand apart. -/
theorem latchKey_ne (h : acc' ≠ acc) (hp : pg < 256) (hp' : pg' < 256) : latchKey acc' pg' ≠ latchKey acc pg := by
  have hn : acc'.num ≠ acc.num := by revert h; cases acc <;> cases acc' <;> decide
  unfold latchKey
  omega

@[simp] theorem latch_gave (s : State) (v : Nat) : (s.gave acc v).latch acc' pg = s.latch acc' pg := rfl

@[simp] theorem readData_gave_self (s : State) (v : Nat) : Tab.get 0 (s.gave acc v).io.readData acc.num = v :=
  Tab.get_put_self _ _ _ _

@[simp] theorem latch_setLatch_self (s : State) (w : Option Word) : (s.setLatch acc pg w).latch acc pg = w :=
  Tab.get_put_self _ _ _ _

theorem latch_setLatch_ne (s : State) (w : Option Word) (h : acc' ≠ acc) (hp : pg < 256) (hp' : pg' < 256) :
    (s.setLatch acc pg w).latch acc' pg' = s.latch acc' pg' :=
  Tab.get_put_ne _ _ _ _ (latchKey_ne h hp hp')

/-- The clearing of RC fields by a read leaves every latch alone. -/
@[simp] theorem latch_takeRc (s : State) : (s.takeRc acc pg off).latch acc' pg' = s.latch acc' pg' := by
  unfold takeRc
  split
  · rfl
  · refine List.foldlRecOn (motive := fun t : State => t.latch acc' pg' = s.latch acc' pg') _ _ rfl fun t ht f _ => ?_
    dsimp only
    split <;> exact ht

section
variable (hp : present s.part pg = true) (hc : s.closedRead acc pg off = false) (hi : s.inReset pg off = false)
include hp hc hi

/-- A low-word read that the page answers returns the low half and latches the high half of what is shown. -/
theorem lowRead_open : s.lowRead acc pg off =
    ((s.takeRc acc pg off).setLatch acc pg (some (BitVec.ofNat 32 ((s.shown acc pg off).toNat / 2 ^ 32)))).gave acc
      ((s.shown acc pg off).toNat % 2 ^ 32) := by
  simp [lowRead, hp, hc, hi]

/-- A high-word read that the page answers returns a valid latch, and drops it. -/
theorem highRead_latched {w : Word} (hw : s.latch acc pg = some w) :
    s.highRead acc pg off = (s.setLatch acc pg none).gave acc w.toNat := by
  simp [highRead, hp, hc, hi, hw]

end

end State

/-- Settles O50: each half goes by its operation (`lowRead_open`, `highRead_latched`), which writes the accessor's own
latch of the page. -/
theorem lowReadLatchesHighHalf : Obligations.LowReadLatchesHighHalf := by
  refine ⟨fun acc addr s hr ha hlow hp hc hi => ?_, fun acc addr w s hr ha hhigh hp hc hi hw => ?_⟩
  · refine ⟨_, (okIf_aperture hr ha hlow).trans (congrArg _ (State.lowRead_open hp hc hi)), ?_, ?_, fun acc' hne pg' hpg' => ?_⟩
    · exact State.readData_gave_self _ _
    · simp
    · rw [State.latch_gave, State.latch_setLatch_ne _ _ hne (addrPage_lt ha) hpg', State.latch_takeRc]
  · refine ⟨_, (okIf_aperture hr ha hhigh).trans (congrArg _ (State.highRead_latched hp hc hi hw)), ?_, ?_, rfl⟩
    · exact State.readData_gave_self _ _
    · simp

end Sys2Proof.Machine

/-! ### Pending bits (R32, R36, R461) -/

namespace Sys2Proof.Machine.Io

/-- Every bit of EV_PEND that is 1 in `i`, of whatever page, is 1 in `j`. -/
def PendLe (i j : Io) : Prop :=
  ∀ p b, bitOf (i.fld p HDR.EV_PEND.V) b = true → bitOf (j.fld p HDR.EV_PEND.V) b = true

/-- The shared part with a pending bit set. -/
def pended (io : Io) (pg bit : Nat) : Io := io.setFld pg HDR.EV_PEND.V (bitSet (io.fld pg HDR.EV_PEND.V) bit)

/-- EV_PEND of the page holds what it held, with the bit. -/
theorem bitOf_pended_self (io : Io) (pg bit b : Nat) : bitOf ((io.pended pg bit).fld pg HDR.EV_PEND.V) b =
    (decide (b < 32) && (bitOf (io.fld pg HDR.EV_PEND.V) b || decide (bit = b))) := by
  rw [pended, fld_setFld_self io pg HDR.EV_PEND.V _ (by decide) (by decide), bitOf, Nat.testBit_mod_two_pow, bitSet,
    Nat.testBit_or, Nat.testBit_two_pow]
  rfl

/-- Another page's EV_PEND is left alone. -/
theorem fld_pended_ne (io : Io) {p pg : Nat} (bit : Nat) (h : p ≠ pg) :
    (io.pended pg bit).fld p HDR.EV_PEND.V = io.fld p HDR.EV_PEND.V :=
  fld_setFld_ne io _ (key_ne_page (by decide) (by decide) h)

namespace PendLe

variable {i j k : Io}

theorem refl (i : Io) : PendLe i i := fun _ _ h => h

theorem trans (h : PendLe i j) (h' : PendLe j k) : PendLe i k := fun p b hb => h' p b (h p b hb)

theorem ite {c : Prop} [Decidable c] (h : PendLe i j) (h' : PendLe i k) : PendLe i (if c then j else k) := by
  split <;> assumption

/-- What leaves the registers alone loses no pending bit. -/
theorem of_regs (h : PendLe i j) (hr : k.regs = j.regs) : PendLe i k := by
  have hk : ∀ p, k.fld p HDR.EV_PEND.V = j.fld p HDR.EV_PEND.V := fun p => by simp only [fld, reg, hr]
  exact fun p b hb => by rw [hk]; exact h p b hb

/-- Nor does the setting of a field of another register. -/
theorem setFld (h : PendLe i j) (q : Nat) (f : RF) (v : Nat) (ho : f.off ≠ 0x14 := by decide)
    (hf : f.off < 4096 := by decide) : PendLe i (j.setFld q f v) := by
  refine h.trans fun p b hb => ?_
  rwa [fld_setFld_ne j v fun e => ho (key_inj (by decide) hf e).2.symm]

/-- Nor does the setting of a pending bit. -/
theorem le_pended (io : Io) (pg bit : Nat) : PendLe io (io.pended pg bit) := by
  intro p b hb
  by_cases hp : p = pg
  · subst hp
    have hlt : b < 32 := by
      by_contra hge
      exact absurd hb (by rw [bitOf, Nat.testBit_lt_two_pow ((fld_lt io p HDR.EV_PEND.V).trans_le
        (Nat.pow_le_pow_right (by decide) (not_lt.mp hge)))]; decide)
    rw [bitOf_pended_self, decide_eq_true hlt, hb]
    rfl
  · rwa [fld_pended_ne io bit hp]

theorem countWin (h : PendLe i j) (pg bit unit : Nat) : PendLe i (j.countWin pg bit unit) :=
  ite h (h.of_regs rfl)

theorem sendMsix (h : PendLe i j) (pg : Nat) : PendLe i (j.sendMsix pg) :=
  ite (h.of_regs rfl) h

theorem setHst (h : PendLe i j) (r : Recorder) : PendLe i (j.setHst r) :=
  (((((h.of_regs (k := { j with hst := r }) rfl).setFld 6 _ _).setFld 6 _ _).setFld 6 _ _).setFld 6 _ _).setFld 6 _ _

theorem setFifo (h : PendLe i j) (n : Nat) (f : Fifo) : PendLe i (j.setFifo n f) :=
  (((((h.of_regs (k := { j with fifos := Tab.put Fifo.zero j.fifos n f }) rfl).setFld _ _ _).setFld _ _ _).setFld _ _ _).setFld
    _ _ _).setFld _ _ _

theorem nameUnit (h : PendLe i j) (pg bit unit : Nat) : PendLe i (j.nameUnit pg bit unit) :=
  ite (h.setFld pg _ _) (ite (h.setFld pg _ _) h)

end PendLe

/-- A way of raising further events that loses no pending bit. -/
def UpLe (up : Nat → Nat → Io → Io) : Prop := ∀ p b i j, PendLe i j → PendLe i (up p b j)

namespace PendLe

section
variable {up : Nat → Nat → Io → Io} (hu : UpLe up) {i j : Io} (h : PendLe i j)
include hu h

theorem addRec (r : Rec) : PendLe i (addRec up j r) := by
  have h1 := hu 6 0 _ _ (h.setHst { j.hst with mem := j.hst.mem.add r })
  exact ite (hu 6 1 _ _ h1) h1

theorem makeRec (r : Rec) : PendLe i (makeRec up j r) := by
  unfold Io.makeRec
  refine ite ?_ ?_ <;> split
  · exact ite (h.setHst _) (ite (h.setHst _) (hu 6 3 _ _ (h.setHst _)))
  · exact h.setHst _
  · exact ite (h.setHst _) (addRec hu h r)
  · exact addRec hu h r

theorem freezeRec : PendLe i (freezeRec up j) :=
  ite h (hu 6 2 _ _ (((makeRec hu h _).setFld 6 _ _).setFld 6 _ _))

theorem syncPin : PendLe i (syncPin up j) :=
  ite h (hu 5 1 _ _ (h.setFld 5 _ _))

theorem postNotice (n : Nat) {cnt : RF} (item : Nat) (ho : cnt.off ≠ 0x14 := by decide) (hc : cnt.off < 4096 := by decide) :
    PendLe i (postNotice up j n cnt item) :=
  ite (h.setFifo n _) (hu 5 0 _ _ (hu 0xC 0 _ _ ((h.setFld _ _ _).setFld 5 cnt _ ho hc)))

end

end PendLe

/-- What follows the setting of the pending bit in a firing loses none: the window count, the record, the freeze, the LASTING
record, the notices, the message and the pin. -/
theorem pended_le_fire {n pg : Nat} {io : Io} (bit ctx : Nat) (inj : Bool) (hu : UpLe fun p b i => fire n p b 0 false i)
    (hp : present io.part pg = true) : PendLe (io.pended pg bit) (fire (n + 1) pg bit ctx inj io) := by
  unfold fire
  rw [if_pos hp]
  extract_lets was lasting counted evt fl recorded frozen named noted noticed sent
  clear_value was lasting evt fl
  have hcounted : PendLe (io.pended pg bit) counted := (PendLe.refl _).countWin pg bit ctx
  have hrecorded : PendLe (io.pended pg bit) recorded := by
    unfold recorded
    split
    · exact .ite (.makeRec hu hcounted _) hcounted
    · exact hcounted
  have hfrozen : PendLe (io.pended pg bit) frozen := by
    unfold frozen
    split
    · exact .ite (.freezeRec hu hrecorded) hrecorded
    · exact hrecorded
  have hnoted : PendLe (io.pended pg bit) noted := by
    have hnamed : PendLe (io.pended pg bit) named := (hfrozen.setFld pg _ _).nameUnit pg bit ctx
    unfold noted
    refine .ite ?_ hfrozen
    split
    · exact .ite hnamed (.makeRec hu hnamed _)
    · exact hnamed
  have hnoticed : PendLe (io.pended pg bit) noticed := by
    unfold noticed
    refine .ite ?_ hnoted
    split
    · extract_lets mgpNoticed
      have hmgp : PendLe (io.pended pg bit) mgpNoticed := .ite (.postNotice hu hnoted _ _) hnoted
      exact .ite (.postNotice hu hmgp _ _) hmgp
    · exact hnoted
  have hsent : PendLe (io.pended pg bit) sent := .ite (hnoticed.sendMsix pg) hnoticed
  exact .syncPin hu hsent

/-- A firing loses no pending bit, by induction on the bound of its chain. -/
theorem le_fire (n : Nat) : ∀ (pg bit ctx : Nat) (inj : Bool) (io : Io), PendLe io (fire n pg bit ctx inj io) := by
  induction n with
  | zero => exact fun _ _ _ _ io => .refl io
  | succ n ih =>
    intro pg bit ctx inj io
    by_cases hp : present io.part pg = true
    · exact (PendLe.le_pended io pg bit).trans (pended_le_fire bit ctx inj (fun p b _ j h => h.trans (ih p b 0 false j)) hp)
    · unfold fire
      rw [if_neg hp]
      exact .refl io

/-- An event of a present page ends with its pending bit set and none lost. -/
theorem pended_le_chain {pg : Nat} {io : Io} (bit ctx : Nat) (inj : Bool) (hp : present io.part pg = true) :
    PendLe (io.pended pg bit) (fire chain pg bit ctx inj io) :=
  pended_le_fire bit ctx inj (fun p b _ j h => h.trans (le_fire 2 p b 0 false j)) hp

/-- The end of a ONESHOT injection loses no pending bit. -/
theorem PendLe.injected {i j : Io} (h : PendLe i j) (pg bit : Nat) : PendLe i (j.injected pg bit) :=
  ite (h.setFld pg _ _) h

end Sys2Proof.Machine.Io

namespace Sys2Proof.Machine

/-- An event raised on a present page ends with its pending bit set and none lost, injected or not (R39, R40). -/
theorem State.pended_le_raise {s : State} {pg : Nat} (bit ctx : Nat) (hp : present s.part pg = true) :
    Io.PendLe (s.io.pended pg bit) (s.raise pg bit ctx).io := by
  rw [State.raise_io]
  exact .ite ((Io.pended_le_chain bit ctx true hp).injected pg bit) (Io.pended_le_chain bit ctx false hp)

/-- Settles O47: a firing sets the bit first (`Io.pended`), and nothing that follows loses a pending bit (`Io.PendLe`). -/
theorem raisedEventsStayPending : Obligations.RaisedEventsStayPending := by
  intro s pg bit ctx hp hbit
  have hle := State.pended_le_raise bit ctx hp
  refine ⟨hle pg bit ?_, fun q b hb => hle q b (Io.PendLe.le_pended s.io pg bit q b hb)⟩
  rw [Io.bitOf_pended_self, decide_eq_true hbit, decide_eq_true rfl, Bool.or_true]
  rfl

end Sys2Proof.Machine

/-! ### The header's own commands: their page, LOCK and EVENT# (R36, R37, R39, R461) -/

namespace Sys2Proof.Machine

/-- A command of a page's header leaves the state as it was, sets LOCKED_WRITE, or has its effect. -/
theorem okIf_header_cases {c : Bool} {s t u : State} {acc : Accessor} {pg : Nat}
    (h : okIf c s (s.headerWrite acc pg u) = .next t) : t = s ∨ t = s.lockedWrite pg ∨ t = u := by
  unfold okIf State.headerWrite at h
  injection h with h
  split at h
  · split at h
    · exact .inr (.inl h.symm)
    · exact .inr (.inr h.symm)
  · exact .inl h.symm

/-- Io.up raises events as a firing does, within what an event of EVC, HST and FIF reaches. -/
theorem Io.up_upOk (pg : Nat) : Io.UpOk pg Io.up :=
  fun p b _ j hp h => h.trans (Io.Event.mono (q := p) (by omega) (Io.raise_event j p b 0))

namespace State

/-- Signalling again reaches what an event of the page reaches (R461). -/
theorem resignal_event (s : State) (pg : Nat) : Io.Event pg s.io (s.resignal pg).io :=
  Io.syncPin_event (Io.up_upOk pg) (.ite (Io.sendMsix_event (.refl pg s.io) pg) (.refl pg s.io))

/-- A field of a page's header but EV_PEND, WIN_LASTING and ERR_INJ is left alone by it. -/
theorem fld_resignal (s : State) (p pg : Nat) {f : RF} (hf : f.off < 0x40) (hn : f.off ∉ [0x14, 0x2C, 0x30]) :
    (s.resignal pg).fld p f = s.fld p f := by
  simp only [fld, Io.fld, (s.resignal_event pg).hdr p f.off hf hn]

theorem flag_resignal (s : State) (p pg : Nat) {f : RF} (hf : f.off < 0x40) (hn : f.off ∉ [0x14, 0x2C, 0x30]) :
    (s.resignal pg).flag p f = s.flag p f :=
  congrArg (fun n => decide (n ≠ 0)) (fld_resignal s p pg hf hn)

/-- The fields of EV_ROUTE (R36). -/
def routeFields : List RF :=
  [HDR.EV_ROUTE.VECTOR, HDR.EV_ROUTE.PIN, HDR.EV_ROUTE.MGP, HDR.EV_ROUTE.CPX, HDR.EV_ROUTE.MSIX]

theorem off_of_mem_routeFields {f : RF} (hf : f ∈ routeFields) : f.off = 0x20 := by
  revert f; decide

/-- The fields of EV_ROUTE with the bits of a word. -/
def routed (s : State) (pg v : Nat) : State :=
  ((((s.set pg HDR.EV_ROUTE.VECTOR (bitsOf v 14 8)).set pg HDR.EV_ROUTE.PIN (bitsOf v 3 3)).set
    pg HDR.EV_ROUTE.MGP (bitsOf v 2 2)).set pg HDR.EV_ROUTE.CPX (bitsOf v 1 1)).set pg HDR.EV_ROUTE.MSIX (bitsOf v 0 0)

/-- Each field then reads its bits: it is written once, and the fields stand apart. -/
theorem fld_routed (s : State) (pg v : Nat) {f : RF} (hf : f ∈ routeFields) : (s.routed pg v).fld pg f = bitsOf v f.hi f.lo := by
  have hbits : ∀ hi lo, bitsOf v hi lo % 2 ^ (hi + 1 - lo) = bitsOf v hi lo := fun _ _ => Nat.mod_mod _ _
  simp only [routeFields, List.mem_cons, List.not_mem_nil, or_false] at hf
  rcases hf with rfl | rfl | rfl | rfl | rfl <;>
    simp (disch := decide) only [routed, fld, set_io, Io.fld_setFld_apart, Io.fld_setFld_self] <;>
    exact hbits _ _

/-- LOCKED_WRITE is no field of EV_ROUTE. -/
theorem fld_lockedWrite_route (s : State) (p pg : Nat) {f : RF} (hf : f ∈ routeFields) : (s.lockedWrite pg).fld p f = s.fld p f :=
  Io.fld_setFld_ne s.io _ fun e => absurd (key_inj (by rw [off_of_mem_routeFields hf]; decide) (by decide) e).2
    (by rw [off_of_mem_routeFields hf]; decide)

theorem flag_lockedWrite (s : State) (pg : Nat) : (s.lockedWrite pg).flag pg HDR.PG_STAT.LOCKED_WRITE = true := by
  rw [flag, Io.flag, lockedWrite_io, Io.setFlag, Io.fld_setFld_self _ _ _ _ (by decide) (by decide)]
  rfl

theorem fld_resignal_route (s : State) (p pg : Nat) {f : RF} (hf : f ∈ routeFields) : (s.resignal pg).fld p f = s.fld p f :=
  fld_resignal s p pg (by rw [off_of_mem_routeFields hf]; decide) (by rw [off_of_mem_routeFields hf]; decide)

/-- LOCK keeps every field of EV_ROUTE from another accessor than MGP, whatever it would have written (R37). -/
theorem fld_rwl_route {s : State} {acc : Accessor} {pg : Nat} (hl : s.io.locked pg = true) (ha : acc ≠ .mgp) (u : State)
    {f : RF} (hf : f ∈ routeFields) : (s.rwl acc pg u).fld pg f = s.fld pg f := by
  rw [rwl_bound hl ha]
  split
  · rfl
  · exact fld_lockedWrite_route s pg pg hf

/-- A word that differs from EV_ROUTE in a field would change a register. -/
theorem routed_regs_ne {s : State} {pg v : Nat} (h : ∃ f ∈ routeFields, bitsOf v f.hi f.lo ≠ s.fld pg f) :
    (s.routed pg v).io.regs ≠ s.io.regs := by
  obtain ⟨f, hf, hne⟩ := h
  intro e
  rw [← fld_routed s pg v hf] at hne
  exact hne (by simp only [fld, Io.fld, Io.reg, e])

end State

/-- EV_ROUTE_WRITE by its parts: the fields are stored as LOCK allows, and the page signals again. -/
theorem exec_evRouteWrite (acc : Accessor) (pg : Nat) (v : Word) (s : State) : exec (.evRouteWrite acc pg v) s =
    okIf (present s.part pg) s (s.headerWrite acc pg ((s.rwl acc pg (s.routed pg v.toNat)).resignal pg)) := rfl

/-- What EV_ROUTE_WRITE answers where the page takes it. -/
theorem evRouteWrite_next {s t : State} {acc : Accessor} {pg : Nat} {v : Word} (hr : s.pwr.phase = .run)
    (hp : present s.part pg = true) (hc : s.closedWrite acc pg 0 = false) (h : exec (.evRouteWrite acc pg v) s = .next t) :
    t = (s.rwl acc pg (s.routed pg v.toNat)).resignal pg := by
  rw [exec_evRouteWrite, okIf_header hr hp hc] at h
  injection h with h
  exact h.symm

/-- Settles O51: `State.rwl` keeps the write out or lets it through, and what follows leaves EV_ROUTE and PG_STAT alone
(`State.fld_resignal`). -/
theorem lockHoldsTheRoute : Obligations.LockHoldsTheRoute := by
  refine ⟨?held, ?noted, ?stored⟩
  case held =>
    intro acc pg v s t hl ha h f hf
    obtain rfl | rfl | rfl := okIf_header_cases ((exec_evRouteWrite acc pg v s).symm.trans h)
    · rfl
    · exact State.fld_lockedWrite_route s pg pg hf
    · rw [State.fld_resignal_route _ pg pg hf, State.fld_rwl_route hl ha _ hf]
  case noted =>
    intro acc pg v s t hr hp hl ha hc hne h
    rw [evRouteWrite_next hr hp hc h, State.rwl_bound hl ha, if_neg (State.routed_regs_ne hne),
      State.flag_resignal _ pg pg (by decide) (by decide), State.flag_lockedWrite]
  case stored =>
    intro acc pg v s t hr hp hl hc h f hf
    rw [evRouteWrite_next hr hp hc h, State.rwl_unbound hl, State.fld_resignal_route _ pg pg hf, State.fld_routed s pg _ hf]

/-- `t` differs from `s` in the shared part alone, and of that neither in another page's registers nor in the FIFOs, the
recorder and the messages sent. A page's banks are pages of their own here. -/
structure OwnPage (pg : Nat) (s t : State) : Prop where
  reg : ∀ p off, off < 4096 → p ≠ pg → t.io.reg p off = s.io.reg p off
  rest : t = { s with io := t.io }
  fifos : t.io.fifos = s.io.fifos
  hst : t.io.hst = s.io.hst
  msixSent : t.io.msixSent = s.io.msixSent

namespace OwnPage

variable {pg : Nat} {s t : State}

theorem refl (pg : Nat) (s : State) : OwnPage pg s s := ⟨fun _ _ _ _ => rfl, rfl, rfl, rfl, rfl⟩

theorem ite {u : State} {c : Prop} [Decidable c] (h : OwnPage pg s t) (h' : OwnPage pg s u) :
    OwnPage pg s (if c then t else u) := by
  split <;> assumption

/-- A change of the shared part that leaves registers, FIFOs, recorder and messages alone. -/
theorem onIo (h : OwnPage pg s t) (f : Io → Io) (hr : (f t.io).regs = t.io.regs) (hf : (f t.io).fifos = t.io.fifos)
    (hh : (f t.io).hst = t.io.hst) (hm : (f t.io).msixSent = t.io.msixSent) : OwnPage pg s (t.onIo f) where
  reg p off ho hp := by rw [← h.reg p off ho hp]; simp only [State.onIo_io, Io.reg, hr]
  rest := congrArg (fun u : State => { u with io := f t.io }) h.rest
  fifos := hf.trans h.fifos
  hst := hh.trans h.hst
  msixSent := hm.trans h.msixSent

/-- A field of the page is set. -/
theorem set (h : OwnPage pg s t) (f : RF) (v : Nat) (hf : f.off < 4096 := by decide) : OwnPage pg s (t.set pg f v) where
  reg p off ho hp := (Io.reg_setFld_ne _ _ (key_ne_page ho hf hp)).trans (h.reg p off ho hp)
  rest := congrArg (fun u : State => { u with io := t.io.setFld pg f v }) h.rest
  fifos := h.fifos
  hst := h.hst
  msixSent := h.msixSent

theorem setB (h : OwnPage pg s t) (f : RF) (b : Bool) (hf : f.off < 4096 := by decide) : OwnPage pg s (t.setB pg f b) :=
  h.set f (b2n b) hf

theorem lockedWrite (h : OwnPage pg s t) : OwnPage pg s (t.lockedWrite pg) := h.setB _ true

theorem rwl (h : OwnPage pg s t) (acc : Accessor) : OwnPage pg s (s.rwl acc pg t) :=
  .ite (.ite (.refl pg s) (.lockedWrite (.refl pg s))) h

/-- A command of the page's header whose effect stays on the page does. -/
theorem of_okIf {c : Bool} {acc : Accessor} {u : State} (hu : OwnPage pg s u) (h : okIf c s (s.headerWrite acc pg u) = .next t) :
    OwnPage pg s t := by
  obtain rfl | rfl | rfl := okIf_header_cases h
  · exact .refl pg _
  · exact .lockedWrite (.refl pg s)
  · exact hu

end OwnPage

/-- Each header command of `Claims.ownPage` changes its page alone; the cases stand in that definition's order. -/
theorem ownPage_of_next {c : Instr} {pg : Nat} {s t : State} (hc : Claims.ownPage c = some pg) (h : exec c s = .next t) :
    OwnPage pg s t := by
  have h0 := OwnPage.refl pg s
  unfold Claims.ownPage at hc
  split at hc <;> cases hc
  case h_1 => exact .of_okIf (h0.setB _ _) h
  case h_2 => exact .of_okIf (.ite h0 (((h0.onIo _ rfl rfl rfl rfl).setB _ _).setB _ _)) h
  case h_3 => exact .of_okIf (((h0.onIo _ rfl rfl rfl rfl).setB _ _).setB _ _) h
  case h_4 => exact .of_okIf (.ite (h0.set _ _).lockedWrite ((h0.set _ _).onIo _ rfl rfl rfl rfl)) h
  case h_5 => exact .of_okIf (h0.set _ _) h
  case h_6 => exact .of_okIf ((h0.set _ _).setB _ _) h
  case h_7 => exact .of_okIf ((h0.set _ _).setB _ _) h

/-- `t` differs from `s` in the shared part alone, and of the registers in those of a page with its banks and in those of
EVC, HST and FIF alone, which an event's handling may write. -/
structure Signalled (pg : Nat) (s t : State) : Prop where
  rest : t = { s with io := t.io }
  reg : ∀ p off, off < 4096 → p % 256 ≠ pg % 256 → p % 256 ≠ 5 → p % 256 ≠ 6 → p % 256 ≠ 0xC → t.io.reg p off = s.io.reg p off

theorem OwnPage.signalled {pg : Nat} {s t : State} (h : OwnPage pg s t) : Signalled pg s t :=
  ⟨h.rest, fun p off ho hp _ _ _ => h.reg p off ho fun e => hp (e ▸ rfl)⟩

/-- A write to the page that signals again. -/
theorem OwnPage.signalled_resignal {pg : Nat} {s t : State} (h : OwnPage pg s t) : Signalled pg s (t.resignal pg) where
  rest := congrArg (fun u : State => { u with io := (t.resignal pg).io }) h.rest
  reg p off ho hp h5 h6 hC :=
    ((t.resignal_event pg).reg p off ho (fun e => absurd e hp) h5 h6 hC).trans (h.signalled.reg p off ho hp h5 h6 hC)

/-- A header command that writes its page and signals again. -/
theorem Signalled.of_okIf {c : Bool} {acc : Accessor} {pg : Nat} {s t u : State} (hu : OwnPage pg s u)
    (h : okIf c s (s.headerWrite acc pg (u.resignal pg)) = .next t) : Signalled pg s t := by
  obtain rfl | rfl | rfl := okIf_header_cases h
  · exact (OwnPage.refl pg _).signalled
  · exact (OwnPage.refl pg s).lockedWrite.signalled
  · exact hu.signalled_resignal

/-- EV_ROUTE with its fields stored differs on the page alone. -/
theorem OwnPage.routed (pg : Nat) (s : State) (v : Nat) : OwnPage pg s (s.routed pg v) :=
  (((((refl pg s).set _ _).set _ _).set _ _).set _ _).set _ _

/-- Settles O48: seven commands stay on their page (`OwnPage`), and three signal again besides (`Signalled`). -/
theorem headerCommandsTouchTheirPage : Obligations.HeaderCommandsTouchTheirPage := by
  refine ⟨fun c pg s t hc hpg h => ?_, fun acc pg v s t h => ?_⟩
  · obtain ⟨hreg, hrest, hfifos, hhst, hmsix⟩ := ownPage_of_next hc h
    exact ⟨fun p off ho hp => hreg p off ho fun e => hp (by rw [e, Nat.mod_eq_of_lt hpg]), hrest, hfifos, hhst, hmsix⟩
  · have hs : Signalled pg s t := by
      have h0 := OwnPage.refl pg s
      obtain h | h | h := h
      · exact .of_okIf (h0.set HDR.EV_PEND.V _) h
      · exact .of_okIf (h0.set HDR.EV_EN.V _) h
      · exact .of_okIf ((OwnPage.routed pg s v.toNat).rwl acc) h
    exact ⟨hs.rest, hs.reg⟩

end Sys2Proof.Machine

/-! ### Where the commands of a link complete (R44-R49, R55, R61-R67, R72, R76, R79, R80) -/

namespace Sys2Proof.Machine

section LinkCondition

variable {s t : State} {a : Nat}

/-- A training phase's command has its effect on a link of a running controller that is in the phase (R62). -/
theorem okIf_trainPhase {p : Nat} (hr : s.pwr.phase = .run) (hon : s.klcOn a = true) (hst : s.lkState a = 1)
    (hph : s.lkPhase a = p) : okIf (s.klcOn a && decide (s.lkState a = 1) && decide (s.lkPhase a = p)) s t = .next t :=
  okIf_run hr (by rw [hon, decide_eq_true hst, decide_eq_true hph]; rfl)

/-- A command of every training phase has its effect on a link of a running controller that trains (R62). -/
theorem okIf_training (hr : s.pwr.phase = .run) (hon : s.klcOn a = true) (hst : s.lkState a = 1) :
    okIf (s.klcOn a && decide (s.lkState a = 1)) s t = .next t :=
  okIf_run hr (by rw [hon, decide_eq_true hst]; rfl)

/-- A command that takes a link down or to TRAIN has its effect on a link of a running controller that is not DOWN (R61, R80). -/
theorem okIf_notDown (hr : s.pwr.phase = .run) (hon : s.klcOn a = true) (hst : s.lkState a ≠ 0) :
    okIf (s.klcOn a && decide (s.lkState a ≠ 0)) s t = .next t :=
  okIf_run hr (by rw [hon, decide_eq_true hst]; rfl)

/-- What a lane of an ACTIVE link receives has its effect. -/
theorem okIf_active (hr : s.pwr.phase = .run) (ha : actOk s.part a = true) (hst : s.lkState a = 2) :
    okIf (actOk s.part a && decide (s.lkState a = 2)) s t = .next t :=
  okIf_run hr (by rw [ha, decide_eq_true hst]; rfl)

/-- A flit that needs block lock has its effect on a lane of an ACTIVE link that has it (R44). -/
theorem okIf_activeLocked {n : Lane} (hr : s.pwr.phase = .run) (ha : actOk s.part a = true) (hst : s.lkState a = 2)
    (hl : (s.lane a n).locked = true) :
    okIf (actOk s.part a && decide (s.lkState a = 2) && (s.lane a n).locked) s t = .next t :=
  okIf_run hr (by rw [ha, decide_eq_true hst, hl]; rfl)

end LinkCondition

/-- IDENT_RECEIVED by what the record says: a bad one or one that differs from the sibling's fails the link, and a good one
goes on to phase T3 or, at half rate, to DOZE (R62, R63). -/
theorem execIdentReceived_run {s : State} {a : Nat} (i : Ident) (hr : s.pwr.phase = .run) (hon : s.klcOn a = true)
    (hst : s.lkState a = 1) (hph : s.lkPhase a = 2) :
    execIdentReceived a i s = .next
      (if State.identBad a i then ((s.keepIdent a i).raise (pgKlc (clOf a)) 15 a).finishLeave a 4
       else if s.serialsDiffer a i then (((s.keepIdent a i).raise (pgKlc (clOf a)) 15 a).finishLeave a 4).leaveActive (sibOf a) 4
       else if s.fullRate a then
         ((s.keepIdent a i).set (pgAct a) ACT.LK_STAT.PHASE 3).setB (pgAct a) ACT.LK_STAT.FULL_RATE true
       else (s.keepIdent a i).moveLink a 3) :=
  okIf_trainPhase hr hon hst hph

/-- TRAIN_PHASE_TIMEOUT by the attempts that failed: FAULT at TRAIN_MAX, and before it the next attempt (R62). -/
theorem execTrainPhaseTimeout_run {s : State} {a : Nat} (hr : s.pwr.phase = .run) (hon : s.klcOn a = true)
    (hst : s.lkState a = 1) :
    execTrainPhaseTimeout a s = .next
      (if (s.lk a).fails + 1 ≥ max 1 (s.fld (pgKlc (clOf a)) KLC.KLC_CFG.TRAIN_MAX) then
         ((s.onLk a fun l => { l with fails := 0 }).raise (pgKlc (clOf a)) 2 a).moveLink a 4
       else (s.onLk a fun l => { l with fails := (s.lk a).fails + 1 }).startTrain a 1 ((s.lk a).fails + 2)) :=
  okIf_training hr hon hst

/-- Settles O9: the link stands in the state and phase that each command asks for; where a command has several endings, the
bridge, the identity record and the failed attempts pick one. -/
theorem linkTrainingCompletes : Obligations.LinkTrainingCompletes := by
  refine ⟨?wake, ?t1Pass, ?config, ?identGood, ?identBad, ?eqAdapted, ?t4Pass, ?lastAttempt, ?nextAttempt, ?los⟩
  case wake =>
    exact fun _ _ hr hon hst hup hawake => okIf_run hr (by rw [hon, decide_eq_true hst, hup, hawake]; rfl)
  case t1Pass =>
    intro a s hr hon hst hph hbridge
    refine (okIf_trainPhase hr hon hst hph).trans ?_
    rw [if_neg (by rw [hbridge]; decide)]
  case config => exact fun _ _ hr hon hst hph => okIf_trainPhase hr hon hst hph
  case identGood =>
    intro a i s hr hon hst hph hgood hsame hfull
    refine (execIdentReceived_run i hr hon hst hph).trans ?_
    simp [hgood, hsame, hfull]
  case identBad =>
    intro a i s hr hon hst hph hbad
    exact (execIdentReceived_run i hr hon hst hph).trans (by rw [if_pos hbad])
  case eqAdapted => exact fun _ _ hr hon hst hph => okIf_trainPhase hr hon hst hph
  case t4Pass => exact fun _ _ hr hon hst hph => okIf_trainPhase hr hon hst hph
  case lastAttempt =>
    intro a s hr hon hst hlast
    exact (execTrainPhaseTimeout_run hr hon hst).trans (by rw [if_pos hlast])
  case nextAttempt =>
    intro a s hr hon hst hmore
    exact (execTrainPhaseTimeout_run hr hon hst).trans (by rw [if_neg (Nat.not_le.mpr hmore)])
  case los => exact fun _ _ hr hon hst => okIf_notDown hr hon hst

/-- CHECK_FLIT by its CRC and its group: a good one in number confirms the lane's samples, any other fails (R49, R66). -/
theorem execCheckFlit_run {s : State} {a : Nat} (n : Lane) (group : Nat) (crcOk : Bool) (hr : s.pwr.phase = .run)
    (ha : actOk s.part a = true) (hst : s.lkState a = 2) :
    execCheckFlit a n group crcOk s = .next
      (if crcOk && (s.lane a n).group.all fun g => decide (group = (g + 1) % 4096) then
         (s.onLane a n fun l => { l with group := some group, bad := 0 }).onLane a n fun l =>
           { l with failed := 0, checkedTo := l.idx }
       else (s.onLane a n fun l => { l with group := some group, bad := 0 }).checkFails a n true) := by
  refine (okIf_active hr ha hst).trans ?_
  cases (s.lane a n).group <;> rfl

/-- Settles O10: the lane's link stands in the state that the flit asks for; the SAMPLE flit has
the number that the lane expects and the TIME flit finds no count to disagree with, so neither is a gap. -/
theorem linkReceptionCompletes : Obligations.LinkReceptionCompletes := by
  refine ⟨?badHeader, ?lockRegained, ?sample, ?time, ?status, ?checkGood, ?checkBad, ?reservedType, ?gap, ?stall⟩
  case badHeader => exact fun _ _ _ hr ha => okIf_run hr ha
  case lockRegained => exact fun _ _ _ hr ha => okIf_run hr ha
  case sample =>
    intro a n sseq samples s l hr ha hst hl hseq hn
    have hskip : (sseq + 4096 - sseq) % 4096 = 0 := by omega
    refine (okIf_activeLocked hr ha hst hl).trans ?_
    rw [if_pos hn, hseq]
    simp only [hskip, ne_eq, not_true_eq_false, if_false]
  case time =>
    intro a n index sseq s l hr ha hst hl hseq
    refine (okIf_activeLocked hr ha hst hl).trans ?_
    rw [hseq]
    rfl
  case status =>
    intro a st ce ue s before s1 drop s2 s3 hr ha hst
    exact okIf_run hr (by rw [ha, hst, Bool.and_self])
  case checkGood =>
    intro a n group crcOk s l hr ha hst hcrc hgroup
    refine (execCheckFlit_run n group crcOk hr ha hst).trans ?_
    simp [hcrc, hgroup]
  case checkBad =>
    intro a n group crcOk s l hr ha hst hcrc
    refine (execCheckFlit_run n group crcOk hr ha hst).trans ?_
    simp [hcrc]
  case reservedType => exact fun _ _ _ hr ha hst => okIf_active hr ha hst
  case gap => exact fun _ _ _ hr ha hst => okIf_active hr ha hst
  case stall => exact fun _ _ _ hr ha hst => okIf_active hr ha hst

/-- DOZE_REQUEST by its value: 1 sends DOZE_ENTER from ACTIVE with the heads parked and no gate armed, 0 trains from T3 a
link in DOZE where full rate is allowed, and else the field alone is written (R61, R80). -/
theorem execDozeRequest_run {s : State} {a : Nat} (acc : Accessor) (value : Bool) (hr : s.pwr.phase = .run)
    (ha : actOk s.part a = true) :
    execDozeRequest acc a value s = .next
      (if value then
         if s.lkState a = 2 ∧ s.headsLoaded a = false ∧ s.gateOn a = false then
           (s.setB (pgAct a) ACT.LK_CTL.DOZE_REQ value).sendCmd a 0x0B 0
         else s.setB (pgAct a) ACT.LK_CTL.DOZE_REQ value
       else if s.lkState a = 3 ∧ s.fullRate a then (s.setB (pgAct a) ACT.LK_CTL.DOZE_REQ value).startTrain a 3 1
       else s.setB (pgAct a) ACT.LK_CTL.DOZE_REQ value) :=
  okIf_run hr ha

/-- RETRACT_SW_WRITE by what drives the line: the cause becomes software's where nothing drove it before (R76). -/
theorem execRetractSwWrite_run {s : State} {c : Nat} (acc : Accessor) (value : Bool) (hr : s.pwr.phase = .run)
    (hc : clOk s.part c = true) :
    execRetractSwWrite acc c value s = .next
      (if value ∧ ¬ s.drives c then
         ((s.setB (pgKlc c) KLC.RETRACT.SW_ASSERT value).syncRetract c).set (pgKlc c) KLC.RETRACT.CAUSE 2
       else (s.setB (pgKlc c) KLC.RETRACT.SW_ASSERT value).syncRetract c) :=
  okIf_run hr hc

section Leaving

variable {s : State} {a : Nat} {x : Leave}

/-- UNLOAD_ACK_TIMEOUT of a link that leaves and has no ACK: RETRACT_n goes low unless the signal is lost (R72). -/
theorem execUnloadAckTimeout_leaving (signalLost : Bool) (hr : s.pwr.phase = .run) (hx : (s.lk a).leave = some x)
    (hack : x.acked = false) :
    execUnloadAckTimeout a signalLost s = .next ((if signalLost then s else s.assertUnacked a).finishLeave a x.target) := by
  unfold execUnloadAckTimeout
  rw [hx]
  exact okIf_run hr (by rw [hack]; rfl)

/-- PARK_WAIT_TIMEOUT of a link that leaves with its ACK: the link moves (R72). -/
theorem execParkWaitTimeout_leaving (hr : s.pwr.phase = .run) (hx : (s.lk a).leave = some x) (hack : x.acked = true) :
    execParkWaitTimeout a s = .next (s.finishLeave a x.target) := by
  unfold execParkWaitTimeout
  rw [hx]
  exact okIf_run hr hack

end Leaving

/-- Settles O11: the link or the cluster stands as each command asks; the value written and the state of the link, the
line or the waiting unload pick the ending. -/
theorem linkControlCompletes : Obligations.LinkControlCompletes := by
  refine ⟨?ackTimeout, ?retrain, ?dozeEnter, ?dozeLeave, ?forceDown, ?swAssert, ?swRelease, ?hwRelease, ?holdExpiry,
    ?unloadAck, ?parkWait⟩
  case ackTimeout => exact fun _ _ hr ha hst => okIf_run hr (by rw [ha, hst, Bool.and_self])
  case retrain => exact fun _ _ _ hr hon hst => okIf_notDown hr hon hst
  case dozeEnter =>
    intro acc a value s hr ha hv hst hparked hgate
    refine (execDozeRequest_run acc value hr ha).trans ?_
    rw [if_pos hv, if_pos ⟨hst, hparked, hgate⟩]
  case dozeLeave =>
    intro acc a value s hr ha hv hst hfull
    refine (execDozeRequest_run acc value hr ha).trans ?_
    rw [if_neg (by rw [hv]; decide), if_pos ⟨hst, hfull⟩]
  case forceDown =>
    intro acc a value s hr ha hv hst
    exact (okIf_run hr ha).trans (by rw [if_pos ⟨hv, hst⟩])
  case swAssert =>
    intro acc c value s hr hc hv hfree
    refine (execRetractSwWrite_run acc value hr hc).trans ?_
    rw [if_pos ⟨hv, by rw [hfree]; decide⟩]
  case swRelease =>
    intro acc c value s hr hc hv
    refine (execRetractSwWrite_run acc value hr hc).trans ?_
    rw [if_neg (by simp [hv])]
  case hwRelease =>
    intro acc c s hr hc hacc
    exact (okIf_run hr hc).trans (by rw [if_neg (not_not_intro hacc)])
  case holdExpiry => exact fun _ _ hr hc hun => okIf_run hr (by rw [decide_eq_true hc, hun, Bool.and_self])
  case unloadAck =>
    intro a signalLost x s hr hx hack hsignal
    refine (execUnloadAckTimeout_leaving signalLost hr hx hack).trans ?_
    rw [if_neg (by rw [hsignal]; decide)]
  case parkWait => exact fun _ _ _ hr hx hack => execParkWaitTimeout_leaving hr hx hack

end Sys2Proof.Machine

/-! ### Where the commands of the read path complete (R66, R83, R113-R133, R253, R254, R394) -/

namespace Sys2Proof.Machine

section Detection

variable {s : State} {a : Nat} {w : RdWin}

/-- SOFT_DETECTION_DONE searches the oldest window that has ended, where one waits (R115). -/
theorem execSoftDetectionDone_ended {rest : List RdWin} (m : Marks) (hr : s.pwr.phase = .run)
    (hp : (s.det a).pend = w :: rest) :
    execSoftDetectionDone a m s = .next ((s.onDet a fun d => { d with pend := rest }).searchEnds a w m) := by
  unfold execSoftDetectionDone
  rw [hp]
  exact okIf_run hr rfl

/-- SOFT_DETECTION_DONE searches the open window once, where no ended one waits (R115). -/
theorem execSoftDetectionDone_open (m : Marks) (hr : s.pwr.phase = .run) (hp : (s.det a).pend = [])
    (hw : (s.det a).win = some w) (hs : w.searched = false) :
    execSoftDetectionDone a m s = .next
      ((s.onDet a fun d => { d with win := some { w with searched := true } }).searchEnds a w m) := by
  unfold execSoftDetectionDone
  rw [hp, hw]
  exact okIf_run hr (by rw [hs]; rfl)

/-- READ_WINDOW_END of a window whose taps are not adapted closes it: it waits for its search unless that is done (R113). -/
theorem execReadWindowEnd_unadapted (taps0 taps1 : List Int) (hr : s.pwr.phase = .run) (hw : (s.det a).win = some w)
    (had : ¬ (s.flag (pgAct a) ACT.RD_CTL.ADAPT_EN = true ∧ w.dset = 0)) :
    execReadWindowEnd a taps0 taps1 s = .next
      (s.onDet a fun d => { d with win := none, pend := if w.searched then d.pend else d.pend ++ [w] }) := by
  unfold execReadWindowEnd
  rw [hw]
  exact (if_neg had).trans (okIf_run hr rfl)

/-- LIVE_DECODE_DONE ends the live job that a decoder has for the actuator (R122). -/
theorem execLiveDecodeDone_running {j : LiveJob} (d : Decode) (hr : s.pwr.phase = .run)
    (hj : ((s.pool (clOf a)).live.find? fun j => decide (j.act = a) && decide (j.dec < 20)) = some j) :
    execLiveDecodeDone a d s = .next (s.liveEnds a j d) := by
  unfold execLiveDecodeDone
  rw [hj]
  exact okIf_run hr rfl

/-- RETRY_STORE_COPY_DONE by the ring's error and the store's room: an uncorrectable ring error leaves a gap, a free place
takes the record, and a full store leaves it unretried (R120, R121). -/
theorem execRetryStoreCopyDone_run {u unit sram : Nat} (hr : s.pwr.phase = .run) (hpin : s.pinned a u = true)
    (hroom : (decide (sram = 2) || s.placeFree unit (s.ringRec a u).units || !s.storeRoom (s.ringRec a u).units) = true) :
    execRetryStoreCopyDone a u unit sram s = .next
      (let r := s.ringRec a u
       let c := clOf a
       let s1 := s.setPin a u false
       let s2 := if sram = 1 then (s1.bump (pgFdc c) FDC.RS_CE.COUNT).raise (pgFdc c) 4 a else s1
       if sram = 2 then ((s1.bump (pgFdc c) FDC.RS_UE.COUNT).raise (pgFdc c) 5 a).reportRec .gap r 0
       else if s.placeFree unit r.units then
         ((s2.takeUnit unit c (decide (r.units = 2))).setStored unit r).reportRec .stored r 1
       else (s2.raise (pgFdc c) 3 a).reportRec .unretried r 0) :=
  okIf_run hr (by rw [hpin, hroom, Bool.and_self])

/-- BRICK_RELEASE of a brick that stays ciphertext delivers it as it is, once its check groups have passed (R66, R394). -/
theorem execBrickRelease_ciphertext {h : HeldBrick} (hr : s.pwr.phase = .run)
    (hh : (s.rc.held.find? fun h => decide (h.act = a) &&
      decide (h.upTo ≤ min (s.lk a).up0.checkedTo (s.lk a).up1.checkedTo)) = some h) (hc : h.ciph ≠ 0) :
    execBrickRelease a s = .next
      { s with rc := { s.rc with held := s.rc.held.erase h, delivered := s.rc.delivered ++ [h] } } := by
  unfold execBrickRelease
  simp only [hh]
  exact (if_neg hc).trans (okIf_run hr rfl)

end Detection

section RetryPool

variable {s : State} {c : Nat}

/-- RETRY_JOB_POST of a stored brick by the pool's other jobs: it joins those of the same brick, URGENT if either is, and is
a job of its own where there is none (R122, R130). -/
theorem execRetryJobPost_run {unit : Nat} (urgent : Bool) (hr : s.pwr.phase = .run) (hc : clOk s.part c = true)
    (hst : (Tab.find? s.rc.store unit).isSome = true) :
    execRetryJobPost c unit urgent s = .next
      (let r := s.stored unit
       let same := fun (x : RetryJob) =>
         decide ((s.stored x.unit).tile = r.tile) && decide ((s.stored x.unit).slot = r.slot)
       let p := s.pool c
       if p.queue.any same || p.running.any (fun x => same x.job) then
         s.setPool c { p with
           queue := p.queue.map fun x => if same x then { x with urgent := x.urgent || urgent } else x
           running := p.running.map fun x =>
             if same x.job then { x with job := { x.job with urgent := x.job.urgent || urgent } } else x }
       else s.postRetry c ⟨r.tag, unit, r.act, urgent, r.level, 0, false⟩) :=
  okIf_run hr (by rw [hc, hst, Bool.and_self])

/-- RETRY_JOB_DEFERRED_POST posts the first job that waits in Mason to a pool with room (R254). -/
theorem execRetryJobDeferredPost_waiting {u : Nat} {rest : List Nat} (hr : s.pwr.phase = .run)
    (hd : s.mason.deferred = u :: rest) (hc : clOk s.part c = true) (hq : (s.pool c).queue.length < 32) :
    execRetryJobDeferredPost c s = .next
      (({ s with mason := { s.mason with deferred := rest } } : State).postRetry c
        ⟨(s.stored u).tag, u, (s.stored u).act, (s.stored u).urgent, (s.stored u).level, 0, false⟩) := by
  unfold execRetryJobDeferredPost
  rw [hd]
  exact okIf_run hr (by rw [hc, decide_eq_true hq, Bool.and_self])

/-- RETRY_ATTEMPT_DONE ends the attempt of the decoder's job, once its soft values are ready (R126). -/
theorem execRetryAttemptDone_replayed {dec : Nat} {run : Running} (d : Decode) (hr : s.pwr.phase = .run)
    (hj : ((s.pool c).running.find? fun x => decide (x.dec = dec)) = some run) (hready : run.job.replayed = true) :
    execRetryAttemptDone c dec d s = .next (s.attemptEnds c run d) := by
  unfold execRetryAttemptDone
  rw [hj]
  exact okIf_run hr hready

/-- LEVEL_BOUNDARY_DECISION of a job at a boundary by the time of a rebuild: a rebuild that beats the ladder's worst time
left cancels the job, and else the job goes on to its next level in the pool that Mason names (R128, R253). -/
theorem execLevelBoundaryDecision_run {tag : Nat} {j : RetryJob} (tRb dest : Nat) (hr : s.pwr.phase = .run)
    (hj : ((s.pool c).boundary.find? fun j => decide (j.tag = tag)) = some j) :
    execLevelBoundaryDecision c tag tRb dest s = .next
      (let s1 := s.setPool c { s.pool c with boundary := (s.pool c).boundary.erase j }
       let r := s.stored j.unit
       let j' := { j with
         level := j.level + 1, attempt := 0, replayed := decide (j.level = 1) && decide (dest = c) && j.replayed }
       if tRb * max 1 (s.fld 0x18 MSN.MSN_CFG.RB_BIAS) < 16 * State.worstLeft j.level then
         (s1.freeUnits j.unit).reportRec .cancelled r j.level
       else ((s1.setStored j.unit { r with level := j.level + 1 }).setPool dest
         { s1.pool dest with queue := State.putBack (s1.pool dest).queue j' }).settlePool dest) := by
  unfold execLevelBoundaryDecision
  simp only [hj]
  split_ifs <;> exact okIf_run hr rfl

/-- DECODER_PARITY_ERROR of a decoder with neither a live nor a retry job counts the error, and fences the decoder where the
error has become lasting (R124). -/
theorem execDecoderParityError_idle {dec : Nat} (hr : s.pwr.phase = .run) (hc : clOk s.part c = true) (hdec : dec < 20)
    (hlive : ((s.pool c).live.find? fun j => decide (j.dec = dec)) = none)
    (hrun : ((s.pool c).running.find? fun x => decide (x.dec = dec)) = none) :
    execDecoderParityError c dec s = .next
      (let s1 := (s.bump (pgLdp c) LDP.DEC_PERR.COUNT).raise (pgLdp c) 4 dec
       let s2 := if s.io.becomesLasting (pgLdp c) 4 dec then
           (s1.set (pgLdp c) LDP.FENCE.DEC (bitSet (s1.fld (pgLdp c) LDP.FENCE.DEC) dec)).raise (pgLdp c) 5 dec
         else s1
       (s2.setPool c (s.pool c)).settlePool c) := by
  refine (okIf_run hr (by rw [hc, decide_eq_true hdec, Bool.and_self])).trans ?_
  simp only [hlive, hrun]

end RetryPool

/-- Settles O13: each command finds the window, the record or the job that it ends; the ring's error and the store's room,
the jobs of the same brick, the time left and the decoder's work pick the ending. -/
theorem readPathCompletes : Obligations.ReadPathCompletes := by
  refine ⟨?wedge, ?endedWindow, ?openWindow, ?windowEnd, ?liveDecode, ?storeCopy, ?release, ?jobPost, ?deferredPost,
    ?replay, ?attempt, ?boundary, ?parity, ?qmClear, ?fence⟩
  case wedge =>
    intro a rec s d good r k s1 s2 t t' s3 hr ha htgt hen
    exact okIf_run hr (by rw [ha, htgt, hen]; rfl)
  case endedWindow => exact fun _ m _ _ _ hr hp => execSoftDetectionDone_ended m hr hp
  case openWindow => exact fun _ m _ _ hr hp hw hs => execSoftDetectionDone_open m hr hp hw hs
  case windowEnd =>
    intro a taps0 taps1 w s hr hw hoff
    exact execReadWindowEnd_unadapted taps0 taps1 hr hw (by simp [hoff])
  case liveDecode => exact fun _ d _ _ hr hj => execLiveDecodeDone_running d hr hj
  case storeCopy =>
    intro a u unit sram s r hr hpin hroom hclean hfree
    refine (execRetryStoreCopyDone_run hr hpin hroom).trans ?_
    simp [hclean, hfree]
  case release => exact fun _ _ _ hr hh hc => execBrickRelease_ciphertext hr hh hc
  case jobPost =>
    intro c unit urgent s hr hc hst hq hrun
    refine (execRetryJobPost_run urgent hr hc hst).trans ?_
    rw [if_neg (by rw [hq, hrun]; decide)]
  case deferredPost => exact fun _ _ _ _ hr hd hc hq => execRetryJobDeferredPost_waiting hr hd hc hq
  case replay =>
    intro c unit s p hr hready
    exact okIf_run hr hready
  case attempt => exact fun _ _ d _ _ hr hj hready => execRetryAttemptDone_replayed d hr hj hready
  case boundary =>
    intro c tag tRb dest j s hr hj ht
    exact (execLevelBoundaryDecision_run tRb dest hr hj).trans (by rw [if_pos ht])
  case parity =>
    intro c dec s hr hc hdec hlive hrun honce
    refine (execDecoderParityError_idle hr hc hdec hlive hrun).trans ?_
    simp [honce]
  case qmClear => exact fun _ _ hr ha => okIf_run hr ha
  case fence => exact fun _ _ _ hr hc => okIf_run hr hc

end Sys2Proof.Machine

/-! ### Where the commands of the sequencer complete (R134-R137, R140, R143-R146, R151, R155-R160) -/

namespace Sys2Proof.Machine

/-- A running thread issues its next word in the slot of that word's operation, where the word is read without an error and
gives no cause for a machine check (R134, R140, R155). -/
theorem okIf_seqSlot {op : Nat} (a upset : Nat) (s : State) (hr : s.pwr.phase = .run) (ha : actOk s.part a = true)
    (hen : s.enabled (pgFsq (clOf a)) = true) (hst : s.sqState a = 1) (hinj : s.injects (pgFsq (clOf a)) 1 = false)
    (hup : upset % 2 ^ 144 = 0) (hop : (if wSeq (s.nextWord a upset) ≥ 9 then 0 else wSeq (s.nextWord a upset)) = op)
    (hchk : s.checkCause a (s.nextWord a upset) = none) :
    okIf true s (s.seqSlot a upset op) = .next (s.issue a (s.nextWord a upset)) := by
  have hslot : (actOk s.part a && s.enabled (pgFsq (clOf a)) && decide (s.sqState a = 1) &&
      decide ((if wSeq (s.nextWord a upset) ≥ 9 then 0 else wSeq (s.nextWord a upset)) = op)) = true := by
    rw [ha, hen, decide_eq_true hst, decide_eq_true hop]; rfl
  rw [okIf_run hr rfl]
  unfold State.seqSlot
  simp only [hinj, Bool.false_eq_true, if_false, if_pos hslot, if_pos hup, hchk]

/-- Settles O14: each of the nine operations is the slot of that operation (`okIf_seqSlot`), a reserved one that of NEXT. -/
theorem sequencerSlotsComplete : Obligations.SequencerSlotsComplete :=
  ⟨okIf_seqSlot, okIf_seqSlot, okIf_seqSlot, okIf_seqSlot, okIf_seqSlot, okIf_seqSlot, okIf_seqSlot, okIf_seqSlot,
    okIf_seqSlot⟩

section Thread

variable {s : State} {a : Nat}

/-- A thread of an enabled sequencer in HALTED or MCHK starts at START (R160). -/
theorem State.runThread_start (hen : s.enabled (pgFsq (clOf a)) = true) (hst : s.sqState a = 0 ∨ s.sqState a = 3) :
    s.runThread a = (s.onThr a fun t => { t with next := s.fld (pgAct a) ACT.SQ_CTL.START }).toSq a 1 := by
  unfold State.runThread
  exact if_pos (by simpa [hen] using hst)

/-- A thread command of an accessor other than PF1 has its effect on an actuator that is there (R33, R160). -/
theorem okIf_threadCommand {acc : Accessor} {t u : State} (hr : s.pwr.phase = .run) (ha : actOk s.part a = true)
    (hacc : acc.isPf1 = false) : okIf (actOk s.part a) s (if acc.isPf1 then u else t) = .next t := by
  rw [okIf_run hr ha, if_neg (by rw [hacc]; decide)]

/-- GATE_END_TIMEOUT drops the gate that has the tag, every slot of it void (R151). -/
theorem execGateEndTimeout_found {tag : Nat} {g : Gate} (hr : s.pwr.phase = .run)
    (hg : (s.thr a).gates.find? (fun g => decide (g.tag = tag)) = some g) :
    execGateEndTimeout a tag s = .next (s.dropGate a g none) := by
  unfold execGateEndTimeout
  rw [hg]
  exact okIf_run hr rfl

/-- JOB_POST by the room in the thread's FIFO: the job enters it, or is refused with JOB_FIFO_FULL (R137). -/
theorem execJobPost_run (item pred : Nat) (hr : s.pwr.phase = .run) (ha : actOk s.part a = true) :
    execJobPost a item pred s = .next
      (if s.io.fifoRoom a then (s.post a (item % 2 ^ 128)).enqueue a pred
       else (s.post a (item % 2 ^ 128)).raise (pgFsq (clOf a)) 6 a) :=
  okIf_run hr ha

end Thread

/-- Settles O15: the thread waits, holds the gate or stands in the state that each command asks for; the room in its FIFO
picks the ending of a post. -/
theorem threadCommandsComplete : Obligations.ThreadCommandsComplete := by
  refine ⟨?waitOver, ?gateLost, ?gateEnd, ?run, ?halt, ?abort, ?posted, ?refused, ?wordRead⟩
  case waitOver =>
    intro a slots s w s1 hr hst hcond
    exact okIf_run hr (by rw [decide_eq_true hst, hcond, Bool.and_self])
  case gateLost => exact fun _ _ hr hgate hwg => okIf_run hr (by rw [hgate, hwg]; rfl)
  case gateEnd => exact fun _ _ _ _ hr hg => execGateEndTimeout_found hr hg
  case run =>
    intro acc a s hr ha hacc hen hst
    exact (okIf_threadCommand hr ha hacc).trans (by rw [State.runThread_start hen hst])
  case halt =>
    intro acc a s hr ha hacc hst
    exact (okIf_threadCommand hr ha hacc).trans (by rw [if_pos hst])
  case abort => exact fun _ _ _ hr ha hacc => okIf_threadCommand hr ha hacc
  case posted =>
    intro a item pred s hr ha hroom
    exact (execJobPost_run item pred hr ha).trans (by rw [if_pos hroom])
  case refused =>
    intro a item pred s hr ha hfull
    exact (execJobPost_run item pred hr ha).trans (by rw [if_neg (by rw [hfull]; decide)])
  case wordRead =>
    intro acc a s w hr ha
    exact okIf_run hr ha

section ControlStore

variable {s : State} {acc : Accessor} {c : Nat}

/-- A command that is MGP's alone has its effect on a cluster that is there (R158, R159). -/
theorem okIf_mgpCommand {t u : State} (hr : s.pwr.phase = .run) (hc : clOk s.part c = true) (hacc : acc = .mgp) :
    okIf (clOk s.part c) s (if acc ≠ .mgp then u else t) = .next t := by
  rw [okIf_run hr hc, if_neg (not_not_intro hacc)]

/-- CS_WORD_COMMIT by MGP with REPAIR set, by its word: bad parity or a reserved bit raises LOAD_REJECT, and else the word is
stored at CS_ADDR, which counts on, and enters the digest too under LOAD_EN with ENABLE 0 (R157-R159). -/
theorem execCsWordCommit_repair (data4 : Word) (hr : s.pwr.phase = .run) (hc : clOk s.part c = true) (hacc : acc = .mgp)
    (hrep : s.flag (pgFsq c) FSQ.CS_CTL.REPAIR = true) :
    execCsWordCommit acc c data4 s = .next
      (let pg := pgFsq c
       let w := s.csDataWord c data4.toNat
       let n := s.fld pg FSQ.CS_ADDR.ADDR
       let s1 := (s.setCsWord c n w).set pg FSQ.CS_ADDR.ADDR (n + 1)
       if badGroups w ≠ 0 ∨ w % 2 ^ 25 ≠ 0 then s.raise pg 5 c
       else if s.flag pg FSQ.CS_CTL.LOAD_EN && !s.enabled pg then
         ({ s1 with seq := { s1.seq with digest := Tab.upd [] s1.seq.digest c (fun ws => ws ++ [w]) } } : State).showDigest c
       else s1) := by
  refine (okIf_mgpCommand hr hc hacc).trans ?_
  rw [if_neg (by simp [hrep])]

end ControlStore

/-- Settles O16: each write is MGP's (R158, R159) and the repair names a word of the store with good parity; CS_CTL, the word
spelled and the thread addressed pick the ending. -/
theorem controlStoreCommandsComplete : Obligations.ControlStoreCommandsComplete := by
  refine ⟨?loadEnable, ?repairEnable, ?digestClr, ?commit, ?reject, ?parityRepair, ?zoneEntry⟩
  case loadEnable =>
    intro acc c value s hr hc hacc hdis
    exact (okIf_mgpCommand hr hc hacc).trans (by rw [if_neg (by rw [hdis]; decide)])
  case repairEnable => exact fun _ _ _ _ hr hc hacc => okIf_mgpCommand hr hc hacc
  case digestClr => exact fun _ _ _ hr hc hacc => okIf_mgpCommand hr hc hacc
  case commit =>
    intro acc c data4 s hr hc hacc hload hrep hpar hres
    refine (execCsWordCommit_repair data4 hr hc hacc hrep).trans ?_
    rw [if_neg (by rw [hpar, hres]; decide), if_neg (by simp [hload])]
  case reject =>
    intro acc c data4 s hr hc hacc hrep hpar
    exact (execCsWordCommit_repair data4 hr hc hacc hrep).trans (by rw [if_pos (.inl hpar)])
  case parityRepair =>
    intro c n word s hr hc hn hpar
    exact okIf_run hr (by rw [hc, decide_eq_true hn, decide_eq_true hpar]; rfl)
  case zoneEntry =>
    intro acc c value s hr hc hacc hst
    exact (okIf_run hr hc).trans (by rw [if_neg (by simp [hacc, hst])])

end Sys2Proof.Machine

/-! ### Where the commands of servo control complete (R162, R172, R173, R176, R177, R181-R183, R186, R187) -/

namespace Sys2Proof.Machine

section Servo

variable {s : State} {a : Nat}

/-- SERVO_UPDATE takes the oldest record of its pipe and updates the loop from it (R162). -/
theorem execServoUpdate_taken {e pipe : Nat} {w : WedgeRec} {s1 : State} (lat ce ue ueIdx : Nat)
    (hr : s.pwr.phase = .run) (htake : s.takeRecord e pipe = some (a, w, s1)) :
    execServoUpdate e pipe lat ce ue ueIdx s = .next (s1.update a w lat ce ue ueIdx) := by
  unfold execServoUpdate
  rw [htake]
  exact okIf_run hr rfl

/-- UNLOAD_REQUEST by its sender, of a loop in neither OPEN nor FAULT: a thread sends assist level 0 before the unload
(R183, R188, R212). -/
theorem execUnloadRequest_run (byThread : Bool) (hr : s.pwr.phase = .run) (ha : actOk s.part a = true)
    (hopen : s.svState a ≠ 0) (hfault : s.svState a ≠ 5) :
    execUnloadRequest a byThread s = .next ((if byThread then s.assistSet a 0 else s).sendUnload a) :=
  okIf_run hr (by rw [ha, decide_eq_true hopen, decide_eq_true hfault]; rfl)

/-- SET_WRITE of a CLOSED loop by the set written: FOLLOW ends the count of SETTLE_TO, and shows the seek done where no other
target is asked for; the other sets show it not done (R173, R177, R188). -/
theorem execSetWrite_closed {n : Nat} (hr : s.pwr.phase = .run) (ha : actOk s.part a = true) (hst : s.svState a = 2)
    (hn : n < 3) :
    execSetWrite a n s = .next
      (((s.onLoop a fun l => { l with followRun := 0, sinceAsk := if n = 2 then none else l.sinceAsk }).toSet a n).setB
        (pgAct a) ACT.SV_CTL.SEEK_DONE
        (decide (n = 2) && ((s.loop a).asked.getD (s.loop a).target == (s.loop a).target))) :=
  okIf_run hr (by rw [ha, decide_eq_true hst, decide_eq_true hn]; rfl)

/-- COEF_MEM_WRITE of a coefficient memory (MEM 0) by the loop's state: OPEN takes the word and moves to the next index, any
other state refuses it (R172, R187). -/
theorem execCoefMemWrite_coef {e : Nat} (value : Word) (hr : s.pwr.phase = .run) (he : engOk s.part e = true)
    (hmem : s.fld (pgSve e) SVE.MEM_ADDR.MEM = 0) :
    execCoefMemWrite e value s = .next
      (let act := 8 * e + s.fld (pgSve e) SVE.MEM_ADDR.ACT
       if s.svState act = 0 then (s.coefWrite act (s.fld (pgSve e) SVE.MEM_ADDR.INDEX) value).nextIndex e
       else (s.bump (pgAct act) ACT.SV_CNT_D.COEF_REFUSED).raise (pgSve e) 6 act) := by
  refine (okIf_run hr he).trans ?_
  simp only [hmem]

end Servo

/-- Settles O17: a record waits in the pipe, or the loop stands in the state that each command asks for, with its count or
its limit reached. -/
theorem servoLoopCompletes : Obligations.ServoLoopCompletes := by
  refine ⟨?update, ?acquired, ?loadingOutput, ?loadTimeout, ?lostTimeout, ?unloadTimeout, ?settleTimeout⟩
  case update => exact fun _ _ lat ce ue ueIdx _ _ _ _ hr htake => execServoUpdate_taken lat ce ue ueIdx hr htake
  case acquired =>
    intro a s l hr hst hacq
    have hseek : (decide (s.svState a = 1) || decide (s.svState a = 3)) = true := by simpa using hst
    exact okIf_run hr (by rw [hseek, decide_eq_true hacq]; rfl)
  case loadingOutput => exact fun _ _ hr hst => okIf_run hr (decide_eq_true hst)
  case loadTimeout => exact fun _ _ hr hst => okIf_run hr (decide_eq_true hst)
  case lostTimeout => exact fun _ _ hr hst => okIf_run hr (decide_eq_true hst)
  case unloadTimeout => exact fun _ _ hr ha hst => okIf_run hr (by rw [ha, decide_eq_true hst, Bool.and_self])
  case settleTimeout =>
    intro a s lim hr hst hlim hlate
    exact okIf_run hr (by rw [decide_eq_true hst, decide_eq_true hlim, hlate]; rfl)

/-- Settles O18: the actuator or the engine is there; the loop's state, the sender, the set written and the trace's state
pick the ending. -/
theorem servoCommandsComplete : Obligations.ServoCommandsComplete := by
  refine ⟨?load, ?unloadByWrite, ?unloadByThread, ?retract, ?clear, ?followSet, ?otherSet, ?seek, ?coefTaken,
    ?coefRefused, ?memRead, ?traceArm, ?traceStop, ?traceDone⟩
  case load => exact fun _ _ hr ha => okIf_run hr ha
  case unloadByWrite =>
    intro a byThread s hr ha hopen hfault hby
    subst hby
    exact execUnloadRequest_run false hr ha hopen hfault
  case unloadByThread =>
    intro a byThread s hr ha hopen hfault hby
    subst hby
    exact execUnloadRequest_run true hr ha hopen hfault
  case retract => exact fun _ _ hr ha hlow => okIf_run hr (by rw [ha, hlow, Bool.and_self])
  case clear =>
    intro a s hr ha hst hparked
    exact okIf_run hr (by rw [ha, decide_eq_true hst, hparked]; rfl)
  case followSet =>
    intro a n s hr ha hst hn hset
    refine (execSetWrite_closed hr ha hst hn).trans ?_
    simp only [hset, if_true, decide_true, Bool.true_and]
  case otherSet =>
    intro a n s hr ha hst hn hset
    refine (execSetWrite_closed hr ha hst hn).trans ?_
    simp only [if_neg hset, decide_eq_false hset, Bool.false_and]
  case seek => exact fun _ _ _ hr ha => okIf_run hr ha
  case coefTaken =>
    intro e value s hr he hmem hopen
    exact (execCoefMemWrite_coef value hr he hmem).trans (by rw [if_pos hopen])
  case coefRefused =>
    intro e value s hr he hmem hopen
    exact (execCoefMemWrite_coef value hr he hmem).trans (by rw [if_neg hopen])
  case memRead => exact fun _ _ _ hr he => okIf_run hr he
  case traceArm => exact fun _ _ _ hr he => okIf_run hr he
  case traceStop =>
    intro e value s hr he harmed
    exact (okIf_run hr he).trans (by rw [if_pos harmed])
  case traceDone =>
    intro e s hr hst hleft
    exact okIf_run hr (by rw [decide_eq_true hst, decide_eq_true hleft, Bool.and_self])

end Sys2Proof.Machine

/-! ### Where the commands of the spindles complete (R193-R206, R209) -/

namespace Sys2Proof.Machine

section Spindle

variable {s : State} {n : Nat}

/-- A happening of one state of a channel has its effect on a channel in that state (R197). -/
theorem okIf_spinState {k : Nat} {t : State} (hr : s.pwr.phase = .run) (hst : s.spState n = k) :
    okIf (decide (s.spState n = k)) s t = .next t :=
  okIf_run hr (decide_eq_true hst)

/-- CURRENT_PERIOD_MISSED in RUN by the periods missed: the 40th is NO_CURRENT and observer loss, and before it the last
duties are repeated (R203). -/
theorem execCurrentPeriodMissed_run (hr : s.pwr.phase = .run) (hn : slotOk s.part n = true) (hst : s.spState n = 6) :
    execCurrentPeriodMissed n s = .next
      (let s1 := s.onCh n fun c => { c with missed := c.missed + 1 }
       if (s.ch n).missed + 1 ≥ 40 then ((s1.onCh n fun c => { c with missed := 0 }).spRaise n 8).observerLoss n
       else s1.spinOut n (s.ch n).phU (s.ch n).phV (s.ch n).phW 0) :=
  (okIf_run hr (by rw [hn, hst]; rfl)).trans (by rw [if_pos hst])

/-- START_PROBE_CHECK by what the first probes saw and the attempts that failed: a third failure is SPIN_START_FAIL, and
before it ALIGN begins again (R200). -/
theorem execStartProbeCheck_run (forward : Bool) (hr : s.pwr.phase = .run) (hst : s.spState n = 6)
    (hdue : (s.ch n).probesDue = true) :
    execStartProbeCheck n forward s = .next
      (let s1 := s.onCh n fun c => { c with probesDue := false }
       if forward then s1
       else if (s.ch n).attempts + 1 ≥ 3 then (((s1.spCause n 3).toSpin n 9).spinFree n).spRaise n 7
       else (s1.onCh n fun c => { c with attempts := c.attempts + 1 }).toSpin n 4) :=
  okIf_run hr (by rw [decide_eq_true hst, hdue, Bool.and_self])

/-- OVERCURRENT of a running spindle loses the observer (R193). -/
theorem execOvercurrent_run (hr : s.pwr.phase = .run) (hst : s.spState n = 6) :
    execOvercurrent n s = .next ((s.spRaise n 9).observerLoss n) :=
  (if_pos hst).trans (okIf_run hr rfl)

/-- OVERCURRENT in BRAKE, ALIGN, RAMP and SPINDOWN ends in FAULT with cause 0x08 (R193). -/
theorem execOvercurrent_fault (hr : s.pwr.phase = .run)
    (hst : s.spState n = 3 ∨ s.spState n = 4 ∨ s.spState n = 5 ∨ s.spState n = 8) :
    execOvercurrent n s = .next ((((s.spinFree n).spRaise n 9).spCause n 8).toSpin n 9) :=
  have hrun : s.spState n ≠ 6 := by omega
  (if_neg hrun).trans ((if_pos hst).trans (okIf_run hr rfl))

/-- REACQUIRED by whether a stop was held: the channel enters RUN at the angle and speed found, and the held stop goes on
from there (R197, R201). -/
theorem execReacquired_run (speed : Int) (theta : Nat) (hr : s.pwr.phase = .run) (hst : s.spState n = 7) :
    execReacquired n speed theta s = .next
      (let s1 := (((s.enterRun n speed).spSet n SPM.SPk_ANGLE.THETA theta).spBump n SPM.SPk_CNT_A.REACQ).spRaise n 4
       if (s.ch n).stopHeld then s1.stopRun n (s.ch n).why else s1) :=
  okIf_spinState hr hst

/-- SPINDLE_START in FAULT is refused, whatever the page's ENABLE (R198). -/
theorem execSpindleStart_fault (hr : s.pwr.phase = .run) (hn : slotOk s.part n = true) (hst : s.spState n = 9) :
    execSpindleStart n s = .next (s.spRaise n 11) :=
  (okIf_run hr hn).trans (by rw [if_pos (.inl hst)])

/-- SPINDLE_START of an enabled page in STOPPED or SPINDOWN clears what an earlier start left and puts the slot last in the
queue (R197, R198). -/
theorem execSpindleStart_queued (hr : s.pwr.phase = .run) (hn : slotOk s.part n = true)
    (hen : s.enabled (pgSpm (n / 4)) = true) (hst : s.spState n = 0 ∨ s.spState n = 8) :
    execSpindleStart n s = .next
      (let s1 := (s.toSpin n 1).onCh n fun c =>
         { c with attempts := 0, reached := false, forced := false, coast := false, stopping := false, stopHeld := false,
                  probesDue := false }
       { s1 with spin := { s1.spin with queue := s1.spin.queue ++ [n] } }) := by
  have hopen : ¬ (s.spState n = 9 ∨ s.enabled (pgSpm (n / 4)) = false) := by
    rintro (hfault | hdis)
    · omega
    · exact Bool.false_ne_true (hdis.symm.trans hen)
  exact (okIf_run hr hn).trans (by rw [if_neg hopen, if_pos hst])

/-- START_PLACE_ADMIT with a place free gives one to the first slot of the queue, which holds none yet, and takes it to
PROBE (R198). -/
theorem execStartPlaceAdmit_free {rest : List Nat} (hr : s.pwr.phase = .run) (hq : s.spin.queue = n :: rest)
    (hfree : s.spin.places.length < s.startMax) (hnew : s.spin.places.contains n = false) :
    execStartPlaceAdmit s = .next
      ((((({ s with spin := { s.spin with queue := rest } } : State).setPlaces (s.spin.places ++ [n])).spStatBit n
        SPM.SPM_STAT.START_PLACE true).spBump n SPM.SPk_CNT_B.STARTS).toSpin n 2) := by
  unfold execStartPlaceAdmit
  rw [hq]
  exact (okIf_run hr (by rw [decide_eq_true hfree, Bool.true_or])).trans (by rw [if_neg (by rw [hnew]; decide)])

/-- SPINDLE_STOP by the channel's state: REACQUIRE unloads the heads and holds the stop, any other state goes by its own
way of stopping (R197, R204). -/
theorem execSpindleStop_run (hr : s.pwr.phase = .run) (hn : slotOk s.part n = true) :
    execSpindleStop n s = .next
      (if s.spState n = 7 then (s.unloadSlot n).onCh n fun c => { c with stopHeld := true, why := 1 }
       else s.stopSpin n 1) :=
  okIf_run hr hn

/-- TARGET_WRITE by the target it makes: one beside NOM_RPM is refused while an actuator is not OPEN, and one that is taken
ends AT_SPEED where its conditions no longer hold (R195, R205). -/
theorem execTargetWrite_run (rpm : Nat) (hr : s.pwr.phase = .run) (hn : slotOk s.part n = true) :
    execTargetWrite n rpm s = .next
      (let s1 := s.spSet n SPM.SPk_TARGET.RPM rpm
       if s1.targetRpm n ≠ s.sp n SPM.SPk_TARGET.NOM_RPM ∧ s.bothOpen n = false then s.spRaise n 12
       else if s1.speedOk n then s1 else s1.loseSpeed n) :=
  okIf_run hr hn

/-- MOTOR_REGISTER_WRITE in STOPPED or FAULT, where LOCK does not bind the accessor, gives every field of the register its
bits (R34, R206). -/
theorem execMotorRegisterWrite_taken {acc : Accessor} {off : Nat} (value : Word) (hr : s.pwr.phase = .run)
    (hn : slotOk s.part n = true) (hreg : motorRegs.contains (off - 0x40 * (n % 4)) = true)
    (hst : s.spState n = 0 ∨ s.spState n = 9) (hlock : s.io.locked (pgSpm (n / 4)) = false ∨ acc = .mgp) :
    execMotorRegisterWrite acc n off value s = .next
      ((tableSPMUnit.filter fun f => f.off = off - 0x40 * (n % 4)).foldl
        (fun s f => s.spSet n f (bitsOf value.toNat f.hi f.lo)) s) := by
  have hstill : ¬ (s.spState n ≠ 0 ∧ s.spState n ≠ 9) := by omega
  have hfree : ¬ (s.io.locked (pgSpm (n / 4)) = true ∧ acc ≠ .mgp) := by
    rintro ⟨hl, hacc⟩
    exact hlock.elim (fun h => Bool.false_ne_true (h.symm.trans hl)) hacc
  exact (okIf_run hr (by rw [hn, hreg, Bool.and_self])).trans (by rw [if_neg hstill, if_neg hfree])

/-- SPINDLE_MEM_ACCESS by its direction: a write stores the cogging entry addressed and a read gives it to the accessor;
both move to the next index (R206, R209). -/
theorem execSpindleMemAccess_run {e : Nat} (acc : Accessor) (write : Bool) (value : Word) (hr : s.pwr.phase = .run)
    (he : engOk s.part e = true) :
    execSpindleMemAccess acc e write value s = .next
      (let pg := pgSpm e
       let k := (4 * e + s.fld pg SPM.MEM_ADDR.SLOT) * 512 + s.fld pg SPM.MEM_ADDR.INDEX
       let s1 := s.set pg SPM.MEM_ADDR.INDEX (s.fld pg SPM.MEM_ADDR.INDEX + 1)
       if write then { s1 with spin := { s1.spin with cog := Tab.put 0#16 s1.spin.cog k (value.setWidth 16) } }
       else s1.onIo fun i =>
         { i with readData := Tab.put 0 i.readData acc.num (Tab.get 0#16 s.spin.cog k).toNat }) :=
  okIf_run hr he

end Spindle

/-- Settles O19: the channel stands in the state that each command asks for; the periods missed, what the probes saw, the
attempts that failed and a held stop pick the ending. -/
theorem spindleRunCompletes : Obligations.SpindleRunCompletes := by
  refine ⟨?missed, ?speedTick, ?probesForward, ?lastAttempt, ?observerLost, ?overcurrentRun, ?overcurrentFault,
    ?atSpeed, ?probeEnd, ?brakeTimeout, ?alignEnd, ?startTimeout, ?reacquired, ?reacquireTimeout⟩
  case missed =>
    intro n s c hr hn _ _ hst hlast
    exact (execCurrentPeriodMissed_run hr hn hst).trans (by rw [if_pos hlast])
  case speedTick =>
    intro n speed s hr hn hstopped hfault
    exact (okIf_run hr hn).trans (by rw [if_neg (not_or_intro hstopped hfault)])
  case probesForward =>
    intro n forward s hr hst hdue hforward
    exact (execStartProbeCheck_run forward hr hst hdue).trans (by rw [if_pos hforward])
  case lastAttempt =>
    intro n forward s hr hst hdue hforward hlast
    refine (execStartProbeCheck_run forward hr hst hdue).trans ?_
    rw [if_neg (by rw [hforward]; decide), if_pos hlast]
  case observerLost => exact fun _ _ hr hst => okIf_spinState hr hst
  case overcurrentRun => exact fun _ _ hr hst => execOvercurrent_run hr hst
  case overcurrentFault => exact fun _ _ hr hst => execOvercurrent_fault hr hst
  case atSpeed => exact fun _ _ hr hok => okIf_run hr hok
  case probeEnd => exact fun _ _ _ hr hst => okIf_spinState hr hst
  case brakeTimeout => exact fun _ _ hr hst => okIf_spinState hr hst
  case alignEnd => exact fun _ _ hr hst => okIf_spinState hr hst
  case startTimeout =>
    intro n s hr hplace hlo hhi
    exact okIf_run hr (by rw [hplace, decide_eq_true hlo, decide_eq_true hhi]; rfl)
  case reacquired =>
    intro n speed theta s hr hst hheld
    exact (execReacquired_run speed theta hr hst).trans (by rw [if_neg (by rw [hheld]; decide)])
  case reacquireTimeout => exact fun _ _ hr hst => okIf_spinState hr hst

/-- Settles O20: the slot or the engine is there; the channel's state, the target made, LOCK and the direction of the access
pick the ending. -/
theorem spindleCommandsComplete : Obligations.SpindleCommandsComplete := by
  refine ⟨?queued, ?refused, ?admitted, ?stop, ?stopHeld, ?clear, ?targetRefused, ?targetTaken, ?motorRegister, ?memRead⟩
  case queued => exact fun _ _ hr hn hen hst => execSpindleStart_queued hr hn hen (.inl hst)
  case refused => exact fun _ _ hr hn hst => execSpindleStart_fault hr hn hst
  case admitted => exact fun _ _ _ hr hq hfree hnew => execStartPlaceAdmit_free hr hq hfree hnew
  case stop =>
    intro n s hr hn hst
    exact (execSpindleStop_run hr hn).trans (by rw [if_neg hst])
  case stopHeld =>
    intro n s hr hn hst
    exact (execSpindleStop_run hr hn).trans (by rw [if_pos hst])
  case clear =>
    intro n s hr hn hst
    exact okIf_run hr (by rw [hn, decide_eq_true hst, Bool.and_self])
  case targetRefused =>
    intro n rpm s hr hn hother hheads
    exact (execTargetWrite_run rpm hr hn).trans (by rw [if_pos ⟨hother, hheads⟩])
  case targetTaken =>
    intro n rpm s hr hn hnom hok
    refine (execTargetWrite_run rpm hr hn).trans ?_
    rw [if_neg fun h => h.1 hnom, if_pos hok]
  case motorRegister =>
    intro acc n off value s at0 hr hn hreg hst hlock
    exact execMotorRegisterWrite_taken value hr hn hreg (.inl hst) (.inl hlock)
  case memRead =>
    intro acc e write value s hr he hread
    exact (execSpindleMemAccess_run acc write value hr he).trans (by rw [if_neg (by rw [hread]; decide)])

end Sys2Proof.Machine

/-! ### Where the commands of the drives' calibration complete (R215, R216, R218-R222) -/

namespace Sys2Proof.Machine

section Check

variable {s : State} {a h : Nat}

/-- VERIFY_DONE of a head being checked, by the side it came out on: within the window the check ends; a first side outside
is verified again; the other side ends the check, and the same side again is a drift, which a recalibration follows where
ASC is enabled (R220, R221). -/
theorem execVerifyDone_checking (live : Nat) (hr : s.pwr.phase = .run) (ha : actOk s.part a = true) (hh : h < 12)
    (hcheck : (s.headWork a h).checking = true) :
    execVerifyDone a h live s = .next
      (let w := s.headWork a h
       let side := s.verifySide a h live
       let s1 := ((s.endCheck a h).bump 0x1C ASC.ASC_CNT_A.DRIFTS).raise 0x1C 0 a
       if side = 0 then s.endCheck a h
       else if w.side = 0 then (s.startVerify a h).setHeadWork a h { w with side := side }
       else if w.side ≠ side then s.endCheck a h
       else if s1.enabled 0x1C then s1.startSweep a h (s1.headWork a h)
       else s1) :=
  okIf_run hr (by rw [ha, decide_eq_true hh, hcheck]; rfl)

end Check

section Sweep

variable {s : State} {a h : Nat} {qs reps : List Nat} {i : Nat} (rise duty : Nat) (full : List Nat)
  (hr : s.pwr.phase = .run) (hi : s.chosenPoint qs = some i) (ha : actOk s.part a = true) (hh : h < 12)
  (hrecal : (s.headWork a h).recal = true) (hlen : qs.length = 2 * s.sweepPts + 1)

include hr hi ha hh hrecal hlen

/-- RECALIBRATION_SWEEP_DONE where the repeats do not agree with the chosen point: a first sweep is made again, and a later
one fails the recalibration (R222, R223). -/
theorem execRecalibrationSweepDone_disagree
    (hdis : agree (fun _ y => within 25 100 (qs.getD i 0 : Int) y) dist ((qs.getD i 0 : Int) :: reps.map Int.ofNat) = none) :
    execRecalibrationSweepDone a h qs reps rise duty full s = .next
      (let w := s.headWork a h
       if w.sweeps = 0 then s.startSweep a h { w with sweeps := 1 } else s.failRecal a h) := by
  unfold execRecalibrationSweepDone
  rw [hi]
  exact (okIf_run hr (by rw [ha, decide_eq_true hh, hrecal, decide_eq_true hlen]; rfl)).trans (by rw [hdis])

/-- RECALIBRATION_SWEEP_DONE where a repeat agrees with the chosen point, by the bridge: one without assist takes the write
current found, and one with assist the offset found, or a full recalibration where OFS_MAX is passed (R221-R223). -/
theorem execRecalibrationSweepDone_agree {p : Int × Int}
    (hagree : agree (fun _ y => within 25 100 (qs.getD i 0 : Int) y) dist ((qs.getD i 0 : Int) :: reps.map Int.ofNat) = some p) :
    execRecalibrationSweepDone a h qs reps rise duty full s = .next
      (let r := s.headRec a h
       let r1 : HeadRec := { r with
         riseCal := rise, dutyCal := duty, tCal := s.tempOf a, qmRef := (mean p).toNat, hours := s.io.hst.hours, kind := 2 }
       let ofs := s.sweepAt a h i - (s.headWork a h).base
       if s.fld (pgAct a) ACT.BR_CAP.ASSIST = 0 then
         s.acceptRecal a h { r1 with cur := (s.sweepAt a h i).toNat } false
       else if ofs.natAbs > 8 * s.fld 0x1C ASC.ASC_CFG2.OFS_MAX then
         (s.raise 0x1C 3 a).acceptRecal a h
           { r1 with level := State.fullTable r (State.nearestCol r (s.tempOf a)) full, ofs := 0, kind := 3 } true
       else s.acceptRecal a h { r1 with ofs := ofs } false) := by
  unfold execRecalibrationSweepDone
  rw [hi]
  exact (okIf_run hr (by rw [ha, decide_eq_true hh, hrecal, decide_eq_true hlen]; rfl)).trans (by rw [hagree])

end Sweep

/-- Settles O21: the slot, the actuator or the head is there, in the work that each command ends; the side of the verify, the
repeats of the sweep and the bridge's assist pick the ending. -/
theorem thermalAndRecalibrationComplete : Obligations.ThermalAndRecalibrationComplete := by
  refine ⟨?sample, ?stale, ?thermal, ?check, ?within, ?verifyAgain, ?sweepAgain, ?currentFound, ?bias⟩
  case sample =>
    intro n t s s1 hr hn hlink
    exact okIf_run hr (by rw [hn, hlink, Bool.and_self])
  case stale => exact fun _ _ hr hn => okIf_run hr hn
  case thermal =>
    intro duty s keys hr
    exact okIf_run hr rfl
  case check =>
    intro a h s hr ha hen hh hdue hlowest hidle hclosed hactive
    refine okIf_run hr ?_
    rw [ha, hen, decide_eq_true hh, hdue, hlowest, hidle, decide_eq_true hclosed, decide_eq_true hactive]
    rfl
  case within =>
    intro a h live s w hr ha hh hcheck hin
    exact (execVerifyDone_checking live hr ha hh hcheck).trans (by simp only [if_pos hin])
  case verifyAgain =>
    intro a h live s w side hr ha hh hcheck hout hfirst
    exact (execVerifyDone_checking live hr ha hh hcheck).trans (by simp only [if_neg hout, if_pos hfirst])
  case sweepAgain =>
    intro a h qs reps rise duty full i s hr hi ha hh hrecal hlen hdis hfirst
    exact (execRecalibrationSweepDone_disagree rise duty full hr hi ha hh hrecal hlen hdis).trans (by simp only [if_pos hfirst])
  case currentFound =>
    intro a h qs reps rise duty full i p s hr hi ha hh hrecal hlen hagree hbare
    exact (execRecalibrationSweepDone_agree rise duty full hr hi ha hh hrecal hlen hagree).trans (by simp only [if_pos hbare])
  case bias =>
    intro a avgs s put ok2 s1 last s2 hr ha hfollow hsize
    exact okIf_run hr (by rw [ha, hfollow, decide_eq_true hsize]; rfl)

end Sys2Proof.Machine

/-! ### Where the commands of the references and of the hold-up measurement complete (R224, R225, R229, R230, R232) -/

namespace Sys2Proof.Machine

/-- HOLDUP_MEASUREMENT_END before its 20 ms, where the runs with this one hold an agreeing pair: the FET closes and the pair
is taken; the capacitance is that of the energy drawn between the two voltages (R229, R230). -/
theorem execHoldupMeasurementEnd_agree {s : State} {drawn v1 v2 esr : Nat} {p : (Nat × Nat × Bool) × (Nat × Nat × Bool)}
    (hr : s.pwr.phase = .run) (hbusy : s.flag 4 CAL.CAL_STAT.HU_BUSY = true) (hdrop : v2 < v1)
    (hagree : agree (fun (x : Nat × Nat × Bool) y => within 3 100 x.1 y.1) (fun x y => dist x.1 y.1)
      (s.asc.huRuns ++ [(2000000000 * drawn / (v1 * v1 - v2 * v2), esr, false)]) = some p) :
    execHoldupMeasurementEnd drawn v1 v2 esr false s = .next
      ((({ s with pwr := { s.pwr with fet := true } }.setB 4 CAL.CAL_STAT.HU_BUSY false).bump 4 CAL.CAL_CNT.HU_RUNS).huAccept
        p) := by
  unfold execHoldupMeasurementEnd
  simp only [Bool.false_and, Bool.false_eq_true, if_false]
  exact (okIf_run hr (by rw [hbusy, decide_eq_true hdrop, Bool.and_self])).trans (by rw [hagree])

/-- Settles O22: the calibrations run at once; a hold-up measurement starts where it is wanted and its conditions hold,
ends with the pair that agrees, and expires by its age. -/
theorem referenceCalibrationCompletes : Obligations.ReferenceCalibrationCompletes := by
  refine ⟨?references, ?refGo, ?fref, ?huGo, ?holdupStart, ?ageExpiry, ?holdupEnd⟩
  case references => exact fun _ _ _ _ _ hr => okIf_run hr rfl
  case refGo => exact fun _ _ _ _ _ _ _ hr => okIf_run hr rfl
  case fref => exact fun _ _ _ hr => okIf_run hr rfl
  case huGo => exact fun _ _ hr => okIf_run hr rfl
  case holdupStart =>
    intro s hr hwanted hok hidle _
    exact okIf_run hr (by rw [hwanted, hok, hidle, decide_eq_true hr]; rfl)
  case ageExpiry =>
    intro s p hr hvalid hperiod hold
    exact okIf_run hr (by rw [hvalid, decide_eq_true hperiod, decide_eq_true hold]; rfl)
  case holdupEnd =>
    intro drawn v1 v2 esr late p s lower vEnd hr hbusy hdrop hlate hagree
    subst hlate
    exact execHoldupMeasurementEnd_agree hr hbusy hdrop hagree

end Sys2Proof.Machine

/-! ### Where the commands of the pools, the slots and the courses complete (R234, R235, R240, R245-R248, R264) -/

namespace Sys2Proof.Machine

section Slot

variable {s : State} {n : Nat}

/-- SLOT_CANCEL of a slot that is draining: it is ACCEPTED again, or excluded where that was asked for meanwhile (R235). -/
theorem execSlotCancel_draining (hr : s.pwr.phase = .run) (hn : slotOk s.part n = true) (hst : s.slotSt n = 3) :
    execSlotCancel n s = .next ((s.toSlot n 1).tryExclude n) :=
  (okIf_run hr hn).trans (by rw [if_pos hst])

/-- SLOT_EXCLUDE that LOCK lets through, by its value: 1 excludes the slot as soon as it can be, 0 takes an EXCLUDED slot
back (R37, R235). -/
theorem execSlotExclude_unbound {acc : Accessor} (value : Bool) (hr : s.pwr.phase = .run) (hn : slotOk s.part n = true)
    (hlock : s.io.locked 0x18 = false ∨ acc = .mgp) :
    execSlotExclude acc n value s = .next
      (let s1 := s.setB (State.pgMsn n) MSN.SLOT_CTL.EXCLUDE value
       if value then s1.tryExclude n else if s1.slotSt n = 5 then s1.toSlot n 0 else s1) :=
  (okIf_run hr hn).trans (by rw [State.rwl_unbound hlock])

end Slot

/-- COURSE_OPEN of a METADATA course for background work, by the members found: too few raise PLACE_FAIL, and else their
tiles are taken and the course stands OPEN (R238, R245). -/
theorem execCourseOpen_metadata {s : State} {p number : Nat} (kdom stNs stId : Nat) (cands : List Cand)
    (hr : s.pwr.phase = .run) (hp : p < 8) (hen : s.enabled 0x18 = true) (hfree : (s.course number).geom = 0)
    (hnum : number < min 0x400000 (s.fld 0x19 MAP.CT_COURSES.N))
    (hopen : (s.mason.courses.filter fun kv =>
      decide (kv.2.st = 1) && decide (kv.2.pool = p) && decide (kv.2.kind = 3)).length <
        min 16 (max 1 (s.fld (State.pgMsn p) MSN.POOL_CFG.OPEN_MAX))) :
    execCourseOpen p 3 kdom number stNs stId cands true s = .next
      (let picks := s.choose p 3 (geomK 6) (geomM 6) [] cands
       let s1 := picks.zipIdx.foldl (fun (s : State) xn => s.reserveTile xn.1 number xn.2) s
       if picks.length < geomK 6 + geomM 6 then s.raise 0x18 6 p
       else (s1.setCourse number { Course.zero with
         geom := 6, pool := p, st := 1, kind := 3, kdom := noKdom, seqOpen := s1.mason.seq, hoursOpen := s1.io.hst.hours,
         members := picks.map (·.tile), stream := (stNs, stId) }).showPool p) := by
  unfold execCourseOpen
  refine (okIf_run hr ?_).trans ?_
  · rw [decide_eq_true hp, hen, decide_eq_true hfree, decide_eq_true hnum, decide_eq_true hopen]
    rfl
  · exact congrArg Host.Outcome.next (if_neg Bool.false_ne_true)

/-- Settles O23: the pool, the slot or the course stands as each command asks; LOCK, the value written and the members found
pick the ending. -/
theorem poolAndSlotCommandsComplete : Obligations.PoolAndSlotCommandsComplete := by
  refine ⟨?poolSlots, ?drain, ?cancel, ?exclude, ?restore, ?noPlacement, ?opened, ?encode, ?rowComplete, ?close⟩
  case poolSlots => exact fun _ _ _ _ hr hp => okIf_run hr (decide_eq_true hp)
  case drain => exact fun _ _ hr hn hst => okIf_run hr (by rw [hn, decide_eq_true hst, Bool.and_self])
  case cancel => exact fun _ _ hr hn hst => execSlotCancel_draining hr hn hst
  case exclude =>
    intro acc n value s hr hn hlock hv
    subst hv
    exact (execSlotExclude_unbound true hr hn (.inl hlock)).trans (by rw [if_pos rfl])
  case restore =>
    intro acc n value s hr hn hlock hv _ hst
    subst hv
    exact (execSlotExclude_unbound false hr hn (.inl hlock)).trans (by simp only [Bool.false_eq_true, if_false, if_neg hst])
  case noPlacement =>
    intro p kind kdom number stNs stId cands background s max_ open_ hr hp _ hen hfree hnum hopen hkind hbg hfew
    subst hkind hbg
    exact (execCourseOpen_metadata kdom stNs stId cands hr hp hen hfree hnum hopen).trans (by simp only [if_pos hfew])
  case opened =>
    intro p kind kdom number stNs stId cands background s max_ open_ picks s1 hr hp _ hen hfree hnum hopen hkind hbg henough
    subst hkind hbg
    exact (execCourseOpen_metadata kdom stNs stId cands hr hp hen hfree hnum hopen).trans (by rw [if_neg henough])
  case encode =>
    intro course fill sramUe s c hr hst hkind hen hrow hdue hcalm hfull hkeys
    refine okIf_run hr ?_
    rw [decide_eq_true hst, decide_eq_true hkind, hen, decide_eq_true hrow, decide_eq_true hdue, hcalm, hfull, hkeys]
    rfl
  case rowComplete =>
    intro course row s c hr hgeom hrow hroom hall hjrn
    exact okIf_run hr (by rw [decide_eq_true hgeom, decide_eq_true hrow, decide_eq_true hroom, hall, hjrn]; rfl)
  case close => exact fun _ _ hr hst => okIf_run hr (decide_eq_true hst)

end Sys2Proof.Machine

/-! ### Where reconstruction and its decisions complete (R251, R252) -/

namespace Sys2Proof.Machine

/-- Settles O24: the brick is one of an extent that is there, or its read waits; a read asks for enabled mortar engines too. -/
theorem reconstructionCompletes : Obligations.ReconstructionCompletes := by
  refine ⟨?read, ?waitEnd, ?decision⟩
  case read =>
    intro ix i got waits sramUe s e c k cb d id hr hst hi hen
    exact okIf_run hr (by rw [decide_eq_true hst, decide_eq_true hi, hen]; rfl)
  case waitEnd => exact fun _ _ _ hr hwait => okIf_run hr hwait
  case decision =>
    exact fun _ _ _ _ _ _ _ _ hr hst hi => okIf_run hr (by rw [decide_eq_true hst, decide_eq_true hi, Bool.and_self])

end Sys2Proof.Machine

/-! ### Where the maintenance of the placement completes (R244, R256-R271, R328, R393) -/

namespace Sys2Proof.Machine

/-- REPLICA_COMMIT of a copy into a REPLICA course with room, by the entry's image: an unchanged one becomes hot with its
replica there, and a changed one only ends its move (R256). -/
theorem execReplicaCommit_run {s : State} {ix course row : Nat} (hr : s.pwr.phase = .run)
    (hmove : (s.mason.moving.any fun kv => decide (kv.1 = ix)) = true) (hkind : (s.course course).kind = 2)
    (hgeom : (s.course course).geom ≠ 0) (hrow : row + (s.extent ix).len ≤ 65536) :
    execReplicaCommit ix course row s = .next
      (if s.unchanged ix then
         (((s.setExtent ix { s.extent ix with st := 1, hot := true, replCourse := course, replRow := row }).endMove ix).addLive
           course (s.extent ix).len).bump 0x18 MSN.REPL_CNT.CREATED
       else s.endMove ix) :=
  okIf_run hr (by rw [hmove, decide_eq_true hkind, decide_eq_true hgeom, decide_eq_true hrow]; rfl)

/-- REBUILD_MEMBER_SWITCH of a lost member whose rebuilt copy is there: the copy's tile closes and takes the member's place;
a DEGRADED course with no other member lost is CLOSED again (R261, R262). -/
theorem execRebuildMemberSwitch_copied {s : State} {course member : Nat} {mt : Nat × Nat} (hr : s.pwr.phase = .run)
    (hcopy : ((s.course course).copies.find? fun x => decide (x.1 = member)) = some mt)
    (hlost : bitOf (s.course course).lost member = true) (hrebuild : bitOf (s.course course).rebuild member = true) :
    execRebuildMemberSwitch course member s = .next
      (let c := s.course course
       let lost := bitClear c.lost member
       let s1 := s.setTile mt.2 { s.tile mt.2 with st := 2, course := course, pos := member, bricks := c.rows }
       let s2 := ((s1.setCourse course { c with
         members := c.members.set member mt.2, lost := lost, rebuild := bitClear c.rebuild member, copies := c.copies.erase mt
         st := if lost = 0 ∧ c.st = 3 then 2 else c.st }).addTo 0x18 MSN.REBUILT.BRICKS c.rows).showPool c.pool
       s2.rebuildCheck (slotOf (State.tileAct (c.members.getD member 0)))) := by
  unfold execRebuildMemberSwitch
  simp only [hcopy]
  exact okIf_run hr (by rw [hlost, hrebuild, Bool.and_self])

/-- REKEY_START of an ACTIVE domain that waits for it, where a domain is free and its keys are made: the namespace goes over
to the successor, and every course of the old domain is released or starts to be emptied (R265, R393). -/
theorem execRekeyStart_made {s s1 : State} {d d2 : Nat} {w0 w1 : Bool} (hr : s.pwr.phase = .run)
    (hfree : s.firstFree = some d2) (hwait : s.sec.rekeyWait.contains d = true) (hst : s.domSt d = 1)
    (hbg : s.background = true)
    (hmade : s.makeKeys d2 (s.fld (pgDom d) SEC.DOM_STAT.NSID) w0 w1 = (true, s1)) :
    execRekeyStart d w0 w1 s = .next
      (let s2 := (s1.set (pgDom d) SEC.DOM_STAT.STATE 2).onSec fun x => { x with rekeyWait := x.rekeyWait.erase d }
       let s3 := { s2 with nvme := { s2.nvme with
         ns := Tab.upd Ns.zero s2.nvme.ns (s.fld (pgDom d) SEC.DOM_STAT.NSID) fun n => { n with kdom := d2 } } }
       let s4 := s3.onMason fun m => { m with rekeying := m.rekeying ++ [(d, d2)] }
       ((s4.mason.courses.filter fun kv => decide (kv.2.geom ≠ 0) && decide (kv.2.kdom = d)).foldl
         (fun (s : State) kv => if (s.course kv.1).live = 0 then s.freeCourse kv.1 else s.retireCourse kv.1) s4).rekeyCheck) := by
  unfold execRekeyStart
  simp only [hfree, hmade]
  exact okIf_run hr (by rw [hwait, decide_eq_true hst, hbg]; rfl)

/-- CHECKPOINT_END of a checkpoint that has begun at S: its root record is kept and the journal before S released
(R269, R476). -/
theorem execCheckpointEnd_started {s : State} {n : Nat} (bootSlots : Nat) (hr : s.pwr.phase = .run)
    (hstart : s.mason.ckptStart = some n) :
    execCheckpointEnd bootSlots s = .next
      (((((s.journal [.ckpt true n]).onMason fun m => { m with
        ckptStart := none, ckpt := some ⟨n, m.tiles, m.courses, m.extents⟩
        roots := (if m.roots.length ≥ 1024 then m.roots.tail else m.roots) ++ [n]
        journal := m.journal.filter fun r => decide (r.jseq ≥ n) }).onNor fun x =>
          { x with bootSlots := bootSlots % 2 ^ 64 }).set 0x19 MAP.CKPT_JSEQ.S n).raise 0x19 1 0) := by
  unfold execCheckpointEnd
  rw [hstart]
  exact okIf_run hr rfl

/-- SEEK_TABLE_ACCESS of an entry that is there, by its direction: a write stores the entry and a read gives it to the
accessor; both move to the next index (R271). -/
theorem execSeekTableAccess_entry {s : State} (acc : Accessor) (write : Bool) (value : Nat) (hr : s.pwr.phase = .run)
    (hi : s.fld 0x18 MSN.SEEK_ADDR.INDEX < 25) :
    execSeekTableAccess acc write value s = .next
      (let i := s.fld 0x18 MSN.SEEK_ADDR.INDEX
       let s1 := s.set 0x18 MSN.SEEK_ADDR.INDEX ((i + 1) % 32)
       if write then s1.onMason fun m => { m with seek := Tab.put 0 m.seek i (value % 2 ^ 16) }
       else s1.onIo fun io => { io with readData := Tab.put 0 io.readData acc.num (Tab.get 0 s.mason.seek i) }) := by
  unfold execSeekTableAccess
  simp only [if_pos hi]
  cases write <;> exact okIf_run hr rfl

/-- Settles O25: the extent moves, the course, the slot or the domain stands as each command asks, or the checkpoint, the
journal or the table does; the entry's image and the direction of the access pick the ending. -/
theorem placementMaintenanceCompletes : Obligations.PlacementMaintenanceCompletes := by
  refine ⟨?heat, ?replicaKept, ?replicaStale, ?compaction, ?moveCommit, ?rebuildStart, ?rebuildSwitch, ?drainSwitch,
    ?rekey, ?persist, ?checkpointStart, ?checkpointEnd, ?seekWrite, ?seekRead, ?segment⟩
  case heat =>
    exact fun _ hr => okIf_run hr rfl
  case replicaKept =>
    intro ix course row s c hr hmove hkind hgeom hrow hsame
    exact (execReplicaCommit_run hr hmove hkind hgeom hrow).trans (by rw [if_pos hsame])
  case replicaStale =>
    intro ix course row s c hr hmove hkind hgeom hrow hchanged
    exact (execReplicaCommit_run hr hmove hkind hgeom hrow).trans (by rw [if_neg (by rw [hchanged]; decide)])
  case compaction =>
    intro p s free start goes hr hp hbg hen hlow
    exact okIf_run hr (by rw [decide_eq_true hp, hbg, hen, hlow]; rfl)
  case moveCommit =>
    intro ix course start s e old c n kd hr hmove hgeom hkind hkdom hother hroom
    refine okIf_run hr ?_
    rw [hmove, decide_eq_true hgeom, decide_eq_true hkind, decide_eq_true hkdom, decide_eq_true hother, decide_eq_true hroom]
    rfl
  case rebuildStart => exact fun _ _ _ hr hn hurgent hen => okIf_run hr (by rw [hn, hurgent, hen]; rfl)
  case rebuildSwitch =>
    intro course member mt s hr hcopy hlost hrebuild hmore
    refine (execRebuildMemberSwitch_copied hr hcopy hlost hrebuild).trans ?_
    simp only [if_neg fun h : _ ∧ _ => hmore h.1]
  case drainSwitch =>
    intro course member x s c old n hr hgeom hkind hmember hleaving hbg hcand hplace
    refine okIf_run hr ?_
    rw [decide_eq_true hgeom, decide_eq_true hkind, decide_eq_true hmember, hleaving, hbg, hcand, decide_eq_true hplace]
    rfl
  case rekey =>
    intro d w0 w1 d2 s1 s s2 s3 s4 hr hfree hwait hst hbg hmade
    exact (execRekeyStart_made hr hfree hwait hst hbg hmade).trans rfl
  case persist =>
    intro jseq s p hr hnew hwritten
    exact okIf_run hr (by rw [decide_eq_true hnew, decide_eq_true hwritten, Bool.and_self])
  case checkpointStart => exact fun _ hr hnone => okIf_run hr hnone
  case checkpointEnd => exact fun bootSlots _ _ hr hstart => execCheckpointEnd_started bootSlots hr hstart
  case seekWrite =>
    intro acc write value s hr hwrite hi
    exact (execSeekTableAccess_entry acc write value hr hi).trans (by rw [if_pos hwrite])
  case seekRead =>
    intro acc write value s hr hread hi
    exact (execSeekTableAccess_entry acc write value hr hi).trans (by rw [if_neg (by rw [hread]; decide)])
  case segment => exact fun _ _ _ hr hpoison => okIf_run hr hpoison

end Sys2Proof.Machine

/-! ### Where an admin command runs (R283, R309) -/

namespace Sys2Proof.Machine

namespace State

section Admin

variable {s : State} {c : Cmd} {run : State → State}

/-- An admin command that may be fetched from queue 0 runs on the state after its fetch, where its controller may send it and
no life-cycle transition bars it (R283, R309). -/
theorem admin_run {pf0 duringLc : Bool} (hr : s.pwr.phase = .run) (hf : s.canFetch c = true) (hq : c.sq = 0)
    (hpf0 : (pf0 && !isPf0 c.ctl) = false) (hlc : (!duringLc && (s.fetch c).flag 8 LCS.LC_STAT.BUSY) = false) :
    s.admin c pf0 duringLc run = .next (run (s.fetch c)) := by
  unfold admin
  rw [okIf_run hr (by rw [hf, decide_eq_true hq, Bool.and_self])]
  simp only [hpf0, hlc, Bool.false_eq_true, if_false]

/-- An admin command of every controller runs outside of a life-cycle transition. -/
theorem admin_anyCtrl (hr : s.pwr.phase = .run) (hf : s.canFetch c = true) (hq : c.sq = 0)
    (hlc : (s.fetch c).flag 8 LCS.LC_STAT.BUSY = false) : s.admin c false false run = .next (run (s.fetch c)) :=
  admin_run hr hf hq rfl (by rw [hlc, Bool.and_false])

/-- An admin command of PF0 runs outside of a life-cycle transition. -/
theorem admin_pf0 (hr : s.pwr.phase = .run) (hf : s.canFetch c = true) (hq : c.sq = 0) (hpf0 : isPf0 c.ctl = true)
    (hlc : (s.fetch c).flag 8 LCS.LC_STAT.BUSY = false) : s.admin c true false run = .next (run (s.fetch c)) :=
  admin_run hr hf hq (by rw [hpf0]; rfl) (by rw [hlc, Bool.and_false])

/-- An admin command that a life-cycle transition does not bar runs at any time. -/
theorem admin_duringLc (hr : s.pwr.phase = .run) (hf : s.canFetch c = true) (hq : c.sq = 0) :
    s.admin c false true run = .next (run (s.fetch c)) :=
  admin_run hr hf hq rfl rfl

end Admin

end State

end Sys2Proof.Machine

/-! ### Where the queue and event commands of the admin set complete (R279, R281, R283, R291, R295, R304, R307, R308) -/

namespace Sys2Proof.Machine

/-- A queue that is named by an identifier other than 0 and stands in its table is one that can be deleted or used (R281). -/
theorem not_zero_or_isNone {α : Type} {t : List (Nat × α)} {qid : Nat} {x : α} (hqid : qid ≠ 0)
    (hq : Tab.find? t qid = some x) : ¬(qid = 0 ∨ (Tab.find? t qid).isNone = true) := by
  rw [hq]
  exact fun h => h.elim hqid Bool.noConfusion

/-- Settles O26: each command is fetched from queue 0 with no life-cycle transition under way where it asks for that, and runs
on the state after its fetch (`State.admin_run`); the queue, the flight, the feature or the waiting event that it names picks
its ending. -/
theorem adminQueueCommandsComplete : Obligations.AdminQueueCommandsComplete := by
  refine ⟨?deleteSq, ?createSq, ?deleteCq, ?createCq, ?getLog, ?identify, ?abort, ?setFeature, ?setCache, ?getFeature,
    ?eventWaits, ?eventGiven⟩
  case deleteSq =>
    intro c qid x s s1 k mine s2 hr hf hq hlc hqid hsq
    refine (show execDeleteIoSubmissionQueue c qid s = _ from State.admin_anyCtrl hr hf hq hlc).trans ?_
    exact congrArg Host.Outcome.next (if_neg (not_zero_or_isNone hqid hsq))
  case createSq =>
    intro c qid size cqid prio contiguous x s s1 k hr hf hq hlc hfree hcqid hcq
    refine (show execCreateIoSubmissionQueue c qid size cqid prio contiguous s = _ from State.admin_anyCtrl hr hf hq hlc).trans ?_
    dsimp only
    rw [hfree]
    exact congrArg Host.Outcome.next (if_neg (not_zero_or_isNone hcqid hcq))
  case deleteCq =>
    intro c qid x s s1 k hr hf hq hlc hqid hcq hunused
    refine (show execDeleteIoCompletionQueue c qid s = _ from State.admin_anyCtrl hr hf hq hlc).trans ?_
    exact congrArg Host.Outcome.next ((if_neg (not_zero_or_isNone hqid hcq)).trans (if_neg (ne_true_of_eq_false hunused)))
  case createCq =>
    intro c qid size vector contiguous s s1 k hr hf hq hlc hfree
    refine (show execCreateIoCompletionQueue c qid size vector contiguous s = _ from State.admin_anyCtrl hr hf hq hlc).trans ?_
    dsimp only
    rw [hfree]
  case getLog =>
    intro c lid nsid ofs len rae v s2 s s1 hr hf hq hofs hlog
    refine (show execGetLogPage c lid nsid ofs len rae s = _ from State.admin_duringLc hr hf hq).trans ?_
    rw [if_neg (not_not.mpr hofs), hlog]
  case identify =>
    intro c cns nsid s s1 hr hf hq hcns
    exact (show execIdentify c cns nsid s = _ from State.admin_duringLc hr hf hq).trans (by rw [if_pos hcns])
  case abort =>
    intro c sqid cid others f s s1 hr hf hq hlc hothers hsqid hflight hwaits
    refine (show execAbort c sqid cid others s = _ from State.admin_anyCtrl hr hf hq hlc).trans ?_
    rw [if_neg (Nat.not_le.mpr hothers), if_neg fun h => hsqid h.1, hflight]
    exact congrArg Host.Outcome.next (if_neg (ne_true_of_eq_false hwaits))
  case setFeature =>
    intro c fid nsid value data s s1 k hr hf hq hlc hok hother
    refine (show execSetFeatures c fid nsid value data s = _ from State.admin_anyCtrl hr hf hq hlc).trans ?_
    simp only [List.mem_cons, not_or] at hother
    obtain ⟨h2, h6, h7, hC, hE, hC0, -⟩ := hother
    simp only [hok, Bool.not_true, Bool.false_eq_true, if_false, if_neg h2, if_neg h6, if_neg h7, if_neg hC, if_neg hE,
      if_neg hC0]
    rfl
  case setCache =>
    intro c fid nsid value data s s1 k hr hf hq hlc hok hfid
    subst hfid
    refine (show execSetFeatures c 6 nsid value data s = _ from State.admin_anyCtrl hr hf hq hlc).trans ?_
    rw [hok]
    rfl
  case getFeature =>
    intro c fid nsid s s1 hr hf hq hlc hok hother
    refine (show execGetFeatures c fid nsid s = _ from State.admin_anyCtrl hr hf hq hlc).trans ?_
    simp only [List.mem_cons, not_or] at hother
    obtain ⟨hC, hE, hC0, -⟩ := hother
    rw [hok, if_neg Bool.noConfusion, if_neg fun h => hC0 h.1, if_neg hE, if_neg hC]
  case eventWaits =>
    intro c s s1 k hr hf hq hlc hroom hnone
    refine (show execAsynchronousEventRequest c s = _ from State.admin_anyCtrl hr hf hq hlc).trans ?_
    dsimp only
    rw [if_neg (Nat.not_le.mpr hroom), hnone]
  case eventGiven =>
    intro c ev es s s1 k hr hf hq hlc hroom hev
    refine (show execAsynchronousEventRequest c s = _ from State.admin_anyCtrl hr hf hq hlc).trans ?_
    dsimp only
    rw [if_neg (Nat.not_le.mpr hroom), hev]

end Sys2Proof.Machine

/-! ### Where the firmware, management and security commands of the admin set complete (R283, R293, R294, R310) -/

namespace Sys2Proof.Machine

/-- FIRMWARE_COMMIT_REPLACE of a slot that the host names, outside of a sanitize: the running slot and one that is not there are
refused, then a staged image that fails its checks; a good one is written unless neither NOR device takes it (R293). -/
theorem execFirmwareCommitReplace_named {s : State} {c : Cmd} {slot : Nat} (hr : s.pwr.phase = .run) (hf : s.canFetch c = true)
    (hq : c.sq = 0) (hpf0 : isPf0 c.ctl = true) (hlc : (s.fetch c).flag 8 LCS.LC_STAT.BUSY = false)
    (hcalm : (s.fetch c).nvme.sanitize = none) (next w0 w1 : Bool) (hslot : slot ≠ 0) :
    execFirmwareCommitReplace c slot next w0 w1 s = .next
      (let s1 := s.fetch c
       if decide (slot > 2) || decide (slot = s1.fld 0 DEV.BOOT_IMG.RUN_SLOT) then s1.done c .fwSlot
       else if s1.imageOk s1.stagedImage then
         if !w0 && !w1 then (s1.norWrite w0 w1).done c .internalError
         else
           let s2 := s1.writeImage slot s1.stagedImage w0 w1
           (if next then s2.set 0 DEV.BOOT_IMG.NEXT slot else s2).done c .success
       else (s1.raise 9 5 0).done c .fwImage) := by
  refine (State.admin_pf0 hr hf hq hpf0 hlc).trans ?_
  dsimp only
  rw [if_neg hslot, hcalm]
  cases decide (slot > 2) || decide (slot = (s.fetch c).fld 0 DEV.BOOT_IMG.RUN_SLOT) with
  | true => rfl
  | false => cases (s.fetch c).imageOk (s.fetch c).stagedImage <;> rfl

/-- Settles O28: each command of PF0 runs on the state after its fetch (`State.admin_pf0`), and an activation under way ends; the
slot, the images in it and what was asked or staged before pick the ending. -/
theorem firmwareAndManagementCommandsComplete : Obligations.FirmwareAndManagementCommandsComplete := by
  refine ⟨?download, ?replace, ?replaceRunning, ?nextBoot, ?activate, ?quiesced, ?quiesceTimeout, ?miSend, ?miReceive,
    ?clearRecorder, ?report, ?unsupported⟩
  case download =>
    exact fun c ofs bytes s hr hf hq hpf0 hlc => show execFirmwareImageDownload c ofs bytes s = _ from
      State.admin_pf0 hr hf hq hpf0 hlc
  case replace =>
    intro c slot next w0 w1 s s1 hr hf hq hpf0 hlc hslot hcalm hother hw0 hnext
    subst hw0 hnext
    have hfits : ¬ (decide (slot > 2) || decide (slot = s1.fld 0 DEV.BOOT_IMG.RUN_SLOT)) = true := by
      rw [decide_eq_false (Nat.not_lt.mpr hslot.2), decide_eq_false hother]
      decide
    refine (execFirmwareCommitReplace_named hr hf hq hpf0 hlc hcalm false true w1 (Nat.ne_of_gt hslot.1)).trans ?_
    refine congrArg Host.Outcome.next ((if_neg hfits).trans ?_)
    simp only [Bool.not_true, Bool.false_and, Bool.false_eq_true, if_false]
    rfl
  case replaceRunning =>
    intro c slot next w0 w1 s s1 hr hf hq hpf0 hlc hslot hcalm hrunning
    refine (execFirmwareCommitReplace_named hr hf hq hpf0 hlc hcalm next w0 w1 hslot).trans ?_
    exact congrArg Host.Outcome.next (if_pos (by rw [decide_eq_true hrunning, Bool.or_true]))
  case nextBoot =>
    intro c slot s s1 hr hf hq hpf0 hlc hslot hcalm hdone
    subst s1
    refine (show execFirmwareCommitNextBoot c slot s = _ from State.admin_pf0 hr hf hq hpf0 hlc).trans ?_
    have hfits : ¬(slot = 0 ∨ slot > 2) := by omega
    rw [hcalm, hdone, decide_eq_false hfits]
    simp only [← Bool.not_or, ← Bool.or_eq_true]
    cases (s.fetch c).imageOk ((s.fetch c).imageAt 0 slot) || (s.fetch c).imageOk ((s.fetch c).imageAt 1 slot) <;> rfl
  case activate =>
    intro c slot s s1 hr hf hq hpf0 hlc hslot hcalm hidle
    refine (show execFirmwareCommitActivate c slot s = _ from State.admin_pf0 hr hf hq hpf0 hlc).trans ?_
    rw [hcalm]
    have hfits : ¬(slot = 0 ∨ slot > 2 ∨ s1.nvme.activating.isSome = true) := by
      rw [hidle]
      exact fun h => h.elim (by omega) fun h => h.elim (by omega) Bool.noConfusion
    cases himage : s1.slotImage slot with
    | none =>
      exact congrArg (fun e => Host.Outcome.next (s1.done c e)) (if_neg (by omega))
    | some x =>
      exact congrArg Host.Outcome.next (if_neg hfits)
  case quiesced =>
    intro ms c slot s hr hact hempty
    change execActivationQuiesced ms s = _
    unfold execActivationQuiesced
    rw [hact]
    exact okIf_run hr hempty
  case quiesceTimeout =>
    intro c slot s hr hact
    change execActivationQuiesceTimeout s = _
    unfold execActivationQuiesceTimeout
    rw [hact]
    exact okIf_run hr rfl
  case miSend =>
    intro c r s s1 hr hf hq hpf0 hlc hknown
    refine (show execNvmeMiSend c r s = _ from State.admin_pf0 hr hf hq hpf0 hlc).trans ?_
    exact congrArg Host.Outcome.next (if_neg hknown)
  case miReceive =>
    intro c sc v s s1 hr hf hq hpf0 hlc hasked
    exact (show execNvmeMiReceive c s = _ from State.admin_pf0 hr hf hq hpf0 hlc).trans (by rw [hasked])
  case clearRecorder =>
    intro c tok s s1 hr hf hq hpf0 hlc
    refine (show execClearEventRecorder c tok s = _ from State.admin_pf0 hr hf hq hpf0 hlc).trans ?_
    refine congrArg Host.Outcome.next ?_
    by_cases hgood : s1.tokenResult tok s1.clearAllowed = 1
    · exact (if_pos hgood).trans (by rw [if_pos hgood, hgood])
    · rw [if_neg hgood, if_neg hgood]
  case report =>
    intro c nonce len w0 w1 seed s s1 s2 hr hf hq hpf0 hlc hlen hactive hseed hleft
    subst s1 s2
    refine (show execGetAttestationReport c nonce len w0 w1 s = _ from State.admin_pf0 hr hf hq hpf0 hlc).trans ?_
    dsimp only
    rw [if_neg (Nat.not_lt.mpr hlen), hactive, hseed]
    simp only [if_neg hleft]
    rfl
  case unsupported =>
    intro c s hr hf hq
    refine (show execUnsupportedCommand c s = _ from okIf_run hr hf).trans ?_
    exact congrArg (fun e => Host.Outcome.next ((s.fetch c).done c e)) (if_neg fun h => hq h.1)

end Sys2Proof.Machine

/-! ### Where an I/O command runs (R272, R284, R285, R453) -/

namespace Sys2Proof.Machine

namespace State

section IoCommand

variable {s : State} {c : Cmd} {checks : State → Option Sc} {run : State → State}
  (hr : s.pwr.phase = .run) (hf : s.canFetch c = true) (hq : c.sq ≠ 0) (hkeys : s.sys.keysGone = false)

include hr hf hq hkeys

/-- An I/O command that may be fetched from its queue while the keys are there runs on the state after its fetch once its
checks pass, where it walks no map or the Map Walker is on (R272, R453). -/
theorem ioCmdAny_pass {walks : Bool} (hmap : (!walks || s.enabled 0x19) = true) (hpass : checks (s.fetch c) = none) :
    s.ioCmdAny walks c checks run = .next (run (s.fetch c)) := by
  refine (okIf_run hr (by rw [hf, decide_eq_true hq, hkeys, hmap]; rfl)).trans ?_
  dsimp only
  rw [hpass]

/-- One that looks places up in the map runs where the Map Walker is on. -/
theorem ioCmd_pass (hen : s.enabled 0x19 = true) (hpass : checks (s.fetch c) = none) :
    s.ioCmd c checks run = .next (run (s.fetch c)) :=
  ioCmdAny_pass hr hf hq hkeys (by rw [hen]; rfl) hpass

/-- One that a check fails completes with the check's status, with the Map Walker on or off. -/
theorem ioCmd_fail {e : Sc} (hfail : checks (s.fetch c) = some e) : s.ioCmd c checks run = .next ((s.fetch c).done c e) := by
  refine (okIf_run hr (by rw [hf, decide_eq_true hq, hkeys, hfail, Option.isSome_some, Bool.or_true]; rfl)).trans ?_
  dsimp only
  rw [hfail]

/-- A Zone Management Send that no write of its zones holds back changes each zone it names once its checks pass (R298). -/
theorem zoneSend_pass {nsid slba : Nat} {all_ : Bool} {sts : List Nat} {bad : State → Option Sc}
    {change : State → Nat → State}
    (hfree : ((s.zonesNamed nsid slba all_ sts).any fun z => s.behindWrite nsid (z * zoneSize) zoneSize) = false)
    (hen : s.enabled 0x19 = true) (hpass : firstOf [(s.fetch c).zoneStatus c nsid slba all_, bad (s.fetch c)] = none) :
    s.zoneSend c nsid slba all_ sts bad change = .next
      (((((s.fetch c).zonesNamed nsid slba all_ sts).foldl change (s.fetch c)).mapDone c nsid 0).settle) :=
  (if_neg (ne_true_of_eq_false hfree)).trans (ioCmd_pass hr hf hq hkeys hen hpass)

end IoCommand

end State

end Sys2Proof.Machine

/-! ### Where the NVM commands complete (R284, R285, R287, R288, R337, R341, R444) -/

namespace Sys2Proof.Machine

/-- Settles O29: a flight is found in its kind and state, or the command waits behind no write or fill, meets no poisoned segment
and passes its checks on the state after its fetch (`State.ioCmd_pass`). -/
theorem nvmCommandsComplete : Obligations.NvmCommandsComplete := by
  refine ⟨?flush, ?flushComplete, ?write, ?acknowledge, ?waitEnd, ?read, ?compare, ?zeroes, ?deallocate, ?verify⟩
  case flush =>
    intro c nsid s s1 hr hf hq hkeys hone hpass
    exact (show execFlush c nsid s = _ from State.ioCmdAny_pass hr hf hq hkeys rfl ((if_neg hone).trans hpass))
  case flushComplete =>
    intro c f s hr hflight hkind hclean hpersisted
    change execFlushComplete c s = _
    unfold execFlushComplete
    rw [hflight]
    exact okIf_run hr (by rw [decide_eq_true hkind, hclean, hpersisted]; rfl)
  case write =>
    intro c nsid slba nlb fua data dptr s s1 hr hnew hfree hf hq hkeys hen hpass
    change execWrite c nsid slba nlb fua data dptr s = _
    unfold execWrite
    rw [hnew]
    exact (if_neg (ne_true_of_eq_false hfree)).trans (State.ioCmd_pass hr hf hq hkeys hen hpass)
  case acknowledge =>
    intro c f s hr hflight hkind hsafe
    change execWriteAcknowledge c s = _
    unfold execWriteAcknowledge
    rw [hflight]
    refine (okIf_run hr (by rw [hkind, hsafe]; rfl)).trans ?_
    rw [hkind]
    rfl
  case waitEnd =>
    intro c f s hr hflight hwaits
    change execWriteWaitEnd c s = _
    unfold execWriteWaitEnd
    rw [hflight]
    exact okIf_run hr hwaits
  case read =>
    intro c nsid slba nlb fua lr dptr media s s1 r hr hfree hfilled hmap hf hq hkeys hen hpass hfua
    subst hfua
    change execRead c nsid slba nlb false lr dptr media s = _
    unfold execRead
    rw [if_neg (by rw [hfree, hfilled]; decide), hmap]
    exact State.ioCmd_pass hr hf hq hkeys hen hpass
  case compare =>
    intro c nsid slba nlb data dptr media s s1 r hr hfree hfilled hmap hf hq hkeys hen hpass
    change execCompare c nsid slba nlb data dptr media s = _
    unfold execCompare
    rw [if_neg (by rw [hfree, hfilled]; decide), hmap]
    exact State.ioCmd_pass hr hf hq hkeys hen hpass
  case zeroes =>
    intro c nsid slba nlb fua s s1 hr hfree hf hq hkeys hen hpass
    refine (show execWriteZeroes c nsid slba nlb fua s = _ from if_neg (ne_true_of_eq_false hfree)).trans ?_
    exact State.ioCmd_pass hr hf hq hkeys hen hpass
  case deallocate =>
    intro c nsid nr ad ranges s s1 hr hfree hf hq hkeys hen hpass had
    subst had
    refine (show execDatasetManagement c nsid nr true ranges s = _ from if_neg (ne_true_of_eq_false hfree)).trans ?_
    exact State.ioCmd_pass hr hf hq hkeys hen hpass
  case verify =>
    intro c nsid slba nlb media s s1 r hr hfree hfilled hmap hf hq hkeys hen hpass
    change execVerify c nsid slba nlb media s = _
    unfold execVerify
    rw [if_neg (by rw [hfree, hfilled]; decide), hmap]
    exact State.ioCmd_pass hr hf hq hkeys hen hpass

end Sys2Proof.Machine

/-! ### Where the zone commands complete (R284, R298) -/

namespace Sys2Proof.Machine

/-- Settles O30: a Zone Management Send waits behind no write of its zones and passes its checks (`State.zoneSend_pass`); an
append and a receive pass theirs, and taking a zone offline always fails one. -/
theorem zoneCommandsComplete : Obligations.ZoneCommandsComplete := by
  refine ⟨?close, ?finish, ?opened, ?reset, ?offline, ?receive, ?append⟩
  case close =>
    exact fun c nsid slba all_ s hr hfree hf hq hkeys hen hpass =>
      show execZoneClose c nsid slba all_ s = _ from State.zoneSend_pass hr hf hq hkeys hfree hen hpass
  case finish =>
    exact fun c nsid slba all_ s hr hfree hf hq hkeys hen hpass =>
      show execZoneFinish c nsid slba all_ s = _ from State.zoneSend_pass hr hf hq hkeys hfree hen hpass
  case opened =>
    exact fun c nsid slba all_ s hr hfree hf hq hkeys hen hpass =>
      show execZoneOpen c nsid slba all_ s = _ from State.zoneSend_pass hr hf hq hkeys hfree hen hpass
  case reset =>
    exact fun c nsid slba all_ s hr hfree hf hq hkeys hen hpass =>
      show execZoneReset c nsid slba all_ s = _ from State.zoneSend_pass hr hf hq hkeys hfree hen hpass
  case offline =>
    exact fun c nsid e s hr hf hq hkeys hen hfail =>
      show execZoneOffline c nsid s = _ from State.ioCmd_fail hr hf hq hkeys hfail
  case receive =>
    exact fun c nsid slba zra s hr hf hq hkeys hen hpass =>
      show execZoneManagementReceive c nsid slba zra s = _ from State.ioCmd_pass hr hf hq hkeys hen hpass
  case append =>
    intro c nsid zslba nlb fua data dptr s s1 at_ hr hnew hf hq hkeys hen hpass
    change execZoneAppend c nsid zslba nlb fua data dptr s = _
    unfold execZoneAppend
    rw [hnew]
    exact State.ioCmd_pass hr hf hq hkeys hen hpass

end Sys2Proof.Machine

/-! ### Where the key value commands complete (R284, R299, R300, R408) -/

namespace Sys2Proof.Machine

/-- RETRIEVE of a key that is there, once its checks pass: an offset beyond the value or an empty buffer gets nothing; a key on
the Unrecovered List or a brick that is not read fails; else the Retrieve is in flight with its whole chunks (R299, R300). -/
theorem execRetrieve_found {c : Cmd} {nsid : Nat} {key : List Nat} {bufSize ofs dptr : Nat} {o : KvObj} {s : State}
    (media : List (Nat × Brick)) (hr : s.pwr.phase = .run) (hfree : s.behindKey nsid key = false)
    (hmap : ((s.objOf nsid key).bind fun o => if ofs ≥ o.size then none
      else s.walkPoison nsid o.obj (State.valueSpan o.size ofs bufSize).1 (State.valueSpan o.size ofs bufSize).2) = none)
    (hf : s.canFetch c = true) (hq : c.sq ≠ 0) (hkeys : s.sys.keysGone = false) (hen : s.enabled 0x19 = true)
    (hpass : State.firstOf [(s.fetch c).ioStatus c nsid [1], State.keyStatus key, State.dptrStatus dptr,
      (s.fetch c).domStatus nsid, State.chk ((s.fetch c).objOf nsid key).isNone .keyAbsent,
      State.chk (((s.fetch c).nsOf nsid).strict && decide (bufSize > 67108864)) .strictLength] = none)
    (hobj : (s.fetch c).objOf nsid key = some o) :
    execRetrieve c nsid key bufSize ofs dptr media s = .next
      (let s1 := s.fetch c
       let span := State.valueSpan o.size ofs bufSize
       let r := s1.readRun nsid o.obj span.1 span.2 media
       if ofs ≥ o.size ∨ bufSize = 0 then s1.doneWith c .success o.size 0
       else if s1.unrecKey nsid o.obj || !r.1.all Option.isSome then r.2.doneWith c .unrecoveredRead o.size 0
       else r.2.setFlights (r.2.nvme.flights ++
         [{ r.2.newFlight c .retrieve nsid span.1 span.2 false (r.1.map (·.getD 0)) with
           obj := o.obj, started := true, new := some o, dw0 := o.size, range := (ofs, min bufSize (o.size - ofs)) }])) := by
  unfold execRetrieve
  dsimp only
  rw [if_neg (ne_true_of_eq_false hfree), hmap]
  refine (State.ioCmd_pass hr hf hq hkeys hen hpass).trans ?_
  rw [hobj]

/-- Settles O31: no Store of the key is under way and the checks pass (`State.ioCmd_pass`); the offset, the buffer and the bricks
read pick the Retrieve's ending, and its flight's next chunk has the tag it was stored with. -/
theorem keyValueCommandsComplete : Obligations.KeyValueCommandsComplete := by
  refine ⟨?store, ?retrieveNothing, ?retrieve, ?delete, ?exist, ?list, ?chunk⟩
  case store =>
    intro c nsid key size noOver onlyOver data dptr s s1 f r hr hnew hfree hf hq hkeys hen hpass
    change execStore c nsid key size noOver onlyOver data dptr s = _
    unfold execStore
    rw [hnew]
    exact (if_neg (ne_true_of_eq_false hfree)).trans (State.ioCmd_pass hr hf hq hkeys hen hpass)
  case retrieveNothing =>
    intro c nsid key bufSize ofs dptr media o s s1 hr hfree hmap hf hq hkeys hen hpass hobj hbeyond
    refine (execRetrieve_found media hr hfree hmap hf hq hkeys hen hpass hobj).trans ?_
    exact congrArg Host.Outcome.next (if_pos (.inl hbeyond))
  case retrieve =>
    intro c nsid key bufSize ofs dptr media o s s1 r hr hfree hmap hf hq hkeys hen hpass hobj hwithin hbuf hgood hread
    refine (execRetrieve_found media hr hfree hmap hf hq hkeys hen hpass hobj).trans ?_
    refine congrArg Host.Outcome.next ((if_neg fun h => h.elim (Nat.not_le.mpr hwithin) hbuf).trans (if_neg ?_))
    rw [hgood, hread]
    decide
  case delete =>
    intro c nsid key o s s1 hr hfree hf hq hkeys hen hpass hobj
    refine (show execDelete c nsid key s = _ from if_neg (ne_true_of_eq_false hfree)).trans ?_
    exact (State.ioCmd_pass hr hf hq hkeys hen hpass).trans (by rw [hobj])
  case exist =>
    intro c nsid key s s1 hr hfree hf hq hkeys hen hpass
    refine (show execExist c nsid key s = _ from if_neg (ne_true_of_eq_false hfree)).trans ?_
    exact State.ioCmd_pass hr hf hq hkeys hen hpass
  case list =>
    exact fun c nsid key s hr hf hq hkeys hen hpass =>
      show execList c nsid key s = _ from State.ioCmd_pass hr hf hq hkeys hen hpass
  case chunk =>
    intro c again f o s hr hflight hnew hkind htag hmore
    change execKvChunkTagCheck c again s = _
    unfold execKvChunkTagCheck
    rw [hflight]
    dsimp only
    rw [hnew]
    refine (okIf_run hr (decide_eq_true hkind)).trans ?_
    exact congrArg Host.Outcome.next ((if_pos htag).trans (if_neg hmore))

end Sys2Proof.Machine

/-! ### Where the doorbells and the commands of controllers and ports complete (R274, R278, R281, R282, R290, R292, R297) -/

namespace Sys2Proof.Machine

/-- SQ_DOORBELL_WRITE of a queue that stands, by its value: one beyond the queue's size is discarded with its event, and a
good one is the new tail where the controller is enabled (R281). -/
theorem execSqDoorbellWrite_queue {s : State} {ctl q : Nat} {x : Sq} (value : Nat) (hq : Tab.find? (s.ctrl ctl).sqs q = some x) :
    execSqDoorbellWrite ctl q value s =
      if value ≥ x.size then okIf true s ((s.asyncTo ctl (0, 1, 1)).raise 0x11 9 0)
      else okIf (s.ctrl ctl).en s (s.setCtrl ctl { s.ctrl ctl with
        sqs := (s.ctrl ctl).sqs.map fun kv => if kv.1 = q then (q, { kv.2 with tail := value }) else kv }) := by
  unfold execSqDoorbellWrite
  dsimp only
  rw [hq]

/-- FUNCTION_LEVEL_RESET of a function of a port: PF0 takes the whole port's controllers with it, of PF1 its MSI-X state alone is
reset, and a VF is reset alone (R290). -/
theorem execFunctionLevelReset_port {s : State} {port fn : Nat} (hr : s.pwr.phase = .run) (hport : port < 2) (hfn : fn ≤ 65) :
    execFunctionLevelReset port fn s = .next
      (if fn = 0 then ((List.range 65).foldl (fun (s : State) f => s.hostDisabled port f) s).resetPort port
       else if fn = 65 then
         (s.hostDisabled port 65).onIo fun i => { i with msixOpen := i.msixOpen.filter fun v => decide (v / 128 ≠ port) }
       else (s.hostDisabled port fn).resetCtrl (1 + 0x80 * port + fn)) :=
  okIf_run hr (by rw [decide_eq_true hport, decide_eq_true hfn, Bool.and_self])

/-- Settles O32: the queue, the controller, the port or the namespace stands as each command asks; the value, the function and the
cause pick the ending. -/
theorem controllerCommandsComplete : Obligations.ControllerCommandsComplete := by
  refine ⟨?sqTail, ?cqHead, ?sqBeyond, ?fetchResume, ?disable, ?enable, ?resetVf, ?resetPf0, ?portReset, ?vfsOff, ?normal,
    ?abrupt, ?ready⟩
  case sqTail =>
    intro ctl q value x s hr hq hvalue hen
    exact (execSqDoorbellWrite_queue value hq).trans ((if_neg (Nat.not_le.mpr hvalue)).trans (okIf_run hr hen))
  case cqHead =>
    intro ctl q value x s hr hq hvalue hen
    change execCqDoorbellWrite ctl q value s = _
    unfold execCqDoorbellWrite
    dsimp only
    rw [hq]
    exact (if_neg (Nat.not_le.mpr hvalue)).trans (okIf_run hr hen)
  case sqBeyond =>
    intro ctl q value x s hr hq hvalue
    exact (execSqDoorbellWrite_queue value hq).trans ((if_pos hvalue).trans (okIf_run hr rfl))
  case fetchResume =>
    exact fun s hr hfull hroom => okIf_run hr (by rw [hfull, decide_eq_true hroom, Bool.and_self])
  case disable => exact fun ctl s hr hen => okIf_run hr hen
  case enable =>
    intro ctl asq acq numVfs s k vf hr hreach hoff hvf hpf0 hserves
    refine (show execCcEnSet ctl asq acq numVfs s = _ from okIf_run hr ?_).trans ?_
    · rw [hreach, hoff, hvf]
      rfl
    · dsimp only
      rw [hserves, if_pos hpf0, if_pos rfl]
  case resetVf =>
    intro port fn s hr hport hfn hvf hpf1
    exact (execFunctionLevelReset_port hr hport hfn).trans (by rw [if_neg hvf, if_neg hpf1])
  case resetPf0 =>
    intro port fn s hr hport hfn hpf0
    exact (execFunctionLevelReset_port hr hport hfn).trans (by rw [if_pos hpf0])
  case portReset =>
    intro port cause s hr hport hcause
    refine (show execPortReset port cause s = _ from okIf_run hr (decide_eq_true hport)).trans ?_
    exact congrArg Host.Outcome.next (if_neg hcause)
  case vfsOff => exact fun _ _ hr hport => okIf_run hr (decide_eq_true hport)
  case normal => exact fun _ _ hr hen hidle => okIf_run hr (by rw [hen, decide_eq_true hidle, Bool.and_self])
  case abrupt => exact fun _ _ hr hen hidle => okIf_run hr (by rw [hen, decide_eq_true hidle, Bool.and_self])
  case ready =>
    intro nsid sec s n s1 hr hlive hnew hpool hdone hps hrail
    refine okIf_run hr ?_
    rw [hlive, hnew, hpool, hdone, decide_eq_true hps, hrail]
    rfl

end Sys2Proof.Machine

/-! ### Where the sideband's commands and those of the PCIe ports complete (R277, R312, R313, R315, R363, R461, R482) -/

namespace Sys2Proof.Machine

/-- PCIE_ERROR_DETECTED of a port that is there is counted by its kind; a correctable and an uncorrectable error raise their
events too (R313). -/
theorem execPcieErrorDetected_port {s : State} {port kind : Nat} (hr : s.pwr.phase = .run)
    (hport : port = 0 ∨ (port = 1 ∧ s.sys.twoPorts)) (hkind : kind ≤ 2) :
    execPcieErrorDetected port kind s = .next
      (if kind = 0 then (s.bump 0x10 (State.portReg port PCX.P0_ERR.CORR)).raise 0x10 2 0
       else if kind = 1 then s.bump 0x10 (State.portReg port PCX.P0_ERR.RECOV)
       else (s.bump 0x10 (State.portReg port PCX.P0_UNC.UNCORR)).raise 0x10 3 0) :=
  okIf_run hr (by rw [decide_eq_true hport, decide_eq_true hkind, Bool.and_self])

/-- Settles O33: a sideband request only asks that the module runs; the port, its link and its straps, the vector or the command
stand as the others ask, and the address, the trained link and the error's kind pick the ending. -/
theorem sidebandAndLinkCommandsComplete : Obligations.SidebandAndLinkCommandsComplete := by
  refine ⟨?dataStructure, ?subsystemPoll, ?controllerPoll, ?configurationGet, ?configurationSet, ?vpd, ?tunnelled, ?busTimeout,
    ?address, ?linkUp, ?linkDown, ?perst, ?unmask, ?busMaster, ?timeout, ?correctable, ?recovery, ?uncorrectable⟩
  case dataStructure => exact fun _ _ _ _ _ hr => okIf_run hr rfl
  case subsystemPoll => exact fun _ _ _ hr => okIf_run hr rfl
  case controllerPoll => exact fun _ _ _ _ hr => okIf_run hr rfl
  case configurationGet => exact fun _ _ _ _ hr => okIf_run hr rfl
  case configurationSet => exact fun _ _ _ _ _ hr => okIf_run hr rfl
  case vpd => exact fun _ _ _ _ _ hr => okIf_run hr rfl
  case tunnelled => exact fun _ _ _ _ _ _ _ _ _ hr => okIf_run hr rfl
  case busTimeout => exact fun _ hr hen => okIf_run hr hen
  case address =>
    intro da s hr hen hda
    refine (show execI3cAddressAssigned da s = _ from okIf_run hr hen).trans ?_
    dsimp only
    rw [decide_eq_true hda, if_neg hda]
  case linkUp =>
    intro port speed width s t top lanes pr hr hport hperst hspeed hwidth hclock htop hlanes
    refine (show execPcieLinkUp port speed width s = _ from okIf_run hr ?_).trans ?_
    · rw [decide_eq_true hport, hperst, decide_eq_true hspeed, decide_eq_true hwidth, hclock]
      rfl
    · exact congrArg Host.Outcome.next ((if_neg (Nat.not_lt.mpr hlanes.ge)).trans (if_neg (Nat.not_lt.mpr htop.ge)))
  case linkDown => exact fun _ _ hr hport hup => okIf_run hr (by rw [decide_eq_true hport, hup, Bool.and_self])
  case perst =>
    intro port two sris s hr hport hasserted hport0 hfirst
    refine (show execPerstDeassert port two sris s = _ from okIf_run hr ?_).trans ?_
    · rw [decide_eq_true hport, hasserted]
      rfl
    · exact congrArg Host.Outcome.next (if_pos ⟨hport0, by rw [hfirst]; rfl⟩)
  case unmask =>
    intro port v s hr hport hv hmasked
    exact okIf_run hr (by rw [decide_eq_true hport, decide_eq_true hv, hmasked]; rfl)
  case busMaster => exact fun _ _ _ hr hport hfn => okIf_run hr (by rw [decide_eq_true hport, decide_eq_true hfn, Bool.and_self])
  case timeout =>
    intro c n cmd s hr hc hnew hf
    subst hc
    change execCompletionTimeout (some cmd) n s = _
    unfold execCompletionTimeout
    dsimp only
    rw [hnew]
    exact okIf_run hr hf
  case correctable =>
    intro port kind s hr hport hkind hk
    exact (execPcieErrorDetected_port hr hport hkind).trans (by rw [if_pos hk])
  case recovery =>
    intro port kind s hr hport hkind hk
    exact (execPcieErrorDetected_port hr hport hkind).trans (by rw [if_neg (by omega), if_pos hk])
  case uncorrectable =>
    intro port kind s hr hport hkind hk
    exact (execPcieErrorDetected_port hr hport hkind).trans (by rw [if_neg (by omega), if_neg (by omega)])

end Sys2Proof.Machine

/-! ### Whole units written to the buffer memory (R323, R325) -/

namespace Sys2Proof.Machine

namespace State

/-- A write to DRAM changes the bytes alone. -/
theorem dramWrite_onBuf (s : State) (addr : Nat) (bs : List Nat) :
    ∃ d, s.dramWrite addr bs = s.onBuf fun b => { b with dram := d } := by
  induction bs generalizing s addr with
  | nil => exact ⟨s.buf.dram, rfl⟩
  | cons b bs ih =>
    obtain ⟨d, hd⟩ := ih (s.setDramByte addr (BitVec.ofNat 8 b)) (addr + 1)
    exact ⟨d, hd⟩

/-- What cleans poison changes the poison alone. -/
theorem cleanWrite_onBuf (s : State) (addr n : Nat) : ∃ p, s.cleanWrite addr n = s.onBuf fun b => { b with poison := p } := by
  unfold cleanWrite
  refine List.foldlRecOn (motive := fun t : State => ∃ p, t = s.onBuf fun b => { b with poison := p }) _ _
    ⟨s.buf.poison, rfl⟩ fun t ⟨p, ht⟩ kv _ => ?_
  subst ht
  split
  · exact ⟨p, rfl⟩
  · split
    · split
      · exact ⟨_, rfl⟩
      · exact ⟨p, rfl⟩
    · exact ⟨_, rfl⟩

/-- Where no line of the span is poisoned there is nothing to clean. -/
theorem cleanWrite_of_poisonedRange_eq_false {s : State} {addr n : Nat} (h : s.poisonedRange addr n = false) :
    s.cleanWrite addr n = s := by
  have hnil := List.filter_eq_nil_iff.mpr (List.any_eq_false.mp h)
  rw [cleanWrite, hnil, List.foldl_nil]

/-- The count of bytes moved is one register (R343). -/
theorem reg_moved (s : State) (r n : Nat) {p off : Nat} (h : key p off ≠ key 0x12 DMC.DMC_BYTES.BYTES.off) :
    (s.moved r n).io.reg p off = s.io.reg p off :=
  Io.reg_setFld_ne s.io _ h

section
variable {s : State} {r addr : Nat} {bytes : List Nat} (ha : addr % s.codeUnit r = 0) (hb : bytes.length % s.codeUnit r = 0)
include ha hb

/-- A write of whole units counts its bytes, drops the line's write-back, stores and cleans (R323-R325). -/
theorem writeLine_units : s.writeLine r addr bytes =
    (((s.moved r bytes.length).unfix (addr / 64)).dramWrite addr bytes).cleanWrite addr bytes.length :=
  if_pos ⟨ha, hb⟩

/-- Beside the count it changes the bytes, the poison and the line's write-back alone. -/
theorem writeLine_units_onBuf : ∃ d p, s.writeLine r addr bytes =
    ((s.moved r bytes.length).unfix (addr / 64)).onBuf fun b => { b with dram := d, poison := p } := by
  rw [writeLine_units ha hb]
  obtain ⟨p, hp⟩ := cleanWrite_onBuf (((s.moved r bytes.length).unfix (addr / 64)).dramWrite addr bytes) addr bytes.length
  obtain ⟨d, hd⟩ := dramWrite_onBuf ((s.moved r bytes.length).unfix (addr / 64)) addr bytes
  exact ⟨d, p, by rw [hp, hd]; rfl⟩

theorem writeLine_units_hod : (s.writeLine r addr bytes).hod = s.hod := by
  obtain ⟨d, p, h⟩ := writeLine_units_onBuf ha hb
  rw [h]
  rfl

theorem writeLine_units_fixes : (s.writeLine r addr bytes).buf.fixes = s.buf.fixes.filter fun x => decide (x ≠ addr / 64) := by
  obtain ⟨d, p, h⟩ := writeLine_units_onBuf ha hb
  rw [h]
  rfl

theorem writeLine_units_reg {p off : Nat} (h : key p off ≠ key 0x12 DMC.DMC_BYTES.BYTES.off) :
    (s.writeLine r addr bytes).io.reg p off = s.io.reg p off := by
  obtain ⟨d, q, hw⟩ := writeLine_units_onBuf ha hb
  rw [hw]
  exact reg_moved s r bytes.length h

theorem writeLine_units_poison (h : s.poisonedRange addr bytes.length = false) :
    (s.writeLine r addr bytes).buf.poison = s.buf.poison := by
  obtain ⟨d, hd⟩ := dramWrite_onBuf ((s.moved r bytes.length).unfix (addr / 64)) addr bytes
  rw [writeLine_units ha hb, hd]
  refine (congrArg (fun t : State => t.buf.poison) (cleanWrite_of_poisonedRange_eq_false ?_)).trans rfl
  exact h

theorem dramByte_writeLine_units (a : Nat) :
    (s.writeLine r addr bytes).dramByte a = (((s.moved r bytes.length).unfix (addr / 64)).dramWrite addr bytes).dramByte a := by
  rw [writeLine_units ha hb, dramByte, cleanWrite_dram]
  rfl

end

end State

/-- DRAM_FULL_WRITE of whole units within one line of a region that stands (R323). -/
theorem execDramFullWrite_units {s : State} {r addr : Nat} {bytes : List Nat} (hr : s.pwr.phase = .run)
    (hrgn : s.rgnOf addr = some r) (hwipe : s.rgnWiping r = false) (hline : State.inLine addr bytes.length = true)
    (ha : addr % s.codeUnit r = 0) (hb : bytes.length % s.codeUnit r = 0) :
    execDramFullWrite addr bytes s = .next (s.writeLine r addr bytes) := by
  unfold execDramFullWrite
  rw [hrgn]
  refine okIf_run hr ?_
  rw [hline, hwipe, decide_eq_true ha, decide_eq_true hb]
  rfl

/-- Settles O57: the bytes are those of `State.dramWrite`, and beside them `State.writeLine` counts the bytes moved and
changes poison and write-backs alone (`State.writeLine_units_onBuf`). -/
theorem fullWriteStoresItsBytes : Obligations.FullWriteStoresItsBytes := by
  intro addr bytes r s hr hrgn hwipe hline ha hb
  refine ⟨s.writeLine r addr bytes, execDramFullWrite_units hr hrgn hwipe hline ha hb, fun i hi => ?_, fun a hout => ?_,
    State.writeLine_units_hod ha hb, fun p off _ hne => State.writeLine_units_reg ha hb hne⟩
  · rw [State.dramByte_writeLine_units ha hb, State.dramByte_dramWrite_in _ _ _ hi]
  · rw [State.dramByte_writeLine_units ha hb, State.dramByte_dramWrite_out _ _ _ hout]
    rfl

end Sys2Proof.Machine

/-! ### Lines of a NONE region (R322) -/

namespace Sys2Proof.Machine

namespace State

/-- Putting a region in its place brings in that region alone. -/
theorem mem_rgnInsert {s : State} {r x : Nat} {rs : List Nat} (h : x ∈ s.rgnInsert r rs) : x = r ∨ x ∈ rs := by
  induction rs with
  | nil => exact .inl (List.mem_singleton.mp h)
  | cons y ys ih =>
    unfold rgnInsert at h
    split at h
    · exact List.mem_cons.mp h
    · obtain rfl | h := List.mem_cons.mp h
      · exact .inr List.mem_cons_self
      · exact (ih h).imp_right (List.mem_cons_of_mem y)

theorem mem_of_mem_foldr_rgnInsert {s : State} {x : Nat} {rs : List Nat} (h : x ∈ rs.foldr s.rgnInsert []) : x ∈ rs := by
  induction rs with
  | nil => exact h
  | cons r rs ih =>
    obtain rfl | h := mem_rgnInsert h
    · exact List.mem_cons_self
    · exact List.mem_cons_of_mem r (ih h)

/-- The scrubber reads lines with a code alone (R327). -/
theorem rgnCode_ne_zero_of_mem_scrubRgns {s : State} {r : Nat} (h : r ∈ s.scrubRgns) : s.rgnCode r ≠ 0 := by
  have hf := (List.mem_filter.mp (mem_of_mem_foldr_rgnInsert h)).2
  exact of_decide_eq_true (Bool.and_eq_true_iff.mp hf).2

/-- The count of bytes moved is no register of a region. -/
theorem rgnCode_moved (s : State) (r n x : Nat) : (s.moved r n).rgnCode x = s.rgnCode x := by
  have hkey : key (pgRgn x) MPS.RGN_CFG.CODE.off ≠ key 0x12 DMC.DMC_BYTES.BYTES.off :=
    key_ne_page (by decide) (by decide) (by unfold pgRgn bank; omega)
  exact congrArg (min 2) (Io.fld_setFld_ne s.io _ hkey)

section
variable {s : State} {r : Nat} (h : s.rgnCode r = 0)
include h

theorem rgnRaw_of_none : s.rgnRaw r = 8 * s.fld (pgRgn r) MPS.RGN_GEOM.SIZE := by
  simp [rgnRaw, h]

theorem codeUnit_of_none : s.codeUnit r = 1 := by
  simp [codeUnit, h]

/-- A demand read of a NONE line only counts the bytes it moves. -/
theorem readLine_of_none (line outcome : Nat) (brick : Option Nat) : s.readLine r line outcome brick = s.moved r 64 :=
  if_pos ((rgnCode_moved s r 64 r).trans h)

end

end State

/-- DRAM_READ of a line of a region that stands (R317, R324). -/
theorem execDramRead_region {s : State} {r addr : Nat} (outcome : Nat) (brick : Option Nat) (hr : s.pwr.phase = .run)
    (hrgn : s.rgnOf addr = some r) (hwipe : s.rgnWiping r = false) :
    execDramRead addr outcome brick s = .next (s.readLine r (addr / 64) outcome brick) := by
  unfold execDramRead
  rw [hrgn]
  exact okIf_run hr (by rw [hwipe]; rfl)

/-- Settles O56: without a code a read only counts (`State.readLine_of_none`), every write is of whole units
(`State.codeUnit_of_none`), and the scrubber's regions have one. -/
theorem noneLinesAreUnchecked : Obligations.NoneLinesAreUnchecked := by
  intro s r hnone
  refine ⟨State.rgnRaw_of_none hnone, fun hmem => State.rgnCode_ne_zero_of_mem_scrubRgns hmem hnone, ?read, ?write⟩
  case read =>
    intro addr outcome brick hr hrgn hwipe
    exact ⟨s.moved r 64, (execDramRead_region outcome brick hr hrgn hwipe).trans (by rw [State.readLine_of_none hnone]), rfl,
      fun p off _ hne => State.reg_moved s r 64 hne⟩
  case write =>
    intro addr bytes hr hrgn hwipe hline
    have units : ∀ n, n % s.codeUnit r = 0 := fun n => by rw [State.codeUnit_of_none hnone, Nat.mod_one]
    exact ⟨s.writeLine r addr bytes, execDramFullWrite_units hr hrgn hwipe hline (units _) (units _),
      State.writeLine_units_poison (units _) (units _), State.writeLine_units_fixes (units _) (units _),
      fun p off _ hne => State.writeLine_units_reg (units _) (units _) hne⟩

end Sys2Proof.Machine

/-! ### Where the commands of the buffer memory complete (R317, R318, R323-R325, R327, R330, R343) -/

namespace Sys2Proof.Machine

/-- REGION_VALID_CLEAR of a valid region with LOCK 0, by what R318 allows: a CAPTURE region at any time, another only while
MPS is disabled. -/
theorem execRegionValidClear_valid {s : State} {r : Nat} (acc : Accessor) (hr : s.pwr.phase = .run) (h16 : r < 16)
    (hvalid : s.rgnValid r = true) (hlock : s.io.locked 0x13 = false) :
    execRegionValidClear acc r s = .next
      (if s.rgnOwner r = 10 ∨ !s.enabled 0x13 then
        (s.setB (State.pgRgn r) MPS.RGN_CFG.VALID false).setB (State.pgRgn r) MPS.RGN_STAT.WIPING false
       else s.rgnRefuse r) := by
  refine (okIf_run hr ?_).trans (congrArg _ (State.rwl_unbound (.inl hlock) _))
  rw [decide_eq_true h16, hvalid, Bool.and_self]

/-- SCRUB_LINE of the lap's next line, on time (R327). -/
theorem execScrubLine_onTime {s : State} {r line : Nat} (outcome lapMin : Nat) (brick : Option Nat) (hr : s.pwr.phase = .run)
    (hnext : s.scrubAt s.scrubRgns s.buf.scrubbed = some (r, line))
    (hon : (s.enabled 0x13 && s.flag 0x13 MPS.SCRUB_CFG.EN && !s.flag 0x12 DMC.DMC_STAT.SELF_REFRESH && !s.rgnWiping r) = true) :
    execScrubLine outcome false lapMin brick s = .next
      ((if (s.moved r 64).poisonedLine line then s.moved r 64
        else if outcome = 1 ∨ (s.moved r 64).injects 0x13 0 then ((s.moved r 64).corrected r line).unfix line
        else if outcome ≥ 2 ∨ (s.moved r 64).injects 0x13 3 then (s.moved r 64).uncorrectable r line 2 brick
        else s.moved r 64).scrubNext lapMin) := by
  unfold execScrubLine
  rw [hnext]
  exact okIf_run hr hon

/-- Settles O34: the region, the line and the port's address stand as each command asks; the owner and MPS pick how a region is
cleared, and the bytes' units which way a write goes. -/
theorem bufferMemoryCommandsComplete : Obligations.BufferMemoryCommandsComplete := by
  refine ⟨?validSet, ?wipeDone, ?validClear, ?clearRefused, ?read, ?readNowhere, ?writeBack, ?partialWrite, ?fullWrite, ?scrub,
    ?viewClosed, ?viewRead, ?viewWrite, ?derate⟩
  case validSet =>
    intro acc r s hr h16 hclear hlock
    refine (show execRegionValidSet acc r s = _ from okIf_run hr ?_).trans (congrArg _ (State.rwl_unbound (.inl hlock) _))
    rw [decide_eq_true h16, hclear]
    rfl
  case wipeDone => exact fun _ _ hr hwipe => okIf_run hr hwipe
  case validClear =>
    intro acc r s hr h16 hvalid hlock hmay
    exact (execRegionValidClear_valid acc hr h16 hvalid hlock).trans
      (congrArg _ (if_pos (hmay.imp_right fun hoff => by rw [hoff]; rfl)))
  case clearRefused =>
    intro acc r s hr h16 hvalid hlock howner hen
    refine (execRegionValidClear_valid acc hr h16 hvalid hlock).trans (congrArg _ (if_neg (not_or.mpr ⟨howner, ?_⟩)))
    rw [hen]
    decide
  case read => exact fun _ outcome brick _ _ hr hrgn hwipe => execDramRead_region outcome brick hr hrgn hwipe
  case readNowhere =>
    intro addr outcome brick s hr hrgn
    change execDramRead addr outcome brick s = _
    unfold execDramRead
    rw [hrgn]
    exact okIf_run hr rfl
  case writeBack => exact fun _ _ hr hfix => okIf_run hr hfix
  case partialWrite =>
    intro addr bytes outcome brick r s hr hrgn hline hwipe hpart
    change execDramPartialWrite addr bytes outcome brick s = _
    unfold execDramPartialWrite
    rw [hrgn]
    refine okIf_run hr ?_
    rw [hline, hwipe, ← Bool.decide_and, decide_eq_false hpart]
    rfl
  case fullWrite => exact fun _ _ _ _ hr hrgn hline hwipe ha hb => execDramFullWrite_units hr hrgn hwipe hline ha hb
  case scrub =>
    intro outcome late lapMin brick r line s s1 hr hnext hon hlate
    subst hlate
    exact execScrubLine_onTime outcome lapMin brick hr hnext hon
  case viewClosed =>
    intro acc s hr hview
    change execDvDataRead acc s = _
    unfold execDvDataRead
    rw [hview]
    exact okIf_run hr rfl
  case viewRead =>
    intro acc r s hr hview
    change execDvDataRead acc s = _
    unfold execDvDataRead
    rw [hview]
    exact okIf_run hr rfl
  case viewWrite =>
    intro acc value r s hr hview
    change execDvDataWrite acc value s = _
    unfold execDvDataWrite
    rw [hview]
    exact okIf_run hr rfl
  case derate => exact fun _ _ _ hr hp => okIf_run hr (decide_eq_true hp)

end Sys2Proof.Machine

/-! ### Where the commands of the Segment Cache complete (R335, R338, R339) -/

namespace Sys2Proof.Machine

/-- Settles O35: the sub-block is dirty with no copy started, or is being copied or filled, or the way is evicted with nothing
left dirty, as each command asks; a write of DISABLE asks for nothing. -/
theorem cacheCommandsComplete : Obligations.CacheCommandsComplete := by
  refine ⟨?destage, ?age, ?copyDone, ?evicted, ?filled, ?disable⟩
  case destage => exact fun _ _ _ hr hcopy hdue => okIf_run hr (by rw [hcopy, hdue, Bool.and_self])
  case age => exact fun _ _ _ hr hcopy hage => okIf_run hr (by rw [hcopy, decide_eq_true hage, Bool.and_self])
  case copyDone => exact fun _ _ _ hr hsub hcopying => okIf_run hr (by rw [decide_eq_true hsub, hcopying, Bool.and_self])
  case evicted => exact fun _ _ hr hevict hclean => okIf_run hr (by rw [hevict, decide_eq_true hclean, Bool.and_self])
  case filled =>
    intro w sub data s l s1 hr hsub hfilling hlen
    exact okIf_run hr (by rw [decide_eq_true hsub, hfilling, decide_eq_true hlen]; rfl)
  case disable => exact fun _ _ _ hr => okIf_run hr rfl

end Sys2Proof.Machine

/-! ### The reset column (R36, R37, R474) -/

namespace Sys2Proof.Machine

namespace RF

/-- A field that stands within a page and a word, with a reset value of its width. -/
abbrev Fits (f : RF) : Prop := f.off < 4096 ∧ f.lo ≤ f.hi ∧ f.hi < 64 ∧ f.rst < 2 ^ f.width

/-- Two fields that share no bit: they stand in two registers, or one above the other. -/
abbrev Apart (f g : RF) : Prop := f.off ≠ g.off ∨ f.hi < g.lo ∨ g.hi < f.lo

theorem apart_symm : Std.Symm Apart := ⟨fun _ _ h => h.imp Ne.symm Or.symm⟩

/-- The reset value of a field, in its place. -/
def placed (f : RF) : DWord := BitVec.ofNat 64 (f.rst <<< f.lo)

/-- In its place a reset value sets bits of its own field alone. -/
theorem getLsbD_placed {f : RF} (h : f.Fits) (j : Nat) :
    f.placed.getLsbD j = (decide (f.lo ≤ j ∧ j ≤ f.hi) && f.rst.testBit (j - f.lo)) := by
  obtain ⟨-, hle, hhi, hrst⟩ := h
  have hwidth : f.width = f.hi + 1 - f.lo := rfl
  have hhigh : f.hi < j → f.rst.testBit (j - f.lo) = false := fun hj =>
    Nat.testBit_lt_two_pow (hrst.trans_le (Nat.pow_le_pow_right (by decide) (by omega)))
  rw [placed, BitVec.getLsbD_ofNat, Nat.testBit_shiftLeft]
  rcases lt_or_ge f.hi j with hj | hj
  · simp [hhigh hj]
  · simp [hj, show j < 64 by omega]

end RF

/-- The fields of units that stand `d` bytes apart share no bit where those of one unit do not and keep within its `d` bytes. -/
theorem pairwise_apart_units {us : List RF} {lo d : Nat} (n : Nat) (hus : us.Pairwise RF.Apart)
    (hin : ∀ f ∈ us, lo ≤ f.off ∧ f.off < lo + d) :
    ((List.range n).flatMap fun k => us.map fun f => f.at (d * k)).Pairwise RF.Apart := by
  refine List.pairwise_flatMap.mpr ⟨fun k _ => ?within, ?between⟩
  case within =>
    refine List.pairwise_map.mpr (hus.imp fun {f g} h => ?_)
    exact h.imp_left fun hne => by simpa [RF.at] using hne
  case between =>
    refine List.pairwise_lt_range.imp fun {j k} hjk x hx y hy => .inl ?_
    obtain ⟨f, hf, rfl⟩ := List.mem_map.mp hx
    obtain ⟨g, hg, rfl⟩ := List.mem_map.mp hy
    have hstep : d * j + d ≤ d * k := by rw [← Nat.mul_succ]; exact Nat.mul_le_mul_left d hjk
    have hf := hin f hf
    have hg := hin g hg
    simp only [RF.at]
    omega

/-- Nor do they where fields of lower registers stand before them. -/
theorem pairwise_apart_append_units {fs us : List RF} {lo d : Nat} (n : Nat) (hfs : fs.Pairwise RF.Apart)
    (hbelow : ∀ f ∈ fs, f.off < lo) (hus : us.Pairwise RF.Apart) (hin : ∀ f ∈ us, lo ≤ f.off ∧ f.off < lo + d) :
    (fs ++ (List.range n).flatMap fun k => us.map fun f => f.at (d * k)).Pairwise RF.Apart := by
  refine List.pairwise_append.mpr ⟨hfs, pairwise_apart_units n hus hin, fun f hf x hx => .inl ?_⟩
  obtain ⟨k, -, hx⟩ := List.mem_flatMap.mp hx
  obtain ⟨g, hg, rfl⟩ := List.mem_map.mp hx
  exact ((hbelow f hf).trans_le ((hin g hg).1.trans (Nat.le_add_right _ _))).ne

/-- No two fields of a page share a bit. The channels of HOD and the slots of SPM are units that follow the page's other
registers. -/
theorem pairwise_apart_table (k : Kind) : (tableHDR ++ k.table).Pairwise RF.Apart := by
  cases k
  case hod =>
    exact pairwise_apart_append_units (fs := tableHDR ++ _) (lo := 0x100) 32 (by decide +kernel) (by decide +kernel)
      (by decide +kernel) (by decide +kernel)
  case spm =>
    exact pairwise_apart_append_units (fs := tableHDR ++ _) (lo := 0x80) 4 (by decide +kernel) (by decide +kernel)
      (by decide +kernel) (by decide +kernel)
  all_goals decide +kernel

theorem fits_of_mem_table (k : Kind) : ∀ f ∈ tableHDR ++ k.table, f.Fits := by
  cases k <;> decide +kernel

theorem fits_of_mem_pageFields (pg : Nat) : ∀ f ∈ pageFields pg, f.Fits := by
  unfold pageFields
  split
  · exact fits_of_mem_table _
  · exact List.forall_mem_nil _

theorem pairwise_apart_pageFields (pg : Nat) : (pageFields pg).Pairwise RF.Apart := by
  unfold pageFields
  split
  · exact pairwise_apart_table _
  · exact .nil

/-- Reset values placed one after another leave a bit set where it was set before or one of them sets it. -/
theorem getLsbD_foldl_placed (fs : List RF) (w : DWord) (j : Nat) :
    (fs.foldl (fun w f => w ||| f.placed) w).getLsbD j = (w.getLsbD j || fs.any fun f => f.placed.getLsbD j) := by
  induction fs generalizing w with
  | nil => simp
  | cons f fs ih => simp [ih, Bool.or_assoc]

/-- As the fields of a page share no bit, a field's bits at reset are those of its reset value. -/
theorem getLsbD_resetReg {pg : Nat} {f : RF} (hf : f ∈ pageFields pg) {i : Nat} (hi : i < f.width) :
    (resetReg pg f.off).getLsbD (f.lo + i) = f.rst.testBit i := by
  have hwidth : f.width = f.hi + 1 - f.lo := rfl
  have hown : f.placed.getLsbD (f.lo + i) = f.rst.testBit i := by
    rw [RF.getLsbD_placed (fits_of_mem_pageFields pg f hf), decide_eq_true (by omega), Nat.add_sub_cancel_left, Bool.true_and]
  have hother : ∀ g ∈ pageFields pg, g.off = f.off → g ≠ f → g.placed.getLsbD (f.lo + i) = false := by
    intro g hg hoff hne
    have := RF.apart_symm
    have hd := (pairwise_apart_pageFields pg).forall hg hf hne
    rw [RF.getLsbD_placed (fits_of_mem_pageFields pg g hg), decide_eq_false, Bool.false_and]
    rcases hd with hd | hd | hd <;> omega
  refine (getLsbD_foldl_placed _ _ _).trans ?_
  rw [BitVec.getLsbD_zero, Bool.false_or, ← hown, Bool.eq_iff_iff, List.any_eq_true]
  constructor
  · rintro ⟨g, hg, hbit⟩
    obtain ⟨hmem, hoff⟩ := List.mem_filter.mp hg
    by_contra hne
    exact Bool.false_ne_true ((hother g hmem (of_decide_eq_true hoff) (fun e => hne (e ▸ hbit))).symm.trans hbit)
  · exact fun hbit => ⟨f, List.mem_filter.mpr ⟨hf, decide_eq_true rfl⟩, hbit⟩

/-- With no register listed, a register of a page holds its reset value. -/
theorem Io.reg_of_regs_nil {io : Io} {pg off : Nat} (hregs : io.regs = []) (hpg : pg < 256) (hoff : off < 4096) :
    io.reg pg off = resetReg pg off := by
  have hpage : key pg off / 4096 % 256 = pg := by unfold key; omega
  have hofs : key pg off % 4096 = off := by unfold key; omega
  rw [Io.reg, hregs, Tab.find?, Option.getD_none, Io.regDefault, hpage, hofs]

/-- So does a field. -/
theorem Io.fld_of_regs_nil {io : Io} {pg : Nat} {f : RF} (hregs : io.regs = []) (hpg : pg < 256) (hf : f ∈ pageFields pg) :
    io.fld pg f = f.rst := by
  obtain ⟨hoff, -, -, hrst⟩ := fits_of_mem_pageFields pg f hf
  refine Nat.eq_of_testBit_eq fun i => ?_
  rw [Io.fld_eq, Io.reg_of_regs_nil hregs hpg hoff]
  rcases lt_or_ge i f.width with hi | hi
  · rw [decide_eq_true hi, Bool.true_and, getLsbD_resetReg hf hi]
  · rw [decide_eq_false (by omega), Bool.false_and, Nat.testBit_lt_two_pow (hrst.trans_le (Nat.pow_le_pow_right (by decide) hi))]

/-- Settles O5: no register is listed at reset, and the fields of a register share no bit (`pairwise_apart_pageFields`), so that
each keeps its own reset value. -/
theorem resetGivesTheResetColumn : Obligations.ResetGivesTheResetColumn :=
  fun _ hpg _ _ hf => Io.fld_of_regs_nil rfl hpg hf

/-- No page is locked at reset, be it there or reserved. -/
theorem locked_reset {pg : Nat} (hpg : pg < 256) : State.reset.io.locked pg = false := by
  refine decide_eq_false (not_not_intro ?_)
  cases hk : pageKind pg with
  | some k =>
    have hlock : HDR.PG_CTL.LOCK ∈ pageFields pg := by
      simp [pageFields, hk, tableHDR]
    exact Io.fld_of_regs_nil rfl hpg hlock
  | none =>
    have hreg : State.reset.io.reg pg HDR.PG_CTL.LOCK.off = 0#64 := by
      rw [Io.reg_of_regs_nil rfl hpg (by decide)]
      simp [resetReg, pageFields, hk]
    rw [Io.fld, hreg]
    rfl

/-- Settles O4: every table is empty at reset, and the reset value of LOCK is 0 (`locked_reset`). -/
theorem resetIsWellFormed : Obligations.ResetIsWellFormed :=
  ⟨rfl, rfl, fun _ hpg => locked_reset hpg⟩

end Sys2Proof.Machine

/-! ### KSERIAL (R385-R387, R401) -/

namespace Sys2Proof.Machine

namespace State

/-- The register of KSERIAL stands as it did. -/
structure KserialKept (s t : State) : Prop where
  reg : t.io.reg 9 SEC.KSERIAL.NEXT.off = s.io.reg 9 SEC.KSERIAL.NEXT.off

namespace KserialKept

variable {s t : State}

theorem refl (s : State) : KserialKept s s := ⟨rfl⟩

theorem ite {u : State} {c : Prop} [Decidable c] (h : KserialKept s t) (h' : KserialKept s u) :
    KserialKept s (if c then t else u) := by
  split <;> assumption

theorem fld (h : KserialKept s t) : t.fld 9 SEC.KSERIAL.NEXT = s.fld 9 SEC.KSERIAL.NEXT := by
  rw [State.fld, State.fld, Io.fld, Io.fld, h.reg]

theorem onSec (h : KserialKept s t) (f : SecSt → SecSt) : KserialKept s (t.onSec f) := ⟨h.reg⟩

theorem onNor (h : KserialKept s t) (f : NorSt → NorSt) : KserialKept s (t.onNor f) := ⟨h.reg⟩

/-- The setting of a field at another offset leaves it, whatever the page. -/
theorem set (h : KserialKept s t) (p : Nat) (f : RF) (v : Nat) (ho : f.off ≠ SEC.KSERIAL.NEXT.off := by decide)
    (hf : f.off < 4096 := by decide) : KserialKept s (t.set p f v) :=
  ⟨(Io.reg_setFld_ne t.io v fun e => ho (key_inj (by decide) hf e).2.symm).trans h.reg⟩

theorem bump (h : KserialKept s t) (p : Nat) (f : RF) (ho : f.off ≠ SEC.KSERIAL.NEXT.off := by decide)
    (hf : f.off < 4096 := by decide) : KserialKept s (t.bump p f) :=
  ⟨(h.set p f (satAdd f.width (t.io.fld p f) 1) ho hf).reg⟩

/-- So does an event. -/
theorem raise (h : KserialKept s t) (pg bit ctx : Nat) : KserialKept s (t.raise pg bit ctx) :=
  ⟨((raise_event t pg bit ctx).reg 9 _ (by decide) (fun _ => by decide) (by decide) (by decide) (by decide)).trans h.reg⟩

theorem keyMiss (h : KserialKept s t) (e : Nat) : KserialKept s (t.keyMiss e) :=
  ite ((h.bump (pgXtc e) XTC.XTC_MISC.KEY_MISS).raise _ _ _) h

theorem setEngine (h : KserialKept s t) (e : Nat) (g : Engine) : KserialKept s (t.setEngine e g) := by
  unfold State.setEngine
  extract_lets stored n wrapped shown
  have hshown : KserialKept s shown := KserialKept.set (t := stored) (h.onSec _) 0xA CIP.CIP_STAT.CTX_DRAM _
  exact ite ((hshown.set _ XTC.XTC_STAT.SUSPENDED _).set _ XTC.XTC_STAT.BUSY _) (hshown.set 0xA CIP.CIP_STAT.CTX_SRAM _)

theorem endMessages (h : KserialKept s t) (d : Nat) : KserialKept s (t.endMessages d) := by
  refine List.foldlRecOn (motive := KserialKept s) _ _ h fun u hu kv _ => ?_
  exact ite hu (List.foldlRecOn (motive := KserialKept s) _ _ (hu.setEngine _ _) fun v hv _ _ => hv.keyMiss _)

theorem norWrite (h : KserialKept s t) (w0 w1 : Bool) : KserialKept s (t.norWrite w0 w1) := by
  have hnoted : KserialKept s (t.setB 8 LCS.LC_STAT.NOR_ONE (w0 || w1)) := h.set 8 LCS.LC_STAT.NOR_ONE _
  exact ite h (hnoted.raise _ _ _)

theorem setDom (h : KserialKept s t) (d st nsid serial : Nat) : KserialKept s (t.setDom d st nsid serial) :=
  ((h.set _ _ _).set _ _ _).set _ _ _

end KserialKept

theorem domSt_setDom (s : State) (d st nsid serial : Nat) : (s.setDom d st nsid serial).domSt d = st % 4 := by
  simp (disch := decide) only [setDom, domSt, fld, set_io, Io.fld_setFld_ne _ _ (key_ne_off _ _), Io.fld_setFld_apart,
    Io.fld_setFld_self]
  rfl

theorem serial_setDom (s : State) (d st nsid serial : Nat) :
    (s.setDom d st nsid serial).fld (pgDom d) SEC.DOM_SERIAL.KSERIAL = serial % 2 ^ 32 := by
  rw [setDom, fld, set_io, Io.fld_setFld_self _ _ _ _ (by decide) (by decide)]
  rfl

section

variable {s : State} (d nsid : Nat) (w0 w1 : Bool)

/-- Keys are made under no serial beyond the last (R387). -/
theorem makeKeys_end (h : s.fld 9 SEC.KSERIAL.NEXT = 0xFFFFFFFF) : s.makeKeys d nsid w0 w1 = (false, s.raise 9 2 d) :=
  if_pos h

/-- Keys made advance KSERIAL, whatever the devices take. -/
theorem makeKeys_kserial (h : s.fld 9 SEC.KSERIAL.NEXT ≠ 0xFFFFFFFF) :
    (s.makeKeys d nsid w0 w1).2.fld 9 SEC.KSERIAL.NEXT = s.fld 9 SEC.KSERIAL.NEXT + 1 := by
  have hkept : KserialKept (s.drawKeys.2.set 9 SEC.KSERIAL.NEXT (s.fld 9 SEC.KSERIAL.NEXT + 1)) (s.makeKeys d nsid w0 w1).2 := by
    unfold makeKeys
    rw [if_neg h]
    dsimp only
    split
    · exact .refl _
    · have hnor := (KserialKept.refl (s.drawKeys.2.set 9 SEC.KSERIAL.NEXT (s.fld 9 SEC.KSERIAL.NEXT + 1))).norWrite w0 w1
      exact (((hnor.onNor _).endMessages d).onSec _).setDom d 1 nsid _
  have hlt : s.fld 9 SEC.KSERIAL.NEXT < 2 ^ 32 := Io.fld_lt s.io 9 SEC.KSERIAL.NEXT
  refine hkept.fld.trans ((Io.fld_setFld_self _ _ _ _ (by decide) (by decide)).trans (Nat.mod_eq_of_lt ?_))
  exact (show s.fld 9 SEC.KSERIAL.NEXT + 1 < 2 ^ 32 by omega)

/-- Where a device takes the blob, the domain ends ACTIVE under the serial its keys were made with (R386). -/
theorem makeKeys_setDom (h : s.fld 9 SEC.KSERIAL.NEXT ≠ 0xFFFFFFFF) (hw : w0 = true ∨ w1 = true) :
    ∃ u : State, (s.makeKeys d nsid w0 w1).2 = u.setDom d 1 nsid (s.fld 9 SEC.KSERIAL.NEXT) := by
  have htaken : (!w0 && !w1) ≠ true := by rcases hw with rfl | rfl <;> simp
  unfold makeKeys
  rw [if_neg h]
  dsimp only
  rw [if_neg htaken]
  exact ⟨_, rfl⟩

end

end State

/-- A write of DOM_CTL by MGP acts on the domain selected (R385). -/
theorem onDomain_mgp {s : State} (run : Nat → State) (hr : s.pwr.phase = .run) :
    onDomain .mgp s run = .next (run (s.fld 9 SEC.DOM_SEL.DOM)) :=
  (okIf_run hr rfl).trans (congrArg Host.Outcome.next (if_pos rfl))

/-- DOMAIN_CREATE by MGP of a FREE domain makes its keys (R386). -/
theorem execDomainCreate_free {s : State} (w0 w1 : Bool) (hr : s.pwr.phase = .run)
    (hfree : s.domSt (s.fld 9 SEC.DOM_SEL.DOM) = 0) :
    execDomainCreate .mgp w0 w1 s = .next (s.makeKeys (s.fld 9 SEC.DOM_SEL.DOM) 0 w0 w1).2 :=
  (onDomain_mgp _ hr).trans (congrArg Host.Outcome.next (if_pos hfree))

/-- Settles O58: the making of keys is refused at the last serial (`State.makeKeys_end`) and before it advances KSERIAL
(`State.makeKeys_kserial`); with a blob taken it ends with the domain's state and serial (`State.makeKeys_setDom`). -/
theorem keySerialAdvances : Obligations.KeySerialAdvances := by
  intro w0 w1 s hr d hfree
  have hexec := execDomainCreate_free w0 w1 hr hfree
  refine ⟨fun hend => ⟨?_, ?_⟩, fun hmore => ⟨_, hexec, State.makeKeys_kserial d 0 w0 w1 hmore, fun hw => ?_⟩⟩
  · exact hexec.trans (by rw [State.makeKeys_end d 0 w0 w1 hend])
  · exact (State.KserialKept.raise (.refl s) 9 2 d).fld.trans hend
  · obtain ⟨u, hu⟩ := State.makeKeys_setDom d 0 w0 w1 hmore hw
    have hlt : s.fld 9 SEC.KSERIAL.NEXT < 2 ^ 32 := Io.fld_lt s.io 9 SEC.KSERIAL.NEXT
    rw [hu, State.domSt_setDom, State.serial_setDom, Nat.mod_eq_of_lt hlt]
    exact ⟨rfl, rfl⟩

end Sys2Proof.Machine

/-! ### Where Hod's instructions and channel commands complete (R356, R358, R359, R361, R364, R365) -/

namespace Sys2Proof.Machine

/-- A running channel that meets no hold and no fetch fault carries out an instruction of the opcodes asked for (R358, R359). -/
theorem State.hodStep_run {s : State} {n : Nat} {ops : Nat → Bool} {f : HodI → State → State} (hr : s.pwr.phase = .run)
    (hn : n < 32) (hst : s.hodSt n = 1) (hheld : ¬ (s.pcSpace n ≤ 1 ∧ s.hodHeld n = true)) (hbar : s.fetchBar n = 0)
    (hop : ops (s.hodAt n).op = true) (heng : s.hodEngine (s.hodAt n) = true) :
    s.hodStep n ops f = .next (f (s.hodAt n) s).syncHod := by
  refine (okIf_run hr (by rw [decide_eq_true hn, decide_eq_true hst]; rfl)).trans ?_
  rw [if_neg hheld, if_neg (not_not_intro hbar), if_pos (by rw [hop, heng]; rfl)]

/-- So does one that waits for an instruction of a single opcode. -/
theorem State.hodStep_op {s : State} {n k : Nat} {f : HodI → State → State} (hr : s.pwr.phase = .run) (hn : n < 32)
    (hst : s.hodSt n = 1) (hheld : ¬ (s.pcSpace n ≤ 1 ∧ s.hodHeld n = true)) (hbar : s.fetchBar n = 0)
    (hop : (s.hodAt n).op = k) (heng : s.hodEngine (s.hodAt n) = true) :
    s.hodStep n (· == k) f = .next (f (s.hodAt n) s).syncHod :=
  hodStep_run hr hn hst hheld hbar (beq_iff_eq.mpr hop) heng

/-- Settles O36: each instruction is the step of its own opcode (`State.hodStep_op`); POST's retry and STOP go by bit 0 of
FLAGS. -/
theorem hodInstructionsComplete : Obligations.HodInstructionsComplete := by
  refine ⟨?nop, ?move, ?fill, ?compare, ?wait, ?flip, ?signal, ?post, ?postRetry, ?branch, ?setlc, ?stop, ?stride, ?illegal⟩
  case nop =>
    exact fun n s hr hn hst hheld hbar hop heng =>
      show execHodNop n s = _ from State.hodStep_op hr hn hst hheld hbar hop heng
  case move =>
    exact fun n host s hr hn hst hheld hbar hop heng =>
      show execHodMove n host s = _ from State.hodStep_op hr hn hst hheld hbar hop heng
  case fill =>
    exact fun n s hr hn hst hheld hbar hop heng =>
      show execHodFill n s = _ from State.hodStep_op hr hn hst hheld hbar hop heng
  case compare =>
    exact fun n hostA hostB s hr hn hst hheld hbar hop heng =>
      show execHodCompare n hostA hostB s = _ from State.hodStep_op hr hn hst hheld hbar hop heng
  case wait =>
    exact fun n s hr hn hst hheld hbar hop heng =>
      show execHodWait n s = _ from State.hodStep_op hr hn hst hheld hbar hop heng
  case flip =>
    exact fun n s hr hn hst hheld hbar hop heng =>
      show execHodFlip n s = _ from State.hodStep_op hr hn hst hheld hbar hop heng
  case signal =>
    exact fun n s hr hn hst hheld hbar hop heng =>
      show execHodSignal n s = _ from State.hodStep_op hr hn hst hheld hbar hop heng
  case post =>
    exact fun n s hr hn hst hheld hbar hop heng =>
      show execHodPost n s = _ from State.hodStep_op hr hn hst hheld hbar hop heng
  case postRetry =>
    intro n s hr hn hst hheld hbar hop heng hretry
    refine (show execHodPostRetry n s = _ from State.hodStep_op hr hn hst hheld hbar hop heng).trans ?_
    rw [if_pos hretry]
  case branch =>
    exact fun n s hr hn hst hheld hbar hop heng =>
      show execHodBranch n s = _ from State.hodStep_op hr hn hst hheld hbar hop heng
  case setlc =>
    exact fun n s hr hn hst hheld hbar hop heng =>
      show execHodSetlc n s = _ from State.hodStep_op hr hn hst hheld hbar hop heng
  case stop =>
    intro n s hr hn hst hheld hbar hop heng hquiet
    refine (show execHodStop n s = _ from State.hodStep_op hr hn hst hheld hbar hop heng).trans ?_
    dsimp only
    rw [if_neg (ne_true_of_eq_false hquiet)]
  case stride =>
    exact fun n s hr hn hst hheld hbar hop heng =>
      show execHodStride n s = _ from State.hodStep_op hr hn hst hheld hbar hop heng
  case illegal =>
    exact fun n s hr hn hst hheld hbar hop heng =>
      show execHodIllegal n s = _ from State.hodStep_run hr hn hst hheld hbar (decide_eq_true hop) heng

section Channel

variable {s : State} {n : Nat} {i : HodI}

/-- A channel command that finds its channel there runs (R356). -/
theorem okIf_channel {k : Nat} {t : State} (hr : s.pwr.phase = .run) (hn : n < 32) (hst : s.hodSt n = k) :
    okIf (decide (n < 32) && decide (s.hodSt n = k)) s t = .next t :=
  okIf_run hr (by rw [decide_eq_true hn, decide_eq_true hst]; rfl)

/-- HOD_WAIT_SATISFIED of a waiting channel by what it waits for: an event flag set since, a flag word that shows its owner
when it is read again, or time that has passed (R361). -/
theorem execHodWaitSatisfied_waiting (hr : s.pwr.phase = .run) (hwait : (s.chan n).wait = some i) (hn : n < 32)
    (hst : s.hodSt n = 2) :
    execHodWaitSatisfied n s = .next
      (if i.arg8 = 0 then (if (s.chan n).woken then (s.waitDone n).syncHod else s)
       else if i.arg8 = 1 then (if (s.waitHolds i).1 then ((s.waitHolds i).2.waitDone n).syncHod else (s.waitHolds i).2)
       else (s.waitDone n).syncHod) := by
  unfold execHodWaitSatisfied
  rw [hwait]
  exact okIf_channel hr hn hst

/-- HOD_WAIT_TIMEOUT of a wait with a limit that nothing has satisfied (R361). -/
theorem execHodWaitTimeout_waiting (hr : s.pwr.phase = .run) (hwait : (s.chan n).wait = some i) (hn : n < 32)
    (hst : s.hodSt n = 2) (hkind : i.arg8 < 2) (hlimit : i.arg32 ≠ 0) (hwoken : (s.chan n).woken = false) :
    execHodWaitTimeout n s = .next (s.hodFault n 6 (State.hodAddr (s.pcSpace n) (s.pcAddr n))).syncHod := by
  unfold execHodWaitTimeout
  rw [hwait]
  refine okIf_run hr ?_
  rw [decide_eq_true hn, decide_eq_true hst, decide_eq_true hkind, decide_eq_true hlimit, hwoken]
  rfl

/-- HOD_CHANNEL_START by MGP of an idle channel of an enabled page (R356). -/
theorem execHodChannelStart_idle (hr : s.pwr.phase = .run) (hn : n < 32) (hen : s.enabled 0x1B = true) (hst : s.hodSt n = 0) :
    execHodChannelStart .mgp n s = .next
      ((((s.toHod n 1).hset n HOD.CH_STAT.CAUSE 0).onChan n fun _ => { Chan.zero with by1 := none }).syncHod) := by
  refine (okIf_run hr (decide_eq_true hn)).trans ?_
  have hfree : ¬ ((!s.enabled 0x1B) = true ∨ (s.hodSt n ≠ 0 ∧ s.hodSt n ≠ 4)) := by simp [hen, hst]
  exact congrArg Host.Outcome.next (if_neg hfree)

end Channel

/-- Settles O37: the channel stands in the state that each command asks for; what it waits for, and MGP as the writer, pick the
ending. -/
theorem hodChannelCommandsComplete : Obligations.HodChannelCommandsComplete := by
  refine ⟨?eventFlag, ?flagWord, ?timeout, ?unblock, ?start, ?abort⟩
  case eventFlag =>
    intro n i s hr hwait hn hst hkind hwoken
    exact (execHodWaitSatisfied_waiting hr hwait hn hst).trans (by rw [if_pos hkind, if_pos hwoken])
  case flagWord =>
    intro n i s1 s hr hwait hn hst hkind hholds
    refine (execHodWaitSatisfied_waiting hr hwait hn hst).trans ?_
    rw [if_neg (by omega), if_pos hkind, hholds, if_pos rfl]
  case timeout =>
    exact fun _ _ _ hr hwait hn hst hkind hlimit hwoken => execHodWaitTimeout_waiting hr hwait hn hst hkind hlimit hwoken
  case unblock =>
    exact fun _ _ hr hn hst hheld => okIf_run hr (by rw [decide_eq_true hn, decide_eq_true hst, hheld]; rfl)
  case start =>
    intro acc n s hr hn hacc hen hst
    subst hacc
    exact execHodChannelStart_idle hr hn hen hst
  case abort =>
    intro acc n s hr hn hacc hst
    subst hacc
    exact (okIf_run hr (decide_eq_true hn)).trans (congrArg Host.Outcome.next (if_pos hst))

end Sys2Proof.Machine

/-! ### Where the commands of the shared window complete (R348-R354, R374) -/

namespace Sys2Proof.Machine

/-- A flag-tagged access of an agent other than none, to a space that has flag words, has its effect (R348). -/
theorem okIf_flagAccess {s t : State} {agent space : Nat} (hr : s.pwr.phase = .run) (hknown : agentKnown agent = true)
    (hagent : agent ≠ 0) (hspace : space < 2) :
    okIf (agentKnown agent && decide (agent ≠ 0) && decide (space < 2)) s t = .next t :=
  okIf_run hr (by rw [hknown, decide_eq_true hagent, decide_eq_true hspace]; rfl)

section CommonWindow

variable {s : State} {agent addr : Nat}

/-- COMMON_WINDOW_ACCESS that reads unbarred bytes without an ECC error gives them to the agent (R354). -/
theorem execCommonWindowAccess_read {n : Nat} (hr : s.pwr.phase = .run) (hknown : agentKnown agent = true) (hagent : agent ≠ 0)
    (hend : addr + n ≤ cwEnd) (hopen : ((List.range n).filterMap fun i => s.cwBars agent (addr + i)).head? = none) :
    execCommonWindowAccess agent addr n 0 none s = .next (s.gaveAgent agent
      (ofLe ((List.range n).map fun i => if (s.cwBars agent (addr + i)).isSome then 0 else s.memByte 1 (addr + i)))) := by
  unfold execCommonWindowAccess
  dsimp only
  rw [hopen]
  exact okIf_run hr (by rw [hknown, decide_eq_true hagent, decide_eq_true hend]; rfl)

/-- COMMON_WINDOW_ACCESS that writes fewer bytes than a line, none of them barred, stores them one by one (R354). -/
theorem execCommonWindowAccess_write {bs : List Nat} (n : Nat) (hr : s.pwr.phase = .run) (hknown : agentKnown agent = true)
    (hagent : agent ≠ 0) (hend : addr + bs.length ≤ cwEnd) (hshort : bs.length < 64)
    (hopen : ((List.range bs.length).filterMap fun i => s.cwBars agent (addr + i)).head? = none) :
    execCommonWindowAccess agent addr n 0 (some bs) s = .next
      (bs.zipIdx.foldl (fun (s : State) bi => s.cwPut agent (addr + bi.2) bi.1) s) := by
  unfold execCommonWindowAccess
  dsimp only
  rw [hopen]
  refine (okIf_run hr (by rw [hknown, decide_eq_true hagent, decide_eq_true hend]; rfl)).trans ?_
  rw [if_neg (by decide), if_neg (by decide), if_neg (by omega)]

end CommonWindow

/-- Settles O38: event flags and slots only ask that the module runs, flag accesses and Common Window accesses for a known
agent, and WIN_CFG.VALID for LOCK 0. -/
theorem windowCommandsComplete : Obligations.WindowCommandsComplete := by
  refine ⟨?eventFlagSet, ?eventFlagClear, ?flagWrite, ?flagRead, ?slot, ?slotPair, ?read, ?write, ?valid⟩
  case eventFlagSet => exact fun _ _ _ hr => okIf_run hr rfl
  case eventFlagClear => exact fun _ _ _ hr => okIf_run hr rfl
  case flagWrite => exact fun _ _ _ _ _ _ _ hr hknown hagent hspace => okIf_flagAccess hr hknown hagent hspace
  case flagRead => exact fun _ _ _ _ hr hknown hagent hspace => okIf_flagAccess hr hknown hagent hspace
  case slot => exact fun _ _ hr => okIf_run hr rfl
  case slotPair => exact fun _ _ hr => okIf_run hr rfl
  case read =>
    intro agent addr n ecc write s k hr hknown hagent hend _ hecc hwrite hopen
    subst hecc hwrite
    exact execCommonWindowAccess_read hr hknown hagent hend hopen
  case write =>
    intro agent addr n ecc write bs s k hr hknown hagent hend _ hecc hwrite hshort hopen
    subst hecc hwrite
    exact execCommonWindowAccess_write n hr hknown hagent hend hshort hopen
  case valid =>
    intro acc w s hr hw hlock
    exact (okIf_run hr (decide_eq_true hw)).trans (by rw [State.rwl_unbound (.inl hlock)])

end Sys2Proof.Machine

/-! ### Where the commands of the FIFOs and of the mailbox complete (R366-R373) -/

namespace Sys2Proof.Machine

section Fifo

variable {s : State} {acc : Accessor}

/-- FIFO_DATA_WRITE of a word before the item's last, by a writer that the FIFO lets in, keeps the word for its writer (R369). -/
theorem execFifoDataWrite_word {i : Nat} (core : Nat) (value : Word) (hr : s.pwr.phase = .run) (hi : i < 4)
    (hmay : s.fifoMay acc s.fifoSel = true) (hin : i < s.fifoWords s.fifoSel) (hmore : i + 1 ≠ s.fifoWords s.fifoSel) :
    execFifoDataWrite acc core i value s = .next (s.onIo fun io =>
      { io with
        fifoBufs := Tab.put [] io.fifoBufs (writerOf acc core * 1024 + s.fifoSel)
          ((List.range 4).map fun j => if j = i then value.toNat
            else (Tab.get [] s.io.fifoBufs (writerOf acc core * 1024 + s.fifoSel)).getD j 0) }) := by
  refine (okIf_run hr (decide_eq_true hi)).trans ?_
  rw [if_neg (by rw [hmay]; decide), if_neg (Nat.not_le.mpr hin), if_neg hmore]

/-- FIFO_POP of a FIFO with an item to read, by a reader that may pop it, takes the item: its first word is given, the
others are latched (R369). -/
theorem execFifoPop_item {x : Nat} {xs : List Nat} (core : Nat) (hr : s.pwr.phase = .run) (hen : s.enabled 0xC = true)
    (hmay : s.mayPop acc s.fifoSel = true) (hitems : (s.io.fifo s.fifoSel).items = x :: xs) :
    execFifoPop acc core s = .next (((s.onFifo s.fifoSel fun f => { f with items := xs }).onIo fun i =>
      { i with
        wordLatches := Tab.put [] i.wordLatches ((acc.num + 4 * (core % 8)) * 2 ^ 20 + key 0xC 0x050)
          [x / 2 ^ 32 % 2 ^ 32, x / 2 ^ 64 % 2 ^ 32, x / 2 ^ 96] }).gave acc (x % 2 ^ 32)) := by
  unfold execFifoPop
  dsimp only
  rw [if_pos (by rw [hen, hmay]; rfl), hitems]
  exact okIf_run hr rfl

end Fifo

/-- Settles O39: the writer is one that the FIFO lets in, or the reader one that may pop it; a claim and an exchange are under
way where their time ends, and each side rings its own doorbell. -/
theorem fifoCommandsComplete : Obligations.FifoCommandsComplete := by
  refine ⟨?post, ?dataWrite, ?pop, ?commit, ?rewind, ?claimTimeout, ?toMgp, ?toCpx, ?exchangeLate⟩
  case post =>
    intro n agent item commit s hr hwriter hagent hcommit
    subst hcommit
    exact okIf_run hr (by rw [hwriter, decide_eq_true hagent, Bool.and_self])
  case dataWrite => exact fun _ core _ value _ hr hi hmay hin hmore => execFifoDataWrite_word core value hr hi hmay hin hmore
  case pop => exact fun _ core _ _ _ hr hen hmay hitems => execFifoPop_item core hr hen hmay hitems
  case commit =>
    intro acc core s hr hmay
    exact (show execFifoCommit acc core s = _ from okIf_run hr rfl).trans (by rw [if_pos hmay])
  case rewind =>
    intro acc core s hr hmay
    exact (show execFifoRewind acc core s = _ from okIf_run hr rfl).trans (by rw [if_pos hmay])
  case claimTimeout => exact fun _ _ hr hclaimed => okIf_run hr hclaimed
  case toMgp =>
    intro acc slot s hr hacc
    subst hacc
    exact okIf_run hr rfl
  case toCpx =>
    intro acc slot s hr hacc
    subst hacc
    exact okIf_run hr rfl
  case exchangeLate => exact fun _ _ hr hunder => okIf_run hr hunder

end Sys2Proof.Machine

/-! ### Where the commands of life cycle, key domains and cipher engines complete (R380, R383-R386, R393, R399-R401, R410) -/

namespace Sys2Proof.Machine

/-- What a life-cycle command does where its page lets the accessor in (R33). -/
theorem okIf_lcs {c : Bool} {s t : State} {acc : Accessor} (hr : s.pwr.phase = .run) (hc : c = true)
    (hopen : s.lcsFiltered acc = false) : okIf c s (if s.lcsFiltered acc then s.lockedWrite 8 else t) = .next t :=
  (okIf_run hr hc).trans (by rw [if_neg (ne_true_of_eq_false hopen)])

section Engine

variable {s : State} {e id cls kdom : Nat} {dec : Bool}

/-- Which messages an engine takes: it is there and enabled, and the message's class and domain are (R399). -/
theorem okIf_message {t : State} (hr : s.pwr.phase = .run) (he : e ≤ 8) (hthere : (decide (e = 8) || clOk s.part e) = true)
    (hcls : cls ≤ 2) (hdom : (decide (kdom < 1024) || decide (kdom = noKdom)) = true)
    (hen : s.enabled (State.engPage e) = true) :
    okIf (decide (e ≤ 8) && (decide (e = 8) || clOk s.part e) && decide (cls ≤ 2) &&
      (decide (kdom < 1024) || decide (kdom = noKdom)) && s.enabled (State.engPage e)) s t = .next t :=
  okIf_run hr (by rw [decide_eq_true he, hthere, decide_eq_true hcls, hdom, hen]; rfl)

/-- XTS_MESSAGE of a domain that does not let it run ends with KEY_MISS (R394, R401). -/
theorem execXtsMessage_keyMiss (fin : Bool) (hr : s.pwr.phase = .run) (he : e ≤ 8)
    (hthere : (decide (e = 8) || clOk s.part e) = true) (hcls : cls ≤ 2)
    (hdom : (decide (kdom < 1024) || decide (kdom = noKdom)) = true) (hen : s.enabled (State.engPage e) = true)
    (hruns : s.domainRuns ⟨id, cls, kdom, dec, false⟩ = false) :
    execXtsMessage e id cls kdom dec fin s = .next (s.keyMiss e) :=
  (okIf_message hr he hthere hcls hdom hen).trans (by rw [hruns]; rfl)

/-- XTS_MESSAGE to an idle engine, with no message of its class or a more urgent one before it, runs (R399). -/
theorem execXtsMessage_idle (hr : s.pwr.phase = .run) (he : e ≤ 8)
    (hthere : (decide (e = 8) || clOk s.part e) = true) (hcls : cls ≤ 2)
    (hdom : (decide (kdom < 1024) || decide (kdom = noKdom)) = true) (hen : s.enabled (State.engPage e) = true)
    (hruns : s.domainRuns ⟨id, cls, kdom, dec, false⟩ = true) (hidle : (s.engine e).running = none)
    (hsuspended : ((s.engine e).suspended.any fun x => decide (x.cls ≤ cls)) = false)
    (hwaiting : ((s.engine e).waiting.any fun x => decide (x.cls ≤ cls)) = false) :
    execXtsMessage e id cls kdom dec false s = .next
      (s.setEngine e { s.engine e with running := some ⟨id, cls, kdom, dec, false⟩ }) := by
  refine (okIf_message hr he hthere hcls hdom hen).trans ?_
  rw [hruns, hidle, hsuspended, hwaiting]
  rfl

/-- XTS_MESSAGE_RESUME of a message whose context is not wrapped, and which ends in this step, leaves the engine without it
and without what waited in a more urgent class (R400). -/
theorem execXtsMessageResume_end {m : Msg} (unwrapOk : Bool) (hr : s.pwr.phase = .run) (hfirst : s.firstSuspended e = some m)
    (he : e ≤ 8) (hurgent : ((s.engine e).running.all fun r => decide (r.cls < m.cls)) = true) (hplain : m.wrapped = false) :
    execXtsMessageResume e unwrapOk true s = .next (s.setEngine e
      { s.engine e with
        running := none, suspended := (s.engine e).suspended.erase m,
        waiting := (s.engine e).waiting.filter fun x => decide (x.cls ≥ m.cls) }) := by
  unfold execXtsMessageResume
  dsimp only
  rw [hfirst]
  refine (okIf_run hr (by rw [decide_eq_true he, hurgent, Bool.and_self])).trans ?_
  rw [hplain]
  rfl

end Engine

/-- Settles O40: the accessor is one that the page lets in, the domain stands in the state that each command asks for, and the
engine is there; whether a transition is allowed and a domain lets a message run pick the ending. -/
theorem lifeCycleAndKeyCommandsComplete : Obligations.LifeCycleAndKeyCommandsComplete := by
  refine ⟨?transition, ?refused, ?tokenData, ?tokenPresent, ?jtagToken, ?create, ?replace, ?destroy, ?retire, ?message,
    ?keyMiss, ?resume⟩
  case transition =>
    intro acc target places dur vend s may hr hfits hopen hmay
    refine (show execLcTransitionRequest acc target places dur vend s = _ from okIf_lcs hr hfits hopen).trans ?_
    exact congrArg Host.Outcome.next (if_pos hmay)
  case refused =>
    intro acc target places dur vend s may hr hfits hopen hmay
    refine (show execLcTransitionRequest acc target places dur vend s = _ from okIf_lcs hr hfits hopen).trans ?_
    exact congrArg Host.Outcome.next (if_neg (ne_true_of_eq_false hmay))
  case tokenData =>
    intro acc value s hr hopen hroom
    refine (show execTokenDataWrite acc value s = _ from okIf_lcs hr rfl hopen).trans ?_
    rw [if_neg (Nat.not_lt.mpr hroom)]
  case tokenPresent => exact fun _ _ _ _ _ hr hfits hopen => okIf_lcs hr hfits hopen
  case jtagToken => exact fun _ _ _ _ _ hr hfits => okIf_run hr hfits
  case create =>
    intro acc w0 w1 s d hr hacc hst
    subst hacc
    exact execDomainCreate_free w0 w1 hr hst
  case replace =>
    intro acc w0 w1 s d hr hacc hst
    subst hacc
    exact (show execDomainReplace .mgp w0 w1 s = _ from onDomain_mgp _ hr).trans (congrArg Host.Outcome.next (if_pos hst))
  case destroy =>
    intro acc s d hr hacc hst
    subst hacc
    exact (show execDomainDestroy .mgp s = _ from onDomain_mgp _ hr).trans (congrArg Host.Outcome.next (if_neg hst))
  case retire =>
    intro acc s d hr hacc hst
    subst hacc
    exact (show execDomainRetire .mgp s = _ from onDomain_mgp _ hr).trans (congrArg Host.Outcome.next (if_pos hst))
  case message =>
    intro e id cls kdom dec fin s hr he hthere hcls hdom hen hruns hidle hfin hsuspended hwaiting
    subst hfin
    exact execXtsMessage_idle hr he hthere hcls hdom hen hruns hidle hsuspended hwaiting
  case keyMiss =>
    exact fun _ _ _ _ _ fin _ hr he hthere hcls hdom hen hruns =>
      execXtsMessage_keyMiss fin hr he hthere hcls hdom hen hruns
  case resume =>
    intro e unwrapOk fin m s hr hfirst he hurgent hplain hfin
    subst hfin
    exact execXtsMessageResume_end unwrapOk hr hfirst he hurgent hplain

end Sys2Proof.Machine

/-! ### Where the commands of the supply complete (R414-R416, R418, R420, R421) -/

namespace Sys2Proof.Machine

/-- What the always-on domain does asks for its own condition alone, whether the module runs or not. -/
theorem okAon_true {c : Bool} {s t : State} (hc : c = true) : okAon c s t = .next t := by
  simp [okAon, hc]

/-- VIN_OV short of absolute maximum opens the FET and is raised; a running module loses its power then and shuts down (R414,
R418). -/
theorem execVinOv_within {s : State} (places : List BrickPlace) (dur vend : Nat) (hpower : s.pwr.phase ≠ .dead)
    (hfits : (decide (s.pwr.phase ≠ .run) ||
      ((((s.onPwr fun p => { p with fet := false }).raise 2 3 0).raise 2 0 0).shutFits places)) = true) :
    execVinOv false places dur vend s = .next
      (if s.pwr.phase = .run then
        ((((s.onPwr fun p => { p with fet := false }).raise 2 3 0).raise 2 0 0).shutdown places dur vend).toPhase .held
       else (s.onPwr fun p => { p with fet := false }).raise 2 3 0) :=
  okAon_true (by rw [decide_eq_true hpower, Bool.true_and]; exact hfits)

/-- Settles O41: the supply stands as each happening asks, and the bricks of the image have places; an overvoltage
short of absolute maximum goes by whether the module runs. -/
theorem supplyCommandsComplete : Obligations.SupplyCommandsComplete := by
  refine ⟨?loss, ?dip, ?high, ?overvoltageRunning, ?overvoltageOff, ?holdupShort, ?inrushFail, ?inrushRetry,
    ?powerUp, ?collapse⟩
  case loss => exact fun _ _ _ _ hr hfits => okIf_run hr hfits
  case dip => exact fun _ hpower => okAon_true (decide_eq_true hpower)
  case high => exact fun _ hpower => okAon_true (decide_eq_true hpower)
  case overvoltageRunning =>
    intro beyond places dur vend s s0 s1 s2 hpower hfits hwithin hr
    subst hwithin
    exact (execVinOv_within places dur vend hpower hfits).trans (by rw [if_pos hr])
  case overvoltageOff =>
    intro beyond places dur vend s s0 s1 s2 hpower hfits hwithin hr
    subst hwithin
    exact (execVinOv_within places dur vend hpower hfits).trans (by rw [if_neg hr])
  case holdupShort => exact fun _ _ _ hr hplaces => okIf_run hr hplaces
  case inrushFail => exact fun _ hfet hinrush => okAon_true (by rw [hfet, hinrush, Bool.and_self])
  case inrushRetry => exact fun _ hfet hphase => okAon_true (by rw [hfet, decide_eq_true hphase]; rfl)
  case powerUp => exact fun _ hfet hphase => okAon_true (by rw [hfet, decide_eq_true hphase]; rfl)
  case collapse => exact fun _ hphase => okAon_true (decide_eq_true hphase)

end Sys2Proof.Machine

/-! ### Where the commands of rails, crystal, sleep and power states complete (R423-R430, R437) -/

namespace Sys2Proof.Machine

section Rail

variable {s : State} {r dest : Nat}

/-- A happening of a rail that has not failed, with a cluster for what moves away from it, has its effect (R423). -/
theorem okIf_rail {t : State} (hr : s.pwr.phase = .run) (hrail : railOk s r = true) (hdest : clOk s.part dest = true) :
    okIf (railOk s r && clOk s.part dest) s t = .next t :=
  okIf_run hr (by rw [hrail, hdest, Bool.and_self])

/-- RAIL_PG_TIMEOUT by the attempts that failed: the third fails the rail, an earlier one is counted (R423). -/
theorem execRailPgTimeout_run (hr : s.pwr.phase = .run) (hrail : railOk s r = true) (hdest : clOk s.part dest = true) :
    execRailPgTimeout r dest s = .next
      (if Tab.get 0 s.pwr.rails r + 1 ≥ 3 then (s.onPwr fun p => { p with rails := Tab.erase p.rails r }).railFails r dest
       else s.onPwr fun p => { p with rails := Tab.put 0 p.rails r (Tab.get 0 s.pwr.rails r + 1) }) :=
  okIf_rail hr hrail hdest

/-- RAIL_PG_LOSS by whether the rail comes back: its domains lose their power, or it fails (R423). -/
theorem execRailPgLoss_run (back : Bool) (hr : s.pwr.phase = .run) (hrail : railOk s r = true) (hdest : clOk s.part dest = true) :
    execRailPgLoss r dest back s = .next (if back then (railDomains r).foldl State.powerCut s else s.railFails r dest) :=
  okIf_rail hr hrail hdest

end Rail

/-- APST_IDLE_TIMEOUT of an idle controller whose entry for its state leads to a lower one (R429). -/
theorem execApstIdleTimeout_entry {s : State} {ctl time ps : Nat} (hr : s.pwr.phase = .run)
    (hentry : apstEntry s ctl = (time, ps)) (hon : s.enabled 2 = true) (hen : (s.ctrl ctl).en = true)
    (hfeat : Tab.get 0 (s.ctrl ctl).feats 0xC % 2 = 1) (htime : time ≠ 0) (hlower : s.requires ctl < ps ∧ ps ≤ 4)
    (hidle : (s.nvme.flights.any fun f => decide (f.cmd.ctl = ctl)) = false) :
    execApstIdleTimeout ctl s = .next ((s.onPwr fun p => { p with apst := Tab.put 0 p.apst ctl ps }).retarget) := by
  unfold execApstIdleTimeout
  rw [hentry]
  refine okIf_run hr ?_
  rw [hon, hen, decide_eq_true hfeat, decide_eq_true htime, decide_eq_true hlower, hidle]
  rfl

/-- Settles O42: the rail, the domain or the power state stands as each command asks; the attempts that failed and a rail that
comes back pick the ending. -/
theorem railsAndSleepComplete : Obligations.RailsAndSleepComplete := by
  refine ⟨?railAgain, ?railFails, ?railBack, ?railLost, ?crystal, ?sleepRequest, ?answerTimeout, ?sleepRetry, ?wake,
    ?clusterSleep, ?stateEntry, ?stateExit, ?idleSleep, ?apst⟩
  case railAgain =>
    intro r dest s hr hrail hdest hearly
    exact (execRailPgTimeout_run hr hrail hdest).trans (by rw [if_neg (Nat.not_le.mpr hearly)])
  case railFails =>
    intro r dest s hr hrail hdest hthird
    exact (execRailPgTimeout_run hr hrail hdest).trans (by rw [if_pos hthird])
  case railBack =>
    intro r dest back s hr hrail hdest hback
    exact (execRailPgLoss_run back hr hrail hdest).trans (by rw [if_pos hback])
  case railLost =>
    intro r dest back s hr hrail hdest hback
    exact (execRailPgLoss_run back hr hrail hdest).trans (by rw [if_neg (ne_true_of_eq_false hback)])
  case crystal => exact fun _ hr => okIf_run hr rfl
  case sleepRequest => exact fun _ _ hr hsleep hfresh => okIf_run hr (by rw [hsleep, decide_eq_true hfresh, Bool.and_self])
  case answerTimeout => exact fun _ _ _ hr hsleep hasked hbefore => okIf_run hr (by rw [hsleep, hasked, hbefore]; rfl)
  case sleepRetry => exact fun _ _ hr hsleep hback => okIf_run hr (by rw [hsleep, decide_eq_true hback, Bool.and_self])
  case wake => exact fun _ _ hr hd => okIf_run hr (decide_eq_true hd)
  case clusterSleep => exact fun _ _ _ hr => okIf_run hr rfl
  case stateEntry =>
    exact fun _ hr hnew hle hrest => okIf_run hr (by rw [decide_eq_true hnew, decide_eq_true hle, hrest]; rfl)
  case stateExit => exact fun _ hr hidle => okIf_run hr (decide_eq_true hidle)
  case idleSleep =>
    intro s hr hps hawake hup hflights
    exact okIf_run hr (by rw [decide_eq_true hps, hawake, hup, hflights]; rfl)
  case apst =>
    exact fun _ _ _ _ hr hentry hon hen hfeat htime hlower hidle =>
      execApstIdleTimeout_entry hr hentry hon hen hfeat htime hlower hidle

end Sys2Proof.Machine

/-! ### Where power capping and the thermal commands complete (R431-R435) -/

namespace Sys2Proof.Machine

/-- Settles O43: the capping tick only asks that the module runs, and the thermal commands that it is watched; the readings, the
step and the hottest node stand as each of them asks. -/
theorem powerAndThermalControlCompletes : Obligations.PowerAndThermalControlCompletes := by
  refine ⟨?capTick, ?modelTick, ?trustRestore, ?caseEstimate, ?stepDown, ?stepUp, ?trip, ?cooldown⟩
  case capTick => exact fun _ _ _ _ _ _ hr => okIf_run hr rfl
  case modelTick => exact fun _ _ _ hwatched hraw => okAon_true (by rw [hwatched, decide_eq_true hraw, Bool.and_self])
  case trustRestore =>
    intro n s x close hwatched hn hsuspect hclose
    exact okAon_true (by rw [hwatched, decide_eq_true hn, hsuspect, Bool.and_self, Bool.and_self, Bool.true_and]; exact hclose)
  case caseEstimate =>
    intro s good case_ sum hwatched hgood
    refine okAon_true ?_
    rw [hwatched, Bool.true_and, Bool.not_eq_true']
    exact hgood
  case stepDown =>
    intro s n hr hen hhot hn
    exact okIf_run hr (by rw [hen, decide_eq_true hhot, Bool.true_and, Bool.true_and]; exact decide_eq_true hn)
  case stepUp =>
    intro s n hr hen hcold hn
    exact okIf_run hr (by rw [hen, decide_eq_true hcold, Bool.true_and, Bool.true_and]; exact decide_eq_true hn)
  case trip =>
    intro places dur vend s s1 hr hhot hfits
    exact okIf_run hr (by rw [decide_eq_true hhot, Bool.true_and]; exact hfits)
  case cooldown =>
    intro memFail badBlobs attOk badCl s hheld hcool
    exact okAon_true (by rw [decide_eq_true hheld, Bool.true_and]; exact hcool)

end Sys2Proof.Machine

/-! ### Where the fault and restart commands complete (R445, R452-R454, R456, R459) -/

namespace Sys2Proof.Machine

section Restart

variable {s : State} {ms : Nat}

/-- PROCESSOR_RESTART_DONE of CPX: its cores run again with their watchdogs armed (R452). -/
theorem execProcessorRestartDone_cpx (bad : List Nat) (hr : s.pwr.phase = .run) (hdown : s.sys.cpxDown = true) :
    execProcessorRestartDone 0 ms bad s = .next
      (((((((s.onSys fun x => { x with cpxDown := false }).setB 0x1D CPX.CPX_STAT.RESTARTING false).set 0x1D
        CPX.CPX_STAT.CORES 0xFF).set 0xE WDG.WDG_STAT.CPX_ARMED 0xFF).set 0xE WDG.WDG_STAT.CPX_LEFT
        (max 1 (s.fld 0xE WDG.WDG_CFG.CPX_TO))).set 0x1D CPX.RESTART_T.LAST_MS (min 0xFFFF ms)).raise 0x1D 2 0) :=
  (okIf_run hr hdown).trans (congrArg Host.Outcome.next (if_pos rfl))

/-- PROCESSOR_RESTART_DONE of MGP: it has loaded the blobs again, and its watchdog is armed (R453). -/
theorem execProcessorRestartDone_mgp (bad : List Nat) (hr : s.pwr.phase = .run) (hdown : s.sys.mgpDown = true) :
    execProcessorRestartDone 1 ms bad s = .next
      ((((((s.onSys fun x => { x with mgpDown := false }).loadBlobs bad).setB 0xE WDG.WDG_STAT.MGP_ARMED true).set 0xE
        WDG.WDG_STAT.MGP_LEFT (max 1 (s.fld 0xE WDG.WDG_CFG.MGP_TO))).set 0x1D CPX.RESTART_T.LAST_MS
        (min 0xFFFF ms)).raise 0x1D 2 1) :=
  (okIf_run hr hdown).trans (congrArg Host.Outcome.next (if_neg Nat.one_ne_zero))

end Restart

/-- REC_STAT_CLEAR of bits below 5, by an accessor that is not PF1 (R459). -/
theorem execRecStatClear_cond {s : State} {acc : Accessor} {mask : Nat} (hr : s.pwr.phase = .run) (hacc : acc.isPf1 = false)
    (hlost : bitOf mask 5 = false) (hhold : bitOf mask 6 = false) :
    execRecStatClear acc mask s = .next ((s.onNor fun x => { x with recStat := x.recStat - (x.recStat &&& mask) }).set 0x1D
      CPX.REC_STAT.COND (s.fld 0x1D CPX.REC_STAT.COND - (s.fld 0x1D CPX.REC_STAT.COND &&& (mask % 32)))) := by
  refine (okIf_run hr rfl).trans (congrArg Host.Outcome.next ?_)
  have hopen : (acc.isPf1 && decide (s.lifeCycle ≥ 2)) ≠ true := by simp [hacc]
  rw [if_neg hopen, if_neg (ne_true_of_eq_false hhold), if_neg (ne_true_of_eq_false hlost)]

/-- Settles O44: the processor set runs where it fails and is down where its restart ends; the places fit, and the cluster, the
accessor and the namespace stand as the others ask. -/
theorem faultCommandsComplete : Obligations.FaultCommandsComplete := by
  refine ⟨?cpx, ?mgp, ?cpxRestarted, ?mgpRestarted, ?restartTimeout, ?clockLoss, ?recStat, ?dirtyNs⟩
  case cpx =>
    intro core cause recent places dur vend s hr hcore hcause hup hfits
    exact okIf_run hr (by rw [decide_eq_true hcore, decide_eq_true hcause, hup, hfits]; rfl)
  case mgp => exact fun _ _ _ _ _ _ hr hup hfits => okIf_run hr (by rw [hup, hfits]; rfl)
  case cpxRestarted =>
    intro set ms bad s hr _ hdown hset
    subst hset
    exact execProcessorRestartDone_cpx bad hr hdown
  case mgpRestarted =>
    intro set ms bad s hr _ hdown hset
    subst hset
    exact execProcessorRestartDone_mgp bad hr hdown
  case restartTimeout =>
    exact fun _ _ _ _ _ hr hset hdown hfits => okIf_run hr (by rw [decide_eq_true hset, hdown, hfits]; rfl)
  case clockLoss =>
    intro c acc dest s bit hr hc hdest hother hfresh hawake
    exact okIf_run hr (by rw [hc, hdest, decide_eq_true hother, hfresh, hawake]; rfl)
  case recStat => exact fun _ _ _ hr hacc hlost hhold => execRecStatClear_cond hr hacc hlost hhold
  case dirtyNs =>
    intro nsid s clean hr hdirty hclean
    exact okIf_run hr (by rw [hdirty, Bool.true_and]; exact hclean)

end Sys2Proof.Machine

/-! ### Where the commands of the recorder complete (R462, R466-R468, R472) -/

namespace Sys2Proof.Machine

/-- A command of the recorder's page has its effect where the page lets the accessor in (R33). -/
theorem okIf_recorder {s t : State} {acc : Accessor} (hr : s.pwr.phase = .run)
    (hopen : (acc.isPf1 && decide (s.lifeCycle ≥ 2)) = false) :
    (if acc.isPf1 && decide (s.lifeCycle ≥ 2) then okIf true s (s.lockedWrite 6) else okIf true s t) = .next t :=
  (if_neg (ne_true_of_eq_false hopen)).trans (okIf_run hr rfl)

/-- Settles O45: the hour and the read of a record only ask that the module runs; the recorder holds what NOR does not, MGP runs,
and the page lets the accessor in where the others ask it. -/
theorem recorderCommandsComplete : Obligations.RecorderCommandsComplete := by
  refine ⟨?norWrite, ?hour, ?sample, ?freeze, ?thaw, ?read⟩
  case norWrite => exact fun _ _ _ hr hnew => okIf_run hr (decide_eq_true hnew)
  case hour => exact fun _ hr _ => okIf_run hr (decide_eq_true hr)
  case sample => exact fun _ _ hr hup => okIf_run hr (by rw [hup]; rfl)
  case freeze => exact fun _ _ hr hopen => okIf_recorder hr hopen
  case thaw => exact fun _ _ hr hopen => okIf_recorder hr hopen
  case read =>
    intro acc r s hr hselected
    change execRecordRead acc s = _
    unfold execRecordRead
    rw [hselected]
    exact okIf_run hr rfl

end Sys2Proof.Machine

/-! ### Where the commands of start, watchdogs and recovery complete (R475, R479-R481, R483, R485, R502) -/

namespace Sys2Proof.Machine

/-- WATCHDOG_PREWARN of an armed watchdog not yet warned, by whose it is: CPX's and MGP's show half their time left (R481). -/
theorem execWatchdogPrewarn_armed {s : State} {n : Nat} (hr : s.pwr.phase = .run) (harmed : wdgArmed s n = true)
    (hfresh : s.sys.warned.contains n = false) :
    execWatchdogPrewarn n s = .next
      (let s1 := (s.onSys fun x => { x with warned := x.warned ++ [n] }).raise 0xE 3 n
       if n < 8 then s1.set 0xE WDG.WDG_STAT.CPX_LEFT (max 1 (s.fld 0xE WDG.WDG_CFG.CPX_TO) / 2)
       else if n = 8 then s1.set 0xE WDG.WDG_STAT.MGP_LEFT (max 1 (s.fld 0xE WDG.WDG_CFG.MGP_TO) / 2)
       else s1) :=
  okIf_run hr (by rw [harmed, hfresh]; rfl)

section Kick

variable {s : State} {value : Word}

/-- WDG_KICK by MGP with the key, of its own armed watchdog, starts its time again (R481). -/
theorem execWdgKick_mgp (hr : s.pwr.phase = .run) (hwho : value.toNat % 16 = 8) (hkey : value.toNat / 2 ^ 16 = 0xA55A)
    (harmed : wdgArmed s 8 = true) :
    execWdgKick .mgp value s = .next ((s.onSys fun x => { x with warned := x.warned.filter fun n => decide (n ≠ 8) }).set 0xE
      WDG.WDG_STAT.MGP_LEFT (max 1 (s.fld 0xE WDG.WDG_CFG.MGP_TO))) := by
  refine (okIf_run hr rfl).trans (congrArg Host.Outcome.next ?_)
  rw [hwho, hkey, harmed]
  exact (if_neg (by decide)).trans ((if_neg (by decide)).trans (if_pos rfl))

/-- Without the key WDG_KICK is ignored with LOCKED_WRITE (R481). -/
theorem execWdgKick_noKey (acc : Accessor) (hr : s.pwr.phase = .run) (hkey : value.toNat / 2 ^ 16 ≠ 0xA55A) :
    execWdgKick acc value s = .next (s.lockedWrite 0xE) := by
  refine (okIf_run hr rfl).trans (congrArg Host.Outcome.next (if_pos ?_))
  rw [decide_eq_false hkey, Bool.false_and]
  rfl

end Kick

section Recovery

variable {s : State} (hr : s.pwr.phase = .run) (hrec : s.flag 0 DEV.BOOT_STAT.RECOVERY = true) (hopen : s.sys.rcvOpen = true)
include hr hrec hopen

/-- RECOVERY_DATA_WRITE by the room left for the image: a word that has none is RESULT 5 (R480). -/
theorem execRecoveryDataWrite_open (acc : Accessor) (value : Word) :
    execRecoveryDataWrite acc value s = .next
      (if s.sys.rcv.length + 4 > imageMax then s.set 0 DEV.RCV_CTL.RESULT 5
       else s.onSys fun x => { x with rcv := x.rcv ++ leBytes 4 value.toNat }) :=
  okIf_run hr (by rw [hrec, hopen, Bool.and_self])

/-- RECOVERY_COMMIT by the result of the image, which an overrun has settled already: a valid one is written to both slots and
a module reset follows, another is discarded (R480). -/
theorem execRecoveryCommit_open (acc : Accessor) (w0 w1 : Bool) {result : Nat}
    (hresult : (if s.fld 0 DEV.RCV_CTL.RESULT = 5 then 5 else imageResult (s.fld 8 LCS.SVN_MIN.SVN) s.sys.rcv) = result) :
    execRecoveryCommit acc w0 w1 s = .next
      (let s1 := (s.set 0 DEV.RCV_CTL.RESULT result).onSys fun x => { x with rcvOpen := false, rcv := [] }
       if result = 1 then ((s1.writeImage 1 s.sys.rcv w0 w1).writeImage 2 s.sys.rcv w0 w1).requestReset 7 [] 0 0 else s1) := by
  subst hresult
  exact okIf_run hr (by rw [hrec, hopen, Bool.and_self])

end Recovery

/-- Settles O46: the start's stage, the watchdog, RECOVERY and the port stand as each command asks, and the places fit; the
watchdog warned, the key of a kick and the image's result pick the ending. -/
theorem startCommandsComplete : Obligations.StartCommandsComplete := by
  refine ⟨?start, ?tables, ?readyLate, ?bootExpiry, ?cpxExpiry, ?mgpExpiry, ?prewarn, ?kick, ?kickRefused, ?resetRequest,
    ?recoveryStart, ?recoveryData, ?recoveryOverrun, ?recoveryCommit, ?recoveryRetry, ?serviceFail, ?refresh⟩
  case start => exact fun _ _ _ _ _ hdue => okAon_true hdue
  case tables => exact fun _ _ hr hstage hslots => okIf_run hr (by rw [decide_eq_true hstage, hslots, Bool.and_self])
  case readyLate => exact fun _ hr hstage hlate => okIf_run hr (by rw [decide_eq_true hstage, hlate, Bool.and_self])
  case bootExpiry =>
    intro places dur vend s s1 hr harmed hfits
    exact okIf_run hr (by rw [harmed, Bool.true_and]; exact hfits)
  case cpxExpiry =>
    intro core recent places dur vend s s1 hr hcore harmed hup hfits
    refine okIf_run hr ?_
    rw [decide_eq_true hcore, harmed, hup, Bool.not_false, Bool.and_self, Bool.and_self, Bool.true_and]
    exact hfits
  case mgpExpiry =>
    intro recent places dur vend s s1 hr harmed hup hfits
    refine okIf_run hr ?_
    rw [harmed, hup, Bool.not_false, Bool.and_self, Bool.true_and]
    exact hfits
  case prewarn =>
    intro n s hr harmed hfresh hcpx
    exact (execWatchdogPrewarn_armed hr harmed hfresh).trans (by rw [if_pos hcpx])
  case kick =>
    intro acc value s hr hacc hwho hkey harmed
    subst hacc
    exact execWdgKick_mgp hr hwho hkey harmed
  case kickRefused => exact fun acc _ _ hr _ hkey => execWdgKick_noKey acc hr hkey
  case resetRequest =>
    exact fun _ _ _ _ _ _ hr hbit hkey hfits => okIf_run hr (by rw [decide_eq_true hbit, decide_eq_true hkey, hfits]; rfl)
  case recoveryStart => exact fun _ _ hr hrec => okIf_run hr hrec
  case recoveryData =>
    intro acc value s hr hrec hopen hroom
    exact (execRecoveryDataWrite_open hr hrec hopen acc value).trans (by rw [if_neg (Nat.not_lt.mpr hroom)])
  case recoveryOverrun =>
    intro acc w0 w1 s hr hrec hopen hover
    refine (execRecoveryCommit_open hr hrec hopen acc w0 w1 (if_pos hover)).trans ?_
    rw [if_neg (by decide)]
  case recoveryCommit =>
    intro acc w0 w1 s hr hrec hopen hwhole
    refine (execRecoveryCommit_open hr hrec hopen acc w0 w1 (if_neg hwhole)).trans (congrArg Host.Outcome.next ?_)
    by_cases hvalid : imageResult (s.fld 8 LCS.SVN_MIN.SVN) s.sys.rcv = 1
    · rw [if_pos hvalid, if_pos hvalid, hvalid]
    · rw [if_neg hvalid, if_neg hvalid]
  case recoveryRetry => exact fun _ _ _ _ _ hr hfits => okIf_run hr hfits
  case serviceFail =>
    intro port s none_ ids hr hport hperst hnone
    exact okIf_run hr (by rw [decide_eq_true hport, hperst, Bool.and_self, Bool.true_and]; exact hnone)
  case refresh =>
    intro area dev good s k hr hdev hgood hdue
    exact okIf_run hr (by rw [decide_eq_true hdev, hgood, Bool.and_self, Bool.true_and]; exact decide_eq_true hdue)

end Sys2Proof.Machine
